-- ==== Sys2Proof/Word.lean ====
section
/-! DEFINITION. The word and byte types of Drainaxa 1 (spec/00_scope.md R6, R7). -/

namespace Sys2Proof

/-- A 64-bit register value (R180). -/
abbrev Word := BitVec 64

/-- One byte of memory (R7). -/
abbrev Byte := BitVec 8

end Sys2Proof
end

