-- ==== Sys2Proof/Config.lean ====
section
/-! DEFINITION. What an implementation fixes and what the manual leaves open. The opaque constants are FREE VALUES: they
have no body, so no proof can see what they are, and a claim about them holds whatever they are. -/

namespace Sys2Proof.Config

/-- Crucible tile length TLEN of this generation (R212). -/
def tlen : Nat := 32

/-- Lanes of one quartet (R17, R18). -/
def quartetLanes : Nat := 8192

/-- Which of several outcomes the manual allows is taken, where it gives no rule: the order of unordered writes to common
bytes (R133, R134) and of unordered vector atomics, a seal version read by a peer (R325), which kerb unit reads next and how far
(R314), where a gang suspend stops a convoy in flight (R344). FREE VALUE: applied to the counter `fresh` of the state (log 9). -/
opaque choice : Nat → Nat

/-- The first `n` bytes of the SHAKE256 output on a message: named by the manual, not defined by it. FREE VALUE (log 10). -/
opaque shake256 : (n : Nat) → List Byte → List Byte

/-- Whether an ML-DSA-65 signature over a digest verifies under a public key. FREE VALUE (log 10). -/
opaque mldsaVerify : (key digest signature : List Byte) → Bool

/-- The ML-DSA-65 signature of a digest by the module's identity key (R471). FREE VALUE (log 10). -/
opaque identitySign : List Byte → List Byte

/-- The identity public key, 1,952 bytes (R471). FREE VALUE (log 10). -/
opaque identityKey : List Byte

/-- The fused digest of the update agent's public key (R465). FREE VALUE (log 10). -/
opaque fusedAgentDigest : List Byte

/-- The digests of the ROM and of the firmware image reported by attestation (R471). FREE VALUES (log 10). -/
opaque romDigest : List Byte
@[inherit_doc romDigest] opaque firmwareDigest : List Byte

/-- Whether the ROM finds the firmware image's signature good on die `d` (R470 step 1). FREE VALUE (log 10). -/
opaque firmwareVerifies : Nat → Bool

/-- The byte at physical address `pa` of module `m`, before this module writes it, at reading `n`: another module's
memory is outside this machine, and can change at any time (R149). FREE VALUE (log 13). -/
opaque peerByte : (m pa n : Nat) → Byte

/-- The byte at `pa` of module `m` in its sealed version `ver`: a sealed version never changes (R150). FREE VALUE
(log 13). -/
opaque sealedByte : (m ver pa : Nat) → Byte

/-- Whether module `m` answers a request for `pa` (0), refuses it (1), answers a data error (2) or does not answer (3);
`ver` is the sealed version asked for, 0 for PEER; `n` counts the requests (R325, R494). FREE VALUE (log 13). -/
opaque peerAnswer : (m ver pa n : Nat) → Fin 4

/-- Whether the line at a location comes from a cache when it is read; `n` counts the reads (R33, R145). FREE VALUE (log 86). -/
opaque cached : (loc n : Nat) → Bool

/-- What an atomic returns whose POOL completion fails, and which reports nothing at that moment (R491). FREE VALUE (log 13). -/
opaque lostAtomic : (pa n : Nat) → Nat

/-- Whether a POOL read of `pa` gets an error, a poisoned payload or no answer; `n` counts the requests (R491). FREE VALUE
(log 13). -/
opaque poolFails : (pa n : Nat) → Bool

/-- Whether the outbound journal is full with `n` entries, one at least (R440): its size is not stated. FREE VALUE (log 79). -/
opaque journalFull : (n : Nat) → Bool

/-- The highest clock in MHz at which a die draws no more than a cap, from the lane-steps and Crucible cycles of a window
(R468), and the power it draws (R497): the manual gives no power model. FREE VALUES (log 24). -/
opaque capClock : (cap laneSteps crucible : Nat) → Nat
@[inherit_doc capClock] opaque power : (die n : Nat) → Nat

/-- What boot repair finds on a part (R504): MAPOUT of a core by die and core number, with its USABLE in the low byte, and the
mapped-out banks of a channel; and the boot configuration's quarter count of a stack, as an index into 0, 4, 8, 16 (R478). FREE
VALUES (log 25). -/
opaque mapout : (die core : Nat) → Nat
@[inherit_doc mapout] opaque bankout : (ch : Nat) → Nat
@[inherit_doc mapout] opaque bootQuarters : (stack : Nat) → Fin 4

/-- Whether an access to a channel meets an error that the controller code corrects (R476), and whether a kerb unit cannot read a cell back
from the save area of its channel (R488); `n` counts the accesses. FREE VALUES (log 102). -/
opaque corrected : (ch n : Nat) → Bool
@[inherit_doc corrected] opaque saveFails : (ch cell n : Nat) → Bool

/-- Whether the governor rests an idle channel at a window (R487). FREE VALUE (log 24). -/
opaque rests : (ch n : Nat) → Bool

/-- Columns that boot repair retires in a quartet of a core (R504). FREE VALUE (log 25). -/
opaque retired : (die core quartet : Nat) → Nat

/-- Whether a select of two scalars gives the second of its operands: R408 gives it a scalar result and its mask one bit for each index. FREE
VALUE (log 85). -/
opaque fjSelect : (p : Nat) → Bool

/-- A byte of the copy of scalar and status state that a pair's checkpoints keep in a core's TCM: the manual gives no layout (R499). FREE
VALUE (log 109). -/
opaque pairByte : (core n off : Nat) → Byte

/-- A byte of a port's configuration space: the manual gives none of its layout (R424). FREE VALUE (log 94). -/
opaque configByte : (port off : Nat) → Byte

/-- Where firmware puts the capability list of a die: its virtual address and the physical address behind it (R421). FREE
VALUES (log 25). -/
opaque capBase : (die : Nat) → Nat
@[inherit_doc capBase] opaque capListPa : (die : Nat) → Nat

/-- The start address of the firmware image on a die (R470 step 5). FREE VALUE (log 25). -/
opaque firmwareEntry : (die : Nat) → Nat

/-- Where the on-device loader puts the code it makes for a launch (R435), as a number of a 64 KiB granule: the manual does not
say. FREE VALUE (log 14). -/
opaque fjCode : (seq : Nat) → Nat

/-- The number of this module in the fabric (R451, R452). FREE VALUE (log 13). -/
opaque thisModule : Nat

end Sys2Proof.Config
end

