-- ==== Sys2Proof/Syntax.lean ====
section
/-! DEFINITION. The instructions and events of the machine: one constructor for each row of the opcode table
(spec/opcode_table.json). Operands are read out of the word once, by the decoder: register numbers are Fin, immediates
and codes are the raw fields, `k` is the convoy-begin bit K and `m` the mask bit mk (R154). -/

namespace Sys2Proof

/-- A core of the module: die 0-7, core number within the die 0-191 (R17). -/
structure CoreId where
  die : Fin 8
  core : Fin 192
deriving DecidableEq, Repr

/-- A hart slot of the module (R17). Slot 7 is the Lamplighter. -/
structure HartId where
  die : Fin 8
  core : Fin 192
  slot : Fin 8
deriving DecidableEq, Repr

/-- Operations of the scalar and vector atomics (R191, R192, R266), and bar.arrive (R60). -/
inductive Machine.AmoOp where
  | swap | add | and | or | xor | min | max | minu | maxu | cas | fxL | fxD | fxS | arrive
deriving DecidableEq, Repr

/-- What another module asks of this one (R493): a load of `n` bytes, a store, or an atomic on an operand of `n` bytes with the value
expected by a compare and swap. -/
inductive PeerOp where
  | load
  | store (bytes : List Byte)
  | atomic (f : Machine.AmoOp) (x c : Nat)
deriving DecidableEq, Repr

/-- One constructor per row of the opcode table, in the table's order. -/
inductive Instr where
  /- Major OP (R182, R183). -/
  | add (d : Fin 32) (a : Fin 32) (b : Fin 32)
  | sub (d : Fin 32) (a : Fin 32) (b : Fin 32)
  | sll (d : Fin 32) (a : Fin 32) (b : Fin 32)
  | slt (d : Fin 32) (a : Fin 32) (b : Fin 32)
  | sltu (d : Fin 32) (a : Fin 32) (b : Fin 32)
  | xor (d : Fin 32) (a : Fin 32) (b : Fin 32)
  | srl (d : Fin 32) (a : Fin 32) (b : Fin 32)
  | sra (d : Fin 32) (a : Fin 32) (b : Fin 32)
  | or (d : Fin 32) (a : Fin 32) (b : Fin 32)
  | and (d : Fin 32) (a : Fin 32) (b : Fin 32)
  | mul (d : Fin 32) (a : Fin 32) (b : Fin 32)
  | mulh (d : Fin 32) (a : Fin 32) (b : Fin 32)
  | mulhsu (d : Fin 32) (a : Fin 32) (b : Fin 32)
  | mulhu (d : Fin 32) (a : Fin 32) (b : Fin 32)
  | div (d : Fin 32) (a : Fin 32) (b : Fin 32)
  | divu (d : Fin 32) (a : Fin 32) (b : Fin 32)
  | rem (d : Fin 32) (a : Fin 32) (b : Fin 32)
  | remu (d : Fin 32) (a : Fin 32) (b : Fin 32)
  | min (d : Fin 32) (a : Fin 32) (b : Fin 32)
  | max (d : Fin 32) (a : Fin 32) (b : Fin 32)
  | minu (d : Fin 32) (a : Fin 32) (b : Fin 32)
  | maxu (d : Fin 32) (a : Fin 32) (b : Fin 32)
  | andn (d : Fin 32) (a : Fin 32) (b : Fin 32)
  | orn (d : Fin 32) (a : Fin 32) (b : Fin 32)
  | rol (d : Fin 32) (a : Fin 32) (b : Fin 32)
  | ror (d : Fin 32) (a : Fin 32) (b : Fin 32)
  | sh1add (d : Fin 32) (a : Fin 32) (b : Fin 32)
  | sh2add (d : Fin 32) (a : Fin 32) (b : Fin 32)
  | sh3add (d : Fin 32) (a : Fin 32) (b : Fin 32)
  | clz (d : Fin 32) (a : Fin 32)
  | ctz (d : Fin 32) (a : Fin 32)
  | cpop (d : Fin 32) (a : Fin 32)
  /- Major OPI (R184). -/
  | addi (d : Fin 32) (a : Fin 32) (i : BitVec 11)
  | slli (d : Fin 32) (a : Fin 32) (sh : BitVec 6)
  | slti (d : Fin 32) (a : Fin 32) (i : BitVec 11)
  | sltiu (d : Fin 32) (a : Fin 32) (i : BitVec 11)
  | xori (d : Fin 32) (a : Fin 32) (i : BitVec 11)
  | srli (d : Fin 32) (a : Fin 32) (sh : BitVec 6)
  | srai (d : Fin 32) (a : Fin 32) (sh : BitVec 6)
  | ori (d : Fin 32) (a : Fin 32) (i : BitVec 11)
  | andi (d : Fin 32) (a : Fin 32) (i : BitVec 11)
  /- Majors OPW and OPIW (R185). -/
  | addw (d : Fin 32) (a : Fin 32) (b : Fin 32)
  | subw (d : Fin 32) (a : Fin 32) (b : Fin 32)
  | sllw (d : Fin 32) (a : Fin 32) (b : Fin 32)
  | srlw (d : Fin 32) (a : Fin 32) (b : Fin 32)
  | sraw (d : Fin 32) (a : Fin 32) (b : Fin 32)
  | mulw (d : Fin 32) (a : Fin 32) (b : Fin 32)
  | divw (d : Fin 32) (a : Fin 32) (b : Fin 32)
  | divuw (d : Fin 32) (a : Fin 32) (b : Fin 32)
  | remw (d : Fin 32) (a : Fin 32) (b : Fin 32)
  | remuw (d : Fin 32) (a : Fin 32) (b : Fin 32)
  | addiw (d : Fin 32) (a : Fin 32) (i : BitVec 11)
  | slliw (d : Fin 32) (a : Fin 32) (sh : BitVec 5)
  | srliw (d : Fin 32) (a : Fin 32) (sh : BitVec 5)
  | sraiw (d : Fin 32) (a : Fin 32) (sh : BitVec 5)
  /- LUI and AUIPC (R186). -/
  | lui (d : Fin 32) (i : BitVec 19)
  | auipc (d : Fin 32) (i : BitVec 19)
  /- Jumps and branches (R194, R195). -/
  | jal (d : Fin 32) (i : BitVec 19)
  | jalr (d : Fin 32) (a : Fin 32) (i : BitVec 11)
  | beq (a : Fin 32) (b : Fin 32) (i : BitVec 12)
  | bne (a : Fin 32) (b : Fin 32) (i : BitVec 12)
  | blt (a : Fin 32) (b : Fin 32) (i : BitVec 12)
  | bge (a : Fin 32) (b : Fin 32) (i : BitVec 12)
  | bltu (a : Fin 32) (b : Fin 32) (i : BitVec 12)
  | bgeu (a : Fin 32) (b : Fin 32) (i : BitVec 12)
  | bbs (a : Fin 32) (b : Fin 32) (i : BitVec 12)
  | bbc (a : Fin 32) (b : Fin 32) (i : BitVec 12)
  /- Plain loads and stores (R187). -/
  | lb (d : Fin 32) (a : Fin 32) (i : BitVec 11)
  | lh (d : Fin 32) (a : Fin 32) (i : BitVec 11)
  | lw (d : Fin 32) (a : Fin 32) (i : BitVec 11)
  | ld (d : Fin 32) (a : Fin 32) (i : BitVec 11)
  | lbu (d : Fin 32) (a : Fin 32) (i : BitVec 11)
  | lhu (d : Fin 32) (a : Fin 32) (i : BitVec 11)
  | lwu (d : Fin 32) (a : Fin 32) (i : BitVec 11)
  | sb (a : Fin 32) (b : Fin 32) (i : BitVec 11)
  | sh (a : Fin 32) (b : Fin 32) (i : BitVec 11)
  | sw (a : Fin 32) (b : Fin 32) (i : BitVec 11)
  | sd (a : Fin 32) (b : Fin 32) (i : BitVec 11)
  /- Ordered accesses (R190). -/
  | lbOrd (d : Fin 32) (a : Fin 32) (sc : BitVec 3) (ord : BitVec 1)
  | lhOrd (d : Fin 32) (a : Fin 32) (sc : BitVec 3) (ord : BitVec 1)
  | lwOrd (d : Fin 32) (a : Fin 32) (sc : BitVec 3) (ord : BitVec 1)
  | ldOrd (d : Fin 32) (a : Fin 32) (sc : BitVec 3) (ord : BitVec 1)
  | lbuOrd (d : Fin 32) (a : Fin 32) (sc : BitVec 3) (ord : BitVec 1)
  | lhuOrd (d : Fin 32) (a : Fin 32) (sc : BitVec 3) (ord : BitVec 1)
  | lwuOrd (d : Fin 32) (a : Fin 32) (sc : BitVec 3) (ord : BitVec 1)
  | sbOrd (a : Fin 32) (b : Fin 32) (sc : BitVec 3) (ord : BitVec 1)
  | shOrd (a : Fin 32) (b : Fin 32) (sc : BitVec 3) (ord : BitVec 1)
  | swOrd (a : Fin 32) (b : Fin 32) (sc : BitVec 3) (ord : BitVec 1)
  | sdOrd (a : Fin 32) (b : Fin 32) (sc : BitVec 3) (ord : BitVec 1)
  /- Atomics (R191, R192). -/
  | amoswap (d : Fin 32) (a : Fin 32) (b : Fin 32) (sc : BitVec 3) (ord : BitVec 2)
  | amoadd (d : Fin 32) (a : Fin 32) (b : Fin 32) (sc : BitVec 3) (ord : BitVec 2)
  | amoand (d : Fin 32) (a : Fin 32) (b : Fin 32) (sc : BitVec 3) (ord : BitVec 2)
  | amoor (d : Fin 32) (a : Fin 32) (b : Fin 32) (sc : BitVec 3) (ord : BitVec 2)
  | amoxor (d : Fin 32) (a : Fin 32) (b : Fin 32) (sc : BitVec 3) (ord : BitVec 2)
  | amomin (d : Fin 32) (a : Fin 32) (b : Fin 32) (sc : BitVec 3) (ord : BitVec 2)
  | amomax (d : Fin 32) (a : Fin 32) (b : Fin 32) (sc : BitVec 3) (ord : BitVec 2)
  | amominu (d : Fin 32) (a : Fin 32) (b : Fin 32) (sc : BitVec 3) (ord : BitVec 2)
  | amomaxu (d : Fin 32) (a : Fin 32) (b : Fin 32) (sc : BitVec 3) (ord : BitVec 2)
  | amocas (d : Fin 32) (a : Fin 32) (b : Fin 32) (sc : BitVec 3) (ord : BitVec 2)
  | amofxL (d : Fin 32) (a : Fin 32) (b : Fin 32) (sc : BitVec 3) (ord : BitVec 2)
  | amofxD (d : Fin 32) (a : Fin 32) (b : Fin 32) (sc : BitVec 3) (ord : BitVec 2)
  | amofxS (d : Fin 32) (a : Fin 32) (b : Fin 32) (sc : BitVec 3) (ord : BitVec 2)
  /- Scalar floating point (R197, R198). -/
  | fadd (d : Fin 32) (a : Fin 32) (b : Fin 32) (fmt : BitVec 2) (rm : BitVec 3)
  | fsub (d : Fin 32) (a : Fin 32) (b : Fin 32) (fmt : BitVec 2) (rm : BitVec 3)
  | fmul (d : Fin 32) (a : Fin 32) (b : Fin 32) (fmt : BitVec 2) (rm : BitVec 3)
  | fdiv (d : Fin 32) (a : Fin 32) (b : Fin 32) (fmt : BitVec 2) (rm : BitVec 3)
  | fsqrt (d : Fin 32) (a : Fin 32) (fmt : BitVec 2) (rm : BitVec 3)
  | fmin (d : Fin 32) (a : Fin 32) (b : Fin 32) (fmt : BitVec 2)
  | fmax (d : Fin 32) (a : Fin 32) (b : Fin 32) (fmt : BitVec 2)
  | feq (d : Fin 32) (a : Fin 32) (b : Fin 32) (fmt : BitVec 2)
  | flt (d : Fin 32) (a : Fin 32) (b : Fin 32) (fmt : BitVec 2)
  | fle (d : Fin 32) (a : Fin 32) (b : Fin 32) (fmt : BitVec 2)
  | fclass (d : Fin 32) (a : Fin 32) (fmt : BitVec 2)
  | fcvtItFmt (d : Fin 32) (a : Fin 32) (ty : BitVec 5) (fmt : BitVec 2) (rm : BitVec 3)
  | fcvtFmtIt (d : Fin 32) (a : Fin 32) (ty : BitVec 5) (fmt : BitVec 2) (rm : BitVec 3)
  | fcvtFmtSf (d : Fin 32) (a : Fin 32) (ty : BitVec 5) (fmt : BitVec 2) (rm : BitVec 3)
  | fmadd (d : Fin 32) (a : Fin 32) (b : Fin 32) (c : Fin 32) (fmt : BitVec 2)
  | fmsub (d : Fin 32) (a : Fin 32) (b : Fin 32) (c : Fin 32) (fmt : BitVec 2)
  | fnmsub (d : Fin 32) (a : Fin 32) (b : Fin 32) (c : Fin 32) (fmt : BitVec 2)
  | fnmadd (d : Fin 32) (a : Fin 32) (b : Fin 32) (c : Fin 32) (fmt : BitVec 2)
  /- Major SYNC (R200). -/
  | fence (sc : BitVec 3) (ord : BitVec 2)
  | mon (a : Fin 32)
  | mwait (d : Fin 32) (a : Fin 32)
  | barArrive (d : Fin 32) (a : Fin 32) (sc : BitVec 3) (ord : BitVec 1)
  | barWait (a : Fin 32) (b : Fin 32) (sc : BitVec 3)
  | claim (d : Fin 32) (a : Fin 32) (b : Fin 32) (sc : BitVec 3) (ord : BitVec 2)
  | yield
  /- Majors SYS and PRIV (R206, R214). -/
  | mfs (d : Fin 32) (n : BitVec 12)
  | mts (a : Fin 32) (n : BitVec 12)
  | tcall
  | brk
  | tret
  | stop
  | spawn (d : Fin 32) (a : Fin 32)
  | hstop (d : Fin 32) (a : Fin 32)
  | gsusp (d : Fin 32) (a : Fin 32) (b : Fin 32)
  | qlease (d : Fin 32) (a : Fin 32) (b : Fin 32)
  /- Hints (R161). -/
  | nop (d : Fin 32) (a : Fin 32) (b : Fin 32)
  | prefR (d : Fin 32) (a : Fin 32) (b : Fin 32)
  | prefW (d : Fin 32) (a : Fin 32) (b : Fin 32)
  /- Compressed forms (R221). -/
  | cLd (d : Fin 8) (a : Fin 8) (i : BitVec 5)
  | cLw (d : Fin 8) (a : Fin 8) (i : BitVec 5)
  | cSd (a : Fin 8) (b : Fin 8) (i : BitVec 5)
  | cSw (a : Fin 8) (b : Fin 8) (i : BitVec 5)
  | cAddisp (d : Fin 8) (i : BitVec 8)
  | cAddi (d : Fin 32) (i : BitVec 6)
  | cLi (d : Fin 32) (i : BitVec 6)
  | cJ (i : BitVec 11)
  | cBeqz (a : Fin 8) (i : BitVec 8)
  | cBnez (a : Fin 8) (i : BitVec 8)
  | cMv (d : Fin 32) (b : Fin 32)
  | cAdd (d : Fin 32) (b : Fin 32)
  | cJr (a : Fin 32)
  | cJalr (a : Fin 32)
  | cLdsp (d : Fin 32) (i : BitVec 6)
  | cSdsp (b : Fin 32) (i : BitVec 6)
  /- Major VCONF (R223). -/
  | vsetvl (d : Fin 32) (a : Fin 32) (b : Fin 32)
  | vsetvlK (d : Fin 32) (a : Fin 32) (b : Fin 32)
  | vrows (d : Fin 32) (a : Fin 32)
  /- Major VMISC (R233). -/
  | vmvVX (k : Bool) (m : Bool) (d : Fin 64) (b : Fin 32)
  | vmvVI (k : Bool) (m : Bool) (d : Fin 64) (i : BitVec 6)
  | vid (k : Bool) (m : Bool) (d : Fin 64)
  | vmvVV (k : Bool) (m : Bool) (d : Fin 64) (a : Fin 64)
  | vshape (k : Bool) (d : Fin 32) (a : Fin 64)
  | vshapeU (k : Bool) (d : Fin 32) (a : Fin 64)
  | vshapeS (k : Bool) (d : Fin 32) (a : Fin 64)
  | vmat (k : Bool) (a : Fin 64)
  | vmvXE (k : Bool) (d : Fin 32) (a : Fin 64) (b : Fin 32)
  | vmergeVvm (k : Bool) (d : Fin 64) (a : Fin 64) (b : Fin 64)
  | vmergeVxm (k : Bool) (d : Fin 64) (a : Fin 64) (b : Fin 32)
  | vmergeVim (k : Bool) (d : Fin 64) (a : Fin 64) (i : BitVec 6)
  /- Major VMASK (R245). -/
  | vmand (k : Bool) (d : Fin 8) (a : Fin 8) (b : Fin 8)
  | vmnand (k : Bool) (d : Fin 8) (a : Fin 8) (b : Fin 8)
  | vmandn (k : Bool) (d : Fin 8) (a : Fin 8) (b : Fin 8)
  | vmor (k : Bool) (d : Fin 8) (a : Fin 8) (b : Fin 8)
  | vmnor (k : Bool) (d : Fin 8) (a : Fin 8) (b : Fin 8)
  | vmorn (k : Bool) (d : Fin 8) (a : Fin 8) (b : Fin 8)
  | vmxor (k : Bool) (d : Fin 8) (a : Fin 8) (b : Fin 8)
  | vmxnor (k : Bool) (d : Fin 8) (a : Fin 8) (b : Fin 8)
  | vmcpop (k : Bool) (d : Fin 32) (a : Fin 8)
  | vmfirst (k : Bool) (d : Fin 32) (a : Fin 8)
  | vmset (k : Bool) (d : Fin 8)
  | vmclr (k : Bool) (d : Fin 8)
  /- Major VSTRM (R253). -/
  | vscfg (k : Bool) (a : Fin 32) (st : Fin 16)
  | vscfgr (k : Bool) (a : Fin 32) (c : Fin 32) (st : Fin 16)
  | vcopy (k : Bool) (a : Fin 32) (b : Fin 32) (st : Fin 16)
  | vcopyT (k : Bool) (a : Fin 32) (b : Fin 32) (st : Fin 16)
  | vcopyAddl (k : Bool) (a : Fin 32) (b : Fin 32) (st : Fin 16)
  | vcopyAddd (k : Bool) (a : Fin 32) (b : Fin 32) (st : Fin 16)
  | vcopyAdds (k : Bool) (a : Fin 32) (b : Fin 32) (st : Fin 16)
  | vchsend (k : Bool) (a : Fin 32) (b : Fin 32) (st : Fin 16)
  | vchrecv (k : Bool) (a : Fin 32) (st : Fin 16)
  | vsend (k : Bool) (a : Fin 64) (st : Fin 16)
  | vsendEom (k : Bool) (a : Fin 64) (st : Fin 16)
  | veom (k : Bool) (st : Fin 16)
  | vsget (k : Bool) (d : Fin 32) (st : Fin 16) (i : BitVec 6)
  | vsidle (k : Bool) (st : Fin 16)
  /- Major VKERB (R304). -/
  | kswage (k : Bool) (a : Fin 32) (st : Fin 16)
  | kpool (k : Bool) (a : Fin 32) (st : Fin 16)
  | ktongs (k : Bool) (a : Fin 32) (st : Fin 16)
  | seal (k : Bool) (d : Fin 32) (a : Fin 32) (b : Fin 32)
  | unseal (k : Bool) (d : Fin 32) (a : Fin 32) (b : Fin 32)
  /- Family VMEM (R262, R266). -/
  | vld (k : Bool) (m : Bool) (d : Fin 64) (st : Fin 16)
  | vstO (k : Bool) (m : Bool) (a : Fin 64) (st : Fin 16)
  | vstU (k : Bool) (m : Bool) (a : Fin 64) (st : Fin 16)
  | vlx (k : Bool) (m : Bool) (d : Fin 64) (a : Fin 64) (b : Fin 32)
  | vsxO (k : Bool) (m : Bool) (d : Fin 64) (a : Fin 64) (b : Fin 32)
  | vsxU (k : Bool) (m : Bool) (d : Fin 64) (a : Fin 64) (b : Fin 32)
  | vamoswap (k : Bool) (m : Bool) (d : Fin 64) (a : Fin 64) (sc : BitVec 3) (ord : BitVec 2) (un : Bool)
  | vamoadd (k : Bool) (m : Bool) (d : Fin 64) (a : Fin 64) (sc : BitVec 3) (ord : BitVec 2) (un : Bool)
  | vamoand (k : Bool) (m : Bool) (d : Fin 64) (a : Fin 64) (sc : BitVec 3) (ord : BitVec 2) (un : Bool)
  | vamoor (k : Bool) (m : Bool) (d : Fin 64) (a : Fin 64) (sc : BitVec 3) (ord : BitVec 2) (un : Bool)
  | vamoxor (k : Bool) (m : Bool) (d : Fin 64) (a : Fin 64) (sc : BitVec 3) (ord : BitVec 2) (un : Bool)
  | vamomin (k : Bool) (m : Bool) (d : Fin 64) (a : Fin 64) (sc : BitVec 3) (ord : BitVec 2) (un : Bool)
  | vamomax (k : Bool) (m : Bool) (d : Fin 64) (a : Fin 64) (sc : BitVec 3) (ord : BitVec 2) (un : Bool)
  | vamominu (k : Bool) (m : Bool) (d : Fin 64) (a : Fin 64) (sc : BitVec 3) (ord : BitVec 2) (un : Bool)
  | vamomaxu (k : Bool) (m : Bool) (d : Fin 64) (a : Fin 64) (sc : BitVec 3) (ord : BitVec 2) (un : Bool)
  | vamofxL (k : Bool) (m : Bool) (d : Fin 64) (a : Fin 64) (sc : BitVec 3) (ord : BitVec 2) (un : Bool)
  | vamofxD (k : Bool) (m : Bool) (d : Fin 64) (a : Fin 64) (sc : BitVec 3) (ord : BitVec 2) (un : Bool)
  | vamofxS (k : Bool) (m : Bool) (d : Fin 64) (a : Fin 64) (sc : BitVec 3) (ord : BitVec 2) (un : Bool)
  /- Family VIA (R236). -/
  | vaddVv (k : Bool) (m : Bool) (d : Fin 64) (a : Fin 64) (b : Fin 64)
  | vaddVx (k : Bool) (m : Bool) (d : Fin 64) (a : Fin 64) (b : Fin 32)
  | vaddVs (k : Bool) (m : Bool) (d : Fin 64) (a : Fin 64) (st : Fin 16)
  | vaddVi (k : Bool) (m : Bool) (d : Fin 64) (a : Fin 64) (i : BitVec 6)
  | vsubVv (k : Bool) (m : Bool) (d : Fin 64) (a : Fin 64) (b : Fin 64)
  | vsubVx (k : Bool) (m : Bool) (d : Fin 64) (a : Fin 64) (b : Fin 32)
  | vsubVs (k : Bool) (m : Bool) (d : Fin 64) (a : Fin 64) (st : Fin 16)
  | vsubVi (k : Bool) (m : Bool) (d : Fin 64) (a : Fin 64) (i : BitVec 6)
  | vrsubVv (k : Bool) (m : Bool) (d : Fin 64) (a : Fin 64) (b : Fin 64)
  | vrsubVx (k : Bool) (m : Bool) (d : Fin 64) (a : Fin 64) (b : Fin 32)
  | vrsubVs (k : Bool) (m : Bool) (d : Fin 64) (a : Fin 64) (st : Fin 16)
  | vrsubVi (k : Bool) (m : Bool) (d : Fin 64) (a : Fin 64) (i : BitVec 6)
  | vandVv (k : Bool) (m : Bool) (d : Fin 64) (a : Fin 64) (b : Fin 64)
  | vandVx (k : Bool) (m : Bool) (d : Fin 64) (a : Fin 64) (b : Fin 32)
  | vandVs (k : Bool) (m : Bool) (d : Fin 64) (a : Fin 64) (st : Fin 16)
  | vandVi (k : Bool) (m : Bool) (d : Fin 64) (a : Fin 64) (i : BitVec 6)
  | vorVv (k : Bool) (m : Bool) (d : Fin 64) (a : Fin 64) (b : Fin 64)
  | vorVx (k : Bool) (m : Bool) (d : Fin 64) (a : Fin 64) (b : Fin 32)
  | vorVs (k : Bool) (m : Bool) (d : Fin 64) (a : Fin 64) (st : Fin 16)
  | vorVi (k : Bool) (m : Bool) (d : Fin 64) (a : Fin 64) (i : BitVec 6)
  | vxorVv (k : Bool) (m : Bool) (d : Fin 64) (a : Fin 64) (b : Fin 64)
  | vxorVx (k : Bool) (m : Bool) (d : Fin 64) (a : Fin 64) (b : Fin 32)
  | vxorVs (k : Bool) (m : Bool) (d : Fin 64) (a : Fin 64) (st : Fin 16)
  | vxorVi (k : Bool) (m : Bool) (d : Fin 64) (a : Fin 64) (i : BitVec 6)
  | vsllVv (k : Bool) (m : Bool) (d : Fin 64) (a : Fin 64) (b : Fin 64)
  | vsllVx (k : Bool) (m : Bool) (d : Fin 64) (a : Fin 64) (b : Fin 32)
  | vsllVs (k : Bool) (m : Bool) (d : Fin 64) (a : Fin 64) (st : Fin 16)
  | vsllVi (k : Bool) (m : Bool) (d : Fin 64) (a : Fin 64) (i : BitVec 6)
  | vsrlVv (k : Bool) (m : Bool) (d : Fin 64) (a : Fin 64) (b : Fin 64)
  | vsrlVx (k : Bool) (m : Bool) (d : Fin 64) (a : Fin 64) (b : Fin 32)
  | vsrlVs (k : Bool) (m : Bool) (d : Fin 64) (a : Fin 64) (st : Fin 16)
  | vsrlVi (k : Bool) (m : Bool) (d : Fin 64) (a : Fin 64) (i : BitVec 6)
  | vsraVv (k : Bool) (m : Bool) (d : Fin 64) (a : Fin 64) (b : Fin 64)
  | vsraVx (k : Bool) (m : Bool) (d : Fin 64) (a : Fin 64) (b : Fin 32)
  | vsraVs (k : Bool) (m : Bool) (d : Fin 64) (a : Fin 64) (st : Fin 16)
  | vsraVi (k : Bool) (m : Bool) (d : Fin 64) (a : Fin 64) (i : BitVec 6)
  | vmulVv (k : Bool) (m : Bool) (d : Fin 64) (a : Fin 64) (b : Fin 64)
  | vmulVx (k : Bool) (m : Bool) (d : Fin 64) (a : Fin 64) (b : Fin 32)
  | vmulVs (k : Bool) (m : Bool) (d : Fin 64) (a : Fin 64) (st : Fin 16)
  | vmulVi (k : Bool) (m : Bool) (d : Fin 64) (a : Fin 64) (i : BitVec 6)
  | vmulhVv (k : Bool) (m : Bool) (d : Fin 64) (a : Fin 64) (b : Fin 64)
  | vmulhVx (k : Bool) (m : Bool) (d : Fin 64) (a : Fin 64) (b : Fin 32)
  | vmulhVs (k : Bool) (m : Bool) (d : Fin 64) (a : Fin 64) (st : Fin 16)
  | vmulhVi (k : Bool) (m : Bool) (d : Fin 64) (a : Fin 64) (i : BitVec 6)
  | vmulhuVv (k : Bool) (m : Bool) (d : Fin 64) (a : Fin 64) (b : Fin 64)
  | vmulhuVx (k : Bool) (m : Bool) (d : Fin 64) (a : Fin 64) (b : Fin 32)
  | vmulhuVs (k : Bool) (m : Bool) (d : Fin 64) (a : Fin 64) (st : Fin 16)
  | vmulhuVi (k : Bool) (m : Bool) (d : Fin 64) (a : Fin 64) (i : BitVec 6)
  | vminVv (k : Bool) (m : Bool) (d : Fin 64) (a : Fin 64) (b : Fin 64)
  | vminVx (k : Bool) (m : Bool) (d : Fin 64) (a : Fin 64) (b : Fin 32)
  | vminVs (k : Bool) (m : Bool) (d : Fin 64) (a : Fin 64) (st : Fin 16)
  | vminVi (k : Bool) (m : Bool) (d : Fin 64) (a : Fin 64) (i : BitVec 6)
  | vmaxVv (k : Bool) (m : Bool) (d : Fin 64) (a : Fin 64) (b : Fin 64)
  | vmaxVx (k : Bool) (m : Bool) (d : Fin 64) (a : Fin 64) (b : Fin 32)
  | vmaxVs (k : Bool) (m : Bool) (d : Fin 64) (a : Fin 64) (st : Fin 16)
  | vmaxVi (k : Bool) (m : Bool) (d : Fin 64) (a : Fin 64) (i : BitVec 6)
  | vminuVv (k : Bool) (m : Bool) (d : Fin 64) (a : Fin 64) (b : Fin 64)
  | vminuVx (k : Bool) (m : Bool) (d : Fin 64) (a : Fin 64) (b : Fin 32)
  | vminuVs (k : Bool) (m : Bool) (d : Fin 64) (a : Fin 64) (st : Fin 16)
  | vminuVi (k : Bool) (m : Bool) (d : Fin 64) (a : Fin 64) (i : BitVec 6)
  | vmaxuVv (k : Bool) (m : Bool) (d : Fin 64) (a : Fin 64) (b : Fin 64)
  | vmaxuVx (k : Bool) (m : Bool) (d : Fin 64) (a : Fin 64) (b : Fin 32)
  | vmaxuVs (k : Bool) (m : Bool) (d : Fin 64) (a : Fin 64) (st : Fin 16)
  | vmaxuVi (k : Bool) (m : Bool) (d : Fin 64) (a : Fin 64) (i : BitVec 6)
  /- Family VIB (R237). -/
  | vsaddVv (k : Bool) (m : Bool) (d : Fin 64) (a : Fin 64) (b : Fin 64)
  | vsaddVx (k : Bool) (m : Bool) (d : Fin 64) (a : Fin 64) (b : Fin 32)
  | vsaddVs (k : Bool) (m : Bool) (d : Fin 64) (a : Fin 64) (st : Fin 16)
  | vsaddVi (k : Bool) (m : Bool) (d : Fin 64) (a : Fin 64) (i : BitVec 6)
  | vsadduVv (k : Bool) (m : Bool) (d : Fin 64) (a : Fin 64) (b : Fin 64)
  | vsadduVx (k : Bool) (m : Bool) (d : Fin 64) (a : Fin 64) (b : Fin 32)
  | vsadduVs (k : Bool) (m : Bool) (d : Fin 64) (a : Fin 64) (st : Fin 16)
  | vsadduVi (k : Bool) (m : Bool) (d : Fin 64) (a : Fin 64) (i : BitVec 6)
  | vssubVv (k : Bool) (m : Bool) (d : Fin 64) (a : Fin 64) (b : Fin 64)
  | vssubVx (k : Bool) (m : Bool) (d : Fin 64) (a : Fin 64) (b : Fin 32)
  | vssubVs (k : Bool) (m : Bool) (d : Fin 64) (a : Fin 64) (st : Fin 16)
  | vssubVi (k : Bool) (m : Bool) (d : Fin 64) (a : Fin 64) (i : BitVec 6)
  | vssubuVv (k : Bool) (m : Bool) (d : Fin 64) (a : Fin 64) (b : Fin 64)
  | vssubuVx (k : Bool) (m : Bool) (d : Fin 64) (a : Fin 64) (b : Fin 32)
  | vssubuVs (k : Bool) (m : Bool) (d : Fin 64) (a : Fin 64) (st : Fin 16)
  | vssubuVi (k : Bool) (m : Bool) (d : Fin 64) (a : Fin 64) (i : BitVec 6)
  | vaaddVv (k : Bool) (m : Bool) (d : Fin 64) (a : Fin 64) (b : Fin 64)
  | vaaddVx (k : Bool) (m : Bool) (d : Fin 64) (a : Fin 64) (b : Fin 32)
  | vaaddVs (k : Bool) (m : Bool) (d : Fin 64) (a : Fin 64) (st : Fin 16)
  | vaaddVi (k : Bool) (m : Bool) (d : Fin 64) (a : Fin 64) (i : BitVec 6)
  | vaadduVv (k : Bool) (m : Bool) (d : Fin 64) (a : Fin 64) (b : Fin 64)
  | vaadduVx (k : Bool) (m : Bool) (d : Fin 64) (a : Fin 64) (b : Fin 32)
  | vaadduVs (k : Bool) (m : Bool) (d : Fin 64) (a : Fin 64) (st : Fin 16)
  | vaadduVi (k : Bool) (m : Bool) (d : Fin 64) (a : Fin 64) (i : BitVec 6)
  | vsmulVv (k : Bool) (m : Bool) (d : Fin 64) (a : Fin 64) (b : Fin 64)
  | vsmulVx (k : Bool) (m : Bool) (d : Fin 64) (a : Fin 64) (b : Fin 32)
  | vsmulVs (k : Bool) (m : Bool) (d : Fin 64) (a : Fin 64) (st : Fin 16)
  | vsmulVi (k : Bool) (m : Bool) (d : Fin 64) (a : Fin 64) (i : BitVec 6)
  | vssrlVv (k : Bool) (m : Bool) (d : Fin 64) (a : Fin 64) (b : Fin 64)
  | vssrlVx (k : Bool) (m : Bool) (d : Fin 64) (a : Fin 64) (b : Fin 32)
  | vssrlVs (k : Bool) (m : Bool) (d : Fin 64) (a : Fin 64) (st : Fin 16)
  | vssrlVi (k : Bool) (m : Bool) (d : Fin 64) (a : Fin 64) (i : BitVec 6)
  | vssraVv (k : Bool) (m : Bool) (d : Fin 64) (a : Fin 64) (b : Fin 64)
  | vssraVx (k : Bool) (m : Bool) (d : Fin 64) (a : Fin 64) (b : Fin 32)
  | vssraVs (k : Bool) (m : Bool) (d : Fin 64) (a : Fin 64) (st : Fin 16)
  | vssraVi (k : Bool) (m : Bool) (d : Fin 64) (a : Fin 64) (i : BitVec 6)
  | vwaddVv (k : Bool) (m : Bool) (d : Fin 64) (a : Fin 64) (b : Fin 64)
  | vwaddVx (k : Bool) (m : Bool) (d : Fin 64) (a : Fin 64) (b : Fin 32)
  | vwaddVs (k : Bool) (m : Bool) (d : Fin 64) (a : Fin 64) (st : Fin 16)
  | vwaddVi (k : Bool) (m : Bool) (d : Fin 64) (a : Fin 64) (i : BitVec 6)
  | vwadduVv (k : Bool) (m : Bool) (d : Fin 64) (a : Fin 64) (b : Fin 64)
  | vwadduVx (k : Bool) (m : Bool) (d : Fin 64) (a : Fin 64) (b : Fin 32)
  | vwadduVs (k : Bool) (m : Bool) (d : Fin 64) (a : Fin 64) (st : Fin 16)
  | vwadduVi (k : Bool) (m : Bool) (d : Fin 64) (a : Fin 64) (i : BitVec 6)
  | vwmulVv (k : Bool) (m : Bool) (d : Fin 64) (a : Fin 64) (b : Fin 64)
  | vwmulVx (k : Bool) (m : Bool) (d : Fin 64) (a : Fin 64) (b : Fin 32)
  | vwmulVs (k : Bool) (m : Bool) (d : Fin 64) (a : Fin 64) (st : Fin 16)
  | vwmulVi (k : Bool) (m : Bool) (d : Fin 64) (a : Fin 64) (i : BitVec 6)
  | vwmuluVv (k : Bool) (m : Bool) (d : Fin 64) (a : Fin 64) (b : Fin 64)
  | vwmuluVx (k : Bool) (m : Bool) (d : Fin 64) (a : Fin 64) (b : Fin 32)
  | vwmuluVs (k : Bool) (m : Bool) (d : Fin 64) (a : Fin 64) (st : Fin 16)
  | vwmuluVi (k : Bool) (m : Bool) (d : Fin 64) (a : Fin 64) (i : BitVec 6)
  | vnclipVv (k : Bool) (m : Bool) (d : Fin 64) (a : Fin 64) (b : Fin 64)
  | vnclipVx (k : Bool) (m : Bool) (d : Fin 64) (a : Fin 64) (b : Fin 32)
  | vnclipVs (k : Bool) (m : Bool) (d : Fin 64) (a : Fin 64) (st : Fin 16)
  | vnclipVi (k : Bool) (m : Bool) (d : Fin 64) (a : Fin 64) (i : BitVec 6)
  | vnclipuVv (k : Bool) (m : Bool) (d : Fin 64) (a : Fin 64) (b : Fin 64)
  | vnclipuVx (k : Bool) (m : Bool) (d : Fin 64) (a : Fin 64) (b : Fin 32)
  | vnclipuVs (k : Bool) (m : Bool) (d : Fin 64) (a : Fin 64) (st : Fin 16)
  | vnclipuVi (k : Bool) (m : Bool) (d : Fin 64) (a : Fin 64) (i : BitVec 6)
  /- Family VFA (R239). -/
  | vfaddVv (k : Bool) (m : Bool) (d : Fin 64) (a : Fin 64) (b : Fin 64)
  | vfaddVx (k : Bool) (m : Bool) (d : Fin 64) (a : Fin 64) (b : Fin 32)
  | vfaddVs (k : Bool) (m : Bool) (d : Fin 64) (a : Fin 64) (st : Fin 16)
  | vfsubVv (k : Bool) (m : Bool) (d : Fin 64) (a : Fin 64) (b : Fin 64)
  | vfsubVx (k : Bool) (m : Bool) (d : Fin 64) (a : Fin 64) (b : Fin 32)
  | vfsubVs (k : Bool) (m : Bool) (d : Fin 64) (a : Fin 64) (st : Fin 16)
  | vfrsubVv (k : Bool) (m : Bool) (d : Fin 64) (a : Fin 64) (b : Fin 64)
  | vfrsubVx (k : Bool) (m : Bool) (d : Fin 64) (a : Fin 64) (b : Fin 32)
  | vfrsubVs (k : Bool) (m : Bool) (d : Fin 64) (a : Fin 64) (st : Fin 16)
  | vfmulVv (k : Bool) (m : Bool) (d : Fin 64) (a : Fin 64) (b : Fin 64)
  | vfmulVx (k : Bool) (m : Bool) (d : Fin 64) (a : Fin 64) (b : Fin 32)
  | vfmulVs (k : Bool) (m : Bool) (d : Fin 64) (a : Fin 64) (st : Fin 16)
  | vfdivVv (k : Bool) (m : Bool) (d : Fin 64) (a : Fin 64) (b : Fin 64)
  | vfdivVx (k : Bool) (m : Bool) (d : Fin 64) (a : Fin 64) (b : Fin 32)
  | vfdivVs (k : Bool) (m : Bool) (d : Fin 64) (a : Fin 64) (st : Fin 16)
  | vfrdivVv (k : Bool) (m : Bool) (d : Fin 64) (a : Fin 64) (b : Fin 64)
  | vfrdivVx (k : Bool) (m : Bool) (d : Fin 64) (a : Fin 64) (b : Fin 32)
  | vfrdivVs (k : Bool) (m : Bool) (d : Fin 64) (a : Fin 64) (st : Fin 16)
  | vfsqrt (k : Bool) (m : Bool) (d : Fin 64) (a : Fin 64)
  | vfminVv (k : Bool) (m : Bool) (d : Fin 64) (a : Fin 64) (b : Fin 64)
  | vfminVx (k : Bool) (m : Bool) (d : Fin 64) (a : Fin 64) (b : Fin 32)
  | vfminVs (k : Bool) (m : Bool) (d : Fin 64) (a : Fin 64) (st : Fin 16)
  | vfmaxVv (k : Bool) (m : Bool) (d : Fin 64) (a : Fin 64) (b : Fin 64)
  | vfmaxVx (k : Bool) (m : Bool) (d : Fin 64) (a : Fin 64) (b : Fin 32)
  | vfmaxVs (k : Bool) (m : Bool) (d : Fin 64) (a : Fin 64) (st : Fin 16)
  | vfsgnjVv (k : Bool) (m : Bool) (d : Fin 64) (a : Fin 64) (b : Fin 64)
  | vfsgnjVx (k : Bool) (m : Bool) (d : Fin 64) (a : Fin 64) (b : Fin 32)
  | vfsgnjVs (k : Bool) (m : Bool) (d : Fin 64) (a : Fin 64) (st : Fin 16)
  | vfsgnjnVv (k : Bool) (m : Bool) (d : Fin 64) (a : Fin 64) (b : Fin 64)
  | vfsgnjnVx (k : Bool) (m : Bool) (d : Fin 64) (a : Fin 64) (b : Fin 32)
  | vfsgnjnVs (k : Bool) (m : Bool) (d : Fin 64) (a : Fin 64) (st : Fin 16)
  | vfsgnjxVv (k : Bool) (m : Bool) (d : Fin 64) (a : Fin 64) (b : Fin 64)
  | vfsgnjxVx (k : Bool) (m : Bool) (d : Fin 64) (a : Fin 64) (b : Fin 32)
  | vfsgnjxVs (k : Bool) (m : Bool) (d : Fin 64) (a : Fin 64) (st : Fin 16)
  | vfclass (k : Bool) (m : Bool) (d : Fin 64) (a : Fin 64)
  /- Family VFB (R240). -/
  | vfmaccVv (k : Bool) (m : Bool) (d : Fin 64) (a : Fin 64) (b : Fin 64)
  | vfmaccVx (k : Bool) (m : Bool) (d : Fin 64) (a : Fin 64) (b : Fin 32)
  | vfmaccVs (k : Bool) (m : Bool) (d : Fin 64) (a : Fin 64) (st : Fin 16)
  | vfnmaccVv (k : Bool) (m : Bool) (d : Fin 64) (a : Fin 64) (b : Fin 64)
  | vfnmaccVx (k : Bool) (m : Bool) (d : Fin 64) (a : Fin 64) (b : Fin 32)
  | vfnmaccVs (k : Bool) (m : Bool) (d : Fin 64) (a : Fin 64) (st : Fin 16)
  | vfmsacVv (k : Bool) (m : Bool) (d : Fin 64) (a : Fin 64) (b : Fin 64)
  | vfmsacVx (k : Bool) (m : Bool) (d : Fin 64) (a : Fin 64) (b : Fin 32)
  | vfmsacVs (k : Bool) (m : Bool) (d : Fin 64) (a : Fin 64) (st : Fin 16)
  | vfnmsacVv (k : Bool) (m : Bool) (d : Fin 64) (a : Fin 64) (b : Fin 64)
  | vfnmsacVx (k : Bool) (m : Bool) (d : Fin 64) (a : Fin 64) (b : Fin 32)
  | vfnmsacVs (k : Bool) (m : Bool) (d : Fin 64) (a : Fin 64) (st : Fin 16)
  | vfcvtFX (k : Bool) (m : Bool) (d : Fin 64) (a : Fin 64)
  | vfcvtFXu (k : Bool) (m : Bool) (d : Fin 64) (a : Fin 64)
  | vfcvtXF (k : Bool) (m : Bool) (d : Fin 64) (a : Fin 64)
  | vfcvtXuF (k : Bool) (m : Bool) (d : Fin 64) (a : Fin 64)
  | vfcvtFF (k : Bool) (m : Bool) (d : Fin 64) (a : Fin 64) (i : BitVec 3)
  | vfexp (k : Bool) (m : Bool) (d : Fin 64) (a : Fin 64)
  | vfrec (k : Bool) (m : Bool) (d : Fin 64) (a : Fin 64)
  /- Family VCMP (R243). -/
  | vmseqVv (k : Bool) (m : Bool) (d : Fin 8) (a : Fin 64) (b : Fin 64)
  | vmseqVx (k : Bool) (m : Bool) (d : Fin 8) (a : Fin 64) (b : Fin 32)
  | vmseqVs (k : Bool) (m : Bool) (d : Fin 8) (a : Fin 64) (st : Fin 16)
  | vmseqVi (k : Bool) (m : Bool) (d : Fin 8) (a : Fin 64) (i : BitVec 6)
  | vmsneVv (k : Bool) (m : Bool) (d : Fin 8) (a : Fin 64) (b : Fin 64)
  | vmsneVx (k : Bool) (m : Bool) (d : Fin 8) (a : Fin 64) (b : Fin 32)
  | vmsneVs (k : Bool) (m : Bool) (d : Fin 8) (a : Fin 64) (st : Fin 16)
  | vmsneVi (k : Bool) (m : Bool) (d : Fin 8) (a : Fin 64) (i : BitVec 6)
  | vmsltVv (k : Bool) (m : Bool) (d : Fin 8) (a : Fin 64) (b : Fin 64)
  | vmsltVx (k : Bool) (m : Bool) (d : Fin 8) (a : Fin 64) (b : Fin 32)
  | vmsltVs (k : Bool) (m : Bool) (d : Fin 8) (a : Fin 64) (st : Fin 16)
  | vmsltVi (k : Bool) (m : Bool) (d : Fin 8) (a : Fin 64) (i : BitVec 6)
  | vmsleVv (k : Bool) (m : Bool) (d : Fin 8) (a : Fin 64) (b : Fin 64)
  | vmsleVx (k : Bool) (m : Bool) (d : Fin 8) (a : Fin 64) (b : Fin 32)
  | vmsleVs (k : Bool) (m : Bool) (d : Fin 8) (a : Fin 64) (st : Fin 16)
  | vmsleVi (k : Bool) (m : Bool) (d : Fin 8) (a : Fin 64) (i : BitVec 6)
  | vmsltuVv (k : Bool) (m : Bool) (d : Fin 8) (a : Fin 64) (b : Fin 64)
  | vmsltuVx (k : Bool) (m : Bool) (d : Fin 8) (a : Fin 64) (b : Fin 32)
  | vmsltuVs (k : Bool) (m : Bool) (d : Fin 8) (a : Fin 64) (st : Fin 16)
  | vmsltuVi (k : Bool) (m : Bool) (d : Fin 8) (a : Fin 64) (i : BitVec 6)
  | vmsleuVv (k : Bool) (m : Bool) (d : Fin 8) (a : Fin 64) (b : Fin 64)
  | vmsleuVx (k : Bool) (m : Bool) (d : Fin 8) (a : Fin 64) (b : Fin 32)
  | vmsleuVs (k : Bool) (m : Bool) (d : Fin 8) (a : Fin 64) (st : Fin 16)
  | vmsleuVi (k : Bool) (m : Bool) (d : Fin 8) (a : Fin 64) (i : BitVec 6)
  | vmsgtVv (k : Bool) (m : Bool) (d : Fin 8) (a : Fin 64) (b : Fin 64)
  | vmsgtVx (k : Bool) (m : Bool) (d : Fin 8) (a : Fin 64) (b : Fin 32)
  | vmsgtVs (k : Bool) (m : Bool) (d : Fin 8) (a : Fin 64) (st : Fin 16)
  | vmsgtVi (k : Bool) (m : Bool) (d : Fin 8) (a : Fin 64) (i : BitVec 6)
  | vmsgtuVv (k : Bool) (m : Bool) (d : Fin 8) (a : Fin 64) (b : Fin 64)
  | vmsgtuVx (k : Bool) (m : Bool) (d : Fin 8) (a : Fin 64) (b : Fin 32)
  | vmsgtuVs (k : Bool) (m : Bool) (d : Fin 8) (a : Fin 64) (st : Fin 16)
  | vmsgtuVi (k : Bool) (m : Bool) (d : Fin 8) (a : Fin 64) (i : BitVec 6)
  | vmfeqVv (k : Bool) (m : Bool) (d : Fin 8) (a : Fin 64) (b : Fin 64)
  | vmfeqVx (k : Bool) (m : Bool) (d : Fin 8) (a : Fin 64) (b : Fin 32)
  | vmfeqVs (k : Bool) (m : Bool) (d : Fin 8) (a : Fin 64) (st : Fin 16)
  | vmfneVv (k : Bool) (m : Bool) (d : Fin 8) (a : Fin 64) (b : Fin 64)
  | vmfneVx (k : Bool) (m : Bool) (d : Fin 8) (a : Fin 64) (b : Fin 32)
  | vmfneVs (k : Bool) (m : Bool) (d : Fin 8) (a : Fin 64) (st : Fin 16)
  | vmfltVv (k : Bool) (m : Bool) (d : Fin 8) (a : Fin 64) (b : Fin 64)
  | vmfltVx (k : Bool) (m : Bool) (d : Fin 8) (a : Fin 64) (b : Fin 32)
  | vmfltVs (k : Bool) (m : Bool) (d : Fin 8) (a : Fin 64) (st : Fin 16)
  | vmfleVv (k : Bool) (m : Bool) (d : Fin 8) (a : Fin 64) (b : Fin 64)
  | vmfleVx (k : Bool) (m : Bool) (d : Fin 8) (a : Fin 64) (b : Fin 32)
  | vmfleVs (k : Bool) (m : Bool) (d : Fin 8) (a : Fin 64) (st : Fin 16)
  | vmfgtVv (k : Bool) (m : Bool) (d : Fin 8) (a : Fin 64) (b : Fin 64)
  | vmfgtVx (k : Bool) (m : Bool) (d : Fin 8) (a : Fin 64) (b : Fin 32)
  | vmfgtVs (k : Bool) (m : Bool) (d : Fin 8) (a : Fin 64) (st : Fin 16)
  | vmfgeVv (k : Bool) (m : Bool) (d : Fin 8) (a : Fin 64) (b : Fin 64)
  | vmfgeVx (k : Bool) (m : Bool) (d : Fin 8) (a : Fin 64) (b : Fin 32)
  | vmfgeVs (k : Bool) (m : Bool) (d : Fin 8) (a : Fin 64) (st : Fin 16)
  /- Family VXR (R275). -/
  | vredsum (k : Bool) (m : Bool) (d : Fin 64) (a : Fin 64)
  | vredmax (k : Bool) (m : Bool) (d : Fin 64) (a : Fin 64)
  | vredmin (k : Bool) (m : Bool) (d : Fin 64) (a : Fin 64)
  | vredmaxu (k : Bool) (m : Bool) (d : Fin 64) (a : Fin 64)
  | vredminu (k : Bool) (m : Bool) (d : Fin 64) (a : Fin 64)
  | vredand (k : Bool) (m : Bool) (d : Fin 64) (a : Fin 64)
  | vredor (k : Bool) (m : Bool) (d : Fin 64) (a : Fin 64)
  | viota (k : Bool) (d : Fin 64)
  | vfredsum (k : Bool) (m : Bool) (d : Fin 64) (a : Fin 64)
  | vfredmax (k : Bool) (m : Bool) (d : Fin 64) (a : Fin 64)
  | vrgatherVv (k : Bool) (d : Fin 64) (a : Fin 64) (b : Fin 64)
  | vrgatherVx (k : Bool) (d : Fin 64) (a : Fin 64) (b : Fin 32)
  | vslideupVx (k : Bool) (d : Fin 64) (a : Fin 64) (b : Fin 32)
  | vslideupVi (k : Bool) (d : Fin 64) (a : Fin 64) (i : BitVec 6)
  | vslidedownVx (k : Bool) (d : Fin 64) (a : Fin 64) (b : Fin 32)
  | vslidedownVi (k : Bool) (d : Fin 64) (a : Fin 64) (i : BitVec 6)
  | vcompress (k : Bool) (d : Fin 64) (a : Fin 64)
  | vexpand (k : Bool) (d : Fin 64) (a : Fin 64)
  | vscanadd (k : Bool) (m : Bool) (d : Fin 64) (a : Fin 64)
  /- PFX words (R279). -/
  | vmm (k : Bool) (m : Bool) (d : Fin 64) (a : Fin 64) (b : Fin 64) (ta : BitVec 3) (tb : BitVec 3)
  | copr (k : Bool) (c : Fin 8) (a : Fin 64) (b : Fin 64) (xo : Fin 32) (fmt : BitVec 3)
  | coprM (k : Bool) (c : Fin 8) (a : Fin 32) (b : Fin 32) (fmt : BitVec 3)
  | cmvBv (k : Bool) (c : Fin 8) (a : Fin 64) (xo : Fin 32)
  | cmvVb (k : Bool) (d : Fin 64) (c : Fin 8) (xo : Fin 32)
  | cld (k : Bool) (c : Fin 8) (a : Fin 32) (b : Fin 32)
  | cst (k : Bool) (c : Fin 8) (a : Fin 32) (b : Fin 32)
  | czero (k : Bool) (c : Fin 8)
  | ccvt (k : Bool) (m : Bool) (d : Fin 64) (a : Fin 64) (vs : Fin 64) (ta : BitVec 3) (tb : BitVec 3) (out : BitVec 2)
  /- Events and status-write steps of the machine that no instruction word encodes. -/
  | bcfgWrite (v : Word)
  | reclaimWrite (v : Word)
  | mboxRead (d : Fin 32)
  | tlbwcWrite (v : Word)
  | tlbinvWrite (v : Word)
  | tlbinvComplete (die : Fin 8)
  | heatFlush (v : Word)
  | heatFlushComplete (die : Fin 8)
  | codeGranuleVerify (h : HartId) (va : Nat)
  | convoyStart (h : HartId)
  | streamTrim (h : HartId)
  | convoyDrain (h : HartId)
  | lanedeadline (h : HartId)
  | reclaimDeadlineExpiry (h : HartId)
  | resvExpiry (c : CoreId)
  | loadDataReturn (h : HartId) (extra : Nat)
  | writePerform (h : HartId)
  | fenceRetire (h : HartId)
  | monitorWake (h : HartId)
  | mwaitTimeout (h : HartId)
  | barrierWake (h : HartId)
  | roleChangeComplete (h : HartId)
  | hartStopComplete (h : HartId)
  | gangPlace (die : Fin 8)
  | sliceExpiry (die : Fin 8)
  | gangSuspendComplete (die : Fin 8) (gang : Word)
  | leaseExpiry (stack : Fin 16)
  | streamFetchAhead (h : HartId) (st : Fin 16)
  | copyStripRead (h : HartId) (st : Fin 16)
  | copyStripWrite (h : HartId) (st : Fin 16)
  | channelDeliver (h : HartId) (st : Fin 16)
  | kerbAccept (h : HartId) (st : Fin 16)
  | kerbUnitResult (h : HartId) (st : Fin 16)
  | kerbUnitResume (h : HartId) (st : Fin 16)
  | kerbComplete (h : HartId) (st : Fin 16)
  | sealComplete (h : HartId)
  | unsealComplete (h : HartId)
  | hostRead (port : Fin 2) (pa : Nat) (n : Nat)
  | hostWrite (port : Fin 2) (pa : Nat) (bytes : List Byte)
  | tailWrite (die : Fin 8) (v : Word)
  | launchRecordRead (die : Fin 8)
  | launchAccept (die : Fin 8)
  | launchComplete (die : Fin 8) (seq : Nat)
  | goWrite
  | recovery
  | ckctlInterval (ms : BitVec 32)
  | ckctlNow
  | checkpointPoint
  | checkpointDrainComplete
  | pcapreqWrite (die : Fin 8) (v : Word)
  | pcapApply (die : Fin 8)
  | updreqWrite (v : Word)
  | updateResult
  | attreqWrite (v : Word)
  | coldBoot
  | governorWindow (die : Fin 8) (laneSteps : Nat) (crucible : Nat)
  | thermalEmergency (die : Fin 8) (tempC : Nat) (tempM : Nat)
  | memoryRequestArrive (h : HartId) (pa : Nat)
  | memoryRequestServe (ch : Fin 512) (bank : Fin 32)
  | refreshDue (ch : Fin 512) (bank : Fin 32)
  | refreshEnd (ch : Fin 512) (bank : Fin 32)
  | bankSetIdle (ch : Fin 512) (set : Fin 8)
  | refctlTrace (die : Fin 8) (on : Bool)
  | refctlArm (die : Fin 8)
  | refctlArmComplete (die : Fin 8)
  | channelReqPdown (ch : Fin 512) (force : Bool)
  | channelReqSref (ch : Fin 512) (force : Bool)
  | channelReqActive (ch : Fin 512)
  | channelDeferredEntry (ch : Fin 512)
  | patrolScrub (pa : Nat) (corrected : Bool)
  | poolTimeout (h : HartId)
  | peerTimeout (h : HartId)
  | peerRequest (pa : Nat) (n : Nat) (op : PeerOp) (version : Option Nat)
  | flitRetransmit (port : Fin 18)
  | portRetrainFail (port : Fin 18)
  | lockstepMismatch (h : HartId)
  | rollbackResume (h : HartId)
  /- `illegalInstruction` stands for every encoding R160 makes illegal, `hintOther` for every hint R161 leaves without effect. -/
  | illegalInstruction (len : Fin 3) (enc : Word)
  | hintOther (fn : BitVec 9) (b : Fin 32) (a : Fin 32) (d : Fin 32)
  | relayComplete (h : HartId)
  | kerbUnitGranuleRead (h : HartId) (st : Fin 16)
  | channelStateChangeComplete (ch : Fin 512)
  | bankAccessEnd (ch : Fin 512) (bank : Fin 32)
  | thermalEmergencyExpiry (die : Fin 8)
deriving DecidableEq, Repr

end Sys2Proof
end

