-- ==== Sys2Proof/Machine/State.lean ====
section
/-! DEFINITION. The state of the whole module as plain data: harts, cores, dies, memory channels, memory, tables, and the
plain-data inputs of the model (log 1). Maps from numbers are lists of pairs with rising keys that list no default. -/

namespace Sys2Proof.Machine

/-- A finite map from numbers: keys strictly rising, and no entry equal to the default of its kind. -/
abbrev Map (α : Type) := List (Nat × α)

/-- The states of a hart slot (R47). A SUSPENDED hart has no slot; its gang holds its image. -/
inductive SlotState where
  | empty | creating | running | waiting | suspending | stopping
deriving DecidableEq, Repr

/-- Access kinds, coded as TCAUSE.ACC codes them (R328). -/
inductive Acc where
  | read | write | fetch | rmw
deriving DecidableEq, Repr

/-- Trap causes (R327). -/
inductive Cause where
  | illegal | convoy | typepair | page | access | align | dataerr | integrity | channel | arith | brk | call
  | lanedeadline | mcheck
deriving DecidableEq, Repr

/-- Where an error that DATAERR reports was found: in memory, in an array, a mask or a block (R338), or in a write to POOL or PEER memory
that failed (R491, R494). -/
inductive Origin where
  | memory | array | remote
deriving DecidableEq, Repr

/-- What a trap reports: its cause, the access kind, and the value of R327; `stream` names the stream whose error a DATAERR
reports (R271, R319). -/
structure Exc where
  cause : Cause
  acc : Acc
  tval : Word
  stream : Option (Fin 16) := none
  origin : Origin := .memory
deriving DecidableEq, Repr

/-- VCFG (R67). TZ reads 1 and is not stored. -/
structure VCfg where
  nslot : BitVec 2
  sew : BitVec 7
  fmt : BitVec 4
  frm : BitVec 3
  vxrm : BitVec 2
  ill : Bool
deriving DecidableEq, Repr

/-- Where a general register's bits are kept (R88-R90): in a slot, in the cache ways of a set of quartets (log 17), or in the HBM
spill region. -/
inductive Place where
  | slot
  | ways (quartets : BitVec 8)
  | hbm
deriving DecidableEq, Repr

/-- The shape of a register and its scalars or elements (R79). The elements of `g` are those below EXTENT. -/
inductive Shape where
  | u (v : Nat)
  | a (base step : Nat)
  | g (elems : List Nat) (place : Place)
deriving DecidableEq, Repr

/-- A vector register with its tag (R79). `used` is the number of the last convoy that named it (R89); `bad` lists the
elements with an uncorrectable error, which trap on every read until a full write (R338), and `refilled` says that a refill found
them in its spill copy (R90). -/
structure VReg where
  shape : Shape
  ew : Nat
  extent : Nat
  used : Nat
  bad : List Nat
  refilled : Bool := false
deriving DecidableEq, Repr

/-- A mask register: the bits below MEXT, its length at the last write (R93, R347), and ONES. -/
structure Mask where
  bits : List Bool
  ones : Nat
  bad : List Nat
deriving DecidableEq, Repr

/-- STATUS.STATE of a stream (R249). -/
inductive StreamState where
  | idle | active | done | error
deriving DecidableEq, Repr

/-- STATUS.SEND of a stream (R249). -/
inductive SendState where
  | none | busy | undeliverable
deriving DecidableEq, Repr

/-- The forms of a copy (R267). -/
inductive CopyForm where
  | plain | tap | addl | addd | adds
deriving DecidableEq, Repr

/-- Kinds of interlock entries (R136). -/
inductive EntryKind where
  | copy | copyAdd | send | kerb | tongs | seal | unseal
deriving DecidableEq, Repr

/-- An incomplete entry of the interlock table (R136). A completed entry is removed. `no` is its place among the transfers of the
hart in program order (R135). -/
structure Entry where
  no : Nat
  kind : EntryKind
  stream : Fin 16
  rdlo : Nat
  rdhi : Nat
  wrlo : Nat
  wrhi : Nat
  progress : Nat
deriving DecidableEq, Repr

/-- A kerb command being run: its record (R305, R306), and how far its units are (R314, R316). An item is a row or an element of
the scanned range; of a pool command, a row that a bag names. -/
structure KerbJob where
  kind : Nat
  src : Nat
  ctrl : Nat
  count : Nat
  aux0 : Nat
  aux1 : Nat
  w5 : Nat
  w6 : Nat
  /-- The query of a swage as read at acceptance; the items of a pool, each a bag and a row in the order of R311, and its bags
  that an index or an offset makes NANC. -/
  aux : List Nat
  items : List (Nat × Nat)
  nanc : List Nat
  /-- What the items read have given: by item, one more than its score or pattern; for a pool, by bag and column, the cell. -/
  data : Map Nat
  /-- The items to be read: all of them, or after an error those before the bad one (R319); and how many are read with every lower
  one. -/
  bound : Nat
  scanned : Nat
  /-- Results that have gone to the buffer, or that a restore passes over (R318). -/
  sent : Nat
  /-- The units pause because the result buffer is full (R314). -/
  paused : Bool
  /-- The participating units, as module channels (R301), each with its lowest item not yet read. -/
  units : List (Nat × Nat)
  /-- Its place in the order in which commands reach the units (R302). -/
  arrival : Nat
deriving DecidableEq, Repr

/-- A stream register (R249) with its strip buffers (R268, R269, R273) or its kerb results (R314). -/
structure Stream where
  state : StreamState
  base : Word
  dbase : Word
  extent : List Nat
  stride : List Word
  width : Nat
  pos : Nat
  remain : Nat
  acc : Nat
  bind : Word
  eom : Bool
  rpt : Bool
  send : SendState
  mark : Bool
  tap : Bool
  mode : Nat
  dir : Bool
  /-- The form and the record address of the copy declared (R267). -/
  form : CopyForm
  recAddr : Word
  /-- Copy: strips read and not yet written; elements read; elements written. Send: the entries still to deliver. -/
  strips : List (List Nat)
  fetched : Nat
  written : Nat
  outbox : List (Option Nat)
  /-- A send that stopped before it had read all its data: it keeps its place in its channel; and the tile position up to which its
  data are in the buffers (R273). -/
  partway : Bool
  readTo : Nat
  /-- Tapped copy and kerb results: elements ready for a consumer, oldest first, strip by strip. -/
  ready : List (List Nat)
  /-- The kerb command whose results the stream receives. -/
  job : Option KerbJob
  /-- The error that put the stream in ERROR and its address (R271, R319). -/
  err : Option Exc
  /-- The entries of the transfer that ended in that error: an access that overlaps one reports the error (R271, R319). -/
  failed : List Entry
  /-- The quartets whose ways hold its strip buffers (R28, R268); none where it has no buffers, or has them in memory. -/
  bufs : Option (BitVec 8)
  /-- The translations its transfer probed and holds until it completes: granule, level and leaf (R267, R465). -/
  held : List (Nat × Nat × Word × Word)
deriving DecidableEq, Repr

/-- The monitor (R58): the watched address and the physical sector it was armed on, whether a write has performed, and
whether REARM is pending (R345). -/
structure Monitor where
  va : Word
  sector : Nat
  hit : Bool
  rearm : Bool
deriving DecidableEq, Repr

/-- What a WAITING hart waits for (R47): an mwait with its destination, start cycle and timeout (R58), or a bar.wait with
its address, location and operand and whether a generation other than its operand has been written (R61, R141). -/
inductive Wait where
  | mwait (d : Fin 32) (since : Nat) (timeout : Word)
  | barrier (va : Word) (loc : Nat) (gen : BitVec 16) (released : Bool)
deriving DecidableEq, Repr

/-- An operand that op3 can hold (R226). -/
inductive Src where
  | v (r : Fin 64)
  | x (r : Fin 32)
  | st (r : Fin 16)
  | imm (i : BitVec 6)
deriving DecidableEq, Repr

/-- Element-wise operations of VMISC, VIA, VIB, VFA and VFB (R233-R240). -/
inductive EwOp where
  | splat | index | move | merge
  | add | sub | rsub | and | or | xor | sll | srl | sra | mul | mulh | mulhu | min | max | minu | maxu
  | sadd | saddu | ssub | ssubu | aadd | aaddu | smul | ssrl | ssra | wadd | waddu | wmul | wmulu | nclip | nclipu
  | fadd | fsub | frsub | fmul | fdiv | frdiv | fsqrt | fmin | fmax | fsgnj | fsgnjn | fsgnjx | fclass
  | fmacc | fnmacc | fmsac | fnmsac | cvtFX | cvtFXu | cvtXF | cvtXuF | cvtFF (f : BitVec 3) | fexp | frec
deriving DecidableEq, Repr

/-- Compares (R243). -/
inductive CmpOp where
  | eq | ne | lt | le | ltu | leu | gt | gtu | feq | fne | flt | fle | fgt | fge
deriving DecidableEq, Repr

/-- Mask logic (R245). -/
inductive MaskOp where
  | and | nand | andn | or | nor | orn | xor | xnor | set | clr
deriving DecidableEq, Repr

/-- Crossroads instructions (R275). -/
inductive XrOp where
  | redsum | redmax | redmin | redmaxu | redminu | redand | redor | iota | fredsum | fredmax | gather | slideup | slidedown
  | compress | expand | scanadd
deriving DecidableEq, Repr

/-- What a convoy-class instruction does, with its operands (R163). -/
inductive MOp where
  | ew (f : EwOp) (d a : Fin 64) (b : Src)
  | cmp (f : CmpOp) (d : Fin 8) (a : Fin 64) (b : Src)
  | mask (f : MaskOp) (d a b : Fin 8)
  | mcpop (d : Fin 32) (a : Fin 8)
  | mfirst (d : Fin 32) (a : Fin 8)
  | shape (d : Fin 32) (a : Fin 64)
  | shapeU (d : Fin 32) (a : Fin 64)
  | shapeS (d : Fin 32) (a : Fin 64)
  | mat (a : Fin 64)
  | elem (d : Fin 32) (a : Fin 64) (b : Fin 32)
  | scfg (a : Fin 32) (st : Fin 16)
  | scfgr (a c : Fin 32) (st : Fin 16)
  | copy (f : CopyForm) (a b : Fin 32) (st : Fin 16)
  | chsend (a b : Fin 32) (st : Fin 16)
  | chrecv (a : Fin 32) (st : Fin 16)
  | send (a : Fin 64) (eom : Bool) (st : Fin 16)
  | eom (st : Fin 16)
  | sget (d : Fin 32) (st : Fin 16) (sel : BitVec 6)
  | sidle (st : Fin 16)
  | kerb (kind : Fin 3) (a : Fin 32) (st : Fin 16) (record : Nat)
  | seal (d a b : Fin 32)
  | unseal (d a b : Fin 32)
  | load (d : Fin 64) (st : Fin 16)
  | store (ordered : Bool) (a : Fin 64) (st : Fin 16)
  | gather (d a : Fin 64) (b : Fin 32)
  | scatter (ordered : Bool) (d a : Fin 64) (b : Fin 32)
  | amo (f : AmoOp) (d a : Fin 64) (ord : BitVec 2) (unordered : Bool)
  | xr (f : XrOp) (d a : Fin 64) (b : Src)
  | vmm (d a b : Fin 64) (ta tb : BitVec 3)
  | copr (c : Fin 8) (a b : Fin 64) (xo : Fin 32) (f : BitVec 3)
  | coprM (c : Fin 8) (a b : Fin 32) (f : BitVec 3)
  | cmvBv (c : Fin 8) (a : Fin 64) (xo : Fin 32)
  | cmvVb (d : Fin 64) (c : Fin 8) (xo : Fin 32)
  | cld (c : Fin 8) (a b : Fin 32)
  | cst (c : Fin 8) (a b : Fin 32)
  | czero (c : Fin 8)
  | ccvt (d a vs : Fin 64) (ta tb : BitVec 3) (out : BitVec 2)
deriving DecidableEq, Repr

/-- A member of a convoy: its encoding and length, its mask bit mk, and what it does. -/
structure Member where
  enc : Nat
  size : Nat
  masked : Bool
  op : MOp
  /-- A copy declaration that has accepted all its elements while its convoy waits (R267). -/
  acted : Bool
deriving DecidableEq, Repr

/-- How far a convoy is (R164, R167): still open, closed and to be started, started and to be trimmed (R257), or trimmed
and probed and to run to its drain; `empty` where the trim left no position to process (R257). -/
inductive Phase where
  | open | start | trim | drain | empty
deriving DecidableEq, Repr

/-- A write that has left its hart and has not performed (R128): to POOL or PEER memory (R491, R494), or a release store
behind transfers in flight (log 16). With `amo` it is an atomic whose operand the bytes are (R440). `mask` has the bits written
of a byte that an element narrower than 8 bits goes to (R122), `after` counts the transfers the hart issued before it, and `rel` is
the scope of a release store (R125, R126). -/
structure Posted where
  va : Word
  module : Option Nat
  pa : Nat
  bytes : List Byte
  mask : Byte
  amo : Option AmoOp
  after : Nat
  rel : Option (BitVec 3)
deriving DecidableEq, Repr

/-- A receive channel (R63, R272): the entries, oldest first, each an element with its sender's width or END; and the
sender (its hart's INDEX and its stream) whose send is being delivered, which holds the channel (R64, R273). -/
structure Chan where
  entries : List (Option (Nat × Nat))
  holder : Option (Nat × Nat)
deriving DecidableEq, Repr

/-- The trap registers of one level (R328-R330, R445, R446). -/
structure TrapRegs where
  cause : BitVec 10
  tval : Word
  pc : BitVec 56
  en : Bool
  base : BitVec 54
  conv : Bool
  member : BitVec 3
deriving DecidableEq, Repr

/-- Who a hart is and where it belongs (R38-R41, R216). -/
structure Ident where
  index : BitVec 11
  gen : BitVec 16
  moves : BitVec 5
  gangId : Word
  gangSize : BitVec 51
  prioCur : BitVec 2
  prioMax : BitVec 2
  paired : Bool
  spillBase : Word
deriving DecidableEq, Repr

/-- The hearth part of a hart (R67-R76, R102, R103). -/
structure VState where
  cfg : VCfg
  vl : Nat
  rows : Nat
  vstart : Nat
  sat : Bool
  qcount : Nat
  qfirst : Nat
  rq : Nat
  flags : BitVec 5
  en : BitVec 5
  frm : BitVec 3
  /-- Convoys started so far: the clock of R89's recency. -/
  convoys : Nat
deriving DecidableEq, Repr

/-- A lane reclaim that is pending (R339, R474): the cycle of the mark, the deadline's length, whether the warning has been
taken (R342), and whether the freed quartets are reserved. -/
structure Reclaim where
  since : Nat
  length : Nat
  warned : Bool
  resv : Bool
deriving DecidableEq, Repr

/-- A read of HBM or of the scratchpad that has not returned (R32, R33, R484): its address, the cycle at which it reaches its controller
or its bank, whether its wait counts in LATCNT, the register of a scalar load (R189), whether it is queued there, and once it has been
served the cycle from which its value can be used. -/
structure Read where
  pa : Nat
  arrives : Nat
  counts : Bool
  dest : Option (Fin 32)
  queued : Bool
  usable : Option Nat
deriving DecidableEq, Repr

/-- What the convoy of a hart has done while it waits part-way (R125, R260; log 96): positions below `upto` have made their accesses
and consumed their stream elements; `log` holds, by position and member, what each such access gave and where it went. -/
structure Waited where
  upto : Nat
  log : Map (Option (Nat × Nat))
deriving DecidableEq, Repr

/-- What a stopped convoy's restart still reads as it stood before the convoy's first start (R228, R244, R295; log 97): the address of its
first member, m0, and operand registers of its Crucible member that a later member writes. -/
structure Kept where
  pc : BitVec 56
  m0 : Mask
  regs : List (Nat × VReg)
deriving DecidableEq, Repr

/-- Where a hart's scalar instructions stand that have issued behind its closed convoy and have not retired (R168, R400; log 82): the PC,
the x registers, INSTRET and the trap registers as they leave them, the x registers they wrote, the exception flags they raised, and
whether they were warned (R342). -/
structure Front where
  pc : BitVec 56
  x : Vector Word 32
  instret : Word
  trap : TrapRegs
  inh : Bool
  wrote : List (Fin 32)
  flags : BitVec 5
  warned : Bool
deriving DecidableEq, Repr

/-- That, with the stores among those instructions, which perform at the convoy's drain: for each where the instructions before it stood,
its address and its bytes. -/
structure Ahead where
  front : Front
  stores : List (Front × Word × List Byte)
deriving DecidableEq, Repr

/-- One hart slot with everything R20 and the later chapters keep for it. -/
structure Hart where
  st : SlotState
  pc : BitVec 56
  x : Vector Word 32
  id : Ident
  vs : VState
  v : Vector VReg 64
  m : Vector Mask 8
  stm : Vector Stream 16
  /-- c0-c7: the elements with a non-zero pattern, keyed row * TLEN + column; a pair's elements are in its even block. -/
  blk : Vector (Map Nat) 8
  blkBad : Vector (List Nat) 8
  pair : BitVec 4
  instret : Word
  latcnt : Word
  /-- Loads and stream lines that miss the caches and have not returned (R33), and a scalar load that a PAGE fault keeps from
  returning: its PC and the cycle of its first issue. -/
  reads : List Read
  faulted : Option (BitVec 56 × Nat)
  trap : TrapRegs
  inh : Bool
  rwarn : Bool
  fw : TrapRegs
  inf : Bool
  ppriv : Bool
  priv : Bool
  space : Word
  spawnCtx : Word
  ilock : List Entry
  /-- Transfers the hart has issued: it numbers the entries (R135). -/
  transfers : Nat
  mon : Option Monitor
  /-- A fence that has issued and not retired: its ordering and scope (R129). -/
  fence : Option (BitVec 2 × BitVec 3)
  wait : Option Wait
  /-- The convoy in hand: its phase and members. The PC stays at its first member. -/
  phase : Phase
  convoy : List Member
  ahead : Option Ahead
  waited : Waited
  kept : Option Kept
  chan : Vector Chan 4
  posted : List Posted
  /-- A POOL or PEER write that failed and has not been reported (R491). -/
  wfail : Option Word
  /-- The translation miss the hart waits on: granule address and access kind (R455). -/
  xwait : Option (Nat × Acc)
  /-- The granule the Lamplighter answered "none" for (R457). -/
  xnone : Option Nat
  /-- STOPPING after stop or hstop: an error of a transfer still traps on the stop (R271, R491). -/
  reports : Bool
  credit : Nat
  age : Nat
  yielded : Bool
  /-- The relay steps a vsetvl started have not ended (R397). -/
  relay : Bool
  reclaimAt : Option Reclaim
deriving DecidableEq, Repr

/-- A translation request in a mailbox or outstanding (R455, R456). -/
structure Request where
  tag : Nat
  acc : Acc
  slot : Fin 8
  engine : Bool
  prefetch : Bool
  vpn : Nat
  space : Word
deriving DecidableEq, Repr

/-- One core (R20). -/
structure Core where
  last : Nat
  /-- The slot whose convoy the Crucible served last, and the slots whose convoys wait for it; and the slot whose transfers the stream
  engine served last (R55). -/
  crucLast : Nat
  crucWait : List Nat
  streamLast : Nat
  usable : BitVec 8
  mbox : List Request
  outstanding : List Request
  nextTag : Nat
  mboxsp : Word
  tlbw0 : Word
  tlbw1 : Word
  tlbwc : Word
  /-- Quartets reserved by RESV for an incoming hart, with the cycle the reservation ends (R474). -/
  reserved : List (BitVec 8 × Nat)
  /-- The core TLB (R454): ASID, level and page number at that level of the translations of the die TLB that it holds too. -/
  tlb : List (Nat × Nat × Nat)
deriving DecidableEq, Repr

/-- An entry of the die TLB (R454), with its heat counts (R460). -/
structure TlbEntry where
  asid : Nat
  level : Nat
  vpn : Nat
  w0 : Word
  w1 : Word
  verified : Bool
  unit : Nat
  strided : Nat
  indexed : Nat
deriving DecidableEq, Repr

/-- Gang states (R48). -/
inductive GangState where
  | waitdep | queued | placing | running | suspending | suspended | done
deriving DecidableEq, Repr

/-- A gang of an accepted launch that has been placed (R43-R50): the cycle of its last placement, its harts that are saved
outside their slots (R50, R347), and how many have stopped. A gang not yet placed has no record, nor has one that is DONE. -/
structure Gang where
  seq : Nat
  gindex : Nat
  st : GangState
  placedAt : Nat
  saved : Map Hart
  stopped : Nat
deriving DecidableEq, Repr

/-- An accepted launch (R430, R437). -/
structure Launch where
  seq : Nat
  entry : Word
  arglen : Nat
  harts : Nat
  quartets : Nat
  nslot : BitVec 2
  prio : BitVec 2
  pair : Bool
  extj : Bool
  fj : Bool
  gangs : Nat
  dep : Nat
  lease : Word
  /-- SPACE of its harts: domain, root and ASID (R448, R449). -/
  space : Word
  report : Word
  replen : Nat
  /-- The manifest's CODEBASE and digests, as copied at acceptance (R472). -/
  codeBase : Nat
  digests : List (List Byte)
  /-- The code that the on-device loader made, at ENTRY of its harts, and the bytes of working memory that the code has for all of them
  (R435; log 14); none without FJ. -/
  code : List Byte
  work : Nat
  /-- The per-launch area: its virtual address and the physical address behind it (R438, R509). -/
  area : Nat
  areaPa : Nat
  /-- The next gang to place, and the gangs that are DONE, with the cycle of the last (R48). -/
  next : Nat
  gangsDone : Nat
  doneAt : Option Nat
  /-- Granules verified (R473): physical granule numbers. -/
  verified : List Nat
  /-- Granules the launch has written, in order of first write (R434). -/
  written : List Nat
  /-- The first hart that stopped on an untaken trap: its cause, index, gang index and TPC. -/
  fault : Option (Exc × Nat × Nat × Nat)
  rerun : Bool
deriving DecidableEq, Repr

/-- A record that the dispatcher has read: its sequence number, the status its checks gave (0 where it goes on), the CODE and
TVAL of its completion, the launch with its argument copy (R437), and where the report of a refused manifest goes (R434). -/
structure Taken where
  seq : Nat
  status : Nat
  code : Nat
  tval : Word
  launch : Option Launch
  args : List Byte
  report : Option Nat
deriving DecidableEq, Repr

/-- A gang suspend under way (R219): for one that gsusp began, the issuing hart, the table's address, and the image address
of each hart marked; the number marked. -/
structure Suspend where
  gang : Word
  issuer : Nat
  table : Option Nat
  images : Map Nat
  marked : Nat
deriving DecidableEq, Repr

/-- One die (R16). -/
structure Die where
  halted : Bool
  tlb : List TlbEntry
  tlbinv : Word
  /-- The addresses the invalidation under way affects (R459). -/
  invRange : Nat × Nat
  heat : Word
  reclaim : Word
  pcap : BitVec 16
  /-- CAPBASE (R212): set by firmware at boot; each die has its own list. -/
  capbase : BitVec 56
  clkMHz : Nat
  launches : List Launch
  gangs : List Gang
  suspends : List Suspend
  /-- Harts that gsusp suspended, with what their images do not hold (R344, R347; log 21). -/
  parked : List Hart
  /-- Log header words of the dispatcher: highest accepted and done sequence numbers. -/
  accseq : Nat
  doneseq : Nat
  doneset : List Nat
  record : Option Taken
  /-- The head of the queue that does not fit, by sequence number and gang index, and since which cycle (R45). -/
  headSince : Option (Nat × Nat × Nat)
  /-- A thermal emergency under way (R507): the cycle from which the present clock counts its time, and the picoseconds before it. -/
  emergency : Option (Nat × Nat)
  /-- Refresh-trace arming not yet paid (R486). -/
  arming : Bool
deriving DecidableEq, Repr

/-- One HBM4E bank (R483, R484): the cycle at which it is free, the dues treated since T0 was set, its DEBT, whether it is in
a refresh or an access, whether a refresh waits for the access to end, the dues that came during a refresh, and the waiting
requests, oldest first, each with the hart whose LATCNT counts its wait, and the cycle it arrived. -/
structure Bank where
  free : Nat
  dueNo : Nat
  debt : Nat
  refresh : Bool
  access : Bool
  owed : Bool
  late : Nat
  queue : List (Option Nat × Nat)
deriving DecidableEq, Repr

/-- One HBM4E channel's controller (R483-R488): its banks; per bank set T0, one more than the cycle of the last arrival, and
whether the next arrival anchors T0; per pseudo-channel the all-bank refreshes forced and not yet begun; the power word of
R487; a request of the device itself with its force; the STATE being entered, with the cycle from which it can be; whether a request or
a kerb command has come meanwhile; the cycle of the last return to ACTIVE; and that of the last event. -/
structure Channel where
  banks : Map Bank
  t0 : Map Nat
  lastArrival : Map Nat
  armed : Map Bool
  forced : Map Nat
  power : Nat
  asked : Option (Nat × Bool)
  changing : Option (Nat × Nat)
  called : Bool
  upAt : Nat
  now : Nat
deriving DecidableEq, Repr

/-- A requester at a scratchpad bank (R32): its core within the cluster, the cycle of its access, its 8-byte word, and the hart whose
LATCNT counts its wait (R33). -/
structure BankRequest where
  core : Nat
  since : Nat
  word : Nat
  who : Option Nat
deriving DecidableEq, Repr

/-- A scratchpad bank (R32): the core it served last, and the requesters that wait, oldest first. -/
structure ScratchBank where
  last : Nat
  queue : List BankRequest
deriving DecidableEq, Repr

/-- A live seal (R320). -/
structure Seal where
  base : Nat
  len : Nat
  version : Nat
deriving DecidableEq, Repr

/-- A quarter lease: stack, die, gang and the cycle it ends (R220, R481). -/
structure Lease where
  die : Fin 8
  gang : Word
  ends : Nat
deriving DecidableEq, Repr

/-- The access tables (R464) and their update state (R465). -/
structure Access where
  /-- Window groups that hold a window: BASE and LIMIT in units of 64 MiB. -/
  windows : Map (Nat × Nat)
  /-- Permission bytes, keyed target * 65536 + MID, that differ from their default. -/
  perm : Map (BitVec 4)
  /-- ROOT of each domain that has one. -/
  roots : Map Word
  keys : Map (List Byte)
  counter : Word
deriving DecidableEq, Repr

/-- An access-table update that is applied and not yet answered: its number and status, and the transfers and the posted writes
checked against the old tables, each with its hart (R465). -/
structure Update where
  number : Nat
  status : Nat
  inFlight : List (Nat × Entry)
  posted : List (Nat × Posted)
deriving DecidableEq, Repr

/-- Entries of the outbound journal (R440): die, launch, hart key and the write. -/
structure JournalEntry where
  die : Fin 8
  seq : Nat
  hart : Nat
  write : Posted
deriving DecidableEq, Repr

/-- One turn of the model's input: an event of the machine (a host request, an engine's step, a timer) with the hart that a
status write acts for, the next issue slot going to another core, or cycles passing (log 1). -/
inductive Turn where
  /-- From now on a convoy that may run stays in flight until an event takes it up, or no longer does. -/
  | pace (on : Bool)
  | event (by_ : HartId) (e : Instr)
  | core (c : CoreId)
  | wait (cycles : Nat)
deriving DecidableEq, Repr

/-- The checkpointed part of a paired hart (R499). -/
structure PairCopy where
  hart : Hart
  rollbacks : Nat
  /-- After a rollback: the cycle from which the pair resumes (R500). -/
  resumeAt : Option Nat
deriving DecidableEq, Repr

/-- How the last request at a host port or from the fabric completed (R424, R425, R494): with its data, as an error, as an Unsupported
Request, or with Completer Abort or a data error. -/
inductive Completion where
  | done | error | unsupported | abort
deriving DecidableEq, Repr

/-- The contents of a completed checkpoint that a recovery restores (R439). -/
structure Checkpoint where
  mem : List Host.Cell
  seals : List Seal
  harts : Map Hart
  dies : Map Die
  journal : List JournalEntry
  cycle : Nat
deriving DecidableEq, Repr

/-- The state of the module. -/
structure State where
  /-- The hart the next instruction acts for. -/
  cur : HartId
  cycle : Nat
  harts : Map Hart
  cores : Map Core
  dies : Map Die
  chans : Map Channel
  /-- All memory of the module, by location: physical addresses below 2^48 (R477); byte `o` of the TCM of module core
  `c` at 2^48 + 65536 c + o; byte `o` of the scratchpad of module cluster `k` at 2^49 + 2^21 k + o (R20, R30); the working memory of
  the code that the on-device loader makes from 2^52 (log 14). -/
  mem : List Host.Cell
  /-- Sectors holding an uncorrectable error, by sector number PA / 64, and the bytes of the cached copy of such a sector that have been
  written since it was fetched, as bits (R476). -/
  poison : List Nat
  rewritten : Map Nat
  seals : List Seal
  bootEpoch : Nat
  sealCount : Nat
  leases : Map Lease
  acc : Access
  /-- The update being answered, and the number of one requested meanwhile (R465). -/
  upd : Option Update
  updNext : Option Nat
  /-- Boot configuration: Q of each stack (R478) and mapped-out banks of each channel (R504). -/
  quarters : Map Nat
  bankout : Map Nat
  journal : List JournalEntry
  ckpt : Option Checkpoint
  ckDrain : Option Checkpoint
  ckPending : Bool
  /-- Accepted records mirrored to the safe tier since the last completed checkpoint, each with its die (R439). -/
  mirror : List (Fin 8 × Taken)
  /-- MSI-X vectors raised, latest first; BAR2 of each port by port * 65536 + offset; and the MSI-X writes sent, each with its port,
  address and data, latest first (R425; log 98). -/
  msix : List Nat
  bar2 : Map Byte
  messages : List (Nat × Nat × Nat)
  /-- The last answer given at a host port or the fabric: bytes, or none for an error; and which completion it was. -/
  answer : Option (List Byte)
  completion : Completion
  /-- Fabric ports out of the route set (R492). -/
  portsDown : List Nat
  pairs : Map PairCopy
  /-- The scratchpad banks, keyed cluster * 64 + bank (R32). -/
  scratch : Map ScratchBank
  /-- LIMITS.ECAP (R469), one for the module. -/
  ecap : BitVec 16
  /-- The core whose stream engine was served last: the model's own turn among cores (log 1). -/
  served : Nat
  booted : Bool
  /-- Model fields (log 1, 4, 8, 9): the agenda, whether a convoy that may run stays in flight until an event takes it up, the core
  whose issue slot is next, harts known to be stalled, and the counter of free choices. -/
  agenda : List Turn
  paced : Bool
  focus : CoreId
  stalled : List Nat
  fresh : Nat
  /-- Kerb commands that have reached their units: it numbers them (R302). -/
  commands : Nat
deriving DecidableEq, Repr

/-- Why the machine stops. -/
inductive Fault where
  /-- Raised by no definition of this model: a module on which nothing can run lets time pass. Safe. -/
  | halted
deriving DecidableEq, Repr

/-- Why an instruction is refused. -/
inductive Refusal where
  /-- Raised by no arm of this model: every instruction of the opcode table has its meaning. Safe. -/
  | notModelled (mnemonic : String)
deriving DecidableEq, Repr

/-- VCFG after reset (R67). -/
def VCfg.reset : VCfg := { nslot := 0, sew := 8, fmt := 0, frm := 0, vxrm := 0, ill := false }

/-- A vector register after reset: U 0, EW 8, extent 0 (R46, R79). -/
def VReg.reset : VReg := { shape := .u 0, ew := 8, extent := 0, used := 0, bad := [] }

/-- A mask after reset (R46). -/
def Mask.reset : Mask := { bits := [], ones := 0, bad := [] }

/-- An idle stream register (R46, R249). -/
def Stream.idle : Stream :=
  { state := .idle, base := 0, dbase := 0, extent := [0, 0, 0, 0], stride := [0, 0, 0, 0], width := 0, pos := 0,
    remain := 0, acc := 0, bind := 0, eom := false, rpt := false, send := .none, mark := false, tap := false, mode := 0,
    dir := false, form := .plain, recAddr := 0, strips := [], fetched := 0, written := 0, outbox := [], partway := false, readTo := 0,
    ready := [], job := none, err := none, failed := [], bufs := none, held := [] }

/-- No convoy waits part-way. -/
def Waited.reset : Waited := { upto := 0, log := [] }

/-- The trap registers after reset (R328-R330, R445). -/
def TrapRegs.reset : TrapRegs :=
  { cause := 0, tval := 0, pc := 0, en := false, base := 0, conv := false, member := 0 }

/-- The state of an EMPTY slot after cold reset. The x registers and the PC, for which the manual gives no reset value,
are 0 (log 3); every other field is at the value its table states. -/
def Hart.reset : Hart :=
  { st := .empty, pc := 0, x := Vector.replicate 32 0,
    id := { index := 0, gen := 0, moves := 0, gangId := 0, gangSize := 0, prioCur := 0, prioMax := 0, paired := false,
            spillBase := 0 },
    vs := { cfg := VCfg.reset, vl := 0, rows := 1, vstart := 0, sat := false, qcount := 0, qfirst := 0, rq := 0,
            flags := 0, en := 0, frm := 0, convoys := 0 },
    v := Vector.replicate 64 VReg.reset, m := Vector.replicate 8 Mask.reset, stm := Vector.replicate 16 Stream.idle,
    blk := Vector.replicate 8 [], blkBad := Vector.replicate 8 [], pair := 0, instret := 0, latcnt := 0, reads := [],
    faulted := none, trap := TrapRegs.reset, inh := false, rwarn := false, fw := TrapRegs.reset, inf := false, ppriv := false, priv := false, space := 0, spawnCtx := 0,
    ilock := [], transfers := 0, mon := none, fence := none, wait := none, phase := .open, convoy := [], ahead := none,
    waited := Waited.reset, kept := none, chan := Vector.replicate 4 { entries := [], holder := none }, posted := [], wfail := none, xwait := none,
    xnone := none, reports := false, credit := 0, age := 0, yielded := false, relay := false, reclaimAt := none }

/-- A core after cold reset (R29, R51); the slots last served by the Crucible and the stream engine, for which the manual gives no reset
value, are 7 (log 106). -/
def Core.reset : Core :=
  { last := 7, crucLast := 7, crucWait := [], streamLast := 7, usable := 0, mbox := [], outstanding := [], nextTag := 0, mboxsp := 0,
    tlbw0 := 0, tlbw1 := 0, tlbwc := 0, reserved := [], tlb := [] }

/-- A die after cold reset (R459, R461, R469, R474, R497). -/
def Die.reset : Die :=
  { halted := false, tlb := [], tlbinv := 0, invRange := (0, 0), heat := 0, reclaim := 0, pcap := 540, capbase := 0, clkMHz := 2000, launches := [],
    gangs := [], suspends := [], parked := [], accseq := 0, doneseq := 0, doneset := [], record := none, headSince := none, emergency := none,
    arming := false }

/-- A bank and a channel at initialisation (log 12). -/
def Bank.reset : Bank :=
  { free := 0, dueNo := 0, debt := 0, refresh := false, access := false, owed := false, late := 0, queue := [] }
@[inherit_doc Bank.reset] def Channel.reset : Channel :=
  { banks := [], t0 := [], lastArrival := [], armed := [], forced := [], power := 0, asked := none, changing := none, called := false,
    upAt := 0, now := 0 }

/-- A scratchpad bank after cold reset (R32). -/
def ScratchBank.reset : ScratchBank := { last := 7, queue := [] }

/-- The access tables of a device that has never applied an update (R466). -/
def Access.reset : Access :=
  { windows := [(0, (0, 2 ^ 22))], perm := [], roots := [], keys := [], counter := 0 }

/-- The module right after cold reset: booting (R428 STATE 0), every slot EMPTY, memory with nothing listed. -/
def State.reset : State :=
  { cur := { die := 0, core := 0, slot := 0 }, cycle := 0, harts := [], cores := [], dies := [], chans := [], mem := [],
    poison := [], rewritten := [], seals := [], bootEpoch := 0, sealCount := 0, leases := [],
    acc := Access.reset, upd := none, updNext := none, quarters := [], bankout := [], journal := [], ckpt := none, ckDrain := none,
    ckPending := false, mirror := [], msix := [], bar2 := [], messages := [], answer := none, completion := .done, portsDown := [],
    pairs := [], scratch := [], ecap := 2000, served := 12287, booted := false, agenda := [], paced := false, focus := { die := 0, core := 0 }, stalled := [], fresh := 0, commands := 0 }

end Sys2Proof.Machine
end

