-- ==== Sys2Proof/Machine/Bits.lean ====
section
/-! DEFINITION. Finite maps, integer readings of bit patterns and list helpers that every other file of the machine uses. -/

namespace Sys2Proof.Machine

/-- The value a map holds for key `i`; `d` where it lists none. -/
def Map.get {α : Type} (d : α) : Map α → Nat → α
  | [], _ => d
  | (k, a) :: t, i => if i = k then a else if i < k then d else Map.get d t i

/-- The map with `a` at key `i`, in canonical form: the default `d` is not listed. -/
def Map.set {α : Type} [DecidableEq α] (d : α) : Map α → Nat → α → Map α
  | [], i, a => if a = d then [] else [(i, a)]
  | (k, b) :: t, i, a =>
    if i < k then (if a = d then (k, b) :: t else (i, a) :: (k, b) :: t)
    else if i = k then (if a = d then t else (i, a) :: t)
    else (k, b) :: Map.set d t i a

/-- A map in canonical form: keys above `lo` strictly rising, no entry equal to the default `d` of its key. -/
def Map.wfFrom {α : Type} [DecidableEq α] (d : Nat → α) : Nat → Map α → Bool
  | _, [] => true
  | lo, (k, a) :: t => decide (lo ≤ k) && decide (a ≠ d k) && Map.wfFrom d (k + 1) t

/-- A map in canonical form. -/
def Map.wf {α : Type} [DecidableEq α] (d : Nat → α) (m : Map α) : Bool := Map.wfFrom d 0 m

/-- What an unlisted location of memory reads as: in each die's fleet block (R497) the reset values of PCAPREQ, 540, and of
CLKMHZ, 2,000; everywhere else 0 (log 2). -/
def Memory.unlisted (loc : Nat) : Byte :=
  if loc / 2 ^ 15 = 0xB0000 / 2 ^ 15 then
    let k := loc % 4096
    if k = 8 then 0x1C else if k = 9 then 0x02 else if k = 0x28 then 0xD0 else if k = 0x29 then 0x07 else 0
  else 0

/-- The byte memory holds at a location. -/
def Memory.get (m : List Host.Cell) (loc : Nat) : Byte := Map.get (Memory.unlisted loc) m loc

/-- Memory with the byte `b` at a location, in canonical form. -/
def Memory.set (m : List Host.Cell) (loc : Nat) (b : Byte) : List Host.Cell := Map.set (Memory.unlisted loc) m loc b

/-- The canonical form of memory: locations strictly rising, and no listed byte equal to what its location reads as
unlisted. -/
def Memory.wf (m : List Host.Cell) : Bool := Map.wf Memory.unlisted m

/-- The low `n` bits of `x`. -/
def trunc (n x : Nat) : Nat := x % 2 ^ n

/-- `x[hi:lo]` (R14). -/
def bitsOf (x hi lo : Nat) : Nat := x / 2 ^ lo % 2 ^ (hi + 1 - lo)

/-- `x[n]`. -/
def bitAt (x n : Nat) : Bool := x / 2 ^ n % 2 == 1

/-- zext(x, w) of R107, as an integer. -/
def zext (x w : Nat) : Int := (x % 2 ^ w : Nat)

/-- sext(x, w) of R107: the integer whose two's-complement pattern is `x[w-1:0]`. -/
def sext (x w : Nat) : Int :=
  let y := x % 2 ^ w
  if 2 * y < 2 ^ w then (y : Int) else (y : Int) - (2 ^ w : Nat)

/-- The `w`-bit pattern of an integer, modulo 2^w. -/
def pat (w : Nat) (i : Int) : Nat := (i % ((2 ^ w : Nat) : Int)).toNat

/-- The 64-bit sign extension of an `n`-bit field. -/
def sextW {n : Nat} (b : BitVec n) : Word := b.signExtend 64

/-- A condition as a word: 1 or 0. -/
def boolW (b : Bool) : Word := if b then 1 else 0

/-- A condition as a number: 1 or 0. -/
def boolN (b : Bool) : Nat := if b then 1 else 0

/-- `ceil(a / b)`. -/
def ceilDiv (a b : Nat) : Nat := (a + b - 1) / b

/-- Bytes as a number, lowest first (R7). -/
def leNat : List Byte → Nat
  | [] => 0
  | b :: bs => b.toNat + 256 * leNat bs

/-- The `n` low bytes of a number, lowest first (R7). -/
def leBytes : Nat → Nat → List Byte
  | 0, _ => []
  | n + 1, w => BitVec.ofNat 8 w :: leBytes n (w / 256)

/-- `l` with `a` at index `i`, padded with `d` where `l` is shorter. -/
def setAt {α : Type} (d : α) : List α → Nat → α → List α
  | [], 0, a => [a]
  | [], i + 1, a => d :: setAt d [] i a
  | _ :: t, 0, a => a :: t
  | b :: t, i + 1, a => b :: setAt d t i a

/-- The first `n` elements of `l`, padded with `d`. -/
def padTo {α : Type} (d : α) (n : Nat) (l : List α) : List α :=
  l.take n ++ List.replicate (n - l.length) d

/-- `[lo, lo + n)` and `[lo', hi')` share a number. -/
def overlaps (lo n lo' hi' : Nat) : Bool := decide (lo < hi' ∧ lo' < lo + n ∧ 0 < n ∧ lo' < hi')

end Sys2Proof.Machine
end

