-- ==== Sys2Proof/Machine/Float.lean ====
section
/-! DEFINITION. The floating-point formats (spec/04_number_formats.md R97-R100), rounding and its flags (R101-R105), exact
arithmetic rounded once (R101), and the approximate reciprocal and exponential (R115, R116). Patterns are numbers. -/

namespace Sys2Proof.Machine

/-- The floating-point formats (R97). -/
inductive Fmt where
  | f64 | f32 | f16 | bf16 | e4m3 | e5m2 | e2m1
deriving DecidableEq, Repr

/-- Exponent field bits, fraction bits and bias of a format (R97). -/
def Fmt.expBits : Fmt → Nat
  | .f64 => 11 | .f32 => 8 | .f16 => 5 | .bf16 => 8 | .e4m3 => 4 | .e5m2 => 5 | .e2m1 => 2
@[inherit_doc Fmt.expBits] def Fmt.fracBits : Fmt → Nat
  | .f64 => 52 | .f32 => 23 | .f16 => 10 | .bf16 => 7 | .e4m3 => 3 | .e5m2 => 2 | .e2m1 => 1
@[inherit_doc Fmt.expBits] def Fmt.bias : Fmt → Nat
  | .f64 => 1023 | .f32 => 127 | .f16 => 15 | .bf16 => 127 | .e4m3 => 7 | .e5m2 => 15 | .e2m1 => 1

/-- The width of a pattern: sign, exponent and fraction. -/
def Fmt.width (f : Fmt) : Nat := 1 + f.expBits + f.fracBits

/-- The pattern of the largest finite magnitude (R97). -/
def Fmt.maxFinite : Fmt → Nat
  | .e4m3 => 0x7E
  | .e2m1 => 7
  | f => (2 ^ f.expBits - 1) * 2 ^ f.fracBits - 1

/-- The canonical NaN (R97); E2M1 has none, and a conversion of a NaN gives +0 there (R104). -/
def Fmt.canonicalNaN : Fmt → Nat
  | .f64 => 0x7FF8000000000000 | .f32 => 0x7FC00000 | .f16 => 0x7E00 | .bf16 => 0x7FC0 | .e4m3 => 0x7F | .e5m2 => 0x7E
  | .e2m1 => 0

/-- The pattern of +infinity, in the formats that have one. -/
def Fmt.infinity (f : Fmt) : Nat := (2 ^ f.expBits - 1) * 2 ^ f.fracBits

/-- Formats into which a conversion saturates (R104). -/
def Fmt.saturates (f : Fmt) : Bool := f = .e4m3 || f = .e5m2 || f = .e2m1

/-- Formats by the codes of VCFG.FMT (R67, R197). -/
def Fmt.ofCode : Nat → Option Fmt
  | 1 => some .f64 | 2 => some .f32 | 3 => some .f16 | 4 => some .bf16 | 5 => some .e4m3 | 6 => some .e5m2
  | 7 => some .e2m1 | _ => none

/-- Formats by the FMT field of the scalar instructions (R196). -/
def Fmt.ofScalar (c : BitVec 2) : Fmt :=
  if c = 0 then .f64 else if c = 1 then .f32 else if c = 2 then .f16 else .bf16

/-- What a pattern means (R97, R98): a NaN, signalling or not; an infinity; or (-1)^s x m x 2^e. -/
inductive FVal where
  | nan (signalling : Bool)
  | inf (s : Bool)
  | fin (s : Bool) (m : Nat) (e : Int)
deriving DecidableEq, Repr

/-- The sign bit of a pattern. -/
def Fmt.signOf (f : Fmt) (x : Nat) : Bool := bitAt x (f.width - 1)

/-- The meaning of a pattern; bits above the width are ignored (R196). -/
def Fmt.value (f : Fmt) (x : Nat) : FVal :=
  let s := f.signOf x
  let e := bitsOf x (f.width - 2) f.fracBits
  let m := trunc f.fracBits x
  let top : Bool := e == 2 ^ f.expBits - 1
  let finite : FVal :=
    if e = 0 then .fin s m (1 - (f.bias : Int) - f.fracBits)
    else .fin s (2 ^ f.fracBits + m) ((e : Int) - f.bias - f.fracBits)
  match f with
  | .e2m1 => finite
  | .e4m3 => if top && m == 7 then .nan false else finite
  | .e5m2 => if top then (if m = 0 then .inf s else .nan false) else finite
  | _ => if top then (if m = 0 then .inf s else .nan (!bitAt m (f.fracBits - 1))) else finite

/-- Flag bits of FFLAGS (R103). -/
abbrev Flags := BitVec 5

/-- Inexact, underflow, overflow, division by zero, invalid (R103). -/
def Flags.nx : Flags := 1
@[inherit_doc Flags.nx] def Flags.uf : Flags := 2
@[inherit_doc Flags.nx] def Flags.of : Flags := 4
@[inherit_doc Flags.nx] def Flags.dz : Flags := 8
@[inherit_doc Flags.nx] def Flags.nv : Flags := 16

/-- NV, or NX, where a condition holds. -/
def Flags.nvIf (b : Bool) : Flags := if b then Flags.nv else 0
@[inherit_doc Flags.nvIf] def Flags.nxIf (b : Bool) : Flags := if b then Flags.nx else 0

/-- The rounding modes (R101). -/
inductive Rnd where
  | rne | rtz | rdn | rup | rmm
deriving DecidableEq, Repr

/-- The mode a code 0-4 names (R101). No other code is ever stored or reaches an operation. -/
def Rnd.ofCode (c : Nat) : Rnd :=
  match c with
  | 1 => .rtz | 2 => .rdn | 3 => .rup | 4 => .rmm | _ => .rne

/-- Whether a magnitude with the remainder `rem` is rounded up, `half` being half the unit (R101). -/
def Rnd.up (r : Rnd) (s odd : Bool) (rem half : Nat) : Bool :=
  match r with
  | .rne => decide (half < rem) || (decide (rem = half) && odd)
  | .rtz => false
  | .rdn => s && decide (0 < rem)
  | .rup => !s && decide (0 < rem)
  | .rmm => decide (half ≤ rem)

/-- The magnitude `m x 2^e` as a multiple of 2^q, rounded, and whether it is inexact. -/
def roundMag (r : Rnd) (s : Bool) (m : Nat) (e q : Int) : Nat × Bool :=
  if q ≤ e then (m * 2 ^ (e - q).toNat, false)
  else
    let n := (q - e).toNat
    let k := m / 2 ^ n
    let rem := m % 2 ^ n
    (if r.up s (k % 2 == 1) rem (2 ^ (n - 1)) then k + 1 else k, rem != 0)

/-- The pattern with a sign on a magnitude pattern. -/
def Fmt.signed (f : Fmt) (s : Bool) (mag : Nat) : Nat := if s then 2 ^ (f.width - 1) + mag else mag

/-- An infinite result: infinity, or the largest finite magnitude where the format has no infinity (R104). -/
def Fmt.inf (f : Fmt) (s : Bool) : Nat :=
  f.signed s (if f = .e4m3 || f = .e2m1 then f.maxFinite else f.infinity)

/-- The overflowed result of a rounding (R101, R104). -/
def Fmt.overflow (f : Fmt) (r : Rnd) (s : Bool) : Nat :=
  if f.saturates then f.signed s f.maxFinite
  else
    match r with
    | .rne | .rmm => f.signed s f.infinity
    | .rtz => f.signed s f.maxFinite
    | .rdn => f.signed s (if s then f.infinity else f.maxFinite)
    | .rup => f.signed s (if s then f.maxFinite else f.infinity)

/-- The exponent of the smallest subnormal of a format. -/
def Fmt.qmin (f : Fmt) : Int := 1 - (f.bias : Int) - f.fracBits

/-- round((-1)^s m 2^e, F, r) with the flags of R103: the pattern, rounded once; tininess is found after rounding
(R99). -/
def Fmt.round (f : Fmt) (r : Rnd) (s : Bool) (m : Nat) (e : Int) : Nat × Flags :=
  if m = 0 then (f.signed s 0, 0)
  else
    let top : Int := (m.log2 : Int) + e
    let q := max (top - f.fracBits) f.qmin
    let (n, inexact) := roundMag r s m e q
    let mag := (q - f.qmin).toNat * 2 ^ f.fracBits + n
    if f.maxFinite < mag then (f.overflow r s, Flags.of ||| Flags.nx)
    else
      let norm := 1 - (f.bias : Int)
      let (n', _) := roundMag r s m e (top - f.fracBits)
      let tiny := decide (top < norm) && !(decide (top = norm - 1) && n' == 2 ^ (f.fracBits + 1))
      (f.signed s mag, Flags.nxIf inexact ||| (if tiny && inexact then Flags.uf else 0))

/-- A NaN result (R100, R104). -/
def Fmt.nan (f : Fmt) (invalid : Bool) : Nat × Flags := (f.canonicalNaN, Flags.nvIf invalid)

/-- An integer times a power of two, rounded: zero is +0. -/
def Fmt.roundInt (f : Fmt) (r : Rnd) (i e : Int) : Nat × Flags := f.round r (decide (i < 0)) i.natAbs e

/-- Conversion of a value into a format (R101, R104): a NaN is canonical, NV if it signals (always into E2M1); an infinity
becomes the largest finite value with NV where the format has no infinity. -/
def Fmt.convert (f : Fmt) (r : Rnd) (v : FVal) : Nat × Flags :=
  match v with
  | .nan sg => f.nan (sg || f = .e2m1)
  | .inf s => (f.inf s, Flags.nvIf (f = .e4m3 || f = .e2m1))
  | .fin s m e => f.round r s m e

/-- Whether a value is a signalling NaN. -/
def FVal.signals : FVal → Bool
  | .nan sg => sg
  | _ => false

/-- Whether a value is a NaN. -/
def FVal.isNaN : FVal → Bool
  | .nan _ => true
  | _ => false

/-- -v; a NaN stays. -/
def FVal.neg : FVal → FVal
  | .nan sg => .nan sg
  | .inf s => .inf (!s)
  | .fin s m e => .fin (!s) m e

/-- The signed integer (-1)^s m. -/
def sgn (s : Bool) (m : Nat) : Int := if s then -(m : Int) else (m : Int)

/-- The exact sum of two finite values rounded once. An exact zero sum of unlike signs is +0, or -0 under RDN. -/
def Fmt.sumFin (f : Fmt) (r : Rnd) (s1 : Bool) (m1 : Nat) (e1 : Int) (s2 : Bool) (m2 : Nat) (e2 : Int) : Nat × Flags :=
  let e := min e1 e2
  let i := sgn s1 (m1 * 2 ^ (e1 - e).toNat) + sgn s2 (m2 * 2 ^ (e2 - e).toNat)
  if i = 0 then (f.signed (if s1 = s2 then s1 else decide (r = .rdn)) 0, 0)
  else f.roundInt r i e

/-- x + y (R101): infinities of unlike sign are invalid. -/
def Fmt.sum (f : Fmt) (r : Rnd) (x y : FVal) : Nat × Flags :=
  match x, y with
  | .fin s1 m1 e1, .fin s2 m2 e2 => f.sumFin r s1 m1 e1 s2 m2 e2
  | .nan a, y => f.nan (a || y.signals)
  | x, .nan b => f.nan (b || x.signals)
  | .inf s1, .inf s2 => if s1 = s2 then (f.inf s1, 0) else f.nan true
  | .inf s, .fin _ _ _ => (f.inf s, 0)
  | .fin _ _ _, .inf s => (f.inf s, 0)

/-- x x y, exactly; 0 x infinity is `none`. -/
def FVal.mul (x y : FVal) : Option FVal :=
  match x, y with
  | .nan a, y => some (.nan (a || y.signals))
  | x, .nan b => some (.nan (b || x.signals))
  | .inf s, .inf t => some (.inf (s != t))
  | .inf s, .fin t m _ => if m = 0 then none else some (.inf (s != t))
  | .fin s m _, .inf t => if m = 0 then none else some (.inf (s != t))
  | .fin s m e, .fin t n g => some (.fin (s != t) (m * n) (e + g))

/-- x x y rounded once. -/
def Fmt.product (f : Fmt) (r : Rnd) (x y : FVal) : Nat × Flags :=
  match x.mul y with
  | none => f.nan true
  | some v => f.convert r v

/-- x x y + z rounded once (R198): 0 x infinity is invalid even when z is a quiet NaN. -/
def Fmt.fused (f : Fmt) (r : Rnd) (x y z : FVal) : Nat × Flags :=
  match x.mul y with
  | none => f.nan true
  | some v => f.sum r v z

/-- A quotient or root known to lie strictly between `m` and `m + 1` times 2^e is replaced by a value that rounds alike. -/
def jam (m rem : Nat) (e : Int) : Nat × Int := if rem = 0 then (m, e) else (2 * m + 1, e - 1)

/-- x / y rounded once (R197). -/
def Fmt.quotient (f : Fmt) (r : Rnd) (x y : FVal) : Nat × Flags :=
  match x, y with
  | .nan a, y => f.nan (a || y.signals)
  | x, .nan b => f.nan (b || x.signals)
  | .inf _, .inf _ => f.nan true
  | .inf s, .fin t _ _ => (f.inf (s != t), 0)
  | .fin s _ _, .inf t => (f.signed (s != t) 0, 0)
  | .fin s m e, .fin t n g =>
    if n = 0 then (if m = 0 then f.nan true else (f.inf (s != t), Flags.dz))
    else
      let k := n.log2 + 128
      let (q, e') := jam (m * 2 ^ k / n) (m * 2 ^ k % n) (e - g - k)
      f.round r (s != t) q e'

/-- The integer square root: the largest k with k x k <= n, found bit by bit from 2^`b`. -/
def isqrt (n : Nat) : Nat → Nat → Nat
  | 0, k => k
  | b + 1, k => isqrt n b (if (k + 2 ^ b) * (k + 2 ^ b) ≤ n then k + 2 ^ b else k)

/-- The square root rounded once; the root of a negative value is invalid, that of -0 is -0 (R197). -/
def Fmt.root (f : Fmt) (r : Rnd) (x : FVal) : Nat × Flags :=
  match x with
  | .nan sg => f.nan sg
  | .inf s => if s then f.nan true else (f.inf false, 0)
  | .fin s m e =>
    if m = 0 then (f.signed s 0, 0)
    else if s then f.nan true
    else
      let m' := if e % 2 = 0 then m else 2 * m
      let e' := if e % 2 = 0 then e else e - 1
      let n := m' * 2 ^ 128
      let k := isqrt n (n.log2 / 2 + 1) 0
      let (q, g) := jam k (n - k * k) (e' / 2 - 64)
      f.round r false q g

/-- Order of two values: x < y (zeros are equal, no NaN is less). -/
def FVal.lt (x y : FVal) : Bool :=
  match x, y with
  | .inf s, .inf t => s && !t
  | .inf s, .fin _ _ _ => s
  | .fin _ _ _, .inf t => !t
  | .fin s m e, .fin t n g =>
    let q := min e g
    decide (sgn s (m * 2 ^ (e - q).toNat) < sgn t (n * 2 ^ (g - q).toNat))
  | _, _ => false

/-- Equality of two values; no NaN equals anything. -/
def FVal.eq (x y : FVal) : Bool := !x.isNaN && !y.isNaN && !x.lt y && !y.lt x

/-- minimumNumber and maximumNumber of IEEE 754-2019 on patterns (R197): a NaN yields the other operand, two NaNs the
canonical NaN, and -0 < +0. -/
def Fmt.minimum (f : Fmt) (a b : Nat) : Nat × Flags :=
  let x := f.value a
  let y := f.value b
  let fl := Flags.nvIf (x.signals || y.signals)
  if x.isNaN then (if y.isNaN then f.canonicalNaN else trunc f.width b, fl)
  else if y.isNaN then (trunc f.width a, fl)
  else (trunc f.width (if x.lt y || (x.eq y && f.signOf a) then a else b), fl)
@[inherit_doc Fmt.minimum] def Fmt.maximum (f : Fmt) (a b : Nat) : Nat × Flags :=
  let x := f.value a
  let y := f.value b
  let fl := Flags.nvIf (x.signals || y.signals)
  if x.isNaN then (if y.isNaN then f.canonicalNaN else trunc f.width b, fl)
  else if y.isNaN then (trunc f.width a, fl)
  else (trunc f.width (if y.lt x || (x.eq y && !f.signOf a) then a else b), fl)

/-- Sign injection on patterns: the magnitude of `a` with the sign bit `s`. -/
def Fmt.withSign (f : Fmt) (a : Nat) (s : Bool) : Nat := f.signed s (trunc (f.width - 1) a)

/-- The class bit of a pattern (R197). -/
def Fmt.classify (f : Fmt) (a : Nat) : Nat :=
  match f.value a with
  | .nan true => 256
  | .nan false => 512
  | .inf s => if s then 1 else 128
  | .fin s m _ =>
    if m = 0 then (if s then 8 else 16)
    else if m < 2 ^ f.fracBits then (if s then 4 else 32)
    else (if s then 2 else 64)

/-- Conversion to an integer of `w` bits (R105): rounded by the mode, then checked against the range. -/
def toInteger (r : Rnd) (signed : Bool) (w : Nat) (v : FVal) : Nat × Flags :=
  let lo : Int := if signed then -(2 ^ (w - 1) : Nat) else 0
  let hi : Int := if signed then (2 ^ (w - 1) : Nat) - 1 else (2 ^ w : Nat) - 1
  match v with
  | .nan _ => (0, Flags.nv)
  | .inf s => (pat w (if s then lo else hi), Flags.nv)
  | .fin s m e =>
    let (n, inexact) := roundMag r s m e 0
    let i := sgn s n
    if i < lo then (pat w lo, Flags.nv)
    else if hi < i then (pat w hi, Flags.nv)
    else (pat w i, Flags.nxIf inexact)

/-- The approximate reciprocal (R115) of an FP32, FP16 or BF16 pattern, which is widened exactly. Its
`e` is negative in the upper half of each table interval (log 27). -/
def Fmt.reciprocal (f : Fmt) (a : Nat) : Nat × Flags :=
  match f.value a with
  | .nan sg => f.nan sg
  | .inf s => (f.signed s 0, 0)
  | .fin s m e =>
    if m = 0 then (f.inf s, Flags.dz)
    else
      let k : Int := (m.log2 : Int) + e
      let big := m * 2 ^ (23 - m.log2)
      if big = 2 ^ 23 then f.round .rne s 1 (-k)
      else
        let y0 : Nat := 2 ^ 32 / (257 + 2 * ((big - 2 ^ 23) / 2 ^ 16))
        let e : Int := (2 ^ 47 : Nat) - (big * y0 : Nat)
        let y1 : Int := (y0 : Int) + (y0 : Int) * e / (2 ^ 47 : Nat)
        let (p, fl) := f.round .rne s y1.toNat (-24 - k)
        (p, fl ||| Flags.nx)

/-- P[j] of R116: the integers nearest 2^(j/64) x 2^30. -/
def expTableLo : List Nat := [
  0x40000000, 0x40B268FA, 0x4166C34C, 0x421D1462, 0x42D561B4, 0x438FB0CB, 0x444C0740, 0x450A6ABB,
  0x45CAE0F2, 0x468D6FAE, 0x47521CC6, 0x4818EE22, 0x48E1E9BA, 0x49AD1598, 0x4A7A77D4, 0x4B4A169C,
  0x4C1BF829, 0x4CF022CA, 0x4DC69CDD, 0x4E9F6CD4, 0x4F7A9930, 0x50582888, 0x51382182, 0x521A8AD7,
  0x52FF6B55, 0x53E6C9DA, 0x54D0AD5A, 0x55BD1CDB, 0x56AC1F75, 0x579DBC57, 0x5891FAC1, 0x5988E209]
@[inherit_doc expTableLo] def expTableHi : List Nat := [
  0x5A82799A, 0x5B7EC8F2, 0x5C7DD7A4, 0x5D7FAD59, 0x5E8451D0, 0x5F8BCCDB, 0x60962665, 0x61A3666D,
  0x62B39509, 0x63C6BA64, 0x64DCDEC3, 0x65F60A7F, 0x6712460B, 0x683199ED, 0x69540EC9, 0x6A79AD56,
  0x6BA27E65, 0x6CCE8AE1, 0x6DFDDBCC, 0x6F307A41, 0x70666F76, 0x719FC4B9, 0x72DC8374, 0x741CB528,
  0x75606374, 0x76A7980F, 0x77F25CCE, 0x7940BB9E, 0x7A92BE8B, 0x7BE86FBA, 0x7D41D96E, 0x7E9F0606]

/-- The approximate exponential (R116) of an FP32, FP16 or BF16 pattern. -/
def Fmt.exponential (f : Fmt) (a : Nat) : Nat × Flags :=
  match f.value a with
  | .nan sg => f.nan sg
  | .inf s => (if s then 0 else f.inf false, 0)
  | .fin s m e =>
    match Fmt.f32.value (Fmt.f32.product .rne (.fin s m e) (Fmt.f32.value 0x3FB8AA3B)).1 with
    | .fin ts tm te =>
      if !(FVal.fin ts tm te).lt (.fin false 128 0) then (f.inf false, Flags.of ||| Flags.nx)
      else if (FVal.fin ts tm te).lt (.fin true 150 0) then (0, Flags.uf ||| Flags.nx)
      else
        -- t is i x 2^-149 exactly; n is its floor, and big is floor((t - n) x 2^24).
        let i := sgn ts (tm * 2 ^ (te + 149).toNat)
        let n := i / (2 ^ 149 : Nat)
        let big := (i % (2 ^ 149 : Nat)).toNat / 2 ^ 125
        let p := (expTableLo ++ expTableHi).getD (big / 2 ^ 18) 0
        let d := big % 2 ^ 18
        let q := 2 ^ 32 + 0xB17217F8 * d / 2 ^ 24 + 0x3D7F7BFF * (d * d / 2 ^ 24) / 2 ^ 24
        let (x, fl) := f.round .rne false (p * q / 2 ^ 32) (n - 30)
        (x, if m = 0 then fl else fl ||| Flags.nx)
    | _ => if s then (0, Flags.uf ||| Flags.nx) else (f.inf false, Flags.of ||| Flags.nx)

end Sys2Proof.Machine
end

