-- ==== Sys2Proof/Machine/Ops.lean ====
section
/-! DEFINITION. The named operations over harts, registers and memory bytes, and the two operations every family shares:
taking a trap (R331, R332, R447) and returning from one (R333, R447). -/

namespace Sys2Proof.Machine

/-- A scalar instruction has its meaning: the machine goes on in `s`. -/
abbrev Out := Host.Outcome State Fault Refusal

/-- A hart's number in the module, and a core's (R17). -/
def hartKey (h : HartId) : Nat := (h.die.val * 192 + h.core.val) * 8 + h.slot.val
@[inherit_doc hartKey] def coreKey (c : CoreId) : Nat := c.die.val * 192 + c.core.val

/-- The core of a slot. -/
def coreOf (h : HartId) : CoreId := { die := h.die, core := h.core }

/-- The slot with number `k`. -/
def hartIdOf (k : Nat) : HartId :=
  { die := Fin.ofNat 8 (k / 1536), core := Fin.ofNat 192 (k / 8), slot := Fin.ofNat 8 k }

/-- The harts, cores, dies and channels of the state. -/
def State.hart (s : State) (i : HartId) : Hart := Map.get Hart.reset s.harts (hartKey i)
@[inherit_doc State.hart] def State.setHart (s : State) (i : HartId) (h : Hart) : State :=
  { s with harts := Map.set Hart.reset s.harts (hartKey i) h }
@[inherit_doc State.hart] def State.core (s : State) (c : CoreId) : Core := Map.get Core.reset s.cores (coreKey c)
@[inherit_doc State.hart] def State.setCore (s : State) (c : CoreId) (x : Core) : State :=
  { s with cores := Map.set Core.reset s.cores (coreKey c) x }
@[inherit_doc State.hart] def State.die (s : State) (d : Fin 8) : Die := Map.get Die.reset s.dies d.val
@[inherit_doc State.hart] def State.setDie (s : State) (d : Fin 8) (x : Die) : State :=
  { s with dies := Map.set Die.reset s.dies d.val x }
@[inherit_doc State.hart] def State.channel (s : State) (c : Nat) : Channel := Map.get Channel.reset s.chans c
@[inherit_doc State.hart] def State.setChannel (s : State) (c : Nat) (x : Channel) : State :=
  { s with chans := Map.set Channel.reset s.chans c x }

/-- The current hart. -/
def State.h (s : State) : Hart := s.hart s.cur
@[inherit_doc State.h] def State.setH (s : State) (h : Hart) : State := s.setHart s.cur h

/-- Register x`r` of a hart: x0 reads 0 (R177, R180). -/
def Hart.getX (h : Hart) (r : Fin 32) : Word := if r = 0 then 0 else h.x[r]

/-- A hart with `v` written to x`r`: a write to x0 is discarded (R180). -/
def Hart.setX (h : Hart) (r : Fin 32) (v : Word) : Hart := if r = 0 then h else { h with x := h.x.set r v }

/-- Register x`r` of the current hart. -/
def State.getX (s : State) (r : Fin 32) : Word := s.h.getX r
@[inherit_doc State.getX] def State.setX (s : State) (r : Fin 32) (v : Word) : State := s.setH (s.h.setX r v)

/-- An instruction address: bit 0 of the PC is always 0 (R152). -/
def evenPc (pc : BitVec 56) : BitVec 56 := pc &&& ~~~(1 : BitVec 56)

/-- The current hart's PC as a word. -/
def State.pcW (s : State) : Word := s.h.pc.setWidth 64

/-- The hart after an instruction of `n` bytes that transfers no control: the PC advances (R152), and the instruction
counts in INSTRET unless a firmware handler retires it (R210, R352). -/
def Hart.retire (h : Hart) (n : Nat) : Hart :=
  { h with pc := h.pc + BitVec.ofNat 56 n, instret := if h.inf then h.instret else h.instret + 1 }

/-- The hart after an instruction that goes on at `pc`; bit 0 of the PC is always 0 (R152). -/
def Hart.jump (h : Hart) (pc : Word) : Hart :=
  { h with pc := evenPc (pc.setWidth 56), instret := if h.inf then h.instret else h.instret + 1 }

/-- The state after the current hart's instruction of `n` bytes. -/
def State.retire (s : State) (n : Nat) : State := s.setH (s.h.retire n)
@[inherit_doc State.retire] def State.jump (s : State) (pc : Word) : State := s.setH (s.h.jump pc)

/-- The instruction writes `v` to x`d` and the PC advances by `n`. -/
def State.write (s : State) (n : Nat) (d : Fin 32) (v : Word) : State := s.setH ((s.h.setX d v).retire n)

/-- The current hart cannot proceed: nothing changes, and it is not ready until something does (R47; log 4). -/
def State.stall (s : State) : State := { s with stalled := hartKey s.cur :: s.stalled }

/-- The type of a byte of memory (R117). -/
inductive MemTy where
  | normal | quarter | local | pool
deriving DecidableEq, Repr

/-- Where an access goes after translation: a location of this module's memory, or another module (R451). -/
inductive Target where
  | mem (loc : Nat) (ty : MemTy)
  | peer (module pa : Nat)
  | sealed (module ver pa : Nat)
deriving DecidableEq, Repr

/-- The answer of an access: a value, a trap, a translation miss on a granule (R455), or a wait (R47). -/
inductive Reply (α : Type) where
  | ok (a : α)
  | trap (e : Exc)
  | miss (va : Nat) (acc : Acc)
  | wait
deriving DecidableEq, Repr

/-- Sequencing of answers. -/
def Reply.bind {α β : Type} (r : Reply α) (k : α → Reply β) : Reply β :=
  match r with
  | .ok a => k a
  | .trap e => .trap e
  | .miss va acc => .miss va acc
  | .wait => .wait

/-- The byte at a location. -/
def State.peek (s : State) (loc : Nat) : Byte := Memory.get s.mem loc

/-- `n` bytes from a location. -/
def State.peekN (s : State) : Nat → Nat → List Byte
  | _, 0 => []
  | loc, n + 1 => s.peek loc :: s.peekN (loc + 1) n

/-- `n` bytes from a location as a number. -/
def State.peekNat (s : State) (loc n : Nat) : Nat := leNat (s.peekN loc n)

/-- Memory with the bytes `bs` written from a location up. -/
def pokeBytes : List Host.Cell → Nat → List Byte → List Host.Cell
  | m, _, [] => m
  | m, loc, b :: bs => pokeBytes (Memory.set m loc b) (loc + 1) bs

/-- The effect of a performed write of `n` bytes at `loc` on a hart that watches them: an armed monitor of the sector
records it (R58), and a bar.wait evaluates its word (R61, R141). -/
def Hart.observe (h : Hart) (m : List Host.Cell) (loc n : Nat) : Hart :=
  let h := match h.mon with
    | some w => if loc / 64 ≤ w.sector ∧ w.sector ≤ (loc + n - 1) / 64 ∧ 0 < n then
        { h with mon := some { w with hit := true } } else h
    | none => h
  match h.wait with
  | some (.barrier va l gen rel) =>
    if overlaps loc n l (l + 8) then
      let g := (Memory.get m (l + 6)).toNat + 256 * (Memory.get m (l + 7)).toNat
      { h with wait := some (.barrier va l gen (rel || g != gen.toNat)) }
    else h
  | _ => h

/-- A write that performs (R127, R128): the bytes change, and every watching hart observes it. -/
def State.perform (s : State) (loc : Nat) (bs : List Byte) : State :=
  let m := pokeBytes s.mem loc bs
  { s with
    mem := m, harts := s.harts.map fun (k, h) => (k, h.observe m loc bs.length),
    pairs := s.pairs.map fun (k, p) => (k, { p with hart := p.hart.observe m loc bs.length }) }

/-- Bytes of memory set by the device to what unlisted bytes read as: 0, but for the reset values of a fleet block. -/
def State.zero (s : State) (lo n : Nat) : State :=
  let m := s.mem.filter fun (a, _) => !decide (lo ≤ a ∧ a < lo + n)
  { s with mem := m, harts := s.harts.map fun (k, h) => (k, h.observe m lo n) }

/-- A device-side write of a number of `n` bytes. -/
def State.pokeNat (s : State) (loc n v : Nat) : State := s.perform loc (leBytes n v)

/-- The launch a hart belongs to, by its GANGID (R39). -/
def State.launchOf (s : State) (i : HartId) : Option Launch :=
  let g := (s.hart i).id.gangId
  (s.die i.die).launches.find? fun l => l.seq % 2 ^ 32 == bitsOf g.toNat 63 32

/-- The die with one launch changed. -/
def Die.mapLaunch (d : Die) (seq : Nat) (f : Launch → Launch) : Die :=
  { d with launches := d.launches.map fun l => if l.seq == seq then f l else l }

/-- Records the first hart of a launch that stopped on an untaken trap (R332). -/
def State.recordFault (s : State) (i : HartId) (e : Exc) (tpc : Nat) : State :=
  match s.launchOf i with
  | none => s
  | some l =>
    let id := (s.hart i).id
    s.setDie i.die ((s.die i.die).mapLaunch l.seq fun l =>
      { l with fault := l.fault.orElse fun _ => some (e, id.index.toNat, bitsOf id.gangId.toNat 31 0, tpc) })

/-- A hart ends (R47, R215): a RUNNING or WAITING hart passes to STOPPING; its open convoy is discarded. -/
def Hart.stop (h : Hart) : Hart :=
  if h.st = .running ∨ h.st = .waiting then
    { h with st := .stopping, wait := none, reports := true, convoy := if h.phase = .open then [] else h.convoy }
  else h

/-- A hart that stops as hstop stops it (R218): its open convoy closes and executes, and its transfers' errors are reported. -/
def Hart.stopWhole (h : Hart) : Hart :=
  { h.stop with convoy := h.convoy, phase := if h.convoy ≠ [] ∧ h.phase = .open then .start else h.phase }

/-- Stops every hart of a gang on a die (R48, R332): as hstop does where `whole` (R337, R501); else open convoys are dropped and errors
of transfers are not reported. -/
def State.stopGang (s : State) (d : Fin 8) (gang : Word) (whole : Bool) : State :=
  { s with harts := s.harts.map fun (k, h) =>
      if k / 1536 == d.val && k % 8 != 7 && h.id.gangId == gang then
        (k, if h.st = .creating then { h with st := .stopping }
            else if h.st = .suspending then { h with st := .stopping, reports := whole }
            else if h.st ≠ .running ∧ h.st ≠ .waiting then { h with reports := h.reports && whole }
            else if whole then h.stopWhole else { h.stop with reports := false }) else (k, h) }

/-- The causes for which firmware stops the gang as hstop does (R337, R501). -/
def Cause.stopsWhole (c : Cause) : Bool := c = .integrity || c = .mcheck

/-- TCAUSE codes (R327). -/
def Cause.code : Cause → Nat
  | .illegal => 1 | .convoy => 2 | .typepair => 3 | .page => 4 | .access => 5 | .align => 6 | .dataerr => 7
  | .integrity => 8 | .channel => 9 | .arith => 10 | .brk => 11 | .call => 12 | .lanedeadline => 13 | .mcheck => 14

/-- ACC codes (R328). -/
def Acc.code : Acc → Nat
  | .read => 0 | .write => 1 | .fetch => 2 | .rmw => 3

/-- The TCAUSE word of a trap (R328): ACC is kept for PAGE, ACCESS, ALIGN and DATAERR. -/
def Exc.word (e : Exc) : BitVec 10 :=
  BitVec.ofNat 10 (Cause.code e.cause +
    256 * (match e.cause with | .page | .access | .align | .dataerr => Acc.code e.acc | _ => 0))

/-- The trap registers of a level as a trap writes them (R331). -/
def TrapRegs.enter (t : TrapRegs) (e : Exc) (tpc : BitVec 56) (conv : Bool) (member : Nat) : TrapRegs :=
  { t with cause := Exc.word e, tval := e.tval, pc := tpc, conv := conv,
           member := if conv then BitVec.ofNat 3 member else 0 }

/-- The address of a handler: BASE x 4 (R331). -/
def TrapRegs.handler (t : TrapRegs) : BitVec 56 := t.base.setWidth 56 <<< 2

/-- Discards the convoy in hand (R166), and a translation answer that a trap has used up (R457). -/
def Hart.dropConvoy (h : Hart) : Hart := 
  { h with phase := .open, convoy := [], ahead := none, waited := Waited.reset, xwait := none, xnone := none, fence := none }

/-- Entry at the user handler (R331). -/
def Hart.userTrap (h : Hart) (e : Exc) (tpc : BitVec 56) (conv : Bool) (member : Nat) : Hart :=
  { h.dropConvoy with trap := h.trap.enter e tpc conv member, inh := true, pc := h.trap.handler }

/-- Entry at the firmware handler (R447). -/
def Hart.fwTrap (h : Hart) (e : Exc) (tpc : BitVec 56) (conv : Bool) (member : Nat) : Hart :=
  { h.dropConvoy with fw := h.fw.enter e tpc conv member, ppriv := h.priv, priv := true, inf := true,
                      pc := h.fw.handler }

/-- A counter of the die's fleet block, at its offset, goes up by one and saturates (R497). -/
def State.bump (s : State) (d : Fin 8) (off : Nat) : State :=
  let a := 0xB0000 + d.val * 0x1000 + off
  s.pokeNat a 8 (min (s.peekNat a 8 + 1) (2 ^ 64 - 1))

/-- The fleet counters of a reported error (R497): UE for memory data, a spill copy's among them, ARRPAR for an array, mask or block
(R338). A write to POOL or PEER memory that failed is neither. -/
def State.countError (s : State) (e : Exc) : State :=
  if e.cause = .dataerr then
    match e.origin with
    | .memory => s.bump s.cur.die 0x48
    | .array => s.bump s.cur.die 0x60
    | .remote => s
  else s

/-- Writes an MCLOG entry of the die and counts the event, up to what a counter holds (R497, R503). -/
def State.mclog (s : State) (d : Fin 8) (kind core lseq : Nat) : State :=
  let b := 0xB0000 + d.val * 0x1000
  let n := s.peekNat (b + 0x70) 8
  let e := b + 0x100 + 32 * (n % 16)
  let s := s.pokeNat e 8 s.cycle
  let s := s.pokeNat (e + 8) 8 (kind + core * 2 ^ 16 + lseq * 2 ^ 32)
  s.pokeNat (b + 0x70) 8 (min (n + 1) (2 ^ 64 - 1))

/-- Where a trap is taken (R332, R447). -/
inductive Route where
  | user | firmware
  /-- To firmware, which stops the gang with the status the cause gives (R332, R337, R501). -/
  | firmwareStop
  /-- Not taken: the hart stops (R332). -/
  | untaken
  /-- A firmware trap while INF = 1 stops the hart (R447). -/
  | halt
deriving DecidableEq, Repr

/-- The routing of a trap raised in a hart (R332, R447). -/
def Hart.route (h : Hart) (c : Cause) : Route :=
  if h.priv || c = .page || c = .integrity || c = .mcheck then
    if h.inf then .halt else if c = .integrity || c = .mcheck then .firmwareStop else .firmware
  else if h.inh then .firmwareStop
  else if h.trap.en then .user
  else .untaken

/-- STATUS.RPT is set once the error of a stream has been taken (R271, R319). -/
def Hart.reported (h : Hart) (e : Exc) : Hart :=
  match e.stream with
  | none => h
  | some st => { h with stm := h.stm.set st { h.stm[st] with rpt := true, failed := [] } }

/-- TAKING A TRAP: the one operation by which every instruction raises its trap. `tpc` is the restart address and
`conv`, `member` say which convoy member stopped (R331). The x registers, memory and every other field stay as the
stopping rules left them. -/
def State.takeTrap (s : State) (e : Exc) (tpc : BitVec 56) (conv : Bool) (member : Nat) : State :=
  let s := s.countError e
  let h := s.h.reported e
  match h.route e.cause with
  | .user => s.setH (h.userTrap e tpc conv member)
  | .firmware => s.setH (h.fwTrap e tpc conv member)
  | .firmwareStop =>
    let s := s.recordFault s.cur e tpc.toNat
    (s.setH (h.fwTrap e tpc conv member)).stopGang s.cur.die h.id.gangId e.cause.stopsWhole
  | .untaken =>
    let s := s.recordFault s.cur e tpc.toNat
    (s.setH { h.dropConvoy with pc := tpc, st := .stopping, wait := none }).stopGang s.cur.die h.id.gangId false
  | .halt =>
    let s := s.recordFault s.cur e tpc.toNat
    let s := s.setH { h.dropConvoy with pc := tpc, st := .stopping, wait := none }
    if s.cur.slot = 7 then
      let s := s.mclog s.cur.die 1 s.cur.core.val 0
      s.setDie s.cur.die { s.die s.cur.die with halted := true }
    else s.stopGang s.cur.die h.id.gangId e.cause.stopsWhole

/-- RETURNING FROM A TRAP (R213, R333, R447); `none` where no trap is being handled. -/
def Hart.trapReturn (h : Hart) : Option Hart :=
  if h.inf then some { h with pc := h.fw.pc, priv := h.ppriv, inf := false, faulted := h.faulted.filter fun f => f.1 == h.fw.pc }
  else if h.inh then some { h with pc := h.trap.pc, inh := false }
  else none

/-- A scalar instruction traps: TPC is its own address (R327), nothing else changes (R180). -/
def State.trapHere (s : State) (e : Exc) : State := s.takeTrap e s.h.pc false 0

/-- ILLEGAL with the encoding in TVAL (R160). -/
def illegalExc (enc : Nat) : Exc := { cause := .illegal, acc := .read, tval := BitVec.ofNat 64 enc }

/-- The instruction traps ILLEGAL. -/
def State.illegal (s : State) (enc : Nat) : State := s.trapHere (illegalExc enc)

/-- ALIGN with the address in TVAL. -/
def alignExc (a : Word) (acc : Acc) : Exc := { cause := .align, acc := acc, tval := a }

/-- ACCESS with the address in TVAL. -/
def accessExc (a : Nat) (acc : Acc) : Exc := { cause := .access, acc := acc, tval := BitVec.ofNat 64 a }

end Sys2Proof.Machine
end

