-- ==== Sys2Proof/Machine/Operands.lean ====
section
/-! DEFINITION. Operand forms: immediates (spec/06_instruction_words.md R155), the offsets of compressed forms (R221), the
integer operand conditions of branches, and floating-point scalars in x registers (R196). -/

namespace Sys2Proof.Machine

/-- The SI and SS value: sext(imm11) (R155). -/
def imm11 (i : BitVec 11) : Word := sextW i

/-- The SB value: sext(imm12 : 0, 13) (R155). -/
def immSB (i : BitVec 12) : Word := sextW i <<< 1

/-- The SU value: sext(imm19 : 0 (11 bits), 30) (R155). -/
def immSU (i : BitVec 19) : Word := sextW i <<< 11

/-- The SJ value: sext(imm19 : 0, 20) (R155). -/
def immSJ (i : BitVec 19) : Word := sextW i <<< 1

/-- A V immediate read as signed, sext(imm6, 6), or as unsigned (R155). -/
def imm6 (i : BitVec 6) : Word := sextW i
@[inherit_doc imm6] def uimm6 (i : BitVec 6) : Word := i.setWidth 64

/-- The CB offset sext(word[12:10] : word[6:2] : 0, 9) and the CJ offset sext(word[12:2] : 0, 12) (R221). -/
def immCB (i : BitVec 8) : Word := sextW i <<< 1
@[inherit_doc immCB] def immCJ (i : BitVec 11) : Word := sextW i <<< 1

/-- The unsigned offsets of the compressed loads and stores, in units of `n` bytes (R221). -/
def immScaled {w : Nat} (i : BitVec w) (n : Nat) : Word := BitVec.ofNat 64 (i.toNat * n)

/-- The register x8-x15 a primed field names (R157). -/
def primed (r : Fin 8) : Fin 32 := ⟨8 + r.val, by omega⟩

/-- The floating-point value in the low bits of an x register (R196). -/
def Fmt.ofWord (f : Fmt) (w : Word) : FVal := f.value w.toNat

/-- A result written zero-extended (R196). -/
def floatWord (p : Nat) : Word := BitVec.ofNat 64 p

/-- The rounding mode of a scalar floating instruction: a static mode, or 7 for FRM.RM (R196). -/
def Hart.rnd (h : Hart) (rm : BitVec 3) : Rnd :=
  if rm = 7 then Rnd.ofCode h.vs.frm.toNat else Rnd.ofCode rm.toNat

end Sys2Proof.Machine
end

