-- ==== Sys2Proof/Machine/Flags.lean ====
section
/-! DEFINITION. The flags: how an operation accrues FFLAGS and when it traps ARITH (R103, R180, R199), and VXSAT (R75). -/

namespace Sys2Proof.Machine

/-- ARITH with the raised flags in TVAL[4:0] (R103). -/
def arithExc (fl : Flags) : Exc := { cause := .arith, acc := .read, tval := fl.setWidth 64 }

/-- A raised flag is enabled (R103). -/
def VState.enabled (v : VState) (fl : Flags) : Bool := fl &&& v.en != 0

/-- FFLAGS with the raised flags set (R103). -/
def VState.raise (v : VState) (fl : Flags) : VState := { v with flags := v.flags ||| fl }

/-- VXSAT.SAT set where something clipped (R75). -/
def VState.clipped (v : VState) (c : Bool) : VState := { v with sat := v.sat || c }

/-- The current hart raises flags. -/
def State.raise (s : State) (fl : Flags) : State := s.setH { s.h with vs := s.h.vs.raise fl }

/-- A scalar floating instruction of 4 bytes that raises `fl` and writes `v`: an enabled flag traps ARITH, and xd is not
written (R103, R199). -/
def State.writeFloat (s : State) (d : Fin 32) (v : Word) (fl : Flags) : State :=
  if s.h.vs.enabled fl then (s.raise fl).trapHere (arithExc fl) else (s.raise fl).write 4 d v

end Sys2Proof.Machine
end

