-- ==== Sys2Proof/Machine/Integer.lean ====
section
/-! DEFINITION. Majors OP, OPI, OPW, OPIW, LUI and AUIPC (spec/07_scalar_instructions.md R182-R186). -/

namespace Sys2Proof.Machine

/-- xd := f(xa, xb), and the PC advances by 4 (R182). -/
def State.op2 (s : State) (d a b : Fin 32) (f : Word → Word → Word) : State := s.write 4 d (f (s.getX a) (s.getX b))

/-- xd := f(xa), and the PC advances by 4. -/
def State.op1 (s : State) (d a : Fin 32) (f : Word → Word) : State := s.write 4 d (f (s.getX a))

/-- The amount xb[5:0]. -/
def amount (b : Word) : Nat := b.toNat % 64

/-- The product of two integers, bits [127:64] (R182). -/
def mulHigh (a b : Int) : Word := BitVec.ofInt 64 (a * b / (2 ^ 64 : Nat))

/-- Quotients and remainders with the corner cases of R183, at a width. -/
def divS {w : Nat} (a b : BitVec w) : BitVec w := if b = 0 then -1 else BitVec.ofInt w (a.toInt.tdiv b.toInt)
@[inherit_doc divS] def divU {w : Nat} (a b : BitVec w) : BitVec w := if b = 0 then -1 else a / b
@[inherit_doc divS] def remS {w : Nat} (a b : BitVec w) : BitVec w := if b = 0 then a else BitVec.ofInt w (a.toInt.tmod b.toInt)
@[inherit_doc divS] def remU {w : Nat} (a b : BitVec w) : BitVec w := if b = 0 then a else a % b

/-- The lesser and the greater of two words, signed or unsigned. -/
def minSW (a b : Word) : Word := if a.toInt ≤ b.toInt then a else b
@[inherit_doc minSW] def maxSW (a b : Word) : Word := if a.toInt ≤ b.toInt then b else a
@[inherit_doc minSW] def minUW (a b : Word) : Word := if a.toNat ≤ b.toNat then a else b
@[inherit_doc minSW] def maxUW (a b : Word) : Word := if a.toNat ≤ b.toNat then b else a

/-- How many of the low `n` bits of `x` are 0 below the first 1, from bit 0 up. -/
def trailing : Nat → Nat → Nat
  | 0, _ => 0
  | n + 1, x => if x % 2 = 1 then 0 else 1 + trailing n (x / 2)

/-- Leading zero bits, trailing zero bits and 1 bits of a word (R182). -/
def countLeading (x : Word) : Word := BitVec.ofNat 64 (if x = 0 then 64 else 63 - x.toNat.log2)
@[inherit_doc countLeading] def countTrailing (x : Word) : Word := BitVec.ofNat 64 (trailing 64 x.toNat)
@[inherit_doc countLeading] def countOnes (x : Word) : Word :=
  BitVec.ofNat 64 ((List.range 64).foldl (fun n k => n + boolN (x.getLsbD k)) 0)

/-- A 32-bit form: it computes on xa[31:0] and xb[31:0] and writes sext(result, 32) (R185). -/
def onLow (f : BitVec 32 → BitVec 32 → BitVec 32) (a b : Word) : Word := sextW (f (a.setWidth 32) (b.setWidth 32))

/-- The amount xb[4:0] of a 32-bit form (R185). -/
def amount32 (b : BitVec 32) : Nat := b.toNat % 32

/-- add: xd := xa + xb (R182). -/
def execAdd (d a b : Fin 32) (s : State) : Out :=
  .next (s.op2 d a b (fun a b => a + b))

/-- sub: xd := xa - xb (R182). -/
def execSub (d a b : Fin 32) (s : State) : Out :=
  .next (s.op2 d a b (fun a b => a - b))

/-- sll: xd := xa << xb[5:0] (R182). -/
def execSll (d a b : Fin 32) (s : State) : Out :=
  .next (s.op2 d a b (fun a b => a <<< amount b))

/-- slt: xd := 1 if xa < xb signed, else 0 (R182). -/
def execSlt (d a b : Fin 32) (s : State) : Out :=
  .next (s.op2 d a b (fun a b => boolW (a.slt b)))

/-- sltu: xd := 1 if xa < xb unsigned, else 0 (R182). -/
def execSltu (d a b : Fin 32) (s : State) : Out :=
  .next (s.op2 d a b (fun a b => boolW (a.ult b)))

/-- xor: xd := xa ^ xb (R182). -/
def execXor (d a b : Fin 32) (s : State) : Out :=
  .next (s.op2 d a b (fun a b => a ^^^ b))

/-- srl: xd := xa >> xb[5:0], zeros in (R182). -/
def execSrl (d a b : Fin 32) (s : State) : Out :=
  .next (s.op2 d a b (fun a b => a >>> amount b))

/-- sra: xd := xa >> xb[5:0], sign in (R182). -/
def execSra (d a b : Fin 32) (s : State) : Out :=
  .next (s.op2 d a b (fun a b => a.sshiftRight (amount b)))

/-- or: xd := xa | xb (R182). -/
def execOr (d a b : Fin 32) (s : State) : Out :=
  .next (s.op2 d a b (fun a b => a ||| b))

/-- and: xd := xa & xb (R182). -/
def execAnd (d a b : Fin 32) (s : State) : Out :=
  .next (s.op2 d a b (fun a b => a &&& b))

/-- mul: xd := (xa x xb)[63:0] (R182). -/
def execMul (d a b : Fin 32) (s : State) : Out :=
  .next (s.op2 d a b (fun a b => a * b))

/-- mulh: xd := bits [127:64] of the signed product (R182). -/
def execMulh (d a b : Fin 32) (s : State) : Out :=
  .next (s.op2 d a b (fun a b => mulHigh a.toInt b.toInt))

/-- mulhsu: xd := bits [127:64] of signed xa times unsigned xb (R182). -/
def execMulhsu (d a b : Fin 32) (s : State) : Out :=
  .next (s.op2 d a b (fun a b => mulHigh a.toInt b.toNat))

/-- mulhu: xd := bits [127:64] of the unsigned product (R182). -/
def execMulhu (d a b : Fin 32) (s : State) : Out :=
  .next (s.op2 d a b (fun a b => mulHigh a.toNat b.toNat))

/-- div: xd := the signed quotient (R183) (R182). -/
def execDiv (d a b : Fin 32) (s : State) : Out :=
  .next (s.op2 d a b divS)

/-- divu: xd := the unsigned quotient (R183) (R182). -/
def execDivu (d a b : Fin 32) (s : State) : Out :=
  .next (s.op2 d a b divU)

/-- rem: xd := the signed remainder (R183) (R182). -/
def execRem (d a b : Fin 32) (s : State) : Out :=
  .next (s.op2 d a b remS)

/-- remu: xd := the unsigned remainder (R183) (R182). -/
def execRemu (d a b : Fin 32) (s : State) : Out :=
  .next (s.op2 d a b remU)

/-- min: xd := the signed minimum (R182). -/
def execMin (d a b : Fin 32) (s : State) : Out :=
  .next (s.op2 d a b minSW)

/-- max: xd := the signed maximum (R182). -/
def execMax (d a b : Fin 32) (s : State) : Out :=
  .next (s.op2 d a b maxSW)

/-- minu: xd := the unsigned minimum (R182). -/
def execMinu (d a b : Fin 32) (s : State) : Out :=
  .next (s.op2 d a b minUW)

/-- maxu: xd := the unsigned maximum (R182). -/
def execMaxu (d a b : Fin 32) (s : State) : Out :=
  .next (s.op2 d a b maxUW)

/-- andn: xd := xa & ~xb (R182). -/
def execAndn (d a b : Fin 32) (s : State) : Out :=
  .next (s.op2 d a b (fun a b => a &&& ~~~b))

/-- orn: xd := xa | ~xb (R182). -/
def execOrn (d a b : Fin 32) (s : State) : Out :=
  .next (s.op2 d a b (fun a b => a ||| ~~~b))

/-- rol: xd := xa rotated left by xb[5:0] (R182). -/
def execRol (d a b : Fin 32) (s : State) : Out :=
  .next (s.op2 d a b (fun a b => a.rotateLeft (amount b)))

/-- ror: xd := xa rotated right by xb[5:0] (R182). -/
def execRor (d a b : Fin 32) (s : State) : Out :=
  .next (s.op2 d a b (fun a b => a.rotateRight (amount b)))

/-- sh1add: xd := (xa << 1) + xb (R182). -/
def execSh1add (d a b : Fin 32) (s : State) : Out :=
  .next (s.op2 d a b (fun a b => (a <<< 1) + b))

/-- sh2add: xd := (xa << 2) + xb (R182). -/
def execSh2add (d a b : Fin 32) (s : State) : Out :=
  .next (s.op2 d a b (fun a b => (a <<< 2) + b))

/-- sh3add: xd := (xa << 3) + xb (R182). -/
def execSh3add (d a b : Fin 32) (s : State) : Out :=
  .next (s.op2 d a b (fun a b => (a <<< 3) + b))

/-- clz: xd := leading zero bits of xa (R182). -/
def execClz (d a : Fin 32) (s : State) : Out :=
  .next (s.op1 d a countLeading)

/-- ctz: xd := trailing zero bits of xa (R182). -/
def execCtz (d a : Fin 32) (s : State) : Out :=
  .next (s.op1 d a countTrailing)

/-- cpop: xd := the number of 1 bits in xa (R182). -/
def execCpop (d a : Fin 32) (s : State) : Out :=
  .next (s.op1 d a countOnes)

/-- addi: xd := xa + imm (R184). -/
def execAddi (d a : Fin 32) (i : BitVec 11) (s : State) : Out :=
  .next (s.op1 d a (fun a => a + imm11 i))

/-- slti: xd := 1 if xa < imm signed, else 0 (R184). -/
def execSlti (d a : Fin 32) (i : BitVec 11) (s : State) : Out :=
  .next (s.op1 d a (fun a => boolW (a.slt (imm11 i))))

/-- sltiu: xd := 1 if xa < imm unsigned, else 0 (R184). -/
def execSltiu (d a : Fin 32) (i : BitVec 11) (s : State) : Out :=
  .next (s.op1 d a (fun a => boolW (a.ult (imm11 i))))

/-- xori: xd := xa ^ imm (R184). -/
def execXori (d a : Fin 32) (i : BitVec 11) (s : State) : Out :=
  .next (s.op1 d a (fun a => a ^^^ imm11 i))

/-- ori: xd := xa | imm (R184). -/
def execOri (d a : Fin 32) (i : BitVec 11) (s : State) : Out :=
  .next (s.op1 d a (fun a => a ||| imm11 i))

/-- andi: xd := xa & imm (R184). -/
def execAndi (d a : Fin 32) (i : BitVec 11) (s : State) : Out :=
  .next (s.op1 d a (fun a => a &&& imm11 i))

/-- slli: xd := xa << imm11[5:0] (R184). -/
def execSlli (d a : Fin 32) (sh : BitVec 6) (s : State) : Out :=
  .next (s.op1 d a (fun a => a <<< sh.toNat))

/-- srli: xd := xa >> imm11[5:0], zeros in (R184). -/
def execSrli (d a : Fin 32) (sh : BitVec 6) (s : State) : Out :=
  .next (s.op1 d a (fun a => a >>> sh.toNat))

/-- srai: xd := xa >> imm11[5:0], sign in (R184). -/
def execSrai (d a : Fin 32) (sh : BitVec 6) (s : State) : Out :=
  .next (s.op1 d a (fun a => a.sshiftRight sh.toNat))

/-- addw: xd := the sum of the low 32 bits, sign-extended (R185). -/
def execAddw (d a b : Fin 32) (s : State) : Out :=
  .next (s.op2 d a b (onLow (fun a b => a + b)))

/-- subw: xd := the difference of the low 32 bits, sign-extended (R185). -/
def execSubw (d a b : Fin 32) (s : State) : Out :=
  .next (s.op2 d a b (onLow (fun a b => a - b)))

/-- sllw: xd := the left shift of the low 32 bits, sign-extended (R185). -/
def execSllw (d a b : Fin 32) (s : State) : Out :=
  .next (s.op2 d a b (onLow (fun a b => a <<< amount32 b)))

/-- srlw: xd := the right shift, zeros in of the low 32 bits, sign-extended (R185). -/
def execSrlw (d a b : Fin 32) (s : State) : Out :=
  .next (s.op2 d a b (onLow (fun a b => a >>> amount32 b)))

/-- sraw: xd := the right shift, sign in of the low 32 bits, sign-extended (R185). -/
def execSraw (d a b : Fin 32) (s : State) : Out :=
  .next (s.op2 d a b (onLow (fun a b => a.sshiftRight (amount32 b))))

/-- mulw: xd := the product of the low 32 bits, sign-extended (R185). -/
def execMulw (d a b : Fin 32) (s : State) : Out :=
  .next (s.op2 d a b (onLow (fun a b => a * b)))

/-- divw: xd := the signed quotient of the low 32 bits, sign-extended (R185). -/
def execDivw (d a b : Fin 32) (s : State) : Out :=
  .next (s.op2 d a b (onLow divS))

/-- divuw: xd := the unsigned quotient of the low 32 bits, sign-extended (R185). -/
def execDivuw (d a b : Fin 32) (s : State) : Out :=
  .next (s.op2 d a b (onLow divU))

/-- remw: xd := the signed remainder of the low 32 bits, sign-extended (R185). -/
def execRemw (d a b : Fin 32) (s : State) : Out :=
  .next (s.op2 d a b (onLow remS))

/-- remuw: xd := the unsigned remainder of the low 32 bits, sign-extended (R185). -/
def execRemuw (d a b : Fin 32) (s : State) : Out :=
  .next (s.op2 d a b (onLow remU))

/-- addiw: xd := the low 32 bits of xa + imm, sign-extended (R185). -/
def execAddiw (d a : Fin 32) (i : BitVec 11) (s : State) : Out :=
  .next (s.op1 d a (fun a => onLow (fun x y => x + y) a (imm11 i)))

/-- slliw: xd := xa[31:0] shifted left by imm11[4:0], sign-extended (R185). -/
def execSlliw (d a : Fin 32) (sh : BitVec 5) (s : State) : Out :=
  .next (s.op1 d a (fun a => onLow (fun x _ => x <<< sh.toNat) a 0))

/-- srliw: xd := xa[31:0] shifted right, zeros in by imm11[4:0], sign-extended (R185). -/
def execSrliw (d a : Fin 32) (sh : BitVec 5) (s : State) : Out :=
  .next (s.op1 d a (fun a => onLow (fun x _ => x >>> sh.toNat) a 0))

/-- sraiw: xd := xa[31:0] shifted right, sign in by imm11[4:0], sign-extended (R185). -/
def execSraiw (d a : Fin 32) (sh : BitVec 5) (s : State) : Out :=
  .next (s.op1 d a (fun a => onLow (fun x _ => x.sshiftRight sh.toNat) a 0))

/-- lui: xd := the SU value (R186). -/
def execLui (d : Fin 32) (i : BitVec 19) (s : State) : Out := .next (s.write 4 d (immSU i))

/-- auipc: xd := PC + the SU value (R186). -/
def execAuipc (d : Fin 32) (i : BitVec 19) (s : State) : Out := .next (s.write 4 d (s.pcW + immSU i))

end Sys2Proof.Machine
end

