-- ==== Sys2Proof/Machine/Branch.lean ====
section
/-! DEFINITION. Jumps and branches (spec/07_scalar_instructions.md R194, R195). -/

namespace Sys2Proof.Machine

/-- A jump with a link: the target has been computed before xd is written. -/
def State.link (s : State) (d : Fin 32) (ra target : Word) : State := (s.setX d ra).jump target

/-- A branch of 4 bytes: to PC + the SB value if the condition on xa and xb holds, else to PC + 4. -/
def State.branch (s : State) (a b : Fin 32) (i : BitVec 12) (f : Word → Word → Bool) : State :=
  if f (s.getX a) (s.getX b) then s.jump (s.pcW + immSB i) else s.retire 4

/-- jal: xd := PC + 4; PC := PC + the SJ value (R194). -/
def execJal (d : Fin 32) (i : BitVec 19) (s : State) : Out :=
  .next (s.link d (s.pcW + 4) (s.pcW + immSJ i))

/-- jalr: xd := PC + 4; PC := xa + sext(imm11) with bit 0 cleared, xa read first (R194). -/
def execJalr (d a : Fin 32) (i : BitVec 11) (s : State) : Out :=
  .next (s.link d (s.pcW + 4) (s.getX a + imm11 i))

/-- beq: branches if xa = xb (R195). -/
def execBeq (a b : Fin 32) (i : BitVec 12) (s : State) : Out :=
  .next (s.branch a b i (fun a b => a == b))

/-- bne: branches if xa differs from xb (R195). -/
def execBne (a b : Fin 32) (i : BitVec 12) (s : State) : Out :=
  .next (s.branch a b i (fun a b => a != b))

/-- blt: branches if xa < xb, signed (R195). -/
def execBlt (a b : Fin 32) (i : BitVec 12) (s : State) : Out :=
  .next (s.branch a b i (fun a b => a.slt b))

/-- bge: branches if xa >= xb, signed (R195). -/
def execBge (a b : Fin 32) (i : BitVec 12) (s : State) : Out :=
  .next (s.branch a b i (fun a b => !a.slt b))

/-- bltu: branches if xa < xb, unsigned (R195). -/
def execBltu (a b : Fin 32) (i : BitVec 12) (s : State) : Out :=
  .next (s.branch a b i (fun a b => a.ult b))

/-- bgeu: branches if xa >= xb, unsigned (R195). -/
def execBgeu (a b : Fin 32) (i : BitVec 12) (s : State) : Out :=
  .next (s.branch a b i (fun a b => !a.ult b))

/-- bbs: branches if bit xb[5:0] of xa is 1 (R195). -/
def execBbs (a b : Fin 32) (i : BitVec 12) (s : State) : Out :=
  .next (s.branch a b i (fun a b => a.getLsbD (amount b)))

/-- bbc: branches if bit xb[5:0] of xa is 0 (R195). -/
def execBbc (a b : Fin 32) (i : BitVec 12) (s : State) : Out :=
  .next (s.branch a b i (fun a b => !a.getLsbD (amount b)))

end Sys2Proof.Machine
end

