-- ==== Sys2Proof/Machine/Fixed.lean ====
section
/-! DEFINITION. Fixed-point arithmetic (spec/04_number_formats.md): roundoff (R106), saturation (R107), E8M0 scales (R108),
FX64 (R109, R110) and FX128 (R111-R113). -/

namespace Sys2Proof.Machine

/-- The rounding of averaging, scaling and narrowing-clip forms, by VCFG.VXRM (R67, R106). The values shifted have at most 128
bits, so that a shift by more than 256 gives what a shift by 256 gives. -/
def roundoff (vxrm : BitVec 2) (v : Int) (shift : Nat) : Int :=
  let d := min shift 256
  if d = 0 then v
  else
    let q := v / (2 ^ d : Nat)
    let rem := (v % (2 ^ d : Nat)).toNat
    let h : Bool := decide (2 ^ (d - 1) ≤ rem)
    let low : Bool := rem % 2 ^ (d - 1) != 0
    let odd : Bool := q % 2 == 1
    let inc : Bool :=
      if vxrm = 0 then h else if vxrm = 1 then h && (low || odd) else if vxrm = 2 then false else !odd && (h || low)
    if inc then q + 1 else q

/-- sat(v, lo, hi), and whether it clipped (R107). -/
def clip (lo hi v : Int) : Int × Bool := if v < lo then (lo, true) else if hi < v then (hi, true) else (v, false)

/-- The signed and unsigned limits of a width. -/
def minS (w : Nat) : Int := -(2 ^ (w - 1) : Nat)
@[inherit_doc minS] def maxS (w : Nat) : Int := (2 ^ (w - 1) : Nat) - 1
@[inherit_doc minS] def maxU (w : Nat) : Int := (2 ^ w : Nat) - 1

/-- N := sat(N + sum, -2^63, 2^63 - 1) on an FX64 pattern, and whether it clipped (R110). -/
def fx64Add (n : Nat) (sum : Int) : Nat × Bool :=
  let (i, c) := clip (minS 64) (maxS 64) (sext n 64 + sum)
  (pat 64 i, c)

/-- The marker patterns and the finite range of FX128 cells (R111). -/
def fxPos : Nat := 2 ^ 127 - 1
@[inherit_doc fxPos] def fxNeg : Nat := 2 ^ 127
@[inherit_doc fxPos] def fxNanc : Nat := 2 ^ 127 + 1
@[inherit_doc fxPos] def fxMax : Int := (2 ^ 127 : Nat) - 2
@[inherit_doc fxPos] def fxMin : Int := -(2 ^ 127 : Nat) + 2

/-- The cell of an integer in units of 2^-64 (R112, R113). -/
def fxCell (i : Int) : Nat := if fxMax < i then fxPos else if i < fxMin then fxNeg else pat 128 i

/-- fx_add(a, b) (R113), which decides where R114's marker case says otherwise (log 112). -/
def fxAdd (a b : Nat) : Nat :=
  if a = fxNanc ∨ b = fxNanc then fxNanc
  else if (a = fxPos ∧ b = fxNeg) ∨ (a = fxNeg ∧ b = fxPos) then fxNanc
  else if a = fxPos ∨ b = fxPos then fxPos
  else if a = fxNeg ∨ b = fxNeg then fxNeg
  else fxCell (sext a 128 + sext b 128)

/-- Conversion of an integer to a cell (R112). -/
def fxOfInt (i : Int) : Nat := fxCell (i * (2 ^ 64 : Nat))

/-- Conversion of a floating value to a cell: trunc(v x 2^64), toward zero (R112). -/
def fxOfFloat (v : FVal) : Nat :=
  match v with
  | .nan _ => fxNanc
  | .inf s => if s then fxNeg else fxPos
  | .fin s m e =>
    let k := if 0 ≤ e + 64 then m * 2 ^ (e + 64).toNat else m / 2 ^ (-(e + 64)).toNat
    fxCell (sgn s k)

/-- Read-out of a cell into a format under RNE (R111). A pattern that no adder makes is read as its integer value. -/
def fxRead (f : Fmt) (c : Nat) : Nat × Flags :=
  if c = fxPos then (f.inf false, Flags.of)
  else if c = fxNeg then (f.inf true, Flags.of)
  else if c = fxNanc then (f.canonicalNaN, Flags.nv)
  else f.roundInt .rne (sext c 128) (-64)

/-- The class of a cell as the FX128 atomics report it: 0 finite, 1 POS, 2 NEG, 3 NANC (R192). -/
def fxClass (c : Nat) : Nat := if c = fxPos then 1 else if c = fxNeg then 2 else if c = fxNanc then 3 else 0

end Sys2Proof.Machine
end

