-- ==== Sys2Proof/Machine/Access.lean ====
section
/-! DEFINITION. From an address to memory: the physical map (R477, R478), the access tables (R463, R464), the alias
windows (R30), translation through the TLBs (R450-R457), and the loads and stores every instruction makes. -/

namespace Sys2Proof.Machine

/-- Q_s of stack `s`: 0, 4, 8 or 16 (R478). -/
def State.quarterCount (s : State) (stack : Nat) : Nat := Map.get 0 s.quarters stack

/-- The mapped-out banks of a module channel, one bit a bank (R504). -/
def State.badBanks (s : State) (ch : Nat) : Nat := Map.get 0 s.bankout ch % 2 ^ 32

/-- The number of 1 bits among the low `n` of `x`. -/
def popcount : Nat → Nat → Nat
  | 0, _ => 0
  | n + 1, x => x % 2 + popcount n (x / 2)

/-- The largest count of mapped-out banks over a list of channels (R478). -/
def State.maxOut (s : State) (chs : List Nat) : Nat :=
  chs.foldl (fun m c => max m (popcount 32 (s.badBanks c))) 0

/-- The interleaved channels of a die, as module channel numbers, in the order R478 numbers them. -/
def State.interleaved (s : State) (d : Nat) : List Nat :=
  (List.range (32 - s.quarterCount (2 * d))).map (64 * d + ·)
    ++ (List.range (32 - s.quarterCount (2 * d + 1))).map (64 * d + 32 + ·)

/-- The quarter channels of a stack, as module channel numbers (R478). -/
def State.quarterChannels (s : State) (stack : Nat) : List Nat :=
  (List.range (s.quarterCount stack)).map (32 * stack + (32 - s.quarterCount stack) + ·)

/-- M_d and M_s (R478). When no bank is mapped out both are 0. -/
def State.mDie (s : State) (d : Nat) : Nat := if s.bankout = [] then 0 else s.maxOut (s.interleaved d)
@[inherit_doc State.mDie] def State.mStack (s : State) (stack : Nat) : Nat :=
  if s.bankout = [] then 0 else s.maxOut (s.quarterChannels stack)

/-- C_d, the interleaved capacity of a die (R478). -/
def State.capacity (s : State) (d : Nat) : Nat :=
  ((32 - s.quarterCount (2 * d)) + (32 - s.quarterCount (2 * d + 1))) * (32 - s.mDie d) * 2 ^ 26

/-- W_s, the length of a stack's quarter window (R478). -/
def State.windowLen (s : State) (stack : Nat) : Nat :=
  s.quarterCount stack * ((32 - s.mStack stack) * 2 ^ 26 - 2 ^ 16)

/-- The regions of the physical space (R477). -/
inductive Region where
  | normal (die : Nat)
  | quarter (stack : Nat)
  | pool
  | unpopulated
deriving DecidableEq, Repr

/-- The region a physical address lies in (R477). -/
def State.region (s : State) (pa : Nat) : Region :=
  if pa < 2 ^ 40 then
    if pa % 2 ^ 37 < s.capacity (pa / 2 ^ 37) then .normal (pa / 2 ^ 37) else .unpopulated
  else if pa < 2 ^ 41 then
    if (pa - 2 ^ 40) % 2 ^ 36 < s.windowLen ((pa - 2 ^ 40) / 2 ^ 36) then .quarter ((pa - 2 ^ 40) / 2 ^ 36)
    else .unpopulated
  else if 2 ^ 47 ≤ pa ∧ pa < 2 ^ 48 then .pool
  else .unpopulated

/-- Permission bits (R464). -/
inductive Perm where
  | r | w | a | x
deriving DecidableEq, Repr

@[inherit_doc Perm] def Perm.bit : Perm → Nat
  | .r => 0 | .w => 1 | .a => 2 | .x => 3

/-- The permission an access kind needs (R464). -/
def Acc.perm : Acc → Perm
  | .read => .r | .write => .w | .fetch => .x | .rmw => .a

/-- The permission byte of a target for a master before any update (R466). -/
def permDefault (target mid : Nat) : BitVec 4 :=
  if mid = 0 ∨ 0x1200 ≤ mid ∧ mid ≤ 0x1208 then 15
  else if 0x1000 ≤ mid ∧ mid < 0x1200 then (if target = 64 + (mid - 0x1000) / 32 then 1 else 0)
  else 0

/-- The permission byte in force (R464). -/
def State.permByte (s : State) (target mid : Nat) : BitVec 4 :=
  Map.get (permDefault target mid) s.acc.perm (target * 65536 + mid)

/-- The lowest-numbered window group that holds an HBM address (R464). -/
def State.windowOf (s : State) (pa : Nat) : Option Nat :=
  (s.acc.windows.find? fun (_, b, l) => decide (b * 2 ^ 26 ≤ pa ∧ pa < l * 2 ^ 26)).map (·.1)

/-- The host port a POOL window is bound to (R489): windows of the lower half to port 0, of the upper half to port 1
(log 15). -/
def poolPort (pa : Nat) : Nat := pa / 2 ^ 46 % 2

/-- The access-table target of a physical address (R464). -/
def State.targetOf (s : State) (pa : Nat) : Option Nat :=
  match s.region pa with
  | .normal _ => s.windowOf pa
  | .quarter st => some (64 + st)
  | .pool => some (82 + poolPort pa)
  | .unpopulated => none

/-- The access tables permit master `mid` the access (R463). -/
def State.permits (s : State) (target : Option Nat) (mid : Nat) (p : Perm) : Bool :=
  match target with
  | none => false
  | some t => (s.permByte t mid).getLsbD p.bit

/-- A granule that some live launch has verified: every write to it is refused (R473). -/
def State.verifiedGranule (s : State) (pa : Nat) : Bool :=
  s.dies.any fun (_, d) => d.launches.any fun l => l.verified.contains (pa / 65536)

/-- A byte of a live seal (R323). -/
def State.sealedByte (s : State) (pa : Nat) : Bool :=
  s.seals.any fun l => decide (l.base ≤ pa ∧ pa < l.base + l.len)

/-- A write to a physical address that every master is refused (R323, R473). -/
def State.frozen (s : State) (pa : Nat) : Bool := s.sealedByte pa || s.verifiedGranule pa

/-- Locations of a core's TCM and of a cluster's scratchpad. -/
def tcmLoc (c : CoreId) (off : Nat) : Nat := 2 ^ 48 + coreKey c * 65536 + off
@[inherit_doc tcmLoc] def scratchLoc (c : CoreId) (off : Nat) : Nat := 2 ^ 49 + coreKey c / 8 * 2 ^ 21 + off

/-- A paired hart is resident on the core or is shadowed there (R499). -/
def State.pairedCore (s : State) (c : CoreId) : Bool :=
  s.harts.any fun (k, h) => h.id.paired && (k / 8 == coreKey c || k / 8 + 1 == coreKey c) && h.st != .empty

/-- The 40-bit granule number VA[55:16]. -/
def vpnOf (va : Nat) : Nat := va % 2 ^ 56 / 2 ^ 16

/-- The bits of a VPN that lie inside a leaf of a level (R450). -/
def levelBits (level : Nat) : Nat := 10 * (3 - level)

/-- Whether a TLB entry covers a granule of a space (R454, R459). -/
def TlbEntry.covers (e : TlbEntry) (asid vpn : Nat) : Bool :=
  e.asid == asid && e.vpn / 2 ^ levelBits e.level == vpn / 2 ^ levelBits e.level

/-- Fields of a leaf (R451). -/
def leafType (w0 : Word) : Nat := bitsOf w0.toNat 4 2
@[inherit_doc leafType] def leafW (w0 : Word) : Bool := w0.getLsbD 5
@[inherit_doc leafType] def leafX (w0 : Word) : Bool := w0.getLsbD 6
@[inherit_doc leafType] def leafU (w0 : Word) : Bool := w0.getLsbD 7
@[inherit_doc leafType] def leafD (w0 : Word) : Bool := w0.getLsbD 9
@[inherit_doc leafType] def leafModule (w1 : Word) : Nat := bitsOf w1.toNat 50 32
@[inherit_doc leafType] def leafVersion (w0 w1 : Word) : Nat :=
  bitsOf w0.toNat 63 48 * 2 ^ 32 + bitsOf w1.toNat 31 0

/-- The physical address a leaf gives a virtual address (R450, R451). -/
def leafPa (level : Nat) (w0 : Word) (va : Nat) : Nat :=
  let n := 16 + levelBits level
  bitsOf w0.toNat 47 16 * 65536 / 2 ^ n * 2 ^ n + va % 2 ^ n

/-- Fields of SPACE (R448). -/
def spaceDom (sp : Word) : Nat := bitsOf sp.toNat 11 0
@[inherit_doc spaceDom] def spaceRoot (sp : Word) : Nat := bitsOf sp.toNat 47 14 * 2 ^ 14
@[inherit_doc spaceDom] def spaceAsid (sp : Word) : Nat := bitsOf sp.toNat 63 48

/-- A refused or faulting access at `va`. -/
def denied {α : Type} (va : Nat) (acc : Acc) : Reply α := .trap (accessExc va acc)
@[inherit_doc denied] def pageFault {α : Type} (va : Nat) (acc : Acc) : Reply α :=
  .trap { cause := .page, acc := acc, tval := BitVec.ofNat 64 va }

/-- Memory outside every launch's address space: the fixed regions of the first 16 MiB (R427), and on each die the region reserved at
boot for the per-launch areas (R509; log 23). -/
def reservedPa (pa : Nat) : Bool :=
  decide (pa < 2 ^ 24) || decide (pa < 2 ^ 40 ∧ 2 ^ 33 ≤ pa % 2 ^ 37 ∧ pa % 2 ^ 37 < 2 ^ 33 + 2 ^ 35)

/-- The capability list of a die (R421): its first record's virtual address, which is below the windows of R30, R444 and R509, the
physical address behind it, and its length, that of the nine records of R422 (log 25). -/
def capVa (die : Nat) : Nat := 8 * (Config.capBase die % 2 ^ 52)
@[inherit_doc capVa] def capPa (die : Nat) : Nat :=
  die * 2 ^ 37 + 2 ^ 24 + 65536 * (Config.capListPa die % 2 ^ 16) + capVa die % 65536
@[inherit_doc capVa] def capLen : Nat := 168

/-- Addresses in the pages that hold the capability list of a die (R421). -/
def inCapPages (die va : Nat) : Bool := decide (capVa die / 65536 * 65536 ≤ va ∧ va / 65536 ≤ (capVa die + capLen - 1) / 65536)

/-- An access to a physical address of this module by domain `mid` (R444, R457, R463, R477): the leaf's type must be the
region's, the access tables must permit it, a launch's leaf never reaches reserved memory, and sealed and verified bytes are not
written. -/
def State.physTarget (s : State) (mid pa va : Nat) (acc : Acc) (leaf : Option Nat) : Reply Target :=
  let go (ty : MemTy) : Reply Target :=
    if !s.permits (s.targetOf pa) mid acc.perm then denied va acc
    else if leaf.isSome && mid != 0 && reservedPa pa then denied va acc
    else if (acc = .write || acc = .rmw) && s.frozen pa then denied va acc
    else .ok (.mem pa ty)
  match s.region pa with
  | .normal _ => if leaf.all (· == 0) then go .normal else denied va acc
  | .quarter _ => if leaf.all (· == 1) then go .quarter else denied va acc
  | .pool => if leaf.all (· == 2) then go .pool else denied va acc
  | .unpopulated => denied va acc

/-- The exit stub: one stop instruction, then zeros (R509). -/
def exitStubByte (off : Nat) : Byte :=
  match off with
  | 0 => 0x4B
  | _ => 0

/-- The working memory of the code that the loader made for a launch: 4 GiB behind the code, and its bytes lie outside the physical map
of R477 (log 14). -/
def Launch.workVa (l : Launch) : Nat := l.entry.toNat + 2 ^ 32
@[inherit_doc Launch.workVa] def workLoc (d : Fin 8) (seq off : Nat) : Nat := 2 ^ 52 + (d.val * 4096 + seq % 4096) * 2 ^ 60 + off
@[inherit_doc Launch.workVa] def State.workAt (s : State) (i : HartId) (va : Nat) : Option Nat :=
  match s.launchOf i with
  | some l => if l.workVa ≤ va ∧ va < l.workVa + l.work then some (workLoc i.die l.seq (va - l.workVa)) else none
  | none => none

/-- Translation and checking of an access of a hart at one address, which is taken modulo 2^56 (log 7). -/
def State.translate (s : State) (i : HartId) (va : Nat) (acc : Acc) : Reply Target :=
  let h := s.hart i
  let va := va % 2 ^ 56
  let vpn := vpnOf va
  if 0x00FFFF0000000000 ≤ va then
    let off := va - 0x00FFFF0000000000
    if acc = .fetch || decide (65536 ≤ off) || (decide (0xF000 ≤ off) && s.pairedCore (coreOf i)) then denied va acc
    else .ok (.mem (tcmLoc (coreOf i) off) .local)
  else if 0x00FFFE0000000000 ≤ va then
    let off := va - 0x00FFFE0000000000
    if acc = .fetch || decide (2 ^ 21 ≤ off) then denied va acc
    else .ok (.mem (scratchLoc (coreOf i) off) .local)
  else if 0x00FC000000000000 ≤ va ∧ va < 0x00FD000000000000 then
    if h.priv then s.physTarget 0 (va - 0x00FC000000000000) va acc none else denied va acc
  else if 0x00FD000000000000 ≤ va ∧ va < 0x00FE000000000000 then
    match s.launchOf i with
    | none => pageFault va acc
    | some l =>
      if l.area ≤ va ∧ va < l.area + 65536 + 4096 * (min l.gangs (1344 / max 1 l.harts) * l.harts) then
        if acc = .fetch || ((acc = .write || acc = .rmw) && decide (va < l.area + 65536)) then denied va acc
        else s.physTarget 0 (l.areaPa + (va - l.area)) va acc none
      else if va < 0x00FD000000010000 then denied va acc
      else pageFault va acc
  else if (s.launchOf i).isSome && inCapPages i.die.val va then
    if acc = .read then s.physTarget 0 (capPa i.die.val - capVa i.die.val % 65536 + (va - capVa i.die.val / 65536 * 65536)) va acc none
    else denied va acc
  else if (s.workAt i va).isSome then
    if acc = .fetch then denied va acc else .ok (.mem ((s.workAt i va).getD 0) .normal)
  else if spaceRoot h.space = 0 then pageFault va acc
  else
    let asid := spaceAsid h.space
    let verified := acc = .fetch && !h.priv
    match (s.die i.die).tlb.find? fun e => e.covers asid vpn && e.verified == verified with
    | none => if h.xnone = some vpn then pageFault va acc else .miss va acc
    | some e =>
      if (!h.priv && !leafU e.w0) || ((acc = .write || acc = .rmw) && !leafW e.w0) || (acc = .fetch && !leafX e.w0)
      then denied va acc
      else if (acc = .write || acc = .rmw) && !leafD e.w0 then
        (if h.xnone = some vpn then pageFault va acc else .miss va acc)
      else
        let pa := leafPa e.level e.w0 va
        let mid := spaceDom h.space
        match leafType e.w0 with
        | 3 => if s.permits (some 84) mid acc.perm then .ok (.peer (leafModule e.w1) pa) else denied va acc
        | 4 => if acc = .write || acc = .rmw || !s.permits (some 84) mid acc.perm then denied va acc
               else .ok (.sealed (leafModule e.w1) (leafVersion e.w0 e.w1) pa)
        | t => s.physTarget mid pa va acc (some t)

/-- The pieces of an access of `n` bytes: one for each 64-byte sector it touches, with its length. The lowest is translated
first, so a fault carries the lowest faulting byte (R188), and a part in an alias window past its size is refused at its
first such byte (R30). -/
def State.piecesFrom (s : State) (i : HartId) (acc : Acc) : Nat → Nat → Nat → Reply (List (Target × Nat))
  | 0, _, _ => .ok []
  | k + 1, va, n =>
    if n = 0 then .ok []
    else
      let m := min n (64 - va % 64)
      match s.translate i va acc with
      | .ok t =>
        match s.piecesFrom i acc k (va + m) (n - m) with
        | .ok ps => .ok ((t, m) :: ps)
        | r => r
      | .trap e => .trap e
      | .miss a c => .miss a c
      | .wait => .wait
@[inherit_doc State.piecesFrom] def State.pieces (s : State) (i : HartId) (va n : Nat) (acc : Acc) :
    Reply (List (Target × Nat)) := s.piecesFrom i acc (n / 64 + 2) va n

/-- A sector with an uncorrectable error among `n` bytes from a location: the first bad byte's offset (R338, R476). -/
def State.badByte (s : State) (loc n : Nat) : Option Nat :=
  if s.poison = [] then none else (List.range n).find? fun k => s.poison.contains ((loc + k) / 64)

/-- DATAERR at an address. -/
def dataErr {α : Type} (va : Nat) (acc : Acc) : Reply α :=
  .trap { cause := .dataerr, acc := acc, tval := BitVec.ofNat 64 (va % 2 ^ 56) }

/-- The new value of an atomic's memory operand (R60, R191, R192) from the old one and the operand; `none` where a compare and
swap fails, `c` being the expected value. -/
def AmoOp.apply (f : AmoOp) (n old x c : Nat) : Option Nat :=
  let w := 8 * n
  match f with
  | .swap => some (trunc w x)
  | .add => some (trunc w (old + x))
  | .and => some (old &&& trunc w x)
  | .or => some (old ||| trunc w x)
  | .xor => some (old ^^^ trunc w x)
  | .min => some (if sext x w < sext old w then trunc w x else old)
  | .max => some (if sext old w < sext x w then trunc w x else old)
  | .minu => some (if trunc w x < old then trunc w x else old)
  | .maxu => some (if old < trunc w x then trunc w x else old)
  | .cas => if old = trunc w c then some (trunc w x) else none
  | .fxL => some (fxAdd old (fxOfInt (sext x 64)))
  | .fxD => some (fxAdd old (fxOfFloat (Fmt.f64.value x)))
  | .fxS => some (fxAdd old (fxOfFloat (Fmt.f32.value x)))
  | .arrive =>
    let a := bitsOf old 31 0 + 1
    let e := bitsOf old 47 32
    some (if e ≤ a then (bitsOf old 63 48 + 1) % 2 ^ 16 * 2 ^ 48 + e * 2 ^ 32 else bitsOf old 63 32 * 2 ^ 32 + a)

/-- Bytes an atomic's memory operand has: 16 for an FX128 cell, else the operand's width. -/
def AmoOp.cell (f : AmoOp) (n : Nat) : Nat :=
  match f with
  | .fxL | .fxD | .fxS => 16
  | _ => n

/-- A byte after the bits of `mask` are written with those of `b` (R122). -/
def mergeByte (mask old b : Byte) : Byte := (old &&& ~~~mask) ||| (b &&& mask)

/-- The byte at `pa` of module `m` after journaled writes, latest first, over the bytes `base`. -/
def afterPosted (base : Nat → Byte) (m : Option Nat) : List Posted → Nat → Byte
  | [], pa => base pa
  | w :: ws, pa =>
    match w.amo with
    | none =>
      if w.module = m ∧ w.pa ≤ pa ∧ pa < w.pa + w.bytes.length then
        mergeByte w.mask (if w.mask = 0xFF then 0 else afterPosted base m ws pa) (w.bytes.getD (pa - w.pa) 0)
      else afterPosted base m ws pa
    | some f =>
      let n := f.cell w.bytes.length
      if w.module = m ∧ w.pa ≤ pa ∧ pa < w.pa + n then
        let old := leNat ((List.range n).map fun k => afterPosted base m ws (w.pa + k))
        (leBytes n ((f.apply w.bytes.length old (leNat w.bytes) 0).getD old)).getD (pa - w.pa) 0
      else afterPosted base m ws pa

/-- The writes the launch of a hart has journaled, which it reads back (R440); latest first. -/
def State.ownWrites (s : State) (i : HartId) : List Posted :=
  match s.launchOf i with
  | none => []
  | some l => ((s.journal.filter fun j => j.die == i.die && j.seq == l.seq).map (·.write)).reverse

/-- A write of the hart that has still to perform touches `n` bytes at `pa`, or at another module their sectors (R493): a later
access of them follows it (R125, kind 1). -/
def Hart.postedOver (h : Hart) (m : Option Nat) (pa n : Nat) : Bool :=
  h.posted.any fun w => w.module = m &&
    (if m.isSome then overlaps (pa / 64) ((pa + n - 1) / 64 + 1 - pa / 64) (w.pa / 64) ((w.pa + w.bytes.length + 63) / 64)
     else overlaps pa n w.pa (w.pa + w.bytes.length))

/-- An access of one piece waits for an earlier write of the hart to perform. -/
def State.awaits (s : State) (i : HartId) (p : Target × Nat) : Bool :=
  match p.1 with
  | .mem loc _ => (s.hart i).postedOver none loc p.2
  | .peer m pa => (s.hart i).postedOver (some m) pa p.2
  | .sealed _ _ _ => false

/-- Bytes read, with the writes the reader's launch has journaled over them (R440). -/
def State.overlay (s : State) (i : HartId) (m : Option Nat) (pa : Nat) (bs : List Byte) : List Byte :=
  match s.ownWrites i with
  | [] => bs
  | ws => (List.range bs.length).map fun k => afterPosted (fun a => if pa ≤ a then bs.getD (a - pa) 0 else 0) m ws (pa + k)

/-- The bytes of one piece (R123, R149, R325, R494). PEER bytes and sealed bytes are free values (log 13). -/
def State.readPiece (s : State) (i : HartId) (va : Nat) (acc : Acc) (p : Target × Nat) : Reply (List Byte) :=
  if s.awaits i p then .wait
  else
  match p with
  | (.mem loc ty, n) =>
    match s.badByte loc n with
    | some k => dataErr (va + k) acc
    | none => if ty = .pool && Config.poolFails loc s.fresh then dataErr va acc else .ok (s.overlay i none loc (s.peekN loc n))
  | (.peer m pa, n) =>
    match Config.peerAnswer m 0 pa s.fresh with
    | 0 => .ok (s.overlay i (some m) pa ((List.range n).map fun k => Config.peerByte m (pa + k) s.fresh))
    | 1 => denied (va % 2 ^ 56) acc
    | _ => dataErr va acc
  | (.sealed m v pa, n) =>
    match Config.peerAnswer m v pa s.fresh with
    | 0 => .ok ((List.range n).map fun k => Config.sealedByte m v (pa + k))
    | 1 => denied (va % 2 ^ 56) acc
    | _ => dataErr va acc

/-- The bytes of all pieces of an access. -/
def State.readPieces (s : State) (i : HartId) (va : Nat) (acc : Acc) : List (Target × Nat) → Reply (List Byte)
  | [] => .ok []
  | p :: ps =>
    match s.readPiece i va acc p with
    | .ok bs =>
      match s.readPieces i (va + p.2) acc ps with
      | .ok bs' => .ok (bs ++ bs')
      | r => r
    | r => r

/-- A read of `n` bytes at `va` by a hart, after translation. -/
def State.readBytes (s : State) (i : HartId) (va n : Nat) (acc : Acc) : Reply (List Byte) :=
  match s.pieces i va n acc with
  | .ok ps => s.readPieces i va acc ps
  | .trap e => .trap e
  | .miss a c => .miss a c
  | .wait => .wait

/-- The type rules of one piece of a plain scalar access: misaligned POOL and PEER accesses trap ALIGN (R188). -/
def pieceAlign (n va : Nat) (acc : Acc) (ps : List (Target × Nat)) : Option Exc :=
  if va % n = 0 then none
  else if ps.any fun (t, _) => match t with | .peer _ _ => true | .mem _ .pool => true | _ => false
  then some (alignExc (BitVec.ofNat 64 va) acc) else none

/-- The launch of a hart records the granules it writes (R434). -/
def State.noteWrite (s : State) (i : HartId) (va : Nat) : State :=
  match s.launchOf i with
  | none => s
  | some l =>
    let g := va % 2 ^ 56 / 65536
    if l.written.contains g then s
    else s.setDie i.die ((s.die i.die).mapLaunch l.seq fun l => { l with written := l.written ++ [g] })

/-- A write of the hart to this target goes into its die's journal instead of performing (R440). -/
def State.journals (s : State) (i : HartId) (t : Target) : Bool :=
  match t with
  | .mem _ .pool | .peer _ _ => (s.launchOf i).any (·.extj)
  | _ => false

/-- The outbound journal of a die is full (R440). -/
def State.journalFull (s : State) (d : Fin 8) : Bool :=
  let n := (s.journal.filter fun j => j.die == d).length
  n != 0 && Config.journalFull n

/-- A write of the pieces of an access can be made now: goes on where none waits for an earlier write of the hart to perform
(R125), or for room in its die's journal (R440). -/
def State.writable {α : Type} (s : State) (i : HartId) (ps : List (Target × Nat)) (r : Reply α) : Reply α :=
  if ps.any (s.awaits i) || (s.journalFull i.die && ps.any fun p => s.journals i p.1) then .wait else r

/-- A write of a hart as it leaves it, to one piece. -/
def Hart.outgoing (h : Hart) (va : Nat) (t : Target) (bs : List Byte) (mask : Byte) (rel : Option (BitVec 3)) : Posted :=
  { va := BitVec.ofNat 64 va, module := (match t with | .mem _ _ => none | .peer m _ | .sealed m _ _ => some m),
    pa := (match t with | .mem loc _ => loc | .peer _ pa | .sealed _ _ pa => pa), bytes := bs, mask := mask, amo := none,
    after := h.transfers, rel := rel }

/-- A write leaves the hart and performs later (R128). -/
def State.post (s : State) (i : HartId) (w : Posted) : State :=
  s.setHart i { s.hart i with posted := (s.hart i).posted ++ [w] }

/-- A write to POOL or PEER memory of an EXTJ launch is journaled instead of performing (R440). -/
def State.toJournal (s : State) (i : HartId) (w : Posted) : State :=
  match s.launchOf i with
  | some l => { s with journal := s.journal ++ [{ die := i.die, seq := l.seq, hart := hartKey i, write := w }] }
  | none => s

/-- DATAERR for a write to POOL or PEER memory that failed (R491, R494). -/
def lostExc (va : Word) : Exc := { cause := .dataerr, acc := .write, tval := va, origin := .remote }

/-- A POOL or PEER write of the hart failed: its next fence or system-scope release reports it (R491, R494). -/
def State.lostWrite (s : State) (i : HartId) (va : Word) : State :=
  s.setHart i { s.hart i with wfail := (s.hart i).wfail.orElse fun _ => some va }

/-- Sectors of a list are good again (R476). -/
def State.cure (s : State) (p : Nat → Bool) : State :=
  { s with poison := s.poison.filter fun c => !p c, rewritten := s.rewritten.filter fun q => !p q.1 }

/-- The bytes of sector `c` among `n` bytes from a location, as bits. -/
def sectorBits (c loc n : Nat) : Nat := ((List.range 64).map fun b => boolN (decide (loc ≤ 64 * c + b ∧ 64 * c + b < loc + n)) * 2 ^ b).sum

/-- A write narrower than a bad sector goes to a cached copy of it: once each byte of that copy has been written since it was fetched, its
write-back makes the sector good (R476). Whether the copy of the writes before is still cached is a free value (log 38). -/
def State.rewrite (s : State) (c loc n : Nat) : State :=
  let old := if Config.cached (64 * c) s.fresh then Map.get 0 s.rewritten c else 0
  let new := old ||| sectorBits c loc n
  if new = 2 ^ 64 - 1 then s.cure (· == c) else { s with rewritten := Map.set 0 s.rewritten c new }

/-- An uncorrectable sector keeps its state under a narrower write; a write of the whole sector at once clears it, and so does the
write-back of a copy that has been rewritten whole (R476). -/
def State.healed (s : State) (loc n : Nat) : State :=
  if s.poison = [] then s
  else
    let s := s.cure fun c => decide (loc ≤ 64 * c ∧ 64 * c + 64 ≤ loc + n)
    (s.poison.filter fun c => overlaps loc n (64 * c) (64 * c + 64)).foldl (fun s c => s.rewrite c loc n) s

/-- The ranges `rs` (address and length) have been written by one transfer of the engine: a sector all of whose bytes they
cover is good again (R476). -/
def State.healAll (s : State) (i : HartId) (rs : List (Nat × Nat)) : State :=
  if s.poison = [] then s
  else
    let ps := rs.filterMap fun (va, n) => match s.translate i va .write with | .ok (.mem loc _) => some (loc, n) | _ => none
    s.cure fun c => (List.range 64).all fun b => ps.any fun (lo, n) => decide (lo ≤ 64 * c + b ∧ 64 * c + b < lo + n)

/-- The bytes element `n` of a strided walk touches (R250): its first bit counted from BASE's byte, in bits. -/
def Stream.elemAddr (t : Stream) (n : Nat) : Nat × Nat :=
  let e := fun k => max 1 (t.extent.getD k 0)
  let i0 := n % e 0
  let i1 := n / e 0 % e 1
  let i2 := n / (e 0 * e 1) % e 2
  let i3 := n / (e 0 * e 1 * e 2) % e 3
  let st := fun k => t.stride.getD k (0 : Word)
  let up := BitVec.ofNat 64 i1 * st 1 + BitVec.ofNat 64 i2 * st 2 + BitVec.ofNat 64 i3 * st 3
  if 8 ≤ t.width then ((t.base + BitVec.ofNat 64 i0 * st 0 + up).toNat % 2 ^ 56, 0)
  else (((t.base + up).toNat + i0 * t.width / 8) % 2 ^ 56, i0 * t.width % 8)

/-- The number of elements of a walk (R250): N is the product of the extents of its dimensions. -/
def Stream.count (t : Stream) : Nat :=
  let e := fun k => t.extent.getD k 0
  if e 1 = 0 ∧ e 2 = 0 ∧ e 3 = 0 then e 0
  else e 0 * max 1 (e 1) * max 1 (e 2) * max 1 (e 3)

/-- Bytes per destination element of a copy: packed at WIDTH, or an FX128 cell (R267). -/
def Stream.destBits (t : Stream) : Nat :=
  match t.form with
  | .addl | .addd | .adds => 128
  | _ => t.width

/-- Some element the entry has not passed writes a byte of the sectors `[lo, hi)` (R137). -/
def Hart.pendingWrite (h : Hart) (e : Entry) (lo hi : Nat) : Bool :=
  let t := h.stm[e.stream]
  match e.kind with
  | .copy | .copyAdd => overlaps lo (hi - lo) (e.wrlo + e.progress * t.destBits / 8) e.wrhi
  | _ => overlaps lo (hi - lo) e.wrlo e.wrhi

/-- Some element the entry has not passed reads a byte of the sectors `[lo, hi)` (R137, R316). -/
def Hart.pendingRead (h : Hart) (e : Entry) (lo hi : Nat) : Bool :=
  let t := h.stm[e.stream]
  match e.kind with
  | .copy | .copyAdd =>
    overlaps lo (hi - lo) e.rdlo e.rdhi &&
      (List.range (t.count - e.progress)).any fun k =>
        overlaps (t.elemAddr (e.progress + k)).1 (max 1 (t.width / 8)) lo hi
  | .kerb | .tongs =>
    let size := match t.job with | some j => (e.rdhi - e.rdlo) / max 1 j.count | none => 0
    overlaps lo (hi - lo) (e.rdlo + e.progress * size) e.rdhi
  | _ => overlaps lo (hi - lo) e.rdlo e.rdhi

/-- An access of `len` bytes at `lo` must wait on the entry: the check compares 64-byte sectors (R137). -/
def Hart.entryHolds (h : Hart) (e : Entry) (acc : Acc) (lo len : Nat) : Bool :=
  let slo := lo / 64 * 64
  let shi := (lo + len + 63) / 64 * 64
  if acc = .read || acc = .fetch then h.pendingWrite e slo shi
  else h.pendingWrite e slo shi || h.pendingRead e slo shi

/-- The unreported error of a stream whose ended transfer an access would have waited on (R271). -/
def Hart.errorOver (h : Hart) (acc : Acc) (lo len : Nat) : Option Exc :=
  h.stm.toList.findSome? fun t =>
    match t.err with
    | some x => if !t.rpt && t.failed.any fun e => h.entryHolds e acc (lo % 2 ^ 56) len then some x else none
    | none => none

/-- The first unreported error of the hart's streams. -/
def Hart.firstError (h : Hart) : Option Exc :=
  h.stm.toList.findSome? fun t => if t.state = .error && !t.rpt then t.err else none

/-- An entry made before the transfer with number `no` holds an access of that transfer (R137). -/
def Hart.heldBefore (h : Hart) (no : Nat) (acc : Acc) (lo len : Nat) : Bool :=
  h.ilock.any fun e => decide (e.no < no) && h.entryHolds e acc (lo % 2 ^ 56) len

/-- A transfer takes its place in program order with its entries (R135, R136). -/
def Hart.enter (h : Hart) (es : List Entry) : Hart :=
  { h with ilock := h.ilock ++ es.map (fun e => { e with no := h.transfers }), transfers := h.transfers + 1 }

/-- A transfer issued again takes its old place in program order (R318). -/
def Hart.enterAt (h : Hart) (no : Nat) (es : List Entry) : Hart :=
  { h with ilock := (h.ilock.filter fun e => decide (e.no < no)) ++ es.map (fun e => { e with no := no })
      ++ h.ilock.filter fun e => !decide (e.no < no) }

/-- An acquire discards every strip the stream engine has fetched ahead and not consumed (R130). -/
def Hart.discardAhead (h : Hart) : Hart :=
  { h with stm := h.stm.map fun t => if t.mode = 0 then { t with fetched := t.pos } else t }

/-- Hops between two dies (R19). -/
def hops (d e : Nat) : Nat :=
  let diff := fun (a b : Nat) => (a - b) + (b - a)
  diff (d / 4 % 2) (e / 4 % 2) + diff (d % 4) (e % 4)

/-- The die whose stacks hold an HBM address. -/
def State.homeDie (s : State) (loc : Nat) : Option Nat :=
  match s.region loc with
  | .normal d => some d
  | .quarter st => some (st / 2)
  | _ => none

/-- The entry of the die TLB that translates an access of a hart at an address, where page tables do (R454). -/
def State.pagedBy (s : State) (i : HartId) (va : Nat) : Option TlbEntry :=
  let va := va % 2 ^ 56
  if 0x00FC000000000000 ≤ va ∨ spaceRoot (s.hart i).space = 0 ∨ (s.workAt i va).isSome = true
    ∨ ((s.launchOf i).isSome && inCapPages i.die.val va) = true then none
  else (s.die i.die).tlb.find? fun e => !e.verified && e.covers (spaceAsid (s.hart i).space) (vpnOf va)

/-- What a core TLB keeps of an entry of the die TLB. -/
def TlbEntry.tag (e : TlbEntry) : Nat × Nat × Nat := (e.asid, e.level, e.vpn / 2 ^ levelBits e.level)

/-- Cycles that the translation of an access adds: 24 where the core TLB misses and the die TLB hits (R454). -/
def State.tlbDelay (s : State) (i : HartId) (va : Nat) : Nat :=
  match s.pagedBy i va with
  | some e => if (s.core (coreOf i)).tlb.contains e.tag then 0 else 24
  | none => 0

/-- The core TLB takes the translation of an access; a full one drops an entry, and which is open (R454; log 101). -/
def State.touched (s : State) (i : HartId) (va : Nat) : State :=
  match s.pagedBy i va with
  | none => s
  | some e =>
    let c := s.core (coreOf i)
    if c.tlb.contains e.tag then s
    else
      let old := if c.tlb.length < 512 then c.tlb else c.tlb.eraseIdx (Config.choice s.fresh % 512)
      s.setCore (coreOf i) { c with tlb := old ++ [e.tag] }

/-- A location of a scratchpad, and the bank of an 8-byte word there, as `scratch` keys it (R30, R32). -/
def inScratch (loc : Nat) : Bool := decide (2 ^ 49 ≤ loc ∧ loc < 2 ^ 50)
@[inherit_doc inScratch] def bankOfWord (w : Nat) : Nat := (8 * w - 2 ^ 49) / 2 ^ 21 * 64 + w % 64

/-- An access of `n` bytes by hart `i` reaches the scratchpad banks of its words, each a requester once (R32); `who` is the hart whose
LATCNT counts its wait. -/
def State.atBanks (s : State) (i : HartId) (loc n : Nat) (who : Option Nat) : State :=
  if !inScratch loc then s
  else
    let words := (List.range ((loc + n + 7) / 8 - loc / 8)).map (loc / 8 + ·)
    { s with scratch := words.foldl (fun m w =>
        let b := Map.get ScratchBank.reset m (bankOfWord w)
        let r : BankRequest := { core := coreKey (coreOf i) % 8, since := s.cycle, word := w, who := who }
        if b.queue.contains r then m else Map.set ScratchBank.reset m (bankOfWord w) { b with queue := b.queue ++ [r] }) s.scratch }

/-- The requester that a bank serves next: of the first core after the one it served last, the oldest (R32). -/
def ScratchBank.next (b : ScratchBank) : Option BankRequest :=
  (List.range 8).findSome? fun k => b.queue.find? (·.core == (b.last + 1 + k) % 8)

/-- A requester of the line is still waiting at some bank. -/
def State.lineWaits (s : State) (r : BankRequest) : Bool :=
  s.scratch.any fun (_, b) => b.queue.any fun q => q.who == r.who && q.since == r.since && q.word / 32 == r.word / 32

/-- A bank serves one requester (R32); with the last one of a load, or of a line of a load stream, its wait counts in LATCNT (R33). -/
def State.bankServe (s : State) (k : Nat) : State :=
  let b := Map.get ScratchBank.reset s.scratch k
  match b.next with
  | none => s
  | some r =>
    let s := { s with scratch := Map.set ScratchBank.reset s.scratch k { last := r.core, queue := b.queue.erase r } }
    match r.who with
    | none => s
    | some q =>
      if s.lineWaits r then s
      else
        let h := s.hart (hartIdOf q)
        s.setHart (hartIdOf q) { h with
          latcnt := h.latcnt + BitVec.ofNat 64 (s.cycle - r.since),
          reads := h.reads.filter fun x => !(x.pa / 256 == r.word / 32 && x.arrives == r.since) }

/-- A cycle of every scratchpad bank with a requester (R32). -/
def State.bankCycle (s : State) : State :=
  (s.scratch.filter fun p => !p.2.queue.isEmpty).foldl (fun s p => s.bankServe p.1) s

/-- Cycles pass at the scratchpad banks. -/
def State.bankCycles (s : State) : Nat → State
  | 0 => s
  | n + 1 =>
    if s.scratch.all fun p => p.2.queue.isEmpty then { s with cycle := s.cycle + (n + 1) }
    else ({ s.bankCycle with cycle := s.cycle + 1 } : State).bankCycles n

/-- A read of HBM memory by hart `i` that misses the caches goes to its controller, where it arrives later (R33, R484); whether it
misses is a free value (log 86). -/
def State.misses (s : State) (i : HartId) (loc extra : Nat) (dest : Option (Fin 32)) : State :=
  match s.homeDie loc with
  | none => s
  | some d =>
    let h := s.hart i
    let r : Read := { pa := loc, arrives := s.cycle + extra + 120 + 20 * hops i.die.val d, counts := true, dest := dest, queued := false,
                      usable := none }
    let old := h.reads.filter fun r => r.usable.all fun t => decide (s.cycle < t)
    s.setHart i { h with reads := if Config.cached loc s.fresh then old else old ++ [r] }

/-- A read of a location for a load into a register, or a line for a load stream: what translation adds, and its wait in the
scratchpad's banks or at a controller, all of which LATCNT counts (R33, R454). -/
def State.readAt (s : State) (i : HartId) (va loc n : Nat) (dest : Option (Fin 32)) : State :=
  let extra := s.tlbDelay i va
  let s := s.touched i va
  let h := s.hart i
  let s := s.setHart i { h with latcnt := h.latcnt + BitVec.ofNat 64 extra }
  if inScratch loc then
    let h := s.hart i
    let r : Read := { pa := loc, arrives := s.cycle, counts := true, dest := dest, queued := true, usable := none }
    (s.setHart i { h with reads := if dest.isSome then h.reads ++ [r] else h.reads }).atBanks i loc n (some (hartKey i))
  else s.misses i loc extra dest

/-- A load whose result the instruction reads has not returned (R189). -/
def State.awaitsLoad (s : State) (i : HartId) (rs : List (Fin 32)) : Bool :=
  (s.hart i).reads.any fun r => r.dest.any rs.contains && r.usable.all fun t => decide (s.cycle < t)

/-- Goes on where no entry of the interlock table holds the access; else it reports an error, or waits (R137, R271). -/
def Hart.guard {α : Type} (h : Hart) (acc : Acc) (lo len : Nat) (r : Reply α) : Reply α :=
  match h.errorOver acc lo len with
  | some e => .trap e
  | none => if h.ilock.any fun e => h.entryHolds e acc (lo % 2 ^ 56) len then .wait else r

end Sys2Proof.Machine
end

