-- ==== Sys2Proof/Machine/MemCtl.lean ====
section
/-! DEFINITION. The memory controllers (spec/20_memory_and_fabric.md R475-R488): which channel and bank an address lies in,
requests and refresh, refresh-trace mode, and the power states of a channel. -/

namespace Sys2Proof.Machine

/-- BMAP of a channel: its good banks in ascending order (R478). -/
def State.goodBanks (s : State) (ch : Nat) : List Nat := (List.range 32).filter fun b => !bitAt (s.badBanks ch) b

/-- The quarter channel of a window offset, counted within the stack's quarter set, and the offset in it (R301). -/
def quarterPlace (q off : Nat) : Nat × Nat := (off / 8192 % q, off / (8192 * q) * 8192 + off % 8192)

/-- A place in HBM4E (R475, R479): module channel, bank, row, and 256-byte column-line of the row. -/
structure Spot where
  ch : Nat
  bank : Nat
  row : Nat
  col : Nat
deriving DecidableEq, Repr

/-- The place of an address in a channel and a bank (R301, R479). -/
def State.placeOf (s : State) (pa : Nat) : Option Spot :=
  let place := fun (ch l w : Nat) =>
    let y := w / 256
    some ({ ch := ch, bank := (s.goodBanks ch).getD (y % l) 0, row := y / l / 4, col := y / l % 4 } : Spot)
  match s.region pa with
  | .normal d =>
    let chs := s.interleaved d
    let o := pa % 2 ^ 37
    let line := o / 256
    place (chs.getD (line % chs.length) 0) (32 - s.mDie d) (line / chs.length * 256 + o % 256)
  | .quarter st =>
    let (k, w) := quarterPlace (s.quarterCount st) ((pa - 2 ^ 40) % 2 ^ 36)
    place ((s.quarterChannels st).getD k 0) (32 - s.mStack st) w
  | _ => none

/-- The module channel and the bank of an address (R301, R479). -/
def State.bankOf (s : State) (pa : Nat) : Option (Nat × Nat) := (s.placeOf pa).map fun p => (p.ch, p.bank)

/-- A bank of a channel. -/
def Channel.bank (c : Channel) (b : Nat) : Bank := Map.get Bank.reset c.banks b
@[inherit_doc Channel.bank] def Channel.setBank (c : Channel) (b : Nat) (x : Bank) : Channel :=
  { c with banks := Map.set Bank.reset c.banks b x }

/-- The banks of a bank set, and of a pseudo-channel (R475, R483). -/
def setBanks (g : Nat) : List Nat := [4 * g, 4 * g + 1, 4 * g + 2, 4 * g + 3]
@[inherit_doc setBanks] def pcBanks (p : Nat) : List Nat := (List.range 16).map (16 * p + ·)

/-- A bank set is active at a cycle: a request arrived within 512 cycles, or waits (R483). -/
def Channel.active (c : Channel) (g now : Nat) : Bool :=
  let a := Map.get 0 c.lastArrival g
  (a != 0 && decide (now < a + 511)) || (setBanks g).any fun b => !(c.bank b).queue.isEmpty

/-- POSTPONED of a bank set (R483). -/
def Channel.postponed (c : Channel) (g : Nat) : Nat := ((setBanks g).map fun b => (c.bank b).debt).sum

/-- No access and no refresh is under way in a bank. -/
def Bank.idle (b : Bank) : Bool := !b.access && !b.refresh

/-- A per-bank refresh begins (R482). -/
def Bank.refreshed (b : Bank) (now : Nat) : Bank := { b with refresh := true, owed := false, free := now + 320 }

/-- Forced all-bank refreshes of a pseudo-channel begin once each of its banks is idle (R483). -/
def Channel.force (c : Channel) (p now : Nat) : Channel :=
  let n := Map.get 0 c.forced p
  if n = 0 ∨ (pcBanks p).any (fun b => !(c.bank b).idle) = true then c
  else
    let c := (pcBanks p).foldl (fun c b => c.setBank b { c.bank b with refresh := true, free := now + 700 * n }) c
    { c with forced := Map.set 0 c.forced p 0 }

/-- Debts of an inactive set are paid by per-bank refreshes of its idle banks (R483). -/
def Channel.pay (c : Channel) (g now : Nat) : Channel :=
  if c.active g now then c
  else (setBanks g).foldl (fun c b =>
    let x := c.bank b
    if x.idle && x.debt != 0 then c.setBank b { x.refreshed now with debt := x.debt - 1 } else c) c

/-- A due of a bank (R483): in a refresh it is kept for its end; of an inactive set a refresh follows; else it is postponed,
or forces all-bank refreshes. -/
def Channel.due (c : Channel) (b now : Nat) : Channel :=
  let x := c.bank b
  let p := b / 16
  if x.refresh then c.setBank b { x with late := x.late + 1 }
  else if !c.active (b / 4) now then
    c.setBank b (if x.access then { x with owed := true } else x.refreshed now)
  else if c.postponed (b / 4) < 8 then c.setBank b { x with debt := x.debt + 1 }
  else
    let n := (pcBanks p).foldl (fun m k => max m ((c.bank k).debt + boolN (k == b))) 0
    let c := (pcBanks p).foldl (fun c k => c.setBank k { c.bank k with debt := 0 }) c
    { c with forced := Map.set 0 c.forced p (Map.get 0 c.forced p + n) }.force p now

/-- The cycle of a bank's next due (R483); none where its set waits for its first request (R486). -/
def Channel.nextDue (c : Channel) (b : Nat) : Option Nat :=
  if Map.get false c.armed (b / 4) then none
  else some (Map.get 0 c.t0 (b / 4) + 7800 * (c.bank b).dueNo + 1950 * (b % 4) + 60 * (b / 4))

/-- Nothing is under way in a channel, and no set of it is active at its banks' next dues: until the next request its dues are met by
per-bank refreshes that nothing sees. -/
def Channel.resting (c : Channel) : Bool :=
  c.forced.isEmpty && c.changing.isNone && (c.banks.all fun (_, b) => b.idle && b.queue.isEmpty && b.debt == 0 && !b.owed)
    && (List.range 32).all fun b => (c.nextDue b).all fun t => !c.active (b / 4) t

/-- The dues of a resting channel before a cycle have been met, each by a per-bank refresh; the last of a bank may be under way (R482,
R483). -/
def Channel.quietUntil (c : Channel) (now : Nat) : Channel :=
  (List.range 32).foldl (fun c b => match c.nextDue b with
    | none => c
    | some t =>
      if now ≤ t then c
      else
        let k := (now - 1 - t) / 7800
        let last := t + 7800 * k
        let x := { c.bank b with dueNo := (c.bank b).dueNo + k + 1 }
        c.setBank b (if now < last + 320 then x.refreshed last else x)) c

/-- The channel as it stands at a cycle. -/
def Channel.upTo (c : Channel) (now : Nat) : Channel :=
  { (if c.resting then c.quietUntil now else c) with now := max c.now now }

/-- Dues kept during a refresh are treated at its end (R483). -/
def Channel.lateDues (c : Channel) (b now : Nat) : Nat → Channel
  | 0 => c
  | n + 1 => (c.due b now).lateDues b now n

/-- A refresh ends (R482, R483). -/
def Channel.endRefresh (c : Channel) (bank now : Nat) : Channel :=
  let b := c.bank bank
  ((c.setBank bank { b with refresh := false, late := 0 }).lateDues bank now b.late).force (bank / 16) now

/-- An access ends, and a refresh that waits for it begins (R475, R483). -/
def Channel.endAccess (c : Channel) (bank now : Nat) : Channel :=
  let b := { c.bank bank with access := false }
  (c.setBank bank (if b.owed then b.refreshed now else b)).force (bank / 16) now

/-- STATE of a channel: 0 ACTIVE, 1 PDOWN, 2 SREF, 3 changing (R487). -/
def Channel.state (c : Channel) : Nat := c.power % 4

/-- The channel begins to enter a state, which it can enter from a cycle on (R487). -/
def Channel.change (c : Channel) (target at_ : Nat) : Channel :=
  { c with power := c.power / 4 * 4 + 3, changing := some (target, at_), called := false }

/-- Cycles that a channel takes to leave PDOWN, and SREF (R487). -/
def wakeCycles (state : Nat) : Nat := if state = 1 then 30 else 500

/-- A request or a kerb command reaches a channel: it wakes one in PDOWN or SREF, and one that is entering them as soon as it has
(R487). -/
def Channel.wake (c : Channel) (now : Nat) : Channel :=
  if c.state = 1 ∨ c.state = 2 then c.change 0 (now + wakeCycles c.state)
  else if c.state = 3 then { c with called := true }
  else c

/-- The memory control block and the fleet block of a die, and the module channels of a die (R480, R497). -/
def controlBlock (d : Nat) : Nat := 0xA0000 + d * 0x1000
@[inherit_doc controlBlock] def fleetBlock (d : Nat) : Nat := 0xB0000 + d * 0x1000
@[inherit_doc controlBlock] def dieChannels (d : Nat) : List Nat := (List.range 64).map (64 * d + ·)

/-- Channels of a die, each changed. -/
def State.eachChannel (s : State) (d : Nat) (f : Channel → Channel) : State :=
  (dieChannels d).foldl (fun s ch => s.setChannel ch (f (s.channel ch))) s

/-- TRACE of a die's REFCTL (R486). -/
def State.tracing (s : State) (d : Nat) : Bool := bitAt (s.peekNat (controlBlock d + 64) 8) 0

/-- The power words show the channels' state (R487). -/
def State.showPower (s : State) (ch : Nat) : State :=
  s.pokeNat (controlBlock (ch / 64) + 256 + 8 * (ch % 64)) 8 (s.channel ch).power

/-- A channel's new contents, shown in its power word (R487). -/
def State.putChannel (s : State) (ch : Nat) (c : Channel) : State :=
  let old := (s.channel ch).power
  let s := s.setChannel ch c
  if c.power = old then s else s.showPower ch

/-- A request or a kerb command reaches a channel now (R487). -/
def State.wakeChannel (s : State) (ch : Nat) : State := s.putChannel ch (((s.channel ch).upTo s.cycle).wake s.cycle)

/-- The module channels of a list of quarter-window ranges (R301): addresses with their lengths. -/
def State.unitsOf (s : State) : List (Nat × Nat) → List Nat
  | [] => []
  | (pa, n) :: l =>
    let rest := s.unitsOf l
    match s.region pa with
    | .quarter st =>
      let q := s.quarterCount st
      let k := (pa - 2 ^ 40) % 2 ^ 36 / 8192
      let m := ((pa - 2 ^ 40) % 2 ^ 36 + n - 1) / 8192 + 1 - k
      (List.range (min q m)).foldl (fun us j =>
        let c := (s.quarterChannels st).getD ((k + j) % q) 0
        if us.contains c then us else us ++ [c]) rest
    | _ => rest

/-- A pool command of some hart still holds cells in the unit of a module channel (R488). -/
def State.unitLive (s : State) (ch : Nat) : Bool :=
  s.harts.any fun (_, h) => h.stm.toList.any fun t =>
    t.job.any fun j => j.kind == 1 && j.units.any fun u => u.1 == ch && decide (u.2 < j.bound)

/-- Commands in the queue of a unit (R303). -/
def State.unitQueue (s : State) (ch : Nat) : Nat :=
  (s.harts.map fun (_, h) => (h.stm.toList.filter fun t => t.job.any fun j => j.units.any fun u => u.1 == ch && decide (u.2 < j.bound)).length).sum

/-- All debts of a channel are paid with all-bank refreshes (R486, R487). -/
def Channel.payAll (c : Channel) (now : Nat) : Channel :=
  [0, 1].foldl (fun c p =>
    let n := (pcBanks p).foldl (fun m k => max m (c.bank k).debt) 0
    let c := (pcBanks p).foldl (fun c k => c.setBank k { c.bank k with debt := 0 }) c
    { c with forced := Map.set 0 c.forced p (Map.get 0 c.forced p + n) }.force p now) c

/-- A pool command that has cells in the unit of a channel, the oldest there (R302, R488). -/
def State.poolAt (s : State) (ch : Nat) : Option (HartId × Fin 16) :=
  let live := s.harts.flatMap fun (k, h) => (List.finRange 16).filterMap fun st =>
    h.stm[st].job.bind fun j =>
      if j.kind == 1 && j.units.any fun u => u.1 == ch && decide (u.2 < j.bound) then some (j.arrival, hartIdOf k, st) else none
  (live.foldl (fun m x => match m with | some y => if y.1 ≤ x.1 then m else some x | none => some x) none).map (·.2)

/-- The cells that a unit holds for the bag in hand: a row's columns, and at most 4,096 at a time, a wider row being added in parts (R306,
R311, R488). -/
def KerbJob.cells (j : KerbJob) : Nat :=
  min 4096 (2 ^ bitsOf j.ctrl 35 32 / (match bitsOf j.ctrl 7 4 with | 0 => 4 | 1 => 2 | 2 => 2 | 3 => 1 | 4 => 4 | _ => 1))

/-- A pool or a top-k command that met an error before its results: none is delivered (R319). -/
def KerbJob.void (j : KerbJob) : KerbJob :=
  { j with bound := 0, scanned := 0, data := [], units := j.units.map fun u => (u.1, 0) }

/-- The unit of a channel restores the cells it saved: one that cannot be read ends its command as R319 states (R488). Whether one can is a
free value (log 102). -/
def State.restoreCells (s : State) (ch : Nat) : State :=
  match s.poolAt ch with
  | none => s
  | some (i, st) =>
    let h := s.hart i
    let t := h.stm[st]
    match t.job with
    | none => s
    | some j =>
      if (List.range j.cells).any fun k => Config.saveFails ch k s.fresh then
        s.setHart i { h with stm := h.stm.set st { t with
          job := some j.void, ready := [],
          err := some { cause := .dataerr, acc := .read, tval := BitVec.ofNat 64 j.src, stream := some st } } }
      else s

/-- The request that a channel has to serve: the device's own before that of its power word (R487; log 103). -/
def Channel.request (c : Channel) : Nat × Bool := c.asked.getD (c.power / 4 % 4, bitAt c.power 4)

/-- The request for a state has been served (R487). -/
def Channel.served (c : Channel) (req : Nat) : Channel :=
  if c.asked.any (·.1 == req) then { c with asked := none }
  else if c.power / 4 % 4 = req then { c with power := c.power % 4 + c.power / 16 * 16 }
  else c

/-- The channel with DEFER, or without, and with SAVED, or as it was (R487, R488). -/
def Channel.defer (c : Channel) (on : Bool) : Channel := { c with power := c.power % 32 + boolN on * 32 + c.power / 64 * 64 }
@[inherit_doc Channel.defer] def Channel.save (c : Channel) (on : Bool) : Channel := { c with power := c.power % 64 + boolN on * 64 }

/-- A request that stands for a channel is served, deferred or kept (R486-R488). SAVED is set where a forced entry finds live
accumulators. In refresh-trace mode every request for a low-power state waits. -/
def State.servePower (s : State) (ch : Nat) : State :=
  let c := (s.channel ch).upTo s.cycle
  let (req, force) := c.request
  let live := s.unitLive ch
  s.putChannel ch
    (if c.state = 3 ∨ req = 0 then c
    else if req = 3 then (if c.state = 0 then c.served 3 else c.change 0 (s.cycle + wakeCycles c.state))
    else if s.tracing (ch / 64) = true then c
    else if c.state = req then c.served req
    else if live && !force then c.defer true
    else
      let c := (c.defer false).save (live || bitAt c.power 6)
      (if req = 2 then c.payAll s.cycle else c).change req s.cycle)

/-- A request written to a channel's power word, REQ and FORCE (R487). -/
def State.requestPower (s : State) (ch req : Nat) (force : Bool) : State :=
  let c := s.channel ch
  (s.putChannel ch { c with power := c.power % 4 + req * 4 + boolN force * 16 + c.power / 32 * 32 }).servePower ch

/-- A request of the governor, or of a thermal emergency, which leaves REQ and FORCE of the power word alone (R487, R488). -/
def State.deviceRequest (s : State) (ch req : Nat) (force : Bool) : State :=
  (s.setChannel ch { s.channel ch with asked := some (req, force) }).servePower ch

/-- CHANNEL_REQ_PDOWN, CHANNEL_REQ_SREF, CHANNEL_REQ_ACTIVE: domain 0 writes a request to a channel's power word (R487, R488). -/
def execChannelReqPdown (ch : Fin 512) (force : Bool) (s : State) : Out := .next (s.requestPower ch.val 1 force)
@[inherit_doc execChannelReqPdown] def execChannelReqSref (ch : Fin 512) (force : Bool) (s : State) : Out :=
  .next (s.requestPower ch.val 2 force)
@[inherit_doc execChannelReqPdown] def execChannelReqActive (ch : Fin 512) (s : State) : Out :=
  .next (s.requestPower ch.val 3 false)

/-- CHANNEL_DEFERRED_ENTRY: a deferred request is served once the unit holds no live accumulators (R488). -/
def execChannelDeferredEntry (ch : Fin 512) (s : State) : Out :=
  .next (if bitAt (s.channel ch.val).power 5 && !s.unitLive ch.val then s.servePower ch.val else s)

/-- The events of a channel's controller (R483, R484, R487). -/
inductive MemEvent where
  | arrive (hart pa : Nat)
  | endAccess (bank : Nat)
  | endRefresh (bank : Nat)
  | changed
  | due (bank : Nat)
  | pay (set : Nat)
  | serve (bank : Nat)
deriving DecidableEq, Repr

/-- The reads on their way to a channel, by the hart they are for. -/
def State.arrivals (s : State) (ch : Nat) : List (Nat × MemEvent) :=
  s.harts.flatMap fun (k, h) => h.reads.filterMap fun r =>
    if !r.queued && (s.bankOf r.pa).any (·.1 == ch) then some (r.arrives, .arrive k r.pa) else none

/-- The oldest request of a bank can be served from this cycle on (R484, R487). -/
def Channel.servable (c : Channel) (b : Nat) : Option Nat :=
  let x := c.bank b
  match x.queue with
  | [] => none
  | (_, a) :: _ =>
    if !x.idle || x.owed || Map.get 0 c.forced (b / 16) != 0 || c.state != 0 then none else some (max a (max x.free c.upAt))

/-- A set with debts in an idle bank becomes inactive at this cycle (R483). -/
def Channel.payable (c : Channel) (g : Nat) : Option Nat :=
  if (setBanks g).any (fun b => (c.bank b).idle && (c.bank b).debt != 0) && (setBanks g).all fun b => (c.bank b).queue.isEmpty then
    some (if Map.get 0 c.lastArrival g = 0 then c.now else max c.now (Map.get 0 c.lastArrival g + 511))
  else none

/-- The state that the channel is changing to can be entered at this cycle: the debts are paid (R487). -/
def Channel.settledAt (c : Channel) : Option Nat :=
  match c.changing with
  | none => none
  | some (target, t) =>
    if target = 2 ∧ (c.forced ≠ [] ∨ (List.range 32).any (fun b => (c.bank b).refresh) = true) then none else some (max t c.now)

/-- The events that a channel of its own has before it, each with its cycle, in the order in which those of one cycle are taken (R483;
log 103). -/
def Channel.events (c : Channel) : List (Nat × MemEvent) :=
  if c.resting then []
  else
    let banks := List.range 32
    (banks.filterMap fun b => if (c.bank b).access then some ((c.bank b).free, .endAccess b) else none)
      ++ (banks.filterMap fun b => if (c.bank b).refresh then some ((c.bank b).free, .endRefresh b) else none)
      ++ (c.settledAt.map fun t => (t, MemEvent.changed)).toList
      ++ (banks.filterMap fun b => (c.nextDue b).map fun t => (t, .due b))
      ++ ((List.range 8).filterMap fun g => (c.payable g).map fun t => (t, .pay g))
      ++ banks.filterMap fun b => (c.servable b).map fun t => (t, .serve b)

/-- The first of the earliest. -/
def earliest : List (Nat × MemEvent) → Option (Nat × MemEvent)
  | [] => none
  | e :: es => match earliest es with
    | some f => if e.1 ≤ f.1 then some e else some f
    | none => some e

/-- The next event of a channel, where its cycle has come: arrivals in a cycle are taken before dues in that cycle (R483). -/
def State.nextEvent (s : State) (ch : Nat) : Option (Nat × MemEvent) :=
  match earliest (s.arrivals ch ++ (s.channel ch).events) with
  | some e => if e.1 ≤ s.cycle then some e else none
  | none => none

/-- A request reaches the controller of its channel and waits for its bank (R484). The first one of a set after arming anchors
its T0 (R486). -/
def Channel.take (c : Channel) (b : Nat) (who : Option Nat) (now : Nat) : Channel :=
  let g := b / 4
  let c := if Map.get false c.armed g then
      (setBanks g).foldl (fun c k => c.setBank k { c.bank k with dueNo := 0 })
        { c with armed := Map.set false c.armed g false, t0 := Map.set 0 c.t0 g now }
    else c
  let c := { c with lastArrival := Map.set 0 c.lastArrival g (now + 1) }
  (c.setBank b { c.bank b with queue := (c.bank b).queue ++ [(who, now)] }).wake now

/-- The read of a hart that arrives leaves those on their way; one for a register stays until its value can be used. -/
def Hart.readArrived (h : Hart) (pa now : Nat) : Hart :=
  { h with reads := h.reads.flatMap fun r =>
      if !r.queued && r.pa == pa && r.arrives == now then (if r.dest.isSome then [{ r with queued := true }] else []) else [r] }

/-- A read that a bank has served: its wait counts in LATCNT, and its value can be used after it has travelled back (R33, R484). -/
def State.readServed (s : State) (ch bank k since at_ : Nat) : State :=
  let i := hartIdOf k
  let h := s.hart i
  s.setHart i { h with
    latcnt := h.latcnt + BitVec.ofNat 64 (at_ - since),
    reads := h.reads.map fun r =>
      if r.queued && r.usable.isNone && r.arrives == since && s.bankOf r.pa == some (ch, bank) then
        { r with usable := some (at_ + 200 + 20 * hops i.die.val (ch / 64)) } else r }

/-- A channel returns to ACTIVE, or enters the state requested; the request it serves is cleared, a return restores the saved cells
(R487, R488), and a request or a command that came meanwhile is seen to. -/
def State.stateChanged (s : State) (ch now : Nat) : State :=
  let c := s.channel ch
  match c.changing with
  | none => s
  | some (target, _) =>
    let restore := target == 0 && bitAt c.power 6
    let c : Channel := { c with power := c.power / 4 * 4 + target, changing := none, upAt := now, now := now }
    let c := c.served (if target = 0 then 3 else target)
    let c := if target = 0 then c.save false else c
    let waits := c.called || c.banks.any fun b => !b.2.queue.isEmpty
    let s := s.putChannel ch (if waits && target != 0 then c.wake now else c)
    (if restore then s.restoreCells ch else s).servePower ch

/-- An event of a channel happens at its cycle. -/
def State.channelEvent (s : State) (ch now : Nat) (e : MemEvent) : State :=
  let c := (s.channel ch).upTo now
  match e with
  | .arrive k pa =>
    let i := hartIdOf k
    let h := s.hart i
    let counts := h.reads.any fun r => !r.queued && r.pa == pa && r.arrives == now && r.counts
    (match s.bankOf pa with
     | some (_, b) => s.putChannel ch (c.take b (if counts then some k else none) now)
     | none => s).setHart i (h.readArrived pa now)
  | .endAccess b => s.setChannel ch (c.endAccess b now)
  | .endRefresh b => s.setChannel ch (c.endRefresh b now)
  | .changed => s.stateChanged ch now
  | .due b => s.setChannel ch ((c.setBank b { c.bank b with dueNo := (c.bank b).dueNo + 1 }).due b now)
  | .pay g => s.setChannel ch (c.pay g now)
  | .serve b =>
    let x := c.bank b
    match x.queue with
    | [] => s
    | (k, a) :: q =>
      let s := s.setChannel ch (c.setBank b { x with access := true, free := now + 96, queue := q })
      let s := if Config.corrected ch s.fresh then s.bump (Fin.ofNat 8 (ch / 64)) 0x40 else s
      match k with
      | none => s
      | some k => s.readServed ch b k a now

/-- The next event of a channel, if it is this one. -/
def State.takeEvent (s : State) (ch : Nat) (p : MemEvent → Bool) : Out :=
  .next (match s.nextEvent ch with
    | some (t, e) => if p e then s.channelEvent ch t e else s
    | none => s)

/-- MEMORY_REQUEST_ARRIVE: a request reaches the controller of its channel (R484). A read on its way does at its cycle of arrival, after
the events of the channel before that; another request of hart `h` sets out now. -/
def execMemoryRequestArrive (h : HartId) (pa : Nat) (s : State) : Out :=
  let x := s.hart h
  let r : Read := { pa := pa, arrives := s.cycle, counts := false, dest := none, queued := false, usable := none }
  let s := if x.reads.any fun r => !r.queued && r.pa == pa then s else s.setHart h { x with reads := x.reads ++ [r] }
  match s.bankOf pa with
  | some (ch, _) => s.takeEvent ch (· == .arrive (hartKey h) pa)
  | none => .next s

/-- MEMORY_REQUEST_SERVE: the oldest request of an idle bank is served; its wait counts in LATCNT (R33, R484). -/
def execMemoryRequestServe (ch : Fin 512) (bank : Fin 32) (s : State) : Out := s.takeEvent ch.val (· == .serve bank.val)

/-- REFRESH_DUE (R483). -/
def execRefreshDue (ch : Fin 512) (bank : Fin 32) (s : State) : Out := s.takeEvent ch.val (· == .due bank.val)

/-- REFRESH_END: a refresh that has lasted its time ends (R482, R483). -/
def execRefreshEnd (ch : Fin 512) (bank : Fin 32) (s : State) : Out := s.takeEvent ch.val (· == .endRefresh bank.val)

/-- BANK_ACCESS_END: an access that has lasted 96 cycles ends, and a refresh that waits for it begins (R475, R483). -/
def execBankAccessEnd (ch : Fin 512) (bank : Fin 32) (s : State) : Out := s.takeEvent ch.val (· == .endAccess bank.val)

/-- BANK_SET_IDLE: a set without a request for 512 cycles pays its debts (R483). -/
def execBankSetIdle (ch : Fin 512) (set : Fin 8) (s : State) : Out := s.takeEvent ch.val (· == .pay set.val)

/-- CHANNEL_STATE_CHANGE_COMPLETE: the state that a channel is changing to is entered (R487, R488). -/
def execChannelStateChangeComplete (ch : Fin 512) (s : State) : Out := s.takeEvent ch.val (· == .changed)

/-- REFCTL_TRACE: turns refresh-trace mode on, or off; then sets still waiting for their first request take T0 from now, and
power requests that waited are served (R486). -/
def State.setTrace (s : State) (d : Nat) (on : Bool) : State :=
  let w := s.peekNat (controlBlock d + 64) 8
  let s := s.pokeNat (controlBlock d + 64) 8 (w / 2 * 2 + boolN on)
  if on then s
  else
    let now := s.cycle
    let s := s.eachChannel d fun c =>
      let c := c.upTo now
      (List.range 8).foldl (fun c g =>
        if Map.get false c.armed g then
          (setBanks g).foldl (fun c k => c.setBank k { c.bank k with dueNo := 0 })
            { c with armed := Map.set false c.armed g false, t0 := Map.set 0 c.t0 g now }
        else c) c
    (dieChannels d).foldl (fun s ch => if (s.channel ch).request.1 = 0 then s else s.servePower ch) s
@[inherit_doc State.setTrace] def execRefctlTrace (die : Fin 8) (on : Bool) (s : State) : Out := .next (s.setTrace die.val on)

/-- REFCTL_ARM: every debt is paid, and every T0 is cleared (R486). -/
def State.arm (s : State) (d : Fin 8) : State :=
  let w := s.peekNat (controlBlock d.val + 64) 8
  let now := s.cycle
  let s := (s.pokeNat (controlBlock d.val + 64) 8 (w % 2 + 2)).eachChannel d.val fun c =>
    { (c.upTo now).payAll now with armed := (List.range 8).map fun g => (g, true) }
  s.setDie d { s.die d with arming := true }
@[inherit_doc State.arm] def execRefctlArm (die : Fin 8) (s : State) : Out := .next (s.arm die)

/-- An all-bank refresh is under way in a pseudo-channel, or waits for its banks (R482, R483). -/
def Channel.paying (c : Channel) : Bool :=
  !c.forced.isEmpty || [0, 1].any fun p => (pcBanks p).all fun b => (c.bank b).refresh

/-- REFCTL_ARM_COMPLETE: ARM reads 0 once the payment is done (R486). -/
def execRefctlArmComplete (die : Fin 8) (s : State) : Out :=
  let busy := (dieChannels die.val).any fun ch => (s.channel ch).paying
  .next (if !(s.die die).arming || busy then s
    else
      let w := s.peekNat (controlBlock die.val + 64) 8
      (s.pokeNat (controlBlock die.val + 64) 8 (w % 2)).setDie die { s.die die with arming := false })

/-- PATROL_SCRUB: the scrub engine reads a line; corrected and uncorrectable errors are counted, and nothing is marked (R476,
R497). It is suspended on a die in refresh-trace mode (R486), and its refused accesses are counted (R463). -/
def execPatrolScrub (pa : Nat) (corrected : Bool) (s : State) : Out :=
  .next (match s.bankOf pa with
    | none => s
    | some (ch, _) =>
      let d : Fin 8 := Fin.ofNat 8 (ch / 64)
      if s.tracing d.val then s
      else if !s.permits (s.targetOf pa) 0x1208 .r then s.bump d 0x78
      else
        let s := if corrected then s.bump d 0x50 else s
        if (List.range 4).any fun k => s.poison.contains (pa / 256 * 4 + k) then s.bump d 0x58 else s)

end Sys2Proof.Machine
end

