-- ==== Sys2Proof/Machine/Device.lean ====
section
/-! DEFINITION. Words of memory that the device itself reads or guards: the boot block and log headers (R428, R429), the
memory control block (R480, R486, R487), the fleet block (R497, R505) and the update area (R465, R471); and the writes every
instruction makes. -/

namespace Sys2Proof.Machine

/-- The update area (R465). -/
def updateArea : Nat := 0x20000

/-- The writes that have left their harts after a check against the access tables and have not performed (R128, R465). -/
def State.postedAll (s : State) : List (Nat × Posted) := s.harts.flatMap fun (k, h) => h.posted.map fun w => (k, w)

/-- The transfers in flight that were checked against the access tables (R465). -/
def State.inFlight (s : State) : List (Nat × Entry) :=
  s.harts.flatMap fun (k, h) => (h.ilock.filter fun e => e.kind != .send).map fun e => (k, e)

/-- A transfer is still in flight. -/
def State.stillIn (s : State) (p : Nat × Entry) : Bool :=
  (s.hart (hartIdOf p.1)).ilock.any fun e =>
    e.kind == p.2.kind && e.stream == p.2.stream && e.rdlo == p.2.rdlo && e.rdhi == p.2.rdhi && e.wrlo == p.2.wrlo && e.wrhi == p.2.wrhi

/-- Nothing that was checked against the tables before the update is in flight any more (R465). -/
def State.settled (s : State) (u : Update) : Bool :=
  !u.inFlight.any s.stillIn && !u.posted.any fun p => (s.hart (hartIdOf p.1)).posted.contains p.2

/-- The `k`-th 8-byte number of a payload. -/
def payWord (bs : List Byte) (k : Nat) : Nat := leNat ((bs.drop (8 * k)).take 8)

/-- Permission bytes written for consecutive masters (R464, R465). -/
def putPerms (target : Nat) : Map (BitVec 4) → Nat → List Byte → Map (BitVec 4)
  | m, _, [] => m
  | m, mid, b :: bs => putPerms target (Map.set (permDefault target mid) m (target * 65536 + mid) (b.setWidth 4)) (mid + 1) bs

/-- The access tables after an update record of a kind, or none where its payload is no record of that kind (R465). -/
def Access.update (a : Access) (kind : Nat) (bs : List Byte) : Option Access :=
  let f := payWord bs
  match kind with
  | 1 =>
    if 24 ≤ bs.length ∧ f 0 ≤ 85 ∧ f 1 + f 2 ≤ 0x1209 ∧ bs.length = 24 + f 2 ∧ (bs.drop 24).all (fun b => decide (b.toNat < 16)) = true
    then some { a with perm := putPerms (f 0) a.perm (f 1) (bs.drop 24) } else none
  | 2 =>
    if bs.length = 24 ∧ f 0 < 64 ∧ f 1 ≤ 2 ^ 22 ∧ f 2 ≤ 2 ^ 22
    then some { a with windows := Map.set (0, 0) a.windows (f 0) (f 1, f 2) } else none
  | 3 =>
    if bs.length = 16 ∧ 1 ≤ f 0 ∧ f 0 < 4096 ∧ f 1 % 16384 = 0 ∧ f 1 < 2 ^ 48
    then some { a with roots := Map.set 0 a.roots (f 0) (BitVec.ofNat 64 (f 1)) } else none
  | 4 =>
    if bs.length = 8 + 1952 ∧ f 0 < 16
    then some { a with keys := Map.set [] a.keys (f 0) (if (bs.drop 8).all (· == 0) then [] else bs.drop 8) } else none
  | _ => none

/-- The status of the update record in memory, and the tables after it (R465). -/
def State.checkUpdate (s : State) : Nat × Access :=
  let a := updateArea + 0x1000
  let plen := s.peekNat (a + 16) 4
  if 262144 < plen + 32 + 1952 + 3309 then (3, s.acc)
  else
    let body := s.peekN a (32 + plen + 1952)
    let key := body.drop (32 + plen)
    let counter := s.peekNat (a + 8) 8
    if Config.shake256 32 key ≠ Config.fusedAgentDigest
      ∨ Config.mldsaVerify key (Config.shake256 64 body) (s.peekN (a + 1984 + plen) 3309) = false then (1, s.acc)
    else if counter ≤ s.acc.counter.toNat then (2, s.acc)
    else if s.peekNat a 4 ≠ 0x55445431 ∨ s.peekNat (a + 20) 12 ≠ 0 then (3, s.acc)
    else
      match s.acc.update (s.peekNat (a + 4) 4) ((body.drop 32).take plen) with
      | some x => (0, { x with counter := BitVec.ofNat 64 counter })
      | none => (3, s.acc)

/-- An update record is applied at one point; its answer waits for the transfers then in flight (R465). -/
def State.applyUpdate (s : State) (number : Nat) : State :=
  let (status, acc) := s.checkUpdate
  { s with acc := acc, upd := some { number := number % 2 ^ 32, status := status, inFlight := s.inFlight, posted := s.postedAll } }

/-- A write to UPDREQ: one record is taken at a time (R465). -/
def State.requestUpdate (s : State) (number : Nat) : State :=
  if s.upd.isSome then { s with updNext := some number } else s.applyUpdate number

/-- UPDATE_RESULT: once nothing checked against the old tables is in flight, UPDRES is written (R465). -/
def execUpdateResult (s : State) : Out :=
  .next (match s.upd with
    | none => s
    | some u =>
      if !s.settled u then s
      else
        let s := ({ s with upd := none }).pokeNat (updateArea + 0x40) 8 (u.number + u.status * 2 ^ 32)
        match s.updNext with
        | some n => ({ s with updNext := none }).applyUpdate n
        | none => s)

/-- The table state that attestation digests (R464, R471; log 10). -/
def Access.bytes (a : Access) : List Byte :=
  (a.windows.flatMap fun (g, b, l) => leBytes 8 g ++ leBytes 8 b ++ leBytes 8 l)
    ++ (a.perm.flatMap fun (k, p) => leBytes 8 k ++ leBytes 1 p.toNat) ++ (a.roots.flatMap fun (d, r) => leBytes 8 d ++ leBytes 8 r.toNat)
    ++ (a.keys.flatMap fun (k, bs) => leBytes 8 k ++ bs)

/-- Bytes written by the device, unseen by any filter. -/
def State.pokeN (s : State) (loc : Nat) (bs : List Byte) : State := s.perform loc bs

/-- A write to ATTREQ: the report, then ATTRES (R471). -/
def State.attest (s : State) (number : Nat) : State :=
  let body := s.peekN (updateArea + 0x100) 32 ++ leBytes 8 s.bootEpoch ++ s.peekN 24 8 ++ leBytes 8 (540 * 2 ^ 16 + 2000 * 2 ^ 48)
    ++ padTo 0 32 Config.romDigest ++ padTo 0 32 Config.firmwareDigest ++ padTo 0 32 (Config.shake256 32 s.acc.bytes)
    ++ List.replicate 104 0 ++ padTo 0 1952 Config.identityKey
  let s := s.pokeN (updateArea + 0x40000) (body ++ padTo 0 3309 (Config.identitySign (Config.shake256 64 body)))
  s.pokeNat (updateArea + 0xC0) 8 number

/-- A write to CKCTL: INTERVAL, and NOW requests a point (R505). A request that stands keeps NOW at 1; a point that INTERVAL or a full
journal made due does not set it. -/
def State.writeCkctl (s : State) (v : Nat) : State :=
  let a := fleetBlock 0
  let i := v % 2 ^ 32
  let i := if 1 ≤ i ∧ i ≤ 1999 then 2000 else i
  let old := s.peekNat a 8
  let now := bitAt v 32 || bitAt old 32
  ({ s with ckPending := s.ckPending || bitAt v 32 }).pokeNat a 8 (i + boolN now * 2 ^ 32 + old / 2 ^ 33 % 2 * 2 ^ 33)

/-- A write to REFCTL (R486). -/
def State.writeRefctl (s : State) (d : Fin 8) (v : Nat) : State :=
  let s := if bitAt v 0 = s.tracing d.val then s else s.setTrace d.val (bitAt v 0)
  if bitAt v 1 then s.arm d else s

/-- A write to GO ends a hold (R428, R439). -/
def State.writeGo (s : State) (v : Nat) : State :=
  let s := s.pokeNat 64 8 v
  if v = 1 ∧ s.peekNat 8 8 = 3 then s.pokeNat 8 8 1 else s

/-- Who writes a word that the device guards: a host port, domain 0 through the window of R444, domain 0 through page tables, or
anyone else. -/
inductive Writer where
  | host | window | domain0 | other
deriving DecidableEq, Repr

/-- A word that the device guards: what a write of the whole word `v` to it does; `none` for ordinary memory (R428, R429, R480,
R497, R465). BOOTEPOCH is changed by boot alone (R467). -/
def State.guardedWord (s : State) (who : Writer) (a v : Nat) : Option State :=
  if a = 16 then some s
  else if a < 0x1000 then
    if who = .host then some (if a = 64 then s.writeGo v else s) else none
  else if a < 0x9000 then
    if who = .host then some (if a % 0x1000 = 0 ∨ a % 0x1000 = 320 then s.pokeNat a 8 v else s) else none
  else if a = updateArea then some ((s.pokeNat a 8 v).requestUpdate v)
  else if a = updateArea + 0x80 then some ((s.pokeNat a 8 v).attest v)
  else if 0xA0000 ≤ a ∧ a < 0xA8000 then
    let d := (a - 0xA0000) / 0x1000
    let o := a % 0x1000
    if who ≠ .window then some s
    else if o = 64 then some (s.writeRefctl (Fin.ofNat 8 d) v)
    else if 256 ≤ o ∧ o < 768 then some (s.requestPower (64 * d + (o - 256) / 8) (bitsOf v 3 2) (bitAt v 4))
    else some s
  else if 0xB0000 ≤ a ∧ a < 0xB8000 then
    if who = .other then some s
    else if a = 0xB0000 then some (s.writeCkctl v)
    else if a % 0x1000 = 8 then some (s.pokeNat a 8 v)
    else some s
  else none

/-- Words that the device guards lie in these ranges. -/
def guarded (a : Nat) : Bool :=
  decide (a < 0x9000) || a == updateArea || a == updateArea + 0x80 || (decide (0xA0000 ≤ a ∧ a < 0xA8000))
    || decide (0xB0000 ≤ a ∧ a < 0xB8000)

/-- A write cut at 8-byte words: each guarded word is written whole, merged with what stands there. -/
def State.storeWords (s : State) (who : Writer) : Nat → Nat → List Byte → State
  | 0, _, _ => s
  | n + 1, loc, bs =>
    if bs = [] then s
    else
      let m := min bs.length (8 - loc % 8)
      let a := loc / 8 * 8
      let old := s.peekN a 8
      let word := leNat (old.take (loc % 8) ++ bs.take m ++ old.drop (loc % 8 + m))
      (((if guarded a then s.guardedWord who a word else none).getD (s.perform loc (bs.take m))).storeWords who n (loc + m) (bs.drop m))

/-- A write that performs at a location of this module (R127), seen by the device where the device guards the word. -/
def State.putBytes (s : State) (who : Writer) (loc : Nat) (bs : List Byte) : State :=
  if loc < 0xB8000 then s.storeWords who (bs.length / 8 + 2) loc bs else s.perform loc bs

/-- As whom a hart writes at an address (R444, R448). -/
def State.writer (s : State) (i : HartId) (va : Nat) : Writer :=
  if (s.hart i).priv && va % 2 ^ 56 / 2 ^ 48 == 0xFC then .window
  else if spaceDom (s.hart i).space = 0 then .domain0 else .other

/-- A write of firmware outside any program, which the access tables check as domain 0's (R444, R463; log 98). -/
def State.firmwareWrite (s : State) (loc n v : Nat) : State :=
  if s.permits (s.targetOf loc) 0 .w then s.pokeNat loc n v else s

/-- The number of this byte of BAR2 in `bar2`, and what it reads as where nothing has been written: each vector is masked (R425;
log 98). -/
def barKey (port off : Nat) : Nat := port * 65536 + off
@[inherit_doc barKey] def barReset (off : Nat) : Byte := if off < 144 ∧ off % 16 = 12 then 1 else 0
@[inherit_doc barKey] def State.barByte (s : State) (port off : Nat) : Byte := Map.get (barReset off) s.bar2 (barKey port off)
@[inherit_doc barKey] def State.setBar (s : State) (port off : Nat) (b : Byte) : State :=
  { s with bar2 := Map.set (barReset off) s.bar2 (barKey port off) b }

/-- Where the pending-bit array lies in BAR2 (log 98). -/
def pbaOffset : Nat := 0x8000

/-- A number of `n` bytes in BAR2. -/
def State.barNat (s : State) (port off n : Nat) : Nat := leNat ((List.range n).map fun k => s.barByte port (off + k))

/-- The MSI-X write of a vector at a port: sent, unless the vector is masked there, which leaves it pending (R425; log 98); the access
tables of the port's egress check it (R464). -/
def State.message (s : State) (port v : Nat) : State :=
  let bit := pbaOffset + v / 8
  if bitAt (s.barByte port (16 * v + 12)).toNat 0 then s.setBar port bit (s.barByte port bit ||| BitVec.ofNat 8 (2 ^ (v % 8)))
  else
    let s := s.setBar port bit (s.barByte port bit &&& ~~~BitVec.ofNat 8 (2 ^ (v % 8)))
    if s.permits (some (80 + port)) 0 .w then
      { s with messages := (port, s.barNat port (16 * v) 8, s.barNat port (16 * v + 8) 4) :: s.messages }
    else s.bump 0 0x78

/-- The device raises an interrupt vector at each port (R425). -/
def State.raiseVector (s : State) (v : Nat) : State :=
  let s := { s with msix := v :: s.msix }
  [0, 1].foldl (fun s p => s.message p v) s

/-- A host write to BAR2 (R425): the table takes it, and a vector that it unmasks while pending is sent. -/
def State.writeBar (s : State) (port off : Nat) (bs : List Byte) : State :=
  let s := ((List.range bs.length).zip bs).foldl (fun s (k, b) =>
    if off + k < 144 then s.setBar port (off + k) (if 12 < (off + k) % 16 then 0 else if (off + k) % 16 = 12 then b &&& 1 else b) else s) s
  (List.range 9).foldl (fun s v =>
    if bitAt (s.barByte port (pbaOffset + v / 8)).toNat (v % 8) && !bitAt (s.barByte port (16 * v + 12)).toNat 0 then s.message port v else s) s

/-- A write to POOL memory that the pool answers, or to PEER memory that its module takes (R491, R494). -/
def State.lands (s : State) (w : Posted) : Bool :=
  match w.module with
  | some m => Config.peerAnswer m 0 w.pa s.fresh == 0
  | none => s.region w.pa != .pool || !Config.poolFails w.pa s.fresh

/-- The bytes that a write puts where it performs: an atomic's from those that stand there. -/
def State.newBytes (s : State) (w : Posted) : List Byte :=
  match w.amo with
  | none => if w.mask = 0xFF then w.bytes else (w.bytes.zip (s.peekN w.pa w.bytes.length)).map fun (b, o) => mergeByte w.mask o b
  | some f =>
    let n := f.cell w.bytes.length
    let old := s.peekNat w.pa n
    leBytes n ((f.apply w.bytes.length old (leNat w.bytes) 0).getD old)

/-- A write performs (R128): its bytes at a location of this module, or into another module, whose memory is not in this machine.
One that fails is reported later (R491, R494). -/
def State.performNow (s : State) (i : HartId) (w : Posted) : State :=
  if !s.lands w then s.lostWrite i w.va
  else
    match w.module with
    | some _ => s
    | none =>
      let bs := s.newBytes w
      if s.region w.pa = .pool then s.perform w.pa bs else (s.putBytes (s.writer i w.va.toNat) w.pa bs).healed w.pa bs.length

/-- The write of one piece, which performs while its instruction or its transfer runs (R132, R133): the bits of `mask` of each
byte. A journaled one does not perform (R440). -/
def State.writePiece (s : State) (i : HartId) (va : Nat) (mask : Byte) (t : Target) (bs : List Byte) : State :=
  match t with
  | .sealed _ _ _ => s
  | _ =>
    let w := (s.hart i).outgoing va t bs mask none
    if s.journals i t then s.toJournal i w else s.performNow i w

/-- The store of one piece by a scalar instruction, which need not perform before it retires (R128): one to POOL or PEER memory
leaves the hart, and so does a release that has to wait, `rel` being its scope, and a write behind such a one. -/
def State.storePiece (s : State) (i : HartId) (va : Nat) (rel : Option (BitVec 3)) (holds : Bool) (t : Target) (bs : List Byte) : State :=
  let h := s.hart i
  let w := h.outgoing va t bs 0xFF rel
  match t with
  | .mem loc .pool =>
    if s.journals i t && !holds && !h.postedOver none loc bs.length then s.toJournal i w else s.post i w
  | .mem loc _ => if holds || h.postedOver none loc bs.length then s.post i w else s.performNow i w
  | .peer m pa =>
    if s.journals i t && !holds && !h.postedOver (some m) pa bs.length then s.toJournal i w else s.post i w
  | .sealed _ _ _ => s

/-- The writes of the pieces of an access, each by `f` and listed for the launch (R434). -/
def State.eachPiece (f : State → Nat → Target → List Byte → State) (i : HartId) (s : State) :
    Nat → List (Target × Nat) → List Byte → State
  | _, [], _ => s
  | va, (t, n) :: ps, bs => State.eachPiece f i ((f s va t (bs.take n)).noteWrite i va) (va + n) ps (bs.drop n)

/-- The writes of the pieces of an access of a member or a transfer. -/
def State.writePieces (s : State) (i : HartId) (va : Nat) (mask : Byte) (ps : List (Target × Nat)) (bs : List Byte) : State :=
  State.eachPiece (fun s va t bs => s.writePiece i va mask t bs) i s va ps bs

/-- The writes of the pieces of a scalar store. -/
def State.storePieces (s : State) (i : HartId) (va : Nat) (rel : Option (BitVec 3)) (holds : Bool) (ps : List (Target × Nat))
    (bs : List Byte) : State :=
  State.eachPiece (fun s va t bs => s.storePiece i va rel holds t bs) i s va ps bs

/-- A write of the bits of `mask` of bytes at `va` by a hart, after translation. -/
def State.writeBytes (s : State) (i : HartId) (va : Nat) (mask : Byte) (bs : List Byte) : Reply State :=
  match s.pieces i va bs.length .write with
  | .ok ps => s.writable i ps (.ok (s.writePieces i va mask ps bs))
  | .trap e => .trap e
  | .miss a c => .miss a c
  | .wait => .wait

/-- REFCTL_TRACE, REFCTL_ARM and the channel requests write words of the memory control block; the rows of the update area and
of the fleet block write theirs (R465, R471, R497, R505). -/
def execUpdreqWrite (v : Word) (s : State) : Out := .next ((s.pokeNat updateArea 8 v.toNat).requestUpdate v.toNat)
@[inherit_doc execUpdreqWrite] def execAttreqWrite (v : Word) (s : State) : Out :=
  .next ((s.pokeNat (updateArea + 0x80) 8 v.toNat).attest v.toNat)
@[inherit_doc execUpdreqWrite] def execPcapreqWrite (die : Fin 8) (v : Word) (s : State) : Out :=
  .next (s.pokeNat (fleetBlock die.val + 8) 8 v.toNat)
@[inherit_doc execUpdreqWrite] def execCkctlInterval (ms : BitVec 32) (s : State) : Out := .next (s.writeCkctl ms.toNat)
@[inherit_doc execUpdreqWrite] def execCkctlNow (s : State) : Out :=
  .next (s.writeCkctl (s.peekNat (fleetBlock 0) 4 + 2 ^ 32))

/-- GO_WRITE: the host writes GO := 1 and ends a recovery hold (R439). -/
def execGoWrite (s : State) : Out := .next (s.writeGo 1)

/-- TAIL_WRITE: the host advances the TAIL of a log (R429, R436). -/
def execTailWrite (die : Fin 8) (v : Word) (s : State) : Out := .next (s.pokeNat (0x1000 + die.val * 0x1000) 8 v.toNat)

end Sys2Proof.Machine
end

