-- ==== Sys2Proof/Machine/Memory.lean ====
section
/-! DEFINITION. Scalar memory instructions (spec/07_scalar_instructions.md): translation requests (R455), loads and stores
(R187-R189), ordered accesses (R190, R193) and atomics (R191, R192). -/

namespace Sys2Proof.Machine

/-- A request of the die for the same space and granule is in a mailbox or unanswered (R455). -/
def State.requested (s : State) (d : Fin 8) (asid vpn : Nat) : Bool :=
  s.cores.any fun (k, c) => k / 192 == d.val &&
    (c.mbox ++ c.outstanding).any fun r => spaceAsid r.space == asid && r.vpn == vpn

/-- A tag no request of the core uses, counting up from `nextTag`. -/
def Core.freeTag (c : Core) : Nat :=
  (((List.range 256).map fun k => (c.nextTag + k) % 256).find? fun t =>
    !(c.mbox ++ c.outstanding).any fun r => r.tag == t).getD 0

/-- Places a translation request of hart `i` in its core's mailbox (R455), unless the mailbox is full or the granule has
been asked for; the Lamplighter's monitor sees it as a write. -/
def State.request (s : State) (i : HartId) (va : Nat) (acc : Acc) (engine prefetch : Bool) : State :=
  let c := s.core (coreOf i)
  let sp := (s.hart i).space
  if s.requested i.die (spaceAsid sp) (vpnOf va) || decide (32 ≤ c.mbox.length) then s
  else
    let t := c.freeTag
    let r : Request :=
      { tag := t, acc := acc, slot := i.slot, engine := engine, prefetch := prefetch, vpn := vpnOf va, space := sp }
    let s := s.setCore (coreOf i) { c with mbox := c.mbox ++ [r], nextTag := (t + 1) % 256 }
    let j : HartId := { i with slot := 7 }
    s.setHart j { s.hart j with mon := (s.hart j).mon.map fun m => { m with hit := true } }

/-- The die TLB holds a translation of the granule for loads and stores, so that a fetch lacks only its check (R457, R473). -/
def State.unverified (s : State) (i : HartId) (vpn : Nat) : Option TlbEntry :=
  (s.die i.die).tlb.find? fun e => !e.verified && e.covers (spaceAsid (s.hart i).space) vpn

/-- The current hart's access misses: it asks for the translation and waits (R455, R47); a fetch that lacks only the check of
its granule waits for that (R473). -/
def State.missed (s : State) (va : Nat) (acc : Acc) : State :=
  let s := if acc = .fetch && !s.h.priv && (s.unverified s.cur (vpnOf va)).isSome then s else s.request s.cur va acc false false
  (s.setH { s.h with xwait := some (vpnOf va, acc) }).stall

/-- The stream engine's probe for the convoy of the current hart misses: it asks for the translation (R259, R456) and the hart waits. -/
def State.engineMissed (s : State) (va : Nat) (acc : Acc) : State :=
  let s := s.request s.cur va acc true false
  (s.setH { s.h with xwait := some (vpnOf va, acc) }).stall

/-- Goes on with the value of an access, or takes its trap, or waits. -/
def State.onReply {α : Type} (s : State) (r : Reply α) (k : α → State) : State :=
  match r with
  | .ok a => k a
  | .trap e => s.trapHere e
  | .miss va acc => s.missed va acc
  | .wait => s.stall

/-- The bytes of a scalar read of the current hart, checked for the interlock, translation, alignment by memory type
(R188) and errors. -/
def State.scalarRead (s : State) (va : Word) (n : Nat) (acc : Acc) : Reply (List Byte) :=
  s.h.guard acc va.toNat n
    (match s.pieces s.cur va.toNat n acc with
     | .ok ps =>
       match pieceAlign n va.toNat acc ps with
       | some e => .trap e
       | none => s.readPieces s.cur va.toNat acc ps
     | .trap e => .trap e
     | .miss a c => .miss a c
     | .wait => .wait)

/-- A scalar load that a PAGE fault kept from returning counts the cycles since its first issue in LATCNT (R33). -/
def Hart.lateLoad (h : Hart) (now : Nat) : Hart :=
  match h.faulted with
  | some (p, t) => if p = h.pc then { h with latcnt := h.latcnt + BitVec.ofNat 64 (now - t), faulted := none } else h
  | none => h

/-- A scalar load of `n` bytes at `va` into x`d` has its value: what it adds to LATCNT, and until when the value cannot be used (R33,
R189, R484). -/
def State.returns (s : State) (d : Fin 32) (va : Word) (n : Nat) : State :=
  let s := s.setH (s.h.lateLoad s.cycle)
  match s.translate s.cur va.toNat .read with
  | .ok (.mem loc _) => s.readAt s.cur va.toNat loc n (if d = 0 then none else some d)
  | _ => s

/-- A load that cannot return yet keeps the cycle of its first issue (R33, R454). -/
def State.issuedAt (s : State) : State :=
  if s.h.faulted.all (fun f => f.1 != s.h.pc) then s.setH { s.h with faulted := some (s.h.pc, s.cycle) } else s

/-- Goes on with the bytes of a scalar load into x`d`; one that traps PAGE, or whose translation misses, keeps the cycle of its first
issue (R33). -/
def State.loading (s : State) (d : Fin 32) (va : Word) (n : Nat) (k : State → List Byte → State) : State :=
  match s.scalarRead va n .read with
  | .ok bs => k (s.returns d va n) bs
  | .trap e => (if e.cause = .page then s.issuedAt else s).trapHere e
  | .miss va acc => s.issuedAt.missed va acc
  | .wait => s.stall

/-- A load of `n` bytes into xd; `size` is the instruction's length (R187). -/
def State.load (s : State) (size : Nat) (d : Fin 32) (va : Word) (n : Nat) (signed : Bool) : State :=
  s.loading d va n fun s bs =>
    s.write size d (if signed then BitVec.ofInt 64 (sext (leNat bs) (8 * n)) else BitVec.ofNat 64 (leNat bs))

/-- An access by hart `i` that no LATCNT counts has been translated, and reaches the scratchpad banks of its pieces (R32, R454). -/
def State.reached (s : State) (i : HartId) (va : Nat) (ps : List (Target × Nat)) : State :=
  ps.foldl (fun s p => match p.1 with | .mem loc _ => s.atBanks i loc p.2 none | _ => s) (s.touched i va)

/-- A scalar write of the current hart (R188): checked whole before any byte is written. `rel` is the scope of a release store, and
`holds` that it waits for what it follows. A full journal stalls it (R440). -/
def State.scalarWrite (s : State) (va : Word) (bs : List Byte) (rel : Option (BitVec 3)) (holds : Bool) : Reply State :=
  s.h.guard .write va.toNat bs.length
    (match s.pieces s.cur va.toNat bs.length .write with
     | .ok ps =>
       match pieceAlign bs.length va.toNat .write ps with
       | some e => .trap e
       | none =>
         if s.journalFull s.cur.die && ps.any fun p => s.journals s.cur p.1 then .wait
         else .ok ((s.storePieces s.cur va.toNat rel holds ps bs).reached s.cur va.toNat ps)
     | .trap e => .trap e
     | .miss a c => .miss a c
     | .wait => .wait)

/-- A store of the low `n` bytes of xb (R187). -/
def State.store (s : State) (size : Nat) (b : Fin 32) (va : Word) (n : Nat) : State :=
  s.onReply (s.scalarWrite va (leBytes n (s.getX b).toNat) none false) fun s => s.retire size

/-- The effect on the hart of an acquire. -/
def State.acquire (s : State) (yes : Bool) : State := if yes then s.setH s.h.discardAhead else s

/-- A write of the hart to this module's own memory has not performed. -/
def State.holdsWrite (s : State) (i : HartId) : Bool :=
  (s.hart i).posted.any fun w => w.module = none && s.region w.pa != .pool

/-- A release at a scope waits until earlier transfers are complete and earlier writes have performed: those to POOL and
PEER memory at system scope (R126, R129). -/
def State.releaseWaits (s : State) (i : HartId) (sc : BitVec 3) : Bool :=
  !(s.hart i).ilock.isEmpty || (sc == 5 && !(s.hart i).posted.isEmpty) || s.holdsWrite i

/-- DATAERR for a POOL or PEER write that failed (R491): taken once, by the next fence or system-scope release. -/
def State.takeWfail (s : State) (va : Word) : State :=
  (s.setH { s.h with wfail := none }).trapHere (lostExc va)

/-- An ordered load (R190): alignment is checked first; an acquire discards fetched-ahead strips. -/
def State.loadOrd (s : State) (d a : Fin 32) (ord : BitVec 1) (n : Nat) (signed : Bool) : State :=
  let va := s.getX a
  if va.toNat % n ≠ 0 then s.trapHere (alignExc va .read)
  else
    s.loading d va n fun s bs =>
      (s.acquire (ord == 1)).write 4 d
        (if signed then BitVec.ofInt 64 (sext (leNat bs) (8 * n)) else BitVec.ofNat 64 (leNat bs))

/-- A write of the hart to POOL or PEER memory has not performed: whether it fails is not known yet (R491, R494). -/
def State.awaitsAnswer (s : State) (i : HartId) : Bool := (s.hart i).posted.any fun w => w.module.isSome || s.region w.pa = .pool

/-- An ordered store (R190). A release behind transfers in flight leaves the hart and performs after them (log 16); one at system scope
waits until every earlier POOL or PEER write has succeeded or failed, so that it can report the failure (R491). -/
def State.storeOrd (s : State) (a b : Fin 32) (sc : BitVec 3) (ord : BitVec 1) (n : Nat) : State :=
  let va := s.getX a
  let release := ord == 1
  if va.toNat % n ≠ 0 then s.trapHere (alignExc va .write)
  else if release && sc == 5 && s.h.wfail.isSome then s.takeWfail (s.h.wfail.getD 0)
  else
    s.onReply (if release && sc == 5 && s.awaitsAnswer s.cur then .wait
      else s.scalarWrite va (leBytes n (s.getX b).toNat) (if release then some sc else none)
        (release && s.releaseWaits s.cur sc)) fun s => s.retire 4

/-- Orderings with a release part, and with an acquire part (R120). -/
def isRelease (ord : BitVec 2) : Bool := ord.getLsbD 1
@[inherit_doc isRelease] def isAcquire (ord : BitVec 2) : Bool := ord.getLsbD 0

/-- What a memory type accepts of an atomic of `n` operand bytes (R193, R490, R493). -/
def AmoOp.accepted (f : AmoOp) (n : Nat) (t : Target) : Bool :=
  match t with
  | .mem _ .pool => (f = .swap || f = .add || f = .cas) && (n = 4 || n = 8)
  | .sealed _ _ _ => false
  | _ => true

/-- One atomic read-modify-write by hart `i` at `va`, whose alignment has been checked (R131, R191-R193, R440): the state
after it and the old value with the new one. `n` is the operand's width in bytes, `x` the operand, `c` the expected value
of a compare and swap, `used` whether the result is read. -/
def State.atomic (s : State) (i : HartId) (f : AmoOp) (va : Word) (n x c : Nat) (used : Bool) : Reply (State × Nat × Nat) :=
  let a := va.toNat
  let size := f.cell n
  match s.pieces i a size .rmw with
  | .ok ps =>
    match ps with
    | (t, _) :: _ =>
      if !f.accepted n t then denied (a % 2 ^ 56) .rmw
      else if s.journals i t then
        match f with
        | .cas | .fxL | .fxD | .fxS => denied (a % 2 ^ 56) .rmw
        | _ =>
          if used then denied (a % 2 ^ 56) .rmw
          else
            s.writable i ps (.ok
              ((s.toJournal i { (s.hart i).outgoing a t (leBytes n x) 0xFF none with amo := some f }).noteWrite i (a % 2 ^ 56), 0, 0))
      else if s.awaits i (t, size) then .wait
      else
        let lost : Bool := match t with | .mem loc .pool => Config.poolFails loc s.fresh | _ => false
        if lost then
          .ok ((s.lostWrite i (BitVec.ofNat 64 (a % 2 ^ 56))).noteWrite i (a % 2 ^ 56), Config.lostAtomic a s.fresh % 2 ^ (8 * size), 0)
        else
          match s.readPieces i a .rmw ps with
          | .ok bs =>
            let old := leNat bs
            match f.apply n old x c with
            | none => .ok (s, old, old)
            | some new =>
              match t with
              | .mem loc _ =>
                .ok (((s.putBytes (s.writer i a) loc (leBytes size new)).noteWrite i (a % 2 ^ 56)).reached i a ps, old, new)
              | _ => .ok (s.noteWrite i (a % 2 ^ 56), old, new)
          | .trap e => .trap e
          | .miss a c => .miss a c
          | .wait => .wait
    | [] => .wait
  | .trap e => .trap e
  | .miss a c => .miss a c
  | .wait => .wait

/-- An AMO instruction (R190-R193): alignment first, then the waits of its release part, then the operation. A compare and
swap that fails keeps the acquire part only (R131). A POOL atomic whose completion fails reports nothing yet (R491). -/
def State.amo (s : State) (f : AmoOp) (d a : Fin 32) (x c : Nat) (sc : BitVec 3) (ord : BitVec 2)
    (result : Nat → Nat → Word) : State :=
  let va := s.getX a
  let size := f.cell 8
  if va.toNat % size ≠ 0 then s.trapHere (alignExc va .rmw)
  else
    let r := s.h.guard .rmw va.toNat size (s.atomic s.cur f va 8 x c (d != 0))
    let release := isRelease ord && !(match f, r with | .cas, .ok (_, old, _) => old != c % 2 ^ 64 | _, _ => false)
    if release && sc == 5 && s.h.wfail.isSome then s.takeWfail (s.h.wfail.getD 0)
    else if release && s.releaseWaits s.cur sc then s.stall
    else
      s.onReply r fun (s, old, new) => (s.acquire (isAcquire ord)).write 4 d (result old new)

/-- An AMO whose xd receives the old doubleword (R191). -/
def State.amoOld (s : State) (f : AmoOp) (d a b : Fin 32) (sc : BitVec 3) (ord : BitVec 2) : State :=
  s.amo f d a (s.getX b).toNat (s.getX d).toNat sc ord fun old _ => BitVec.ofNat 64 old

/-- An FX128 add, whose xd receives the class of the new cell (R192). -/
def State.amoFx (s : State) (f : AmoOp) (d a b : Fin 32) (sc : BitVec 3) (ord : BitVec 2) : State :=
  s.amo f d a (s.getX b).toNat 0 sc ord fun _ new => BitVec.ofNat 64 (fxClass new)

/-- lb: xd := the byte at xa + imm, sign-extended (R187). -/
def execLb (d a : Fin 32) (i : BitVec 11) (s : State) : Out :=
  .next (s.load 4 d (s.getX a + imm11 i) 1 true)

/-- lh: xd := the halfword at xa + imm, sign-extended (R187). -/
def execLh (d a : Fin 32) (i : BitVec 11) (s : State) : Out :=
  .next (s.load 4 d (s.getX a + imm11 i) 2 true)

/-- lw: xd := the word at xa + imm, sign-extended (R187). -/
def execLw (d a : Fin 32) (i : BitVec 11) (s : State) : Out :=
  .next (s.load 4 d (s.getX a + imm11 i) 4 true)

/-- ld: xd := the doubleword at xa + imm (R187). -/
def execLd (d a : Fin 32) (i : BitVec 11) (s : State) : Out :=
  .next (s.load 4 d (s.getX a + imm11 i) 8 false)

/-- lbu: xd := the byte at xa + imm, zero-extended (R187). -/
def execLbu (d a : Fin 32) (i : BitVec 11) (s : State) : Out :=
  .next (s.load 4 d (s.getX a + imm11 i) 1 false)

/-- lhu: xd := the halfword at xa + imm, zero-extended (R187). -/
def execLhu (d a : Fin 32) (i : BitVec 11) (s : State) : Out :=
  .next (s.load 4 d (s.getX a + imm11 i) 2 false)

/-- lwu: xd := the word at xa + imm, zero-extended (R187). -/
def execLwu (d a : Fin 32) (i : BitVec 11) (s : State) : Out :=
  .next (s.load 4 d (s.getX a + imm11 i) 4 false)

/-- sb: the low byte of xb to xa + imm (R187). -/
def execSb (a b : Fin 32) (i : BitVec 11) (s : State) : Out :=
  .next (s.store 4 b (s.getX a + imm11 i) 1)

/-- sh: the low 2 bytes of xb to xa + imm (R187). -/
def execSh (a b : Fin 32) (i : BitVec 11) (s : State) : Out :=
  .next (s.store 4 b (s.getX a + imm11 i) 2)

/-- sw: the low 4 bytes of xb to xa + imm (R187). -/
def execSw (a b : Fin 32) (i : BitVec 11) (s : State) : Out :=
  .next (s.store 4 b (s.getX a + imm11 i) 4)

/-- sd: the low 8 bytes of xb to xa + imm (R187). -/
def execSd (a b : Fin 32) (i : BitVec 11) (s : State) : Out :=
  .next (s.store 4 b (s.getX a + imm11 i) 8)

/-- lb.rx and lb.aq: xd := the byte at xa (R190). -/
def execLbOrd (d a : Fin 32) (_sc : BitVec 3) (ord : BitVec 1) (s : State) : Out :=
  .next (s.loadOrd d a ord 1 true)

/-- lh.rx and lh.aq: xd := the halfword at xa (R190). -/
def execLhOrd (d a : Fin 32) (_sc : BitVec 3) (ord : BitVec 1) (s : State) : Out :=
  .next (s.loadOrd d a ord 2 true)

/-- lw.rx and lw.aq: xd := the word at xa (R190). -/
def execLwOrd (d a : Fin 32) (_sc : BitVec 3) (ord : BitVec 1) (s : State) : Out :=
  .next (s.loadOrd d a ord 4 true)

/-- ld.rx and ld.aq: xd := the doubleword at xa (R190). -/
def execLdOrd (d a : Fin 32) (_sc : BitVec 3) (ord : BitVec 1) (s : State) : Out :=
  .next (s.loadOrd d a ord 8 false)

/-- lbu.rx and lbu.aq: xd := the byte at xa (R190). -/
def execLbuOrd (d a : Fin 32) (_sc : BitVec 3) (ord : BitVec 1) (s : State) : Out :=
  .next (s.loadOrd d a ord 1 false)

/-- lhu.rx and lhu.aq: xd := the halfword at xa (R190). -/
def execLhuOrd (d a : Fin 32) (_sc : BitVec 3) (ord : BitVec 1) (s : State) : Out :=
  .next (s.loadOrd d a ord 2 false)

/-- lwu.rx and lwu.aq: xd := the word at xa (R190). -/
def execLwuOrd (d a : Fin 32) (_sc : BitVec 3) (ord : BitVec 1) (s : State) : Out :=
  .next (s.loadOrd d a ord 4 false)

/-- sb.rx and sb.rl: the low bytes of xb to xa (R190). -/
def execSbOrd (a b : Fin 32) (sc : BitVec 3) (ord : BitVec 1) (s : State) : Out :=
  .next (s.storeOrd a b sc ord 1)

/-- sh.rx and sh.rl: the low bytes of xb to xa (R190). -/
def execShOrd (a b : Fin 32) (sc : BitVec 3) (ord : BitVec 1) (s : State) : Out :=
  .next (s.storeOrd a b sc ord 2)

/-- sw.rx and sw.rl: the low bytes of xb to xa (R190). -/
def execSwOrd (a b : Fin 32) (sc : BitVec 3) (ord : BitVec 1) (s : State) : Out :=
  .next (s.storeOrd a b sc ord 4)

/-- sd.rx and sd.rl: the low bytes of xb to xa (R190). -/
def execSdOrd (a b : Fin 32) (sc : BitVec 3) (ord : BitVec 1) (s : State) : Out :=
  .next (s.storeOrd a b sc ord 8)

/-- amoswap: new := xb; xd := old (R191). -/
def execAmoswap (d a b : Fin 32) (sc : BitVec 3) (ord : BitVec 2) (s : State) : Out :=
  .next (s.amoOld .swap d a b sc ord)

/-- amoadd: new := old + xb; xd := old (R191). -/
def execAmoadd (d a b : Fin 32) (sc : BitVec 3) (ord : BitVec 2) (s : State) : Out :=
  .next (s.amoOld .add d a b sc ord)

/-- amoand: new := old & xb; xd := old (R191). -/
def execAmoand (d a b : Fin 32) (sc : BitVec 3) (ord : BitVec 2) (s : State) : Out :=
  .next (s.amoOld .and d a b sc ord)

/-- amoor: new := old | xb; xd := old (R191). -/
def execAmoor (d a b : Fin 32) (sc : BitVec 3) (ord : BitVec 2) (s : State) : Out :=
  .next (s.amoOld .or d a b sc ord)

/-- amoxor: new := old ^ xb; xd := old (R191). -/
def execAmoxor (d a b : Fin 32) (sc : BitVec 3) (ord : BitVec 2) (s : State) : Out :=
  .next (s.amoOld .xor d a b sc ord)

/-- amomin: new := the signed minimum of old and xb; xd := old (R191). -/
def execAmomin (d a b : Fin 32) (sc : BitVec 3) (ord : BitVec 2) (s : State) : Out :=
  .next (s.amoOld .min d a b sc ord)

/-- amomax: new := the signed maximum of old and xb; xd := old (R191). -/
def execAmomax (d a b : Fin 32) (sc : BitVec 3) (ord : BitVec 2) (s : State) : Out :=
  .next (s.amoOld .max d a b sc ord)

/-- amominu: new := the unsigned minimum of old and xb; xd := old (R191). -/
def execAmominu (d a b : Fin 32) (sc : BitVec 3) (ord : BitVec 2) (s : State) : Out :=
  .next (s.amoOld .minu d a b sc ord)

/-- amomaxu: new := the unsigned maximum of old and xb; xd := old (R191). -/
def execAmomaxu (d a b : Fin 32) (sc : BitVec 3) (ord : BitVec 2) (s : State) : Out :=
  .next (s.amoOld .maxu d a b sc ord)

/-- amocas: if old = xd then new := xb, else no write; xd := old (R191). -/
def execAmocas (d a b : Fin 32) (sc : BitVec 3) (ord : BitVec 2) (s : State) : Out :=
  .next (s.amoOld .cas d a b sc ord)

/-- AmofxL: adds the signed 64-bit integer xb to the FX128 cell at xa; xd := the class of the new cell (R192). -/
def execAmofxL (d a b : Fin 32) (sc : BitVec 3) (ord : BitVec 2) (s : State) : Out :=
  .next (s.amoFx .fxL d a b sc ord)

/-- AmofxD: adds the FP64 value xb to the FX128 cell at xa; xd := the class of the new cell (R192). -/
def execAmofxD (d a b : Fin 32) (sc : BitVec 3) (ord : BitVec 2) (s : State) : Out :=
  .next (s.amoFx .fxD d a b sc ord)

/-- AmofxS: adds the FP32 value xb[31:0] to the FX128 cell at xa; xd := the class of the new cell (R192). -/
def execAmofxS (d a b : Fin 32) (sc : BitVec 3) (ord : BitVec 2) (s : State) : Out :=
  .next (s.amoFx .fxS d a b sc ord)

end Sys2Proof.Machine
end

