-- ==== Sys2Proof/Machine/Compressed.lean ====
section
/-! DEFINITION. Compressed forms (spec/07_scalar_instructions.md R221, R222): each acts as its expansion, over the same
operations, with a PC advance of 2. -/

namespace Sys2Proof.Machine

/-- A branch of 2 bytes on xa alone: to PC + the CB offset, else to PC + 2. -/
def State.branchZero (s : State) (a : Fin 8) (i : BitVec 8) (f : Word → Bool) : State :=
  if f (s.getX (primed a)) then s.jump (s.pcW + immCB i) else s.retire 2

/-- c.ld: ld xd, o x 8(xa) (R221). -/
def execCLd (d a : Fin 8) (i : BitVec 5) (s : State) : Out :=
  .next (s.load 2 (primed d) (s.getX (primed a) + immScaled i 8) 8 false)

/-- c.lw: lw xd, o x 4(xa) (R221). -/
def execCLw (d a : Fin 8) (i : BitVec 5) (s : State) : Out :=
  .next (s.load 2 (primed d) (s.getX (primed a) + immScaled i 4) 4 true)

/-- c.sd: sd xb, o x 8(xa) (R221). -/
def execCSd (a b : Fin 8) (i : BitVec 5) (s : State) : Out :=
  .next (s.store 2 (primed b) (s.getX (primed a) + immScaled i 8) 8)

/-- c.sw: sw xb, o x 4(xa) (R221). -/
def execCSw (a b : Fin 8) (i : BitVec 5) (s : State) : Out :=
  .next (s.store 2 (primed b) (s.getX (primed a) + immScaled i 4) 4)

/-- c.addisp: addi xd, sp, zext(imm8) x 4 (R221). -/
def execCAddisp (d : Fin 8) (i : BitVec 8) (s : State) : Out :=
  .next (s.write 2 (primed d) (s.getX 2 + immScaled i 4))

/-- c.addi: addi xd, xd, sext(imm6) (R221). -/
def execCAddi (d : Fin 32) (i : BitVec 6) (s : State) : Out :=
  .next (s.write 2 d (s.getX d + imm6 i))

/-- c.li: addi xd, x0, sext(imm6) (R221). -/
def execCLi (d : Fin 32) (i : BitVec 6) (s : State) : Out :=
  .next (s.write 2 d (imm6 i))

/-- c.j: jal x0, off (R221). -/
def execCJ (i : BitVec 11) (s : State) : Out :=
  .next (s.jump (s.pcW + immCJ i))

/-- c.beqz: beq xa, x0, off (R221). -/
def execCBeqz (a : Fin 8) (i : BitVec 8) (s : State) : Out :=
  .next (s.branchZero a i (fun x => x == 0))

/-- c.bnez: bne xa, x0, off (R221). -/
def execCBnez (a : Fin 8) (i : BitVec 8) (s : State) : Out :=
  .next (s.branchZero a i (fun x => x != 0))

/-- c.mv: add xd, x0, xb (R221). -/
def execCMv (d b : Fin 32) (s : State) : Out :=
  .next (s.write 2 d (s.getX b))

/-- c.add: add xd, xd, xb (R221). -/
def execCAdd (d b : Fin 32) (s : State) : Out :=
  .next (s.write 2 d (s.getX d + s.getX b))

/-- c.jr: jalr x0, 0(xa) (R221). -/
def execCJr (a : Fin 32) (s : State) : Out :=
  .next (s.jump (s.getX a))

/-- c.jalr: jalr x1, 0(xa), linking PC + 2 (R221). -/
def execCJalr (a : Fin 32) (s : State) : Out :=
  .next ((s.setX 1 (s.pcW + 2)).jump (s.getX a))

/-- c.ldsp: ld xd, zext(imm6) x 8(sp) (R221). -/
def execCLdsp (d : Fin 32) (i : BitVec 6) (s : State) : Out :=
  .next (s.load 2 d (s.getX 2 + immScaled i 8) 8 false)

/-- c.sdsp: sd xb, zext(imm6) x 8(sp) (R221). -/
def execCSdsp (b : Fin 32) (i : BitVec 6) (s : State) : Out :=
  .next (s.store 2 b (s.getX 2 + immScaled i 8) 8)

end Sys2Proof.Machine
end

