-- ==== Sys2Proof/Machine/VConfig.lean ====
section
/-! DEFINITION. The hearth configuration of a hart and the limits it gives (spec/03_hearth_registers.md R67-R72, R76). -/

namespace Sys2Proof.Machine

/-- A hart without a lane partition (R25, R76). -/
def Hart.scalarOnly (h : Hart) : Bool := h.vs.qcount == 0

/-- Lanes of the hart's partition (R76). -/
def Hart.lanes (h : Hart) : Nat := Config.quartetLanes * h.vs.qcount

/-- Physical slots, and rows of a slot (R67, R69). -/
def VCfg.slots (c : VCfg) : Nat := 8 * 2 ^ c.nslot.toNat
@[inherit_doc VCfg.slots] def VCfg.rps (c : VCfg) : Nat := 1024 / c.slots

/-- Slots available for general registers (R71). -/
def Hart.available (h : Hart) : Nat := if h.id.paired then h.vs.cfg.slots / 2 else h.vs.cfg.slots

/-- VLMAX(w) (R70). -/
def Hart.vlmaxAt (h : Hart) (w : Nat) : Nat := h.lanes * (h.vs.cfg.rps / w)

/-- The element width SEW in force. -/
def Hart.sew (h : Hart) : Nat := h.vs.cfg.sew.toNat

/-- VLMAX (R72): 0 where VCFG.ILL is 1 or the hart is scalar-only. -/
def Hart.vlmax (h : Hart) : Nat := if h.vs.cfg.ill || h.scalarOnly then 0 else h.vlmaxAt h.sew

/-- Bytes of a spill copy: VLEN / 8 (R90). -/
def Hart.vlenBytes (h : Hart) : Nat := h.lanes * h.vs.cfg.rps / 8

/-- The vector rounding mode: VCFG.FRM, or FRM.RM where it is 7 (R67, R102). -/
def Hart.vrnd (h : Hart) : Rnd :=
  if h.vs.cfg.frm = 7 then Rnd.ofCode h.vs.frm.toNat else Rnd.ofCode h.vs.cfg.frm.toNat

end Sys2Proof.Machine
end

