-- ==== Sys2Proof/Machine/Slots.lean ====
section
/-! DEFINITION. Quartets and their roles (spec/01_machine.md R24-R29), and which general registers are resident, spilled to
cache ways or spilled to HBM (spec/03_hearth_registers.md R88-R92). -/

namespace Sys2Proof.Machine

/-- The quartets of a partition as a set of bits. -/
def quartetBits (first count : Nat) : BitVec 8 := BitVec.ofNat 8 ((2 ^ count - 1) * 2 ^ first)

/-- The harts of a core that hold a slot, with their slot numbers. -/
def State.residents (s : State) (c : CoreId) : List (Nat × Hart) :=
  (List.range 8).filterMap fun k =>
    let h := s.hart { die := c.die, core := c.core, slot := Fin.ofNat 8 k }
    if h.st = .empty then none else some (k, h)

/-- The harts whose partition is on a core: its own, and on an odd core the shadows of paired harts (R498). -/
def State.partitions (s : State) (c : CoreId) : List Hart :=
  ((s.residents c).map (·.2)
    ++ (if c.core.val % 2 = 1 then
          ((s.residents { c with core := Fin.ofNat 192 (c.core.val - 1) }).map (·.2)).filter (·.id.paired)
        else [])).filter fun h => h.vs.qcount != 0

/-- Quartets in lane partitions now (R29). -/
def State.hearthBits (s : State) (c : CoreId) : BitVec 8 :=
  (s.partitions c).foldl (fun b h => b ||| quartetBits h.vs.qfirst h.vs.qcount) 0

/-- Lane partitions now held (R29). -/
def State.parts (s : State) (c : CoreId) : Nat := (s.partitions c).length

/-- Quartets in the cache role: usable, in no partition and not reserved for an incoming hart (R24, R474). -/
def State.cacheBits (s : State) (c : CoreId) : BitVec 8 :=
  (s.core c).usable &&& ~~~(s.hearthBits c) &&& ~~~((s.core c).reserved.foldl (fun b r => b ||| r.1) 0)

/-- How many of eight bits are 1. -/
def count8 (b : BitVec 8) : Nat := popcount 8 b.toNat

/-- The aligned blocks of `n` quartets in ascending order that lie in a set (R25, R44). -/
def freeBlocks (bits : BitVec 8) (n : Nat) : List Nat :=
  (List.range (8 / max 1 n)).map (· * n) |>.filter fun q => quartetBits q n &&& bits == quartetBits q n

/-- MAXFREE (R29). -/
def State.maxFree (s : State) (c : CoreId) : Nat :=
  if 4 ≤ s.parts c then 0
  else (([8, 4, 2, 1].find? fun n => !(freeBlocks (s.cacheBits c) n).isEmpty).getD 0)

/-- LANECAP (R29). -/
def State.lanecap (s : State) (c : CoreId) : Word :=
  let u := (s.core c).usable
  BitVec.ofNat 64 (u.toNat + (s.hearthBits c).toNat * 2 ^ 8 + s.parts c * 2 ^ 16 + s.maxFree c * 2 ^ 20
    + count8 u * Config.quartetLanes * 2 ^ 24)

/-- A hart with one register changed. -/
def Hart.setV (h : Hart) (k : Nat) (r : VReg) : Hart := { h with v := h.v.setIfInBounds k r }

/-- A register of a hart. -/
def Hart.getV (h : Hart) (k : Nat) : VReg := h.v.getD k VReg.reset

/-- Where a register's general elements are kept; none for U and A. -/
def VReg.place? (r : VReg) : Option Place := match r.shape with | .g _ p => some p | _ => none

/-- The register with its elements kept elsewhere. -/
def VReg.move (r : VReg) (p : Place) : VReg := match r.shape with | .g es _ => { r with shape := .g es p } | _ => r

/-- The quartets whose ways hold a register's copy. -/
def VReg.inWays (r : VReg) : Option (BitVec 8) := match r.shape with | .g _ (.ways q) => some q | _ => none

/-- Bytes of the copies a hart keeps in cache ways (R90). -/
def Hart.wayBytes (h : Hart) : Nat := ((h.v.toList.filter fun r => r.inWays.isSome).length) * h.vlenBytes

/-- Bytes of the strip buffers of a hart that lie in the ways (R28, R268, R273): two strips of 16 KiB for each stream that has some,
until the stream is idled or replaced (R256). -/
def Hart.stripBytes (h : Hart) : Nat := ((h.stm.toList.filter fun t => t.bufs.isSome).length) * 32768

/-- Bytes in the ways of a core that spill copies and strip buffers take (R90). -/
def State.wayUse (s : State) (c : CoreId) : Nat := ((s.residents c).map fun (_, h) => h.wayBytes + h.stripBytes).sum

/-- Bytes in the ways that copies may still take: at most half the slice's capacity is used (R27, R90). -/
def State.wayRoom (s : State) (c : CoreId) : Nat :=
  count8 (s.cacheBits c) * 2 ^ 20 / 2 - s.wayUse c

/-- The resident general registers of a hart, by number. -/
def Hart.resident (h : Hart) : List Nat := (List.range 64).filter fun k => (h.getV k).place? = some .slot

/-- The register spilled first: the least recently used, and among equals the highest number (R89). -/
def Hart.victim (h : Hart) : Option Nat :=
  h.resident.foldl (fun best k =>
    match best with
    | none => some k
    | some b => if (h.getV k).used ≤ (h.getV b).used then some k else some b) none

/-- The first byte of a register's copy in the HBM spill region (R90, log 18): 64 areas of LANES x 16 bytes. -/
def Hart.spillByte (h : Hart) (k : Nat) : Nat := h.id.spillBase.toNat + k * h.lanes * 16

/-- A copy of register `k` of hart `h` goes to the HBM spill region, in whole sectors: those are good again (R90, R476). -/
def State.copyOut (s : State) (h : Hart) (k : Nat) : State :=
  if s.poison = [] then s
  else s.cure fun c => decide (h.spillByte k ≤ 64 * c ∧ 64 * c + 64 ≤ h.spillByte k + h.vlenBytes)

/-- Spills resident registers until no more than the available slots are taken (R89, R90): to cache ways where they have
room, else to the HBM region. -/
def State.spillDown (s : State) (i : HartId) : Nat → State
  | 0 => s
  | n + 1 =>
    let h := s.hart i
    if h.resident.length ≤ h.available then s
    else
      match h.victim with
      | none => s
      | some k =>
        let p : Place := if h.vlenBytes ≤ s.wayRoom (coreOf i) then .ways (s.cacheBits (coreOf i)) else .hbm
        let s := if p = .hbm then s.copyOut h k else s
        (s.setHart i (h.setV k ((h.getV k).move p))).spillDown i n

/-- The registers `named` take slots where they are general, and others are spilled as far as needed (R89). -/
def State.settle (s : State) (i : HartId) (named : List Nat) : State :=
  let h := named.foldl (fun h k => h.setV k ((h.getV k).move .slot)) (s.hart i)
  (s.setHart i h).spillDown i 64

/-- Where the strip buffers of a stream of hart `i` go: into the ways, or where those cannot take them into memory (R28, R268). -/
def State.bufferPlace (s : State) (i : HartId) : Option (BitVec 8) :=
  if 32768 ≤ s.wayRoom (coreOf i) then some (s.cacheBits (coreOf i)) else none

/-- The stream has strip buffers: it is a copy that has been declared, or a send whose buffers it keeps (R268, R273). -/
def Stream.buffering (t : Stream) : Bool :=
  (t.mode == 2 && t.state != .idle) || t.bufs.isSome || (t.mode == 3 && (t.send = .busy || t.partway || !t.outbox.isEmpty))

/-- The strip buffers of a hart that comes to a core are placed anew, in its own ways where those have room (R28, R268). -/
def State.rebuffer (s : State) (i : HartId) : State :=
  let sts := (List.finRange 16).filter fun (st : Fin 16) => (s.hart i).stm[st].buffering
  let h := s.hart i
  let s := s.setHart i { h with stm := h.stm.map fun t => { t with bufs := none } }
  sts.foldl (fun (s : State) (st : Fin 16) =>
    let h := s.hart i
    s.setHart i { h with stm := h.stm.set st { h.stm[st] with bufs := s.bufferPlace i } }) s

/-- A hart whose copies and strip buffers in ways chosen by `out` have moved to memory (R28, R92). -/
def Hart.leaveWays (h : Hart) (out : BitVec 8 → Bool) : Hart :=
  { h with v := h.v.map fun r => if r.inWays.any out then r.move .hbm else r,
           stm := h.stm.map fun t => if t.bufs.any out then { t with bufs := none } else t }

/-- Some copy or buffer of the hart lies in ways chosen by `out`. -/
def Hart.inWays (h : Hart) (out : BitVec 8 → Bool) : Bool :=
  h.v.toList.any (fun r => r.inWays.any out) || h.stm.toList.any fun t => t.bufs.any out

/-- Copies and buffers of a core's harts move to memory hart by hart: those in ways that are not among `left`, and where the rest take
more than half of the capacity left, all of a hart's (R28, R90, R92). -/
def State.evictFrom (s : State) (c : CoreId) (left : BitVec 8) : List Nat → State
  | [] => s
  | k :: ks =>
    let i : HartId := { die := c.die, core := c.core, slot := Fin.ofNat 8 k }
    let tight := count8 left * 2 ^ 20 / 2 < s.wayUse c
    let out := fun q : BitVec 8 => tight || q &&& ~~~left != 0
    let h := s.hart i
    let gone := (List.range 64).filter fun r => (h.getV r).inWays.any out
    (if h.inWays out then gone.foldl (fun s r => s.copyOut h r) (s.setHart i (h.leaveWays out)) else s).evictFrom c left ks

/-- Before quartets leave the cache role, and where copies grow, what the ways can no longer hold moves to memory (R28, R90, R92). -/
def State.evictWays (s : State) (c : CoreId) : State := s.evictFrom c (s.cacheBits c) ((s.residents c).map (·.1))

/-- Elements of a spilled register whose copy holds an uncorrectable error are bad from its refill on (R90, R338). -/
def State.refillErrors (s : State) (i : HartId) (k : Nat) : List Nat :=
  let h := s.hart i
  let r := h.getV k
  if s.poison = [] || r.place? != some .hbm then []
  else (List.range r.extent).filter fun e =>
    s.poison.contains ((h.spillByte k + e * r.ew / 8) / 64) || s.poison.contains ((h.spillByte k + (e * r.ew + r.ew - 1) / 8) / 64)

end Sys2Proof.Machine
end

