-- ==== Sys2Proof/Machine/VRegs.lean ====
section
/-! DEFINITION. Vector registers by element (spec/03_hearth_registers.md): the image a register holds (R69, R79, R80), which
sources cover (R81), the writes of a tile row (R84, R85), and masks (R93). -/

namespace Sys2Proof.Machine

/-- Element `i` of a register's image at its own width: 0 from the extent up (R80). -/
def VReg.own (r : VReg) (i : Nat) : Nat :=
  if r.extent ≤ i then 0
  else
    match r.shape with
    | .u v => v
    | .a base step => (base + i * step) % 2 ^ r.ew
    | .g es _ => es.getD i 0

/-- The own-width element and its bit that lie in the row and lane of bit `k` of element `i` at width `w`, in a partition of
`lanes` lanes with `rps` rows to a slot (R69). -/
def VReg.cell (r : VReg) (lanes rps w i k : Nat) : Option (Nat × Nat) :=
  let row := i / lanes * w + k
  if r.ew = 0 ∨ rps / r.ew ≤ row / r.ew then none else some (row / r.ew * lanes + i % lanes, row % r.ew)

/-- Element `i` read at width `w` (R80): at another width than the register's, from the rows of its image. -/
def VReg.at (r : VReg) (lanes rps w i : Nat) : Nat :=
  if w = r.ew then r.own i
  else if rps / w ≤ i / lanes then 0
  else
    ((List.range w).map fun k =>
      match r.cell lanes rps w i k with
      | none => 0
      | some (j, b) => boolN (bitAt (r.own j) b) * 2 ^ k).sum

/-- Element `i` at width `w` lies on an element with an uncorrectable error: that element (R338). -/
def VReg.badAt (r : VReg) (lanes rps w i : Nat) : Option Nat :=
  if r.bad = [] then none
  else if w = r.ew then (if r.bad.contains i then some i else none)
  else (List.range w).findSome? fun k =>
    match r.cell lanes rps w i k with
    | none => none
    | some (j, _) => if r.bad.contains j then some j else none

/-- Element `i` of register `k` of a hart at width `w`. -/
def Hart.elem (h : Hart) (k w i : Nat) : Nat := (h.getV k).at h.lanes h.vs.cfg.rps w i

/-- The array descriptor that TVAL holds for a bad element (R338). -/
def arrayExc (elem reg : Nat) (mask block : Bool) : Exc :=
  { cause := .dataerr, acc := .read, origin := .array,
    tval := BitVec.ofNat 64 (elem % 2 ^ 24 + reg * 2 ^ 24 + boolN mask * 2 ^ 30 + boolN block * 2 ^ 31 + 2 ^ 63) }

/-- The error of a register's bad element: found in its spill copy, which lies in memory (R90), or in the array. -/
def VReg.badExc (r : VReg) (elem reg : Nat) : Exc :=
  { arrayExc elem reg false false with origin := if r.refilled then .memory else .array }

/-- DATAERR for a read of element `i` of register `k` at width `w`, if it is bad. -/
def Hart.elemErr (h : Hart) (k w i : Nat) : Option Exc :=
  ((h.getV k).badAt h.lanes h.vs.cfg.rps w i).map fun j => (h.getV k).badExc j k

/-- The class of a source: uniform or affine where it covers the instruction, else general (R81). -/
inductive Cover where
  | u (v : Nat)
  | a (base step : Nat)
  | g
deriving DecidableEq, Repr

/-- A register as a source of an operand of width `w` at vector length `vl` (R81). -/
def VReg.cover (r : VReg) (w vl : Nat) : Cover :=
  if r.ew = w ∧ vl ≤ r.extent then
    match r.shape with
    | .u v => .u v
    | .a b s => .a b s
    | .g _ _ => .g
  else .g

/-- The shape a full write of a row gives: one or two scalars, or its elements. -/
def Cover.shape (c : Cover) (es : List Nat) : Shape :=
  match c with
  | .u v => .u v
  | .a b s => .a b s
  | .g => .g es .slot

/-- The old elements `0` to `n - 1` of a register read at width `w`. -/
def VReg.elems (r : VReg) (lanes rps w n : Nat) : List Nat := (List.range n).map (r.at lanes rps w)

/-- A write of one tile row (R84, R85): positions `[lo, hi)` of the row are processed with the values `val` where `act`
holds; `full` is the shape of a full write. `hi < vl` means that the convoy stopped in this row. -/
def VReg.writeRow (r : VReg) (lanes rps w vl lo hi : Nat) (unmasked : Bool) (act : Nat → Bool) (val : Nat → Nat)
    (full : Cover) : VReg :=
  if hi ≤ lo ∨ vl = 0 then r
  else if hi = vl ∧ lo = 0 ∧ unmasked then
    { r with shape := full.shape ((List.range vl).map val), ew := w, extent := vl, bad := [] }
  else
    let n := if hi = vl then vl else max (min r.extent (lanes * (rps / w))) hi
    let es := (List.range n).map fun i => if lo ≤ i ∧ i < hi ∧ act i then val i else r.at lanes rps w i
    { r with shape := .g es .slot, ew := w, extent := n,
             bad := if w = r.ew then r.bad.filter (· < n) else if r.bad = [] then []
               else (List.range n).filter fun i => (r.badAt lanes rps w i).isSome }

/-- Mask bit `i` (R93). -/
def Mask.bit (m : Mask) (i : Nat) : Bool := m.bits.getD i false

/-- A write of mask bits `[lo, hi)` at vector length `vl`: masked-off bits are kept, and bits from VL up cleared, unless
the convoy stopped below VL (R85, R244). -/
def Mask.write (m : Mask) (vl lo hi : Nat) (act : Nat → Bool) (val : Nat → Bool) (ones : Nat) : Mask :=
  if hi ≤ lo ∨ vl = 0 then m
  else
    let n := if hi = vl then vl else max m.bits.length hi
    { bits := (List.range n).map fun i => if lo ≤ i ∧ i < hi ∧ act i then val i else m.bit i,
      ones := if hi = vl then ones else 0,
      bad := if lo = 0 ∧ hi = vl then [] else m.bad }

/-- A mask register of a hart, and the hart with it changed. -/
def Hart.getM (h : Hart) (k : Nat) : Mask := h.m.getD k Mask.reset
@[inherit_doc Hart.getM] def Hart.setM (h : Hart) (k : Nat) (m : Mask) : Hart := { h with m := h.m.setIfInBounds k m }

/-- DATAERR for a read of bit `i` of mask `k`, if it is bad (R338). -/
def Hart.maskErr (h : Hart) (k i : Nat) : Option Exc :=
  if (h.getM k).bad.contains i then some (arrayExc i k true false) else none

/-- m0 is known all-true for an instruction at vector length `vl` (R93). -/
def Hart.allTrue (h : Hart) (vl : Nat) : Bool := decide (vl ≤ (h.getM 0).ones)

/-- Position `e` of a row is processed: mk = 0, or m0[e] = 1 (R228). -/
def Hart.active (h : Hart) (masked : Bool) (e : Nat) : Bool := !masked || (h.getM 0).bit e

end Sys2Proof.Machine
end

