-- ==== Sys2Proof/Machine/Lanes.lean ====
section
/-! DEFINITION. What each element-wise operation computes on one element (spec/08_vector_arithmetic.md R233-R244): operand
widths, permitted formats, immediates, the result with its flags, and the shape of a full write (R82). -/

namespace Sys2Proof.Machine

/-- The result of one element operation: the pattern, the floating flags raised, and whether it clipped. -/
structure LaneOut where
  r : Nat
  fl : Flags
  clip : Bool
deriving DecidableEq, Repr

/-- A result that raises nothing. -/
def plain (r : Nat) : LaneOut := { r := r, fl := 0, clip := false }

/-- A floating result with its flags. -/
def floating (x : Nat × Flags) : LaneOut := { r := x.1, fl := x.2, clip := false }

/-- A saturated integer as a `w`-bit pattern. -/
def saturated (w : Nat) (x : Int × Bool) : LaneOut := { r := pat w x.1, fl := 0, clip := x.2 }

/-- Operand widths (wa, wb, wd) at element width `w` (R226, R233-R241). -/
def EwOp.widths (f : EwOp) (w : Nat) : Nat × Nat × Nat :=
  match f with
  | .wadd | .waddu | .wmul | .wmulu => (w, w, 2 * w)
  | .nclip | .nclipu => (2 * w, w, w)
  | .cvtFF c => (match Fmt.ofCode c.toNat with | some g => g.width | none => w, w, w)
  | _ => (w, w, w)

/-- Operations that do not read va, and those that read op3 (R233, R239, R240). -/
def EwOp.noA (f : EwOp) : Bool := f = .splat || f = .index
@[inherit_doc EwOp.noA] def EwOp.unary (f : EwOp) : Bool :=
  match f with
  | .index | .move | .fsqrt | .fclass | .cvtFX | .cvtFXu | .cvtXF | .cvtXuF | .cvtFF _ | .fexp | .frec => true
  | _ => false

/-- The fused forms read vd as a third source (R240). -/
def EwOp.fused (f : EwOp) : Bool := f = .fmacc || f = .fnmacc || f = .fmsac || f = .fnmsac

/-- Whether the format code FMT is one the entry permits (R239-R242). -/
def EwOp.permits (f : EwOp) (fmt : Nat) : Bool :=
  match f with
  | .fadd | .fsub | .frsub | .fmul | .fdiv | .frdiv | .fsqrt | .fmin | .fmax | .fsgnj | .fsgnjn | .fsgnjx | .fclass
  | .fmacc | .fnmacc | .fmsac | .fnmsac => decide (1 ≤ fmt ∧ fmt ≤ 4)
  | .cvtFX | .cvtFXu | .cvtXF | .cvtXuF | .cvtFF _ => decide (1 ≤ fmt ∧ fmt ≤ 7)
  | .fexp | .frec => decide (2 ≤ fmt ∧ fmt ≤ 4)
  | _ => true

/-- Entries whose immediate is zero-extended: shifts, scaling and clips (R236, R237). -/
def EwOp.zextImm (f : EwOp) : Bool :=
  match f with
  | .sll | .srl | .sra | .ssrl | .ssra | .nclip | .nclipu => true
  | _ => false

/-- The format named by VCFG.FMT; operations that use it are refused where it names none. -/
def VCfg.format (c : VCfg) : Fmt := (Fmt.ofCode c.fmt.toNat).getD .f64

/-- The result of an element operation at element width `w`: `a`, `b` and `d` are the operand patterns and `e` the element
number. -/
def EwOp.eval (f : EwOp) (c : VCfg) (rnd : Rnd) (w a b d e : Nat) : LaneOut :=
  let g := c.format
  let sa := sext a w
  let sb := sext b w
  let ua := zext a w
  let ub := zext b w
  let u := b % 2 ^ w
  let va := g.value a
  let vb := g.value b
  let vd := g.value d
  match f with
  | .splat => plain (trunc w b)
  | .index => plain (trunc w e)
  | .move => plain (trunc w a)
  | .merge => plain (trunc w a)
  | .add => plain (trunc w (a + b))
  | .sub => plain (pat w (ua - ub))
  | .rsub => plain (pat w (ub - ua))
  | .and => plain (trunc w (a &&& b))
  | .or => plain (trunc w (a ||| b))
  | .xor => plain (trunc w (a ^^^ b))
  | .sll => plain (if w ≤ u then 0 else trunc w (a * 2 ^ u))
  | .srl => plain (if w ≤ u then 0 else trunc w a / 2 ^ u)
  | .sra => plain (pat w (sa / (2 ^ Nat.min u w : Nat)))
  | .mul => plain (pat w (sa * sb))
  | .mulh => plain (pat w (sa * sb / (2 ^ w : Nat)))
  | .mulhu => plain (pat w (ua * ub / (2 ^ w : Nat)))
  | .min => plain (trunc w (if sa ≤ sb then a else b))
  | .max => plain (trunc w (if sb ≤ sa then a else b))
  | .minu => plain (trunc w (if ua ≤ ub then a else b))
  | .maxu => plain (trunc w (if ub ≤ ua then a else b))
  | .sadd => saturated w (Machine.clip (minS w) (maxS w) (sa + sb))
  | .saddu => saturated w (Machine.clip 0 (maxU w) (ua + ub))
  | .ssub => saturated w (Machine.clip (minS w) (maxS w) (sa - sb))
  | .ssubu => saturated w (Machine.clip 0 (maxU w) (ua - ub))
  | .aadd => plain (pat w (roundoff c.vxrm (sa + sb) 1))
  | .aaddu => plain (pat w (roundoff c.vxrm (ua + ub) 1))
  | .smul => saturated w (Machine.clip (minS w) (maxS w) (roundoff c.vxrm (sa * sb) (w - 1)))
  | .ssrl => plain (pat w (roundoff c.vxrm ua u))
  | .ssra => plain (pat w (roundoff c.vxrm sa u))
  | .wadd => plain (pat (2 * w) (sa + sb))
  | .waddu => plain (pat (2 * w) (ua + ub))
  | .wmul => plain (pat (2 * w) (sa * sb))
  | .wmulu => plain (pat (2 * w) (ua * ub))
  | .nclip => saturated w (Machine.clip (minS w) (maxS w) (roundoff c.vxrm (sext a (2 * w)) u))
  | .nclipu => saturated w (Machine.clip 0 (maxU w) (roundoff c.vxrm (zext a (2 * w)) u))
  | .fadd => floating (g.sum rnd va vb)
  | .fsub => floating (g.sum rnd va vb.neg)
  | .frsub => floating (g.sum rnd vb va.neg)
  | .fmul => floating (g.product rnd va vb)
  | .fdiv => floating (g.quotient rnd va vb)
  | .frdiv => floating (g.quotient rnd vb va)
  | .fsqrt => floating (g.root rnd va)
  | .fmin => floating (g.minimum a b)
  | .fmax => floating (g.maximum a b)
  | .fsgnj => plain (g.withSign a (g.signOf b))
  | .fsgnjn => plain (g.withSign a (!g.signOf b))
  | .fsgnjx => plain (g.withSign a (g.signOf a != g.signOf b))
  | .fclass => plain (trunc w (g.classify a))
  | .fmacc => floating (g.fused rnd va vb vd)
  | .fnmacc => floating (g.fused rnd va.neg vb vd.neg)
  | .fmsac => floating (g.fused rnd va vb vd.neg)
  | .fnmsac => floating (g.fused rnd va.neg vb vd)
  | .cvtFX => floating (g.roundInt rnd sa 0)
  | .cvtFXu => floating (g.roundInt rnd ua 0)
  | .cvtXF => floating (toInteger rnd true w va)
  | .cvtXuF => floating (toInteger rnd false w va)
  | .cvtFF k => floating (g.convert rnd (((Fmt.ofCode k.toNat).getD g).value a))
  | .fexp => floating (g.exponential a)
  | .frec => floating (g.reciprocal a)

/-- The shape of a full write from the covers of va and op3, at the destination width `w` (R82): U where every source is
uniform, the affine rows for wrapping arithmetic, else G. `dc` is vd's cover in a fused form; `u` evaluates once. -/
def EwOp.fullShape (f : EwOp) (w : Nat) (ca cb dc : Cover) (u : Nat → Nat → Nat → Nat) : Cover :=
  let neg := fun x => pat w (-(x : Int))
  let aff := fun b s => Cover.a (trunc w b) (trunc w s)
  match f with
  | .index => .a 0 (trunc w 1)
  | .splat => match cb with | .u v => .u (u 0 v 0) | _ => .g
  | .move => ca
  | _ =>
    let cb := if f.unary then Cover.u 0 else cb
    let dc := if f.fused then dc else Cover.u 0
    match ca, cb, dc with
    | .u a, .u b, .u d => .u (u a b d)
    | .a b s, .u v, _ =>
      match f with
      | .add => aff (b + v) s
      | .sub => aff (b + neg v) s
      | .rsub => aff (v + neg b) (neg s)
      | .mul => aff (b * v) (s * v)
      | .sll => if w ≤ trunc w v then aff 0 0 else aff (b * 2 ^ trunc w v) (s * 2 ^ trunc w v)
      | _ => .g
    | .u v, .a b s, _ =>
      match f with
      | .add => aff (v + b) s
      | .sub => aff (v + neg b) (neg s)
      | .rsub => aff (b + neg v) s
      | .mul => aff (b * v) (s * v)
      | _ => .g
    | .a b s, .a b' s', _ =>
      match f with
      | .add => aff (b + b') (s + s')
      | .sub => aff (b + neg b') (s + neg s')
      | .rsub => aff (b' + neg b) (s' + neg s)
      | _ => .g
    | _, _, _ => .g

/-- A compare of two `w`-bit patterns: the bit, and whether NV is raised (R243). -/
def CmpOp.eval (f : CmpOp) (c : VCfg) (w a b : Nat) : Bool × Flags :=
  let x := c.format.value a
  let y := c.format.value b
  let nan := x.isNaN || y.isNaN
  let sg := Flags.nvIf (x.signals || y.signals)
  let q := Flags.nvIf nan
  match f with
  | .eq => (trunc w a == trunc w b, 0)
  | .ne => (trunc w a != trunc w b, 0)
  | .lt => (decide (sext a w < sext b w), 0)
  | .le => (decide (sext a w ≤ sext b w), 0)
  | .ltu => (decide (trunc w a < trunc w b), 0)
  | .leu => (decide (trunc w a ≤ trunc w b), 0)
  | .gt => (decide (sext b w < sext a w), 0)
  | .gtu => (decide (trunc w b < trunc w a), 0)
  | .feq => (x.eq y, sg)
  | .fne => (!x.eq y, sg)
  | .flt => (x.lt y, q)
  | .fle => (x.lt y || x.eq y, q)
  | .fgt => (y.lt x, q)
  | .fge => (y.lt x || x.eq y, q)

/-- The floating compares need a format (R243). -/
def CmpOp.permits (f : CmpOp) (fmt : Nat) : Bool :=
  match f with
  | .feq | .fne | .flt | .fle | .fgt | .fge => decide (1 ≤ fmt ∧ fmt ≤ 7)
  | _ => true

/-- Mask logic on two bits (R245). -/
def MaskOp.eval (f : MaskOp) (a b : Bool) : Bool :=
  match f with
  | .and => a && b
  | .nand => !(a && b)
  | .andn => a && !b
  | .or => a || b
  | .nor => !(a || b)
  | .orn => a || !b
  | .xor => a != b
  | .xnor => a == b
  | .set => true
  | .clr => false

/-- Whether mask logic makes the destination's ONES VL, from its sources' ONES (R245). -/
def MaskOp.known (f : MaskOp) (a b : Bool) : Bool :=
  match f with
  | .and | .xnor => a && b
  | .or => a || b
  | .orn => a
  | .set => true
  | _ => false

end Sys2Proof.Machine
end

