-- ==== Sys2Proof/Machine/Crossroads.lean ====
section
/-! DEFINITION. The Crossroads (spec/09_vector_memory_and_motion.md R275-R277): what each VXR instruction computes on one tile
row. -/

namespace Sys2Proof.Machine

/-- Instructions that read va; the index operand of vrgather.vv is read at max(SEW, 32) (R275). -/
def XrOp.readsA (f : XrOp) : Bool := f != .iota
@[inherit_doc XrOp.readsA] def XrOp.indexed (f : XrOp) : Bool := f = .gather

/-- Instructions that read m0 as data (R275). -/
def XrOp.readsM0 (f : XrOp) : Bool := f = .iota || f = .compress || f = .expand

/-- A reduction: its result goes to element 0 and EXTENT becomes 1 (R275). -/
def XrOp.reduces (f : XrOp) : Bool :=
  match f with
  | .redsum | .redmax | .redmin | .redmaxu | .redminu | .redand | .redor | .fredsum | .fredmax => true
  | _ => false

/-- The formats an instruction permits (R275). -/
def XrOp.permits (f : XrOp) (fmt : Nat) : Bool :=
  match f with
  | .fredsum | .fredmax => decide (1 ≤ fmt ∧ fmt ≤ 4)
  | _ => true

/-- One node of the tree of vfredsum: `k` levels above the leaves, number `i`; none where no child is present (R277). -/
def treeSum (g : Fmt) (rnd : Rnd) (leaf : Nat → Option Nat) (vl : Nat) : Nat → Nat → Option Nat × Flags
  | 0, i => (if i < vl then leaf i else none, 0)
  | k + 1, i =>
    if vl ≤ i * 2 ^ (k + 1) then (none, 0)
    else
      let (a, fa) := treeSum g rnd leaf vl k (2 * i)
      let (b, fb) := treeSum g rnd leaf vl k (2 * i + 1)
      match a, b with
      | some x, some y => let (r, f) := g.sum rnd (g.value x) (g.value y); (some r, fa ||| fb ||| f)
      | some x, none => (some x, fa)
      | none, y => (y, fb)

/-- A result that is a NaN is the canonical one (R100): also where a lone element of vfredsum has gone up its tree unchanged
(R277). DEDUCED (log 80). -/
def Fmt.canonical (g : Fmt) (x : Nat) : Nat := if (g.value x).isNaN then g.canonicalNaN else x

/-- The least `k` with `n ≤ 2^k`. -/
def clog2 (n : Nat) : Nat := if n ≤ 1 then 0 else (n - 1).log2 + 1

/-- Number of `true` below `e`. -/
def countBelow (m : Nat → Bool) (e : Nat) : Nat := ((List.range e).filter m).length

/-- Running counts of `true` below each index below `n`, starting from `c`. -/
def iotaFrom (m : Nat → Bool) : Nat → Nat → Nat → List Nat
  | 0, _, _ => []
  | n + 1, i, c => c :: iotaFrom m n (i + 1) (if m i then c + 1 else c)

/-- Running sums, modulo 2^w, of the contributing elements up to each index below `n`. -/
def scanFrom (w : Nat) (act : Nat → Bool) (a : Nat → Nat) : Nat → Nat → Nat → List Nat
  | 0, _, _ => []
  | n + 1, i, c =>
    let c' := if act i then trunc w (c + a i) else c
    c' :: scanFrom w act a n (i + 1) c'

/-- A fold of a binary operation over the contributing elements. -/
def reduceOver (act : Nat → Bool) (a : Nat → Nat) (vl init : Nat) (f : Nat → Nat → Nat) : Nat :=
  (List.range vl).foldl (fun acc i => if act i then f acc (a i) else acc) init

/-- Maximum of the contributing elements as maximumNumber, from the canonical NaN (R275). -/
def fmaxOver (g : Fmt) (act : Nat → Bool) (a : Nat → Nat) (vl : Nat) : Nat × Flags :=
  (List.range vl).foldl
    (fun acc i => if act i then let (r, f) := g.maximum acc.1 (a i); (r, acc.2 ||| f) else acc) (g.canonicalNaN, 0)

/-- The row an instruction writes, with the flags it raises: `a` is the source row, `idx` the index row of vrgather,
`k` the amount of a slide or the index of vrgather.vx, `m0` the mask bits, `act` the contributing positions. -/
def XrOp.row (f : XrOp) (g : Fmt) (rnd : Rnd) (w vl : Nat) (a idx : Nat → Nat) (k : Nat) (m0 act : Nat → Bool) :
    List Nat × Flags :=
  let pick := fun (p : Nat → Nat → Bool) => fun x y => if p x y then x else y
  let all := fun (h : Nat → Nat) => ((List.range vl).map h, (0 : Flags))
  match f with
  | .redsum => ([trunc w (reduceOver act a vl 0 (· + ·))], 0)
  | .redmax => ([reduceOver act a vl (2 ^ (w - 1)) (pick fun x y => decide (sext y w ≤ sext x w))], 0)
  | .redmin => ([reduceOver act a vl (2 ^ (w - 1) - 1) (pick fun x y => decide (sext x w ≤ sext y w))], 0)
  | .redmaxu => ([reduceOver act a vl 0 (pick fun x y => decide (y ≤ x))], 0)
  | .redminu => ([reduceOver act a vl (2 ^ w - 1) (pick fun x y => decide (x ≤ y))], 0)
  | .redand => ([reduceOver act a vl (2 ^ w - 1) (· &&& ·)], 0)
  | .redor => ([reduceOver act a vl 0 (· ||| ·)], 0)
  | .fredsum =>
    let (r, fl) := treeSum g rnd (fun i => if act i then some (a i) else none) vl (clog2 vl) 0
    ([g.canonical (r.getD 0)], fl)
  | .fredmax => let (r, fl) := fmaxOver g act a vl; ([r], fl)
  | .iota => ((iotaFrom m0 vl 0 0).map (trunc w), 0)
  | .gather => all fun e => let i := idx e; if i < vl then a i else 0
  | .slideup => all fun e => if k ≤ e then a (e - k) else 0
  | .slidedown => all fun e => if e + k < vl then a (e + k) else 0
  | .compress => (padTo 0 vl (((List.range vl).filter m0).map a), 0)
  | .expand => (((List.range vl).zip (iotaFrom m0 vl 0 0)).map fun (e, i) => if m0 e then a i else 0, 0)
  | .scanadd => (scanFrom w act a vl 0 0, 0)

end Sys2Proof.Machine
end

