-- ==== Sys2Proof/Machine/Matrix.lean ====
section
/-! DEFINITION. Matrix arithmetic (spec/10_matrix_and_crucible.md): the type pairs (R283), the array matrix product (R282,
R284), the outer product of the Crucible (R289), the accumulator blocks (R286) and conversion with MX scales (R299, R300). -/

namespace Sys2Proof.Machine

/-- The width of a TA or TB type (R156), and its lsb (R109). -/
def itWidth (t : BitVec 3) : Nat := match t.toNat with | 0 | 1 => 8 | 2 | 3 => 4 | 4 => 2 | 5 | 6 => 8 | _ => 4
@[inherit_doc itWidth] def itLsb (t : BitVec 3) : Int := match t.toNat with | 5 => -9 | 6 => -16 | 7 => -1 | _ => 0

/-- Pairs (TA, TB) the hardware implements (R283). -/
def pairOk (ta tb : BitVec 3) : Bool :=
  let (a, b) := (ta.toNat, tb.toNat)
  match a with
  | 0 | 2 => decide (b ≤ 3) || b == 5 || (a == 2 && b == 7)
  | 1 | 3 => decide (b ≤ 3)
  | 4 => decide (b ≤ 4)
  | 5 => b == 5 || b == 6
  | 6 => b == 5
  | _ => b == 0 || b == 2 || b == 5 || b == 7

/-- The binary point of a pair (R109). -/
def pairPoint (ta tb : BitVec 3) : Int := itLsb ta + itLsb tb

/-- The floating format of a type code. -/
def itFmt (t : BitVec 3) : Fmt := match t.toNat with | 5 => .e4m3 | 6 => .e5m2 | _ => .e2m1

/-- The value of a pattern in units of 2^lsb; none for a NaN or an infinity (R282, R284). -/
def itValue (t : BitVec 3) (p : Nat) : Option Int :=
  match t.toNat with
  | 0 => some (sext p 8)
  | 1 => some (zext p 8)
  | 2 => some (sext p 4)
  | 3 => some (zext p 4)
  | 4 => some (sext p 2)
  | _ =>
    match (itFmt t).value p with
    | .fin s m e => some (sgn s (m * 2 ^ (e - itLsb t).toNat))
    | _ => none

/-- One product of the array matrix instruction, and whether it raises NV (R282, R284). -/
def itProduct (ta tb : BitVec 3) (a b : Nat) : Int × Bool :=
  match itValue ta a, itValue tb b with
  | some x, some y => (x * y, false)
  | _, _ => (0, true)

/-- One element of the array matrix instruction: the old element and the eight operand pairs (R282). -/
def vmmElem (ta tb : BitVec 3) (n : Nat) (ab : List (Nat × Nat)) : LaneOut :=
  let ps := ab.map fun (a, b) => itProduct ta tb a b
  let (r, c) := fx64Add n (ps.map (·.1)).sum
  { r := r, fl := Flags.nvIf (ps.any (·.2)), clip := c }

/-- Crucible operand formats (R279), and whether the form is rank-2 (R289). -/
def opFmt (f : BitVec 3) : Fmt :=
  match f.toNat with | 0 => .bf16 | 1 => .f16 | 2 => .e4m3 | 3 => .e5m2 | 4 => .f32 | _ => .f64
@[inherit_doc opFmt] def opRank2 (f : BitVec 3) : Bool := f.toNat == 2 || f.toNat == 3

/-- OPF 4 and 5 accumulate into an FP64 block (R288). -/
def opWide (f : BitVec 3) : Bool := decide (4 ≤ f.toNat)

/-- An exact sum of products and a value rounded once, with the flags of R198 and R289: a NaN anywhere, 0 x infinity or
opposite infinities give the canonical NaN; an exact zero is +0 unless every term is a zero of one sign. -/
def sumTerms (g : Fmt) (rnd : Rnd) (terms : List (Option FVal)) (signals : Bool) : Nat × Flags :=
  if terms.any Option.isNone then g.nan true
  else
    let ts := terms.filterMap id
    if ts.any FVal.isNaN then (g.canonicalNaN, Flags.nvIf signals)
    else
      let pos := ts.any fun t => match t with | .inf s => !s | _ => false
      let neg := ts.any fun t => match t with | .inf s => s | _ => false
      if pos && neg then g.nan true
      else if pos || neg then (g.inf neg, 0)
      else
        let q := ts.foldl (fun q t => match t with | .fin _ _ e => min q e | _ => q) (0 : Int)
        let i := (ts.map fun t => match t with | .fin s m e => sgn s (m * 2 ^ (e - q).toNat) | _ => 0).sum
        let allNeg := ts.all fun t => match t with | .fin s m _ => s && m == 0 | _ => false
        if i = 0 then (g.signed allNeg 0, 0) else g.roundInt rnd i q

/-- One element of an outer product (R289): the old element and one or two operand pairs. A signalling NaN or 0 x infinity
raises NV. -/
def outerElem (acc op : Fmt) (c : Nat) (ab : List (Nat × Nat)) : Nat × Flags :=
  let vs := ab.map fun (a, b) => (op.value a, op.value b)
  let sig := (acc.value c).signals || vs.any fun (a, b) => a.signals || b.signals
  let terms := some (acc.value c) :: vs.map fun (a, b) => a.mul b
  sumTerms acc .rne terms sig

/-- An accumulator block's elements, read and written by index (R286). -/
def Hart.blockAt (h : Hart) (b i : Nat) : Nat := Map.get 0 (h.blk.getD b []) i

/-- Block `b` is an FP64 block (R286). -/
def Hart.wideBlock (h : Hart) (b : Nat) : Bool := h.pair.getLsbD (b / 2)

/-- The element width of a block (R288), and its format. -/
def Hart.blockWidth (h : Hart) (b : Nat) : Nat := if h.wideBlock b then 64 else 32
@[inherit_doc Hart.blockWidth] def Hart.blockFmt (h : Hart) (b : Nat) : Fmt := if h.wideBlock b then .f64 else .f32

/-- Bad elements of a block among its first `n` (R338). -/
def Hart.blockErr (h : Hart) (b : Nat) : Option Exc :=
  ((h.blkBad.getD b []).head?).map fun e => arrayExc e b false true

/-- A block with every element given by a list, row by row. -/
def blockOf (es : List Nat) : Map Nat :=
  ((List.range es.length).zip es).filter fun (_, v) => v != 0

/-- The whole block as a list, row by row. -/
def Hart.blockList (h : Hart) (b : Nat) : List Nat :=
  (List.range (Config.tlen * Config.tlen)).map (h.blockAt b)

/-- The outer product of operand columns `a` and rows `b` (T, or 2T for a rank-2 form) onto a block: the new elements and
the flags of all of them (R289, R290). -/
def Hart.outer (h : Hart) (blk : Nat) (f : BitVec 3) (a b : Nat → Nat) : List Nat × Flags :=
  let t := Config.tlen
  let g := h.blockFmt blk
  let rs := (List.range (t * t)).map fun n =>
    let i := n / t
    let k := n % t
    outerElem g (opFmt f) (h.blockAt blk n)
      ((a i, b k) :: (if opRank2 f then [(a (t + i), b (t + k))] else []))
  (rs.map (·.1), rs.foldl (fun fl r => fl ||| r.2) 0)

/-- The output format of ccvt (R279). -/
def ccvtFmt (out : BitVec 2) : Fmt := match out.toNat with | 0 => .f32 | 1 => .bf16 | 2 => .e4m3 | _ => .e2m1

/-- One element of ccvt OUT 0 and 1 under scale `x` (R300). -/
def ccvtElem (g : Fmt) (p : Int) (n x : Nat) : Nat × Flags :=
  if x = 255 then (g.canonicalNaN, 0) else g.roundInt .rne (sext n 64) (p + (x - 127 : Int))

/-- The scale of a block of ccvt OUT 2 and 3 from its active elements (R300). -/
def ccvtScale (g : Fmt) (p : Int) (ns : List Nat) : Nat :=
  let m := (ns.map fun n => (sext n 64).natAbs).foldl max 0
  if m = 0 then 127
  else
    let emax : Int := if g = .e4m3 then 8 else 2
    (max 0 (min 254 ((m.log2 : Int) + p - emax + 127))).toNat

/-- One active element of ccvt OUT 2 and 3: it saturates (R104, R300). -/
def ccvtNarrow (g : Fmt) (p : Int) (n x : Nat) : Nat × Flags := g.roundInt .rne (sext n 64) (p - (x - 127 : Int))

end Sys2Proof.Machine
end

