-- ==== Sys2Proof/WellFormed.lean ====
section
/-! DEFINITION. Which instructions have a word: the operand values an encoding admits. -/

namespace Sys2Proof

/-- The operand values the encoding of each instruction admits: scopes 0-5 (R119, R190), rounding modes other than 5 and
6 (R196), integer types 0-3 and source formats 1-7 (R197), vsget selectors 0-15 (R255), vfcvt.f.f source formats 1-7
(R241), OPF codes 0-5 (R279), a non-zero register in c.jr and c.jalr (R222), and hint functions other than the
implemented ones for `hintOther` (R161). -/
def Instr.wf : Instr → Bool
  | .add _ _ _ => true
  | .sub _ _ _ => true
  | .sll _ _ _ => true
  | .slt _ _ _ => true
  | .sltu _ _ _ => true
  | .xor _ _ _ => true
  | .srl _ _ _ => true
  | .sra _ _ _ => true
  | .or _ _ _ => true
  | .and _ _ _ => true
  | .mul _ _ _ => true
  | .mulh _ _ _ => true
  | .mulhsu _ _ _ => true
  | .mulhu _ _ _ => true
  | .div _ _ _ => true
  | .divu _ _ _ => true
  | .rem _ _ _ => true
  | .remu _ _ _ => true
  | .min _ _ _ => true
  | .max _ _ _ => true
  | .minu _ _ _ => true
  | .maxu _ _ _ => true
  | .andn _ _ _ => true
  | .orn _ _ _ => true
  | .rol _ _ _ => true
  | .ror _ _ _ => true
  | .sh1add _ _ _ => true
  | .sh2add _ _ _ => true
  | .sh3add _ _ _ => true
  | .clz _ _ => true
  | .ctz _ _ => true
  | .cpop _ _ => true
  | .addi _ _ _ => true
  | .slli _ _ _ => true
  | .slti _ _ _ => true
  | .sltiu _ _ _ => true
  | .xori _ _ _ => true
  | .srli _ _ _ => true
  | .srai _ _ _ => true
  | .ori _ _ _ => true
  | .andi _ _ _ => true
  | .addw _ _ _ => true
  | .subw _ _ _ => true
  | .sllw _ _ _ => true
  | .srlw _ _ _ => true
  | .sraw _ _ _ => true
  | .mulw _ _ _ => true
  | .divw _ _ _ => true
  | .divuw _ _ _ => true
  | .remw _ _ _ => true
  | .remuw _ _ _ => true
  | .addiw _ _ _ => true
  | .slliw _ _ _ => true
  | .srliw _ _ _ => true
  | .sraiw _ _ _ => true
  | .lui _ _ => true
  | .auipc _ _ => true
  | .jal _ _ => true
  | .jalr _ _ _ => true
  | .beq _ _ _ => true
  | .bne _ _ _ => true
  | .blt _ _ _ => true
  | .bge _ _ _ => true
  | .bltu _ _ _ => true
  | .bgeu _ _ _ => true
  | .bbs _ _ _ => true
  | .bbc _ _ _ => true
  | .lb _ _ _ => true
  | .lh _ _ _ => true
  | .lw _ _ _ => true
  | .ld _ _ _ => true
  | .lbu _ _ _ => true
  | .lhu _ _ _ => true
  | .lwu _ _ _ => true
  | .sb _ _ _ => true
  | .sh _ _ _ => true
  | .sw _ _ _ => true
  | .sd _ _ _ => true
  | .lbOrd _ _ sc _ => decide (sc.toNat ≤ 5)
  | .lhOrd _ _ sc _ => decide (sc.toNat ≤ 5)
  | .lwOrd _ _ sc _ => decide (sc.toNat ≤ 5)
  | .ldOrd _ _ sc _ => decide (sc.toNat ≤ 5)
  | .lbuOrd _ _ sc _ => decide (sc.toNat ≤ 5)
  | .lhuOrd _ _ sc _ => decide (sc.toNat ≤ 5)
  | .lwuOrd _ _ sc _ => decide (sc.toNat ≤ 5)
  | .sbOrd _ _ sc _ => decide (sc.toNat ≤ 5)
  | .shOrd _ _ sc _ => decide (sc.toNat ≤ 5)
  | .swOrd _ _ sc _ => decide (sc.toNat ≤ 5)
  | .sdOrd _ _ sc _ => decide (sc.toNat ≤ 5)
  | .amoswap _ _ _ sc _ => decide (sc.toNat ≤ 5)
  | .amoadd _ _ _ sc _ => decide (sc.toNat ≤ 5)
  | .amoand _ _ _ sc _ => decide (sc.toNat ≤ 5)
  | .amoor _ _ _ sc _ => decide (sc.toNat ≤ 5)
  | .amoxor _ _ _ sc _ => decide (sc.toNat ≤ 5)
  | .amomin _ _ _ sc _ => decide (sc.toNat ≤ 5)
  | .amomax _ _ _ sc _ => decide (sc.toNat ≤ 5)
  | .amominu _ _ _ sc _ => decide (sc.toNat ≤ 5)
  | .amomaxu _ _ _ sc _ => decide (sc.toNat ≤ 5)
  | .amocas _ _ _ sc _ => decide (sc.toNat ≤ 5)
  | .amofxL _ _ _ sc _ => decide (sc.toNat ≤ 5)
  | .amofxD _ _ _ sc _ => decide (sc.toNat ≤ 5)
  | .amofxS _ _ _ sc _ => decide (sc.toNat ≤ 5)
  | .fadd _ _ _ _ rm => rm != 5 && rm != 6
  | .fsub _ _ _ _ rm => rm != 5 && rm != 6
  | .fmul _ _ _ _ rm => rm != 5 && rm != 6
  | .fdiv _ _ _ _ rm => rm != 5 && rm != 6
  | .fsqrt _ _ _ rm => rm != 5 && rm != 6
  | .fmin _ _ _ _ => true
  | .fmax _ _ _ _ => true
  | .feq _ _ _ _ => true
  | .flt _ _ _ _ => true
  | .fle _ _ _ _ => true
  | .fclass _ _ _ => true
  | .fcvtItFmt _ _ ty _ rm => decide (ty.toNat ≤ 3) && rm != 5 && rm != 6
  | .fcvtFmtIt _ _ ty _ rm => decide (ty.toNat ≤ 3) && rm != 5 && rm != 6
  | .fcvtFmtSf _ _ ty _ rm => ty != 0 && decide (ty.toNat ≤ 7) && rm != 5 && rm != 6
  | .fmadd _ _ _ _ _ => true
  | .fmsub _ _ _ _ _ => true
  | .fnmsub _ _ _ _ _ => true
  | .fnmadd _ _ _ _ _ => true
  | .fence sc _ => decide (sc.toNat ≤ 5)
  | .mon _ => true
  | .mwait _ _ => true
  | .barArrive _ _ sc _ => decide (sc.toNat ≤ 5)
  | .barWait _ _ sc => decide (sc.toNat ≤ 5)
  | .claim _ _ _ sc _ => decide (sc.toNat ≤ 5)
  | .yield => true
  | .mfs _ _ => true
  | .mts _ _ => true
  | .tcall => true
  | .brk => true
  | .tret => true
  | .stop => true
  | .spawn _ _ => true
  | .hstop _ _ => true
  | .gsusp _ _ _ => true
  | .qlease _ _ _ => true
  | .nop _ _ _ => true
  | .prefR _ _ _ => true
  | .prefW _ _ _ => true
  | .cLd _ _ _ => true
  | .cLw _ _ _ => true
  | .cSd _ _ _ => true
  | .cSw _ _ _ => true
  | .cAddisp _ _ => true
  | .cAddi _ _ => true
  | .cLi _ _ => true
  | .cJ _ => true
  | .cBeqz _ _ => true
  | .cBnez _ _ => true
  | .cMv _ _ => true
  | .cAdd _ _ => true
  | .cJr a => a != 0
  | .cJalr a => a != 0
  | .cLdsp _ _ => true
  | .cSdsp _ _ => true
  | .vsetvl _ _ _ => true
  | .vsetvlK _ _ _ => true
  | .vrows _ _ => true
  | .vmvVX _ _ _ _ => true
  | .vmvVI _ _ _ _ => true
  | .vid _ _ _ => true
  | .vmvVV _ _ _ _ => true
  | .vshape _ _ _ => true
  | .vshapeU _ _ _ => true
  | .vshapeS _ _ _ => true
  | .vmat _ _ => true
  | .vmvXE _ _ _ _ => true
  | .vmergeVvm _ _ _ _ => true
  | .vmergeVxm _ _ _ _ => true
  | .vmergeVim _ _ _ _ => true
  | .vmand _ _ _ _ => true
  | .vmnand _ _ _ _ => true
  | .vmandn _ _ _ _ => true
  | .vmor _ _ _ _ => true
  | .vmnor _ _ _ _ => true
  | .vmorn _ _ _ _ => true
  | .vmxor _ _ _ _ => true
  | .vmxnor _ _ _ _ => true
  | .vmcpop _ _ _ => true
  | .vmfirst _ _ _ => true
  | .vmset _ _ => true
  | .vmclr _ _ => true
  | .vscfg _ _ _ => true
  | .vscfgr _ _ _ _ => true
  | .vcopy _ _ _ _ => true
  | .vcopyT _ _ _ _ => true
  | .vcopyAddl _ _ _ _ => true
  | .vcopyAddd _ _ _ _ => true
  | .vcopyAdds _ _ _ _ => true
  | .vchsend _ _ _ _ => true
  | .vchrecv _ _ _ => true
  | .vsend _ _ _ => true
  | .vsendEom _ _ _ => true
  | .veom _ _ => true
  | .vsget _ _ _ i => decide (i.toNat ≤ 15)
  | .vsidle _ _ => true
  | .kswage _ _ _ => true
  | .kpool _ _ _ => true
  | .ktongs _ _ _ => true
  | .seal _ _ _ _ => true
  | .unseal _ _ _ _ => true
  | .vld _ _ _ _ => true
  | .vstO _ _ _ _ => true
  | .vstU _ _ _ _ => true
  | .vlx _ _ _ _ _ => true
  | .vsxO _ _ _ _ _ => true
  | .vsxU _ _ _ _ _ => true
  | .vamoswap _ _ _ _ sc _ _ => decide (sc.toNat ≤ 5)
  | .vamoadd _ _ _ _ sc _ _ => decide (sc.toNat ≤ 5)
  | .vamoand _ _ _ _ sc _ _ => decide (sc.toNat ≤ 5)
  | .vamoor _ _ _ _ sc _ _ => decide (sc.toNat ≤ 5)
  | .vamoxor _ _ _ _ sc _ _ => decide (sc.toNat ≤ 5)
  | .vamomin _ _ _ _ sc _ _ => decide (sc.toNat ≤ 5)
  | .vamomax _ _ _ _ sc _ _ => decide (sc.toNat ≤ 5)
  | .vamominu _ _ _ _ sc _ _ => decide (sc.toNat ≤ 5)
  | .vamomaxu _ _ _ _ sc _ _ => decide (sc.toNat ≤ 5)
  | .vamofxL _ _ _ _ sc _ _ => decide (sc.toNat ≤ 5)
  | .vamofxD _ _ _ _ sc _ _ => decide (sc.toNat ≤ 5)
  | .vamofxS _ _ _ _ sc _ _ => decide (sc.toNat ≤ 5)
  | .vaddVv _ _ _ _ _ => true
  | .vaddVx _ _ _ _ _ => true
  | .vaddVs _ _ _ _ _ => true
  | .vaddVi _ _ _ _ _ => true
  | .vsubVv _ _ _ _ _ => true
  | .vsubVx _ _ _ _ _ => true
  | .vsubVs _ _ _ _ _ => true
  | .vsubVi _ _ _ _ _ => true
  | .vrsubVv _ _ _ _ _ => true
  | .vrsubVx _ _ _ _ _ => true
  | .vrsubVs _ _ _ _ _ => true
  | .vrsubVi _ _ _ _ _ => true
  | .vandVv _ _ _ _ _ => true
  | .vandVx _ _ _ _ _ => true
  | .vandVs _ _ _ _ _ => true
  | .vandVi _ _ _ _ _ => true
  | .vorVv _ _ _ _ _ => true
  | .vorVx _ _ _ _ _ => true
  | .vorVs _ _ _ _ _ => true
  | .vorVi _ _ _ _ _ => true
  | .vxorVv _ _ _ _ _ => true
  | .vxorVx _ _ _ _ _ => true
  | .vxorVs _ _ _ _ _ => true
  | .vxorVi _ _ _ _ _ => true
  | .vsllVv _ _ _ _ _ => true
  | .vsllVx _ _ _ _ _ => true
  | .vsllVs _ _ _ _ _ => true
  | .vsllVi _ _ _ _ _ => true
  | .vsrlVv _ _ _ _ _ => true
  | .vsrlVx _ _ _ _ _ => true
  | .vsrlVs _ _ _ _ _ => true
  | .vsrlVi _ _ _ _ _ => true
  | .vsraVv _ _ _ _ _ => true
  | .vsraVx _ _ _ _ _ => true
  | .vsraVs _ _ _ _ _ => true
  | .vsraVi _ _ _ _ _ => true
  | .vmulVv _ _ _ _ _ => true
  | .vmulVx _ _ _ _ _ => true
  | .vmulVs _ _ _ _ _ => true
  | .vmulVi _ _ _ _ _ => true
  | .vmulhVv _ _ _ _ _ => true
  | .vmulhVx _ _ _ _ _ => true
  | .vmulhVs _ _ _ _ _ => true
  | .vmulhVi _ _ _ _ _ => true
  | .vmulhuVv _ _ _ _ _ => true
  | .vmulhuVx _ _ _ _ _ => true
  | .vmulhuVs _ _ _ _ _ => true
  | .vmulhuVi _ _ _ _ _ => true
  | .vminVv _ _ _ _ _ => true
  | .vminVx _ _ _ _ _ => true
  | .vminVs _ _ _ _ _ => true
  | .vminVi _ _ _ _ _ => true
  | .vmaxVv _ _ _ _ _ => true
  | .vmaxVx _ _ _ _ _ => true
  | .vmaxVs _ _ _ _ _ => true
  | .vmaxVi _ _ _ _ _ => true
  | .vminuVv _ _ _ _ _ => true
  | .vminuVx _ _ _ _ _ => true
  | .vminuVs _ _ _ _ _ => true
  | .vminuVi _ _ _ _ _ => true
  | .vmaxuVv _ _ _ _ _ => true
  | .vmaxuVx _ _ _ _ _ => true
  | .vmaxuVs _ _ _ _ _ => true
  | .vmaxuVi _ _ _ _ _ => true
  | .vsaddVv _ _ _ _ _ => true
  | .vsaddVx _ _ _ _ _ => true
  | .vsaddVs _ _ _ _ _ => true
  | .vsaddVi _ _ _ _ _ => true
  | .vsadduVv _ _ _ _ _ => true
  | .vsadduVx _ _ _ _ _ => true
  | .vsadduVs _ _ _ _ _ => true
  | .vsadduVi _ _ _ _ _ => true
  | .vssubVv _ _ _ _ _ => true
  | .vssubVx _ _ _ _ _ => true
  | .vssubVs _ _ _ _ _ => true
  | .vssubVi _ _ _ _ _ => true
  | .vssubuVv _ _ _ _ _ => true
  | .vssubuVx _ _ _ _ _ => true
  | .vssubuVs _ _ _ _ _ => true
  | .vssubuVi _ _ _ _ _ => true
  | .vaaddVv _ _ _ _ _ => true
  | .vaaddVx _ _ _ _ _ => true
  | .vaaddVs _ _ _ _ _ => true
  | .vaaddVi _ _ _ _ _ => true
  | .vaadduVv _ _ _ _ _ => true
  | .vaadduVx _ _ _ _ _ => true
  | .vaadduVs _ _ _ _ _ => true
  | .vaadduVi _ _ _ _ _ => true
  | .vsmulVv _ _ _ _ _ => true
  | .vsmulVx _ _ _ _ _ => true
  | .vsmulVs _ _ _ _ _ => true
  | .vsmulVi _ _ _ _ _ => true
  | .vssrlVv _ _ _ _ _ => true
  | .vssrlVx _ _ _ _ _ => true
  | .vssrlVs _ _ _ _ _ => true
  | .vssrlVi _ _ _ _ _ => true
  | .vssraVv _ _ _ _ _ => true
  | .vssraVx _ _ _ _ _ => true
  | .vssraVs _ _ _ _ _ => true
  | .vssraVi _ _ _ _ _ => true
  | .vwaddVv _ _ _ _ _ => true
  | .vwaddVx _ _ _ _ _ => true
  | .vwaddVs _ _ _ _ _ => true
  | .vwaddVi _ _ _ _ _ => true
  | .vwadduVv _ _ _ _ _ => true
  | .vwadduVx _ _ _ _ _ => true
  | .vwadduVs _ _ _ _ _ => true
  | .vwadduVi _ _ _ _ _ => true
  | .vwmulVv _ _ _ _ _ => true
  | .vwmulVx _ _ _ _ _ => true
  | .vwmulVs _ _ _ _ _ => true
  | .vwmulVi _ _ _ _ _ => true
  | .vwmuluVv _ _ _ _ _ => true
  | .vwmuluVx _ _ _ _ _ => true
  | .vwmuluVs _ _ _ _ _ => true
  | .vwmuluVi _ _ _ _ _ => true
  | .vnclipVv _ _ _ _ _ => true
  | .vnclipVx _ _ _ _ _ => true
  | .vnclipVs _ _ _ _ _ => true
  | .vnclipVi _ _ _ _ _ => true
  | .vnclipuVv _ _ _ _ _ => true
  | .vnclipuVx _ _ _ _ _ => true
  | .vnclipuVs _ _ _ _ _ => true
  | .vnclipuVi _ _ _ _ _ => true
  | .vfaddVv _ _ _ _ _ => true
  | .vfaddVx _ _ _ _ _ => true
  | .vfaddVs _ _ _ _ _ => true
  | .vfsubVv _ _ _ _ _ => true
  | .vfsubVx _ _ _ _ _ => true
  | .vfsubVs _ _ _ _ _ => true
  | .vfrsubVv _ _ _ _ _ => true
  | .vfrsubVx _ _ _ _ _ => true
  | .vfrsubVs _ _ _ _ _ => true
  | .vfmulVv _ _ _ _ _ => true
  | .vfmulVx _ _ _ _ _ => true
  | .vfmulVs _ _ _ _ _ => true
  | .vfdivVv _ _ _ _ _ => true
  | .vfdivVx _ _ _ _ _ => true
  | .vfdivVs _ _ _ _ _ => true
  | .vfrdivVv _ _ _ _ _ => true
  | .vfrdivVx _ _ _ _ _ => true
  | .vfrdivVs _ _ _ _ _ => true
  | .vfsqrt _ _ _ _ => true
  | .vfminVv _ _ _ _ _ => true
  | .vfminVx _ _ _ _ _ => true
  | .vfminVs _ _ _ _ _ => true
  | .vfmaxVv _ _ _ _ _ => true
  | .vfmaxVx _ _ _ _ _ => true
  | .vfmaxVs _ _ _ _ _ => true
  | .vfsgnjVv _ _ _ _ _ => true
  | .vfsgnjVx _ _ _ _ _ => true
  | .vfsgnjVs _ _ _ _ _ => true
  | .vfsgnjnVv _ _ _ _ _ => true
  | .vfsgnjnVx _ _ _ _ _ => true
  | .vfsgnjnVs _ _ _ _ _ => true
  | .vfsgnjxVv _ _ _ _ _ => true
  | .vfsgnjxVx _ _ _ _ _ => true
  | .vfsgnjxVs _ _ _ _ _ => true
  | .vfclass _ _ _ _ => true
  | .vfmaccVv _ _ _ _ _ => true
  | .vfmaccVx _ _ _ _ _ => true
  | .vfmaccVs _ _ _ _ _ => true
  | .vfnmaccVv _ _ _ _ _ => true
  | .vfnmaccVx _ _ _ _ _ => true
  | .vfnmaccVs _ _ _ _ _ => true
  | .vfmsacVv _ _ _ _ _ => true
  | .vfmsacVx _ _ _ _ _ => true
  | .vfmsacVs _ _ _ _ _ => true
  | .vfnmsacVv _ _ _ _ _ => true
  | .vfnmsacVx _ _ _ _ _ => true
  | .vfnmsacVs _ _ _ _ _ => true
  | .vfcvtFX _ _ _ _ => true
  | .vfcvtFXu _ _ _ _ => true
  | .vfcvtXF _ _ _ _ => true
  | .vfcvtXuF _ _ _ _ => true
  | .vfcvtFF _ _ _ _ i => i != 0
  | .vfexp _ _ _ _ => true
  | .vfrec _ _ _ _ => true
  | .vmseqVv _ _ _ _ _ => true
  | .vmseqVx _ _ _ _ _ => true
  | .vmseqVs _ _ _ _ _ => true
  | .vmseqVi _ _ _ _ _ => true
  | .vmsneVv _ _ _ _ _ => true
  | .vmsneVx _ _ _ _ _ => true
  | .vmsneVs _ _ _ _ _ => true
  | .vmsneVi _ _ _ _ _ => true
  | .vmsltVv _ _ _ _ _ => true
  | .vmsltVx _ _ _ _ _ => true
  | .vmsltVs _ _ _ _ _ => true
  | .vmsltVi _ _ _ _ _ => true
  | .vmsleVv _ _ _ _ _ => true
  | .vmsleVx _ _ _ _ _ => true
  | .vmsleVs _ _ _ _ _ => true
  | .vmsleVi _ _ _ _ _ => true
  | .vmsltuVv _ _ _ _ _ => true
  | .vmsltuVx _ _ _ _ _ => true
  | .vmsltuVs _ _ _ _ _ => true
  | .vmsltuVi _ _ _ _ _ => true
  | .vmsleuVv _ _ _ _ _ => true
  | .vmsleuVx _ _ _ _ _ => true
  | .vmsleuVs _ _ _ _ _ => true
  | .vmsleuVi _ _ _ _ _ => true
  | .vmsgtVv _ _ _ _ _ => true
  | .vmsgtVx _ _ _ _ _ => true
  | .vmsgtVs _ _ _ _ _ => true
  | .vmsgtVi _ _ _ _ _ => true
  | .vmsgtuVv _ _ _ _ _ => true
  | .vmsgtuVx _ _ _ _ _ => true
  | .vmsgtuVs _ _ _ _ _ => true
  | .vmsgtuVi _ _ _ _ _ => true
  | .vmfeqVv _ _ _ _ _ => true
  | .vmfeqVx _ _ _ _ _ => true
  | .vmfeqVs _ _ _ _ _ => true
  | .vmfneVv _ _ _ _ _ => true
  | .vmfneVx _ _ _ _ _ => true
  | .vmfneVs _ _ _ _ _ => true
  | .vmfltVv _ _ _ _ _ => true
  | .vmfltVx _ _ _ _ _ => true
  | .vmfltVs _ _ _ _ _ => true
  | .vmfleVv _ _ _ _ _ => true
  | .vmfleVx _ _ _ _ _ => true
  | .vmfleVs _ _ _ _ _ => true
  | .vmfgtVv _ _ _ _ _ => true
  | .vmfgtVx _ _ _ _ _ => true
  | .vmfgtVs _ _ _ _ _ => true
  | .vmfgeVv _ _ _ _ _ => true
  | .vmfgeVx _ _ _ _ _ => true
  | .vmfgeVs _ _ _ _ _ => true
  | .vredsum _ _ _ _ => true
  | .vredmax _ _ _ _ => true
  | .vredmin _ _ _ _ => true
  | .vredmaxu _ _ _ _ => true
  | .vredminu _ _ _ _ => true
  | .vredand _ _ _ _ => true
  | .vredor _ _ _ _ => true
  | .viota _ _ => true
  | .vfredsum _ _ _ _ => true
  | .vfredmax _ _ _ _ => true
  | .vrgatherVv _ _ _ _ => true
  | .vrgatherVx _ _ _ _ => true
  | .vslideupVx _ _ _ _ => true
  | .vslideupVi _ _ _ _ => true
  | .vslidedownVx _ _ _ _ => true
  | .vslidedownVi _ _ _ _ => true
  | .vcompress _ _ _ => true
  | .vexpand _ _ _ => true
  | .vscanadd _ _ _ _ => true
  | .vmm _ _ _ _ _ _ _ => true
  | .copr _ _ _ _ _ fmt => decide (fmt.toNat ≤ 5)
  | .coprM _ _ _ _ fmt => decide (fmt.toNat ≤ 5)
  | .cmvBv _ _ _ _ => true
  | .cmvVb _ _ _ _ => true
  | .cld _ _ _ _ => true
  | .cst _ _ _ _ => true
  | .czero _ _ => true
  | .ccvt _ _ _ _ _ _ _ _ => true
  | .bcfgWrite _ => true
  | .reclaimWrite _ => true
  | .mboxRead _ => true
  | .tlbwcWrite _ => true
  | .tlbinvWrite _ => true
  | .tlbinvComplete _ => true
  | .heatFlush _ => true
  | .heatFlushComplete _ => true
  | .codeGranuleVerify _ _ => true
  | .convoyStart _ => true
  | .streamTrim _ => true
  | .convoyDrain _ => true
  | .lanedeadline _ => true
  | .reclaimDeadlineExpiry _ => true
  | .resvExpiry _ => true
  | .loadDataReturn _ _ => true
  | .writePerform _ => true
  | .fenceRetire _ => true
  | .monitorWake _ => true
  | .mwaitTimeout _ => true
  | .barrierWake _ => true
  | .roleChangeComplete _ => true
  | .hartStopComplete _ => true
  | .gangPlace _ => true
  | .sliceExpiry _ => true
  | .gangSuspendComplete _ _ => true
  | .leaseExpiry _ => true
  | .streamFetchAhead _ _ => true
  | .copyStripRead _ _ => true
  | .copyStripWrite _ _ => true
  | .channelDeliver _ _ => true
  | .kerbAccept _ _ => true
  | .kerbUnitResult _ _ => true
  | .kerbUnitResume _ _ => true
  | .kerbComplete _ _ => true
  | .sealComplete _ => true
  | .unsealComplete _ => true
  | .hostRead _ _ _ => true
  | .hostWrite _ _ _ => true
  | .tailWrite _ _ => true
  | .launchRecordRead _ => true
  | .launchAccept _ => true
  | .launchComplete _ _ => true
  | .goWrite => true
  | .recovery => true
  | .ckctlInterval _ => true
  | .ckctlNow => true
  | .checkpointPoint => true
  | .checkpointDrainComplete => true
  | .pcapreqWrite _ _ => true
  | .pcapApply _ => true
  | .updreqWrite _ => true
  | .updateResult => true
  | .attreqWrite _ => true
  | .coldBoot => true
  | .governorWindow _ _ _ => true
  | .thermalEmergency _ _ _ => true
  | .memoryRequestArrive _ _ => true
  | .memoryRequestServe _ _ => true
  | .refreshDue _ _ => true
  | .refreshEnd _ _ => true
  | .bankSetIdle _ _ => true
  | .refctlTrace _ _ => true
  | .refctlArm _ => true
  | .refctlArmComplete _ => true
  | .channelReqPdown _ _ => true
  | .channelReqSref _ _ => true
  | .channelReqActive _ => true
  | .channelDeferredEntry _ => true
  | .patrolScrub _ _ => true
  | .poolTimeout _ => true
  | .peerTimeout _ => true
  | .peerRequest _ _ _ _ => true
  | .flitRetransmit _ => true
  | .portRetrainFail _ => true
  | .lockstepMismatch _ => true
  | .rollbackResume _ => true
  | .illegalInstruction _ _ => true
  | .hintOther fn _ _ _ => decide (3 ≤ fn.toNat)
  | .relayComplete _ => true
  | .kerbUnitGranuleRead _ _ => true
  | .channelStateChangeComplete _ => true
  | .bankAccessEnd _ _ => true
  | .thermalEmergencyExpiry _ => true

/-- The length in bytes of the instruction's encoding (R152); 0 for events and for `illegalInstruction`, which have no
encoding of their own. -/
def Instr.size : Instr → Nat
  | .add _ _ _ => 4
  | .sub _ _ _ => 4
  | .sll _ _ _ => 4
  | .slt _ _ _ => 4
  | .sltu _ _ _ => 4
  | .xor _ _ _ => 4
  | .srl _ _ _ => 4
  | .sra _ _ _ => 4
  | .or _ _ _ => 4
  | .and _ _ _ => 4
  | .mul _ _ _ => 4
  | .mulh _ _ _ => 4
  | .mulhsu _ _ _ => 4
  | .mulhu _ _ _ => 4
  | .div _ _ _ => 4
  | .divu _ _ _ => 4
  | .rem _ _ _ => 4
  | .remu _ _ _ => 4
  | .min _ _ _ => 4
  | .max _ _ _ => 4
  | .minu _ _ _ => 4
  | .maxu _ _ _ => 4
  | .andn _ _ _ => 4
  | .orn _ _ _ => 4
  | .rol _ _ _ => 4
  | .ror _ _ _ => 4
  | .sh1add _ _ _ => 4
  | .sh2add _ _ _ => 4
  | .sh3add _ _ _ => 4
  | .clz _ _ => 4
  | .ctz _ _ => 4
  | .cpop _ _ => 4
  | .addi _ _ _ => 4
  | .slli _ _ _ => 4
  | .slti _ _ _ => 4
  | .sltiu _ _ _ => 4
  | .xori _ _ _ => 4
  | .srli _ _ _ => 4
  | .srai _ _ _ => 4
  | .ori _ _ _ => 4
  | .andi _ _ _ => 4
  | .addw _ _ _ => 4
  | .subw _ _ _ => 4
  | .sllw _ _ _ => 4
  | .srlw _ _ _ => 4
  | .sraw _ _ _ => 4
  | .mulw _ _ _ => 4
  | .divw _ _ _ => 4
  | .divuw _ _ _ => 4
  | .remw _ _ _ => 4
  | .remuw _ _ _ => 4
  | .addiw _ _ _ => 4
  | .slliw _ _ _ => 4
  | .srliw _ _ _ => 4
  | .sraiw _ _ _ => 4
  | .lui _ _ => 4
  | .auipc _ _ => 4
  | .jal _ _ => 4
  | .jalr _ _ _ => 4
  | .beq _ _ _ => 4
  | .bne _ _ _ => 4
  | .blt _ _ _ => 4
  | .bge _ _ _ => 4
  | .bltu _ _ _ => 4
  | .bgeu _ _ _ => 4
  | .bbs _ _ _ => 4
  | .bbc _ _ _ => 4
  | .lb _ _ _ => 4
  | .lh _ _ _ => 4
  | .lw _ _ _ => 4
  | .ld _ _ _ => 4
  | .lbu _ _ _ => 4
  | .lhu _ _ _ => 4
  | .lwu _ _ _ => 4
  | .sb _ _ _ => 4
  | .sh _ _ _ => 4
  | .sw _ _ _ => 4
  | .sd _ _ _ => 4
  | .lbOrd _ _ _ _ => 4
  | .lhOrd _ _ _ _ => 4
  | .lwOrd _ _ _ _ => 4
  | .ldOrd _ _ _ _ => 4
  | .lbuOrd _ _ _ _ => 4
  | .lhuOrd _ _ _ _ => 4
  | .lwuOrd _ _ _ _ => 4
  | .sbOrd _ _ _ _ => 4
  | .shOrd _ _ _ _ => 4
  | .swOrd _ _ _ _ => 4
  | .sdOrd _ _ _ _ => 4
  | .amoswap _ _ _ _ _ => 4
  | .amoadd _ _ _ _ _ => 4
  | .amoand _ _ _ _ _ => 4
  | .amoor _ _ _ _ _ => 4
  | .amoxor _ _ _ _ _ => 4
  | .amomin _ _ _ _ _ => 4
  | .amomax _ _ _ _ _ => 4
  | .amominu _ _ _ _ _ => 4
  | .amomaxu _ _ _ _ _ => 4
  | .amocas _ _ _ _ _ => 4
  | .amofxL _ _ _ _ _ => 4
  | .amofxD _ _ _ _ _ => 4
  | .amofxS _ _ _ _ _ => 4
  | .fadd _ _ _ _ _ => 4
  | .fsub _ _ _ _ _ => 4
  | .fmul _ _ _ _ _ => 4
  | .fdiv _ _ _ _ _ => 4
  | .fsqrt _ _ _ _ => 4
  | .fmin _ _ _ _ => 4
  | .fmax _ _ _ _ => 4
  | .feq _ _ _ _ => 4
  | .flt _ _ _ _ => 4
  | .fle _ _ _ _ => 4
  | .fclass _ _ _ => 4
  | .fcvtItFmt _ _ _ _ _ => 4
  | .fcvtFmtIt _ _ _ _ _ => 4
  | .fcvtFmtSf _ _ _ _ _ => 4
  | .fmadd _ _ _ _ _ => 4
  | .fmsub _ _ _ _ _ => 4
  | .fnmsub _ _ _ _ _ => 4
  | .fnmadd _ _ _ _ _ => 4
  | .fence _ _ => 4
  | .mon _ => 4
  | .mwait _ _ => 4
  | .barArrive _ _ _ _ => 4
  | .barWait _ _ _ => 4
  | .claim _ _ _ _ _ => 4
  | .yield => 4
  | .mfs _ _ => 4
  | .mts _ _ => 4
  | .tcall => 4
  | .brk => 4
  | .tret => 4
  | .stop => 4
  | .spawn _ _ => 4
  | .hstop _ _ => 4
  | .gsusp _ _ _ => 4
  | .qlease _ _ _ => 4
  | .nop _ _ _ => 4
  | .prefR _ _ _ => 4
  | .prefW _ _ _ => 4
  | .cLd _ _ _ => 2
  | .cLw _ _ _ => 2
  | .cSd _ _ _ => 2
  | .cSw _ _ _ => 2
  | .cAddisp _ _ => 2
  | .cAddi _ _ => 2
  | .cLi _ _ => 2
  | .cJ _ => 2
  | .cBeqz _ _ => 2
  | .cBnez _ _ => 2
  | .cMv _ _ => 2
  | .cAdd _ _ => 2
  | .cJr _ => 2
  | .cJalr _ => 2
  | .cLdsp _ _ => 2
  | .cSdsp _ _ => 2
  | .vsetvl _ _ _ => 4
  | .vsetvlK _ _ _ => 4
  | .vrows _ _ => 4
  | .vmvVX _ _ _ _ => 4
  | .vmvVI _ _ _ _ => 4
  | .vid _ _ _ => 4
  | .vmvVV _ _ _ _ => 4
  | .vshape _ _ _ => 4
  | .vshapeU _ _ _ => 4
  | .vshapeS _ _ _ => 4
  | .vmat _ _ => 4
  | .vmvXE _ _ _ _ => 4
  | .vmergeVvm _ _ _ _ => 4
  | .vmergeVxm _ _ _ _ => 4
  | .vmergeVim _ _ _ _ => 4
  | .vmand _ _ _ _ => 4
  | .vmnand _ _ _ _ => 4
  | .vmandn _ _ _ _ => 4
  | .vmor _ _ _ _ => 4
  | .vmnor _ _ _ _ => 4
  | .vmorn _ _ _ _ => 4
  | .vmxor _ _ _ _ => 4
  | .vmxnor _ _ _ _ => 4
  | .vmcpop _ _ _ => 4
  | .vmfirst _ _ _ => 4
  | .vmset _ _ => 4
  | .vmclr _ _ => 4
  | .vscfg _ _ _ => 4
  | .vscfgr _ _ _ _ => 4
  | .vcopy _ _ _ _ => 4
  | .vcopyT _ _ _ _ => 4
  | .vcopyAddl _ _ _ _ => 4
  | .vcopyAddd _ _ _ _ => 4
  | .vcopyAdds _ _ _ _ => 4
  | .vchsend _ _ _ _ => 4
  | .vchrecv _ _ _ => 4
  | .vsend _ _ _ => 4
  | .vsendEom _ _ _ => 4
  | .veom _ _ => 4
  | .vsget _ _ _ _ => 4
  | .vsidle _ _ => 4
  | .kswage _ _ _ => 4
  | .kpool _ _ _ => 4
  | .ktongs _ _ _ => 4
  | .seal _ _ _ _ => 4
  | .unseal _ _ _ _ => 4
  | .vld _ _ _ _ => 4
  | .vstO _ _ _ _ => 4
  | .vstU _ _ _ _ => 4
  | .vlx _ _ _ _ _ => 4
  | .vsxO _ _ _ _ _ => 4
  | .vsxU _ _ _ _ _ => 4
  | .vamoswap _ _ _ _ _ _ _ => 4
  | .vamoadd _ _ _ _ _ _ _ => 4
  | .vamoand _ _ _ _ _ _ _ => 4
  | .vamoor _ _ _ _ _ _ _ => 4
  | .vamoxor _ _ _ _ _ _ _ => 4
  | .vamomin _ _ _ _ _ _ _ => 4
  | .vamomax _ _ _ _ _ _ _ => 4
  | .vamominu _ _ _ _ _ _ _ => 4
  | .vamomaxu _ _ _ _ _ _ _ => 4
  | .vamofxL _ _ _ _ _ _ _ => 4
  | .vamofxD _ _ _ _ _ _ _ => 4
  | .vamofxS _ _ _ _ _ _ _ => 4
  | .vaddVv _ _ _ _ _ => 4
  | .vaddVx _ _ _ _ _ => 4
  | .vaddVs _ _ _ _ _ => 4
  | .vaddVi _ _ _ _ _ => 4
  | .vsubVv _ _ _ _ _ => 4
  | .vsubVx _ _ _ _ _ => 4
  | .vsubVs _ _ _ _ _ => 4
  | .vsubVi _ _ _ _ _ => 4
  | .vrsubVv _ _ _ _ _ => 4
  | .vrsubVx _ _ _ _ _ => 4
  | .vrsubVs _ _ _ _ _ => 4
  | .vrsubVi _ _ _ _ _ => 4
  | .vandVv _ _ _ _ _ => 4
  | .vandVx _ _ _ _ _ => 4
  | .vandVs _ _ _ _ _ => 4
  | .vandVi _ _ _ _ _ => 4
  | .vorVv _ _ _ _ _ => 4
  | .vorVx _ _ _ _ _ => 4
  | .vorVs _ _ _ _ _ => 4
  | .vorVi _ _ _ _ _ => 4
  | .vxorVv _ _ _ _ _ => 4
  | .vxorVx _ _ _ _ _ => 4
  | .vxorVs _ _ _ _ _ => 4
  | .vxorVi _ _ _ _ _ => 4
  | .vsllVv _ _ _ _ _ => 4
  | .vsllVx _ _ _ _ _ => 4
  | .vsllVs _ _ _ _ _ => 4
  | .vsllVi _ _ _ _ _ => 4
  | .vsrlVv _ _ _ _ _ => 4
  | .vsrlVx _ _ _ _ _ => 4
  | .vsrlVs _ _ _ _ _ => 4
  | .vsrlVi _ _ _ _ _ => 4
  | .vsraVv _ _ _ _ _ => 4
  | .vsraVx _ _ _ _ _ => 4
  | .vsraVs _ _ _ _ _ => 4
  | .vsraVi _ _ _ _ _ => 4
  | .vmulVv _ _ _ _ _ => 4
  | .vmulVx _ _ _ _ _ => 4
  | .vmulVs _ _ _ _ _ => 4
  | .vmulVi _ _ _ _ _ => 4
  | .vmulhVv _ _ _ _ _ => 4
  | .vmulhVx _ _ _ _ _ => 4
  | .vmulhVs _ _ _ _ _ => 4
  | .vmulhVi _ _ _ _ _ => 4
  | .vmulhuVv _ _ _ _ _ => 4
  | .vmulhuVx _ _ _ _ _ => 4
  | .vmulhuVs _ _ _ _ _ => 4
  | .vmulhuVi _ _ _ _ _ => 4
  | .vminVv _ _ _ _ _ => 4
  | .vminVx _ _ _ _ _ => 4
  | .vminVs _ _ _ _ _ => 4
  | .vminVi _ _ _ _ _ => 4
  | .vmaxVv _ _ _ _ _ => 4
  | .vmaxVx _ _ _ _ _ => 4
  | .vmaxVs _ _ _ _ _ => 4
  | .vmaxVi _ _ _ _ _ => 4
  | .vminuVv _ _ _ _ _ => 4
  | .vminuVx _ _ _ _ _ => 4
  | .vminuVs _ _ _ _ _ => 4
  | .vminuVi _ _ _ _ _ => 4
  | .vmaxuVv _ _ _ _ _ => 4
  | .vmaxuVx _ _ _ _ _ => 4
  | .vmaxuVs _ _ _ _ _ => 4
  | .vmaxuVi _ _ _ _ _ => 4
  | .vsaddVv _ _ _ _ _ => 4
  | .vsaddVx _ _ _ _ _ => 4
  | .vsaddVs _ _ _ _ _ => 4
  | .vsaddVi _ _ _ _ _ => 4
  | .vsadduVv _ _ _ _ _ => 4
  | .vsadduVx _ _ _ _ _ => 4
  | .vsadduVs _ _ _ _ _ => 4
  | .vsadduVi _ _ _ _ _ => 4
  | .vssubVv _ _ _ _ _ => 4
  | .vssubVx _ _ _ _ _ => 4
  | .vssubVs _ _ _ _ _ => 4
  | .vssubVi _ _ _ _ _ => 4
  | .vssubuVv _ _ _ _ _ => 4
  | .vssubuVx _ _ _ _ _ => 4
  | .vssubuVs _ _ _ _ _ => 4
  | .vssubuVi _ _ _ _ _ => 4
  | .vaaddVv _ _ _ _ _ => 4
  | .vaaddVx _ _ _ _ _ => 4
  | .vaaddVs _ _ _ _ _ => 4
  | .vaaddVi _ _ _ _ _ => 4
  | .vaadduVv _ _ _ _ _ => 4
  | .vaadduVx _ _ _ _ _ => 4
  | .vaadduVs _ _ _ _ _ => 4
  | .vaadduVi _ _ _ _ _ => 4
  | .vsmulVv _ _ _ _ _ => 4
  | .vsmulVx _ _ _ _ _ => 4
  | .vsmulVs _ _ _ _ _ => 4
  | .vsmulVi _ _ _ _ _ => 4
  | .vssrlVv _ _ _ _ _ => 4
  | .vssrlVx _ _ _ _ _ => 4
  | .vssrlVs _ _ _ _ _ => 4
  | .vssrlVi _ _ _ _ _ => 4
  | .vssraVv _ _ _ _ _ => 4
  | .vssraVx _ _ _ _ _ => 4
  | .vssraVs _ _ _ _ _ => 4
  | .vssraVi _ _ _ _ _ => 4
  | .vwaddVv _ _ _ _ _ => 4
  | .vwaddVx _ _ _ _ _ => 4
  | .vwaddVs _ _ _ _ _ => 4
  | .vwaddVi _ _ _ _ _ => 4
  | .vwadduVv _ _ _ _ _ => 4
  | .vwadduVx _ _ _ _ _ => 4
  | .vwadduVs _ _ _ _ _ => 4
  | .vwadduVi _ _ _ _ _ => 4
  | .vwmulVv _ _ _ _ _ => 4
  | .vwmulVx _ _ _ _ _ => 4
  | .vwmulVs _ _ _ _ _ => 4
  | .vwmulVi _ _ _ _ _ => 4
  | .vwmuluVv _ _ _ _ _ => 4
  | .vwmuluVx _ _ _ _ _ => 4
  | .vwmuluVs _ _ _ _ _ => 4
  | .vwmuluVi _ _ _ _ _ => 4
  | .vnclipVv _ _ _ _ _ => 4
  | .vnclipVx _ _ _ _ _ => 4
  | .vnclipVs _ _ _ _ _ => 4
  | .vnclipVi _ _ _ _ _ => 4
  | .vnclipuVv _ _ _ _ _ => 4
  | .vnclipuVx _ _ _ _ _ => 4
  | .vnclipuVs _ _ _ _ _ => 4
  | .vnclipuVi _ _ _ _ _ => 4
  | .vfaddVv _ _ _ _ _ => 4
  | .vfaddVx _ _ _ _ _ => 4
  | .vfaddVs _ _ _ _ _ => 4
  | .vfsubVv _ _ _ _ _ => 4
  | .vfsubVx _ _ _ _ _ => 4
  | .vfsubVs _ _ _ _ _ => 4
  | .vfrsubVv _ _ _ _ _ => 4
  | .vfrsubVx _ _ _ _ _ => 4
  | .vfrsubVs _ _ _ _ _ => 4
  | .vfmulVv _ _ _ _ _ => 4
  | .vfmulVx _ _ _ _ _ => 4
  | .vfmulVs _ _ _ _ _ => 4
  | .vfdivVv _ _ _ _ _ => 4
  | .vfdivVx _ _ _ _ _ => 4
  | .vfdivVs _ _ _ _ _ => 4
  | .vfrdivVv _ _ _ _ _ => 4
  | .vfrdivVx _ _ _ _ _ => 4
  | .vfrdivVs _ _ _ _ _ => 4
  | .vfsqrt _ _ _ _ => 4
  | .vfminVv _ _ _ _ _ => 4
  | .vfminVx _ _ _ _ _ => 4
  | .vfminVs _ _ _ _ _ => 4
  | .vfmaxVv _ _ _ _ _ => 4
  | .vfmaxVx _ _ _ _ _ => 4
  | .vfmaxVs _ _ _ _ _ => 4
  | .vfsgnjVv _ _ _ _ _ => 4
  | .vfsgnjVx _ _ _ _ _ => 4
  | .vfsgnjVs _ _ _ _ _ => 4
  | .vfsgnjnVv _ _ _ _ _ => 4
  | .vfsgnjnVx _ _ _ _ _ => 4
  | .vfsgnjnVs _ _ _ _ _ => 4
  | .vfsgnjxVv _ _ _ _ _ => 4
  | .vfsgnjxVx _ _ _ _ _ => 4
  | .vfsgnjxVs _ _ _ _ _ => 4
  | .vfclass _ _ _ _ => 4
  | .vfmaccVv _ _ _ _ _ => 4
  | .vfmaccVx _ _ _ _ _ => 4
  | .vfmaccVs _ _ _ _ _ => 4
  | .vfnmaccVv _ _ _ _ _ => 4
  | .vfnmaccVx _ _ _ _ _ => 4
  | .vfnmaccVs _ _ _ _ _ => 4
  | .vfmsacVv _ _ _ _ _ => 4
  | .vfmsacVx _ _ _ _ _ => 4
  | .vfmsacVs _ _ _ _ _ => 4
  | .vfnmsacVv _ _ _ _ _ => 4
  | .vfnmsacVx _ _ _ _ _ => 4
  | .vfnmsacVs _ _ _ _ _ => 4
  | .vfcvtFX _ _ _ _ => 4
  | .vfcvtFXu _ _ _ _ => 4
  | .vfcvtXF _ _ _ _ => 4
  | .vfcvtXuF _ _ _ _ => 4
  | .vfcvtFF _ _ _ _ _ => 4
  | .vfexp _ _ _ _ => 4
  | .vfrec _ _ _ _ => 4
  | .vmseqVv _ _ _ _ _ => 4
  | .vmseqVx _ _ _ _ _ => 4
  | .vmseqVs _ _ _ _ _ => 4
  | .vmseqVi _ _ _ _ _ => 4
  | .vmsneVv _ _ _ _ _ => 4
  | .vmsneVx _ _ _ _ _ => 4
  | .vmsneVs _ _ _ _ _ => 4
  | .vmsneVi _ _ _ _ _ => 4
  | .vmsltVv _ _ _ _ _ => 4
  | .vmsltVx _ _ _ _ _ => 4
  | .vmsltVs _ _ _ _ _ => 4
  | .vmsltVi _ _ _ _ _ => 4
  | .vmsleVv _ _ _ _ _ => 4
  | .vmsleVx _ _ _ _ _ => 4
  | .vmsleVs _ _ _ _ _ => 4
  | .vmsleVi _ _ _ _ _ => 4
  | .vmsltuVv _ _ _ _ _ => 4
  | .vmsltuVx _ _ _ _ _ => 4
  | .vmsltuVs _ _ _ _ _ => 4
  | .vmsltuVi _ _ _ _ _ => 4
  | .vmsleuVv _ _ _ _ _ => 4
  | .vmsleuVx _ _ _ _ _ => 4
  | .vmsleuVs _ _ _ _ _ => 4
  | .vmsleuVi _ _ _ _ _ => 4
  | .vmsgtVv _ _ _ _ _ => 4
  | .vmsgtVx _ _ _ _ _ => 4
  | .vmsgtVs _ _ _ _ _ => 4
  | .vmsgtVi _ _ _ _ _ => 4
  | .vmsgtuVv _ _ _ _ _ => 4
  | .vmsgtuVx _ _ _ _ _ => 4
  | .vmsgtuVs _ _ _ _ _ => 4
  | .vmsgtuVi _ _ _ _ _ => 4
  | .vmfeqVv _ _ _ _ _ => 4
  | .vmfeqVx _ _ _ _ _ => 4
  | .vmfeqVs _ _ _ _ _ => 4
  | .vmfneVv _ _ _ _ _ => 4
  | .vmfneVx _ _ _ _ _ => 4
  | .vmfneVs _ _ _ _ _ => 4
  | .vmfltVv _ _ _ _ _ => 4
  | .vmfltVx _ _ _ _ _ => 4
  | .vmfltVs _ _ _ _ _ => 4
  | .vmfleVv _ _ _ _ _ => 4
  | .vmfleVx _ _ _ _ _ => 4
  | .vmfleVs _ _ _ _ _ => 4
  | .vmfgtVv _ _ _ _ _ => 4
  | .vmfgtVx _ _ _ _ _ => 4
  | .vmfgtVs _ _ _ _ _ => 4
  | .vmfgeVv _ _ _ _ _ => 4
  | .vmfgeVx _ _ _ _ _ => 4
  | .vmfgeVs _ _ _ _ _ => 4
  | .vredsum _ _ _ _ => 4
  | .vredmax _ _ _ _ => 4
  | .vredmin _ _ _ _ => 4
  | .vredmaxu _ _ _ _ => 4
  | .vredminu _ _ _ _ => 4
  | .vredand _ _ _ _ => 4
  | .vredor _ _ _ _ => 4
  | .viota _ _ => 4
  | .vfredsum _ _ _ _ => 4
  | .vfredmax _ _ _ _ => 4
  | .vrgatherVv _ _ _ _ => 4
  | .vrgatherVx _ _ _ _ => 4
  | .vslideupVx _ _ _ _ => 4
  | .vslideupVi _ _ _ _ => 4
  | .vslidedownVx _ _ _ _ => 4
  | .vslidedownVi _ _ _ _ => 4
  | .vcompress _ _ _ => 4
  | .vexpand _ _ _ => 4
  | .vscanadd _ _ _ _ => 4
  | .vmm _ _ _ _ _ _ _ => 8
  | .copr _ _ _ _ _ _ => 8
  | .coprM _ _ _ _ _ => 8
  | .cmvBv _ _ _ _ => 8
  | .cmvVb _ _ _ _ => 8
  | .cld _ _ _ _ => 8
  | .cst _ _ _ _ => 8
  | .czero _ _ => 8
  | .ccvt _ _ _ _ _ _ _ _ => 8
  | .bcfgWrite _ => 0
  | .reclaimWrite _ => 0
  | .mboxRead _ => 0
  | .tlbwcWrite _ => 0
  | .tlbinvWrite _ => 0
  | .tlbinvComplete _ => 0
  | .heatFlush _ => 0
  | .heatFlushComplete _ => 0
  | .codeGranuleVerify _ _ => 0
  | .convoyStart _ => 0
  | .streamTrim _ => 0
  | .convoyDrain _ => 0
  | .lanedeadline _ => 0
  | .reclaimDeadlineExpiry _ => 0
  | .resvExpiry _ => 0
  | .loadDataReturn _ _ => 0
  | .writePerform _ => 0
  | .fenceRetire _ => 0
  | .monitorWake _ => 0
  | .mwaitTimeout _ => 0
  | .barrierWake _ => 0
  | .roleChangeComplete _ => 0
  | .hartStopComplete _ => 0
  | .gangPlace _ => 0
  | .sliceExpiry _ => 0
  | .gangSuspendComplete _ _ => 0
  | .leaseExpiry _ => 0
  | .streamFetchAhead _ _ => 0
  | .copyStripRead _ _ => 0
  | .copyStripWrite _ _ => 0
  | .channelDeliver _ _ => 0
  | .kerbAccept _ _ => 0
  | .kerbUnitResult _ _ => 0
  | .kerbUnitResume _ _ => 0
  | .kerbComplete _ _ => 0
  | .sealComplete _ => 0
  | .unsealComplete _ => 0
  | .hostRead _ _ _ => 0
  | .hostWrite _ _ _ => 0
  | .tailWrite _ _ => 0
  | .launchRecordRead _ => 0
  | .launchAccept _ => 0
  | .launchComplete _ _ => 0
  | .goWrite => 0
  | .recovery => 0
  | .ckctlInterval _ => 0
  | .ckctlNow => 0
  | .checkpointPoint => 0
  | .checkpointDrainComplete => 0
  | .pcapreqWrite _ _ => 0
  | .pcapApply _ => 0
  | .updreqWrite _ => 0
  | .updateResult => 0
  | .attreqWrite _ => 0
  | .coldBoot => 0
  | .governorWindow _ _ _ => 0
  | .thermalEmergency _ _ _ => 0
  | .memoryRequestArrive _ _ => 0
  | .memoryRequestServe _ _ => 0
  | .refreshDue _ _ => 0
  | .refreshEnd _ _ => 0
  | .bankSetIdle _ _ => 0
  | .refctlTrace _ _ => 0
  | .refctlArm _ => 0
  | .refctlArmComplete _ => 0
  | .channelReqPdown _ _ => 0
  | .channelReqSref _ _ => 0
  | .channelReqActive _ => 0
  | .channelDeferredEntry _ => 0
  | .patrolScrub _ _ => 0
  | .poolTimeout _ => 0
  | .peerTimeout _ => 0
  | .peerRequest _ _ _ _ => 0
  | .flitRetransmit _ => 0
  | .portRetrainFail _ => 0
  | .lockstepMismatch _ => 0
  | .rollbackResume _ => 0
  | .illegalInstruction _ _ => 0
  | .hintOther _ _ _ _ => 4
  | .relayComplete _ => 0
  | .kerbUnitGranuleRead _ _ => 0
  | .channelStateChangeComplete _ => 0
  | .bankAccessEnd _ _ => 0
  | .thermalEmergencyExpiry _ => 0

/-- Events of the machine: rows of the table that are not instructions of a hart and have no encoding. -/
def Instr.isEvent (i : Instr) : Bool :=
  match i with
  | .illegalInstruction _ _ => false
  | i => i.size == 0

end Sys2Proof
end

