-- ==== Sys2Proof/Decode.lean ====
section
/-! DEFINITION. From bytes to instructions and back (spec/06_instruction_words.md R152-R161). The decoder is total: it
answers an instruction with its length in bytes, or says why there is none. Each major opcode has a function of its own,
written from its entry's encoding table; a reserved field must be 0. A function is marked noncomputable only because
Lean's compiler has no run-time form for a constructor numbered above 244; the kernel evaluates all of them. -/

namespace Sys2Proof

/-- Why a stretch of bytes is no instruction (R160). -/
inductive Reject where
  /-- Fewer bytes than the length the first halfword names. -/
  | truncated
  /-- A reserved major, or a reserved compressed slot (R158, R159). -/
  | major
  /-- A function value, or an operand form, that no entry assigns. -/
  | function
  /-- A reserved field that is not 0, or a reserved operand code. -/
  | field
deriving DecidableEq, Repr

/-- The `n`-bit field of `w` whose lowest bit is `lo`. -/
def fld (w lo n : Nat) : Nat := w / 2 ^ lo % 2 ^ n

/-- A field naming an x register. -/
def xField (w lo : Nat) : Fin 32 := Fin.ofNat 32 (fld w lo 5)

/-- A field naming a v register. -/
def vField (w lo : Nat) : Fin 64 := Fin.ofNat 64 (fld w lo 6)

/-- A field naming a stream register. -/
def stField (w lo : Nat) : Fin 16 := Fin.ofNat 16 (fld w lo 4)

/-- A field naming a mask register, an accumulator block or one of x8-x15. -/
def mField (w lo : Nat) : Fin 8 := Fin.ofNat 8 (fld w lo 3)

/-- A one-bit field. -/
def flag (w lo : Nat) : Bool := fld w lo 1 == 1

/-- Major 0x00 (R187). -/
def decodeLoad (w : Nat) : Except Reject Instr :=
  match fld w 18 3 with
  | 0 => .ok (.lb (xField w 8) (xField w 13) (BitVec.ofNat 11 (fld w 21 11)))
  | 1 => .ok (.lh (xField w 8) (xField w 13) (BitVec.ofNat 11 (fld w 21 11)))
  | 2 => .ok (.lw (xField w 8) (xField w 13) (BitVec.ofNat 11 (fld w 21 11)))
  | 3 => .ok (.ld (xField w 8) (xField w 13) (BitVec.ofNat 11 (fld w 21 11)))
  | 4 => .ok (.lbu (xField w 8) (xField w 13) (BitVec.ofNat 11 (fld w 21 11)))
  | 5 => .ok (.lhu (xField w 8) (xField w 13) (BitVec.ofNat 11 (fld w 21 11)))
  | 6 => .ok (.lwu (xField w 8) (xField w 13) (BitVec.ofNat 11 (fld w 21 11)))
  | _ => .error .function

/-- Major 0x01 (R187). -/
def decodeStore (w : Nat) : Except Reject Instr :=
  match fld w 23 3 with
  | 0 => .ok (.sb (xField w 13) (xField w 18) (BitVec.ofNat 11 (fld w 26 6 * 2 ^ 5 + fld w 8 5)))
  | 1 => .ok (.sh (xField w 13) (xField w 18) (BitVec.ofNat 11 (fld w 26 6 * 2 ^ 5 + fld w 8 5)))
  | 2 => .ok (.sw (xField w 13) (xField w 18) (BitVec.ofNat 11 (fld w 26 6 * 2 ^ 5 + fld w 8 5)))
  | 3 => .ok (.sd (xField w 13) (xField w 18) (BitVec.ofNat 11 (fld w 26 6 * 2 ^ 5 + fld w 8 5)))
  | _ => .error .function

/-- Major 0x02 (R190). -/
def decodeOrdls (w : Nat) : Except Reject Instr :=
  match fld w 23 4 with
  | 0 => if fld w 18 5 = 0 ∧ fld w 28 1 = 0 ∧ fld w 29 3 ≤ 5 then .ok (.lbOrd (xField w 8) (xField w 13) (BitVec.ofNat 3 (fld w 29 3)) (BitVec.ofNat 1 (fld w 27 1))) else .error .field
  | 1 => if fld w 18 5 = 0 ∧ fld w 28 1 = 0 ∧ fld w 29 3 ≤ 5 then .ok (.lhOrd (xField w 8) (xField w 13) (BitVec.ofNat 3 (fld w 29 3)) (BitVec.ofNat 1 (fld w 27 1))) else .error .field
  | 2 => if fld w 18 5 = 0 ∧ fld w 28 1 = 0 ∧ fld w 29 3 ≤ 5 then .ok (.lwOrd (xField w 8) (xField w 13) (BitVec.ofNat 3 (fld w 29 3)) (BitVec.ofNat 1 (fld w 27 1))) else .error .field
  | 3 => if fld w 18 5 = 0 ∧ fld w 28 1 = 0 ∧ fld w 29 3 ≤ 5 then .ok (.ldOrd (xField w 8) (xField w 13) (BitVec.ofNat 3 (fld w 29 3)) (BitVec.ofNat 1 (fld w 27 1))) else .error .field
  | 4 => if fld w 18 5 = 0 ∧ fld w 28 1 = 0 ∧ fld w 29 3 ≤ 5 then .ok (.lbuOrd (xField w 8) (xField w 13) (BitVec.ofNat 3 (fld w 29 3)) (BitVec.ofNat 1 (fld w 27 1))) else .error .field
  | 5 => if fld w 18 5 = 0 ∧ fld w 28 1 = 0 ∧ fld w 29 3 ≤ 5 then .ok (.lhuOrd (xField w 8) (xField w 13) (BitVec.ofNat 3 (fld w 29 3)) (BitVec.ofNat 1 (fld w 27 1))) else .error .field
  | 6 => if fld w 18 5 = 0 ∧ fld w 28 1 = 0 ∧ fld w 29 3 ≤ 5 then .ok (.lwuOrd (xField w 8) (xField w 13) (BitVec.ofNat 3 (fld w 29 3)) (BitVec.ofNat 1 (fld w 27 1))) else .error .field
  | 8 => if fld w 8 5 = 0 ∧ fld w 27 1 = 0 ∧ fld w 29 3 ≤ 5 then .ok (.sbOrd (xField w 13) (xField w 18) (BitVec.ofNat 3 (fld w 29 3)) (BitVec.ofNat 1 (fld w 28 1))) else .error .field
  | 9 => if fld w 8 5 = 0 ∧ fld w 27 1 = 0 ∧ fld w 29 3 ≤ 5 then .ok (.shOrd (xField w 13) (xField w 18) (BitVec.ofNat 3 (fld w 29 3)) (BitVec.ofNat 1 (fld w 28 1))) else .error .field
  | 10 => if fld w 8 5 = 0 ∧ fld w 27 1 = 0 ∧ fld w 29 3 ≤ 5 then .ok (.swOrd (xField w 13) (xField w 18) (BitVec.ofNat 3 (fld w 29 3)) (BitVec.ofNat 1 (fld w 28 1))) else .error .field
  | 11 => if fld w 8 5 = 0 ∧ fld w 27 1 = 0 ∧ fld w 29 3 ≤ 5 then .ok (.sdOrd (xField w 13) (xField w 18) (BitVec.ofNat 3 (fld w 29 3)) (BitVec.ofNat 1 (fld w 28 1))) else .error .field
  | _ => .error .function

/-- Major 0x03 (R191, R192). -/
def decodeAmo (w : Nat) : Except Reject Instr :=
  match fld w 23 4 with
  | 0 => if fld w 29 3 ≤ 5 then .ok (.amoswap (xField w 8) (xField w 13) (xField w 18) (BitVec.ofNat 3 (fld w 29 3)) (BitVec.ofNat 2 (fld w 27 2))) else .error .field
  | 1 => if fld w 29 3 ≤ 5 then .ok (.amoadd (xField w 8) (xField w 13) (xField w 18) (BitVec.ofNat 3 (fld w 29 3)) (BitVec.ofNat 2 (fld w 27 2))) else .error .field
  | 2 => if fld w 29 3 ≤ 5 then .ok (.amoand (xField w 8) (xField w 13) (xField w 18) (BitVec.ofNat 3 (fld w 29 3)) (BitVec.ofNat 2 (fld w 27 2))) else .error .field
  | 3 => if fld w 29 3 ≤ 5 then .ok (.amoor (xField w 8) (xField w 13) (xField w 18) (BitVec.ofNat 3 (fld w 29 3)) (BitVec.ofNat 2 (fld w 27 2))) else .error .field
  | 4 => if fld w 29 3 ≤ 5 then .ok (.amoxor (xField w 8) (xField w 13) (xField w 18) (BitVec.ofNat 3 (fld w 29 3)) (BitVec.ofNat 2 (fld w 27 2))) else .error .field
  | 5 => if fld w 29 3 ≤ 5 then .ok (.amomin (xField w 8) (xField w 13) (xField w 18) (BitVec.ofNat 3 (fld w 29 3)) (BitVec.ofNat 2 (fld w 27 2))) else .error .field
  | 6 => if fld w 29 3 ≤ 5 then .ok (.amomax (xField w 8) (xField w 13) (xField w 18) (BitVec.ofNat 3 (fld w 29 3)) (BitVec.ofNat 2 (fld w 27 2))) else .error .field
  | 7 => if fld w 29 3 ≤ 5 then .ok (.amominu (xField w 8) (xField w 13) (xField w 18) (BitVec.ofNat 3 (fld w 29 3)) (BitVec.ofNat 2 (fld w 27 2))) else .error .field
  | 8 => if fld w 29 3 ≤ 5 then .ok (.amomaxu (xField w 8) (xField w 13) (xField w 18) (BitVec.ofNat 3 (fld w 29 3)) (BitVec.ofNat 2 (fld w 27 2))) else .error .field
  | 9 => if fld w 29 3 ≤ 5 then .ok (.amocas (xField w 8) (xField w 13) (xField w 18) (BitVec.ofNat 3 (fld w 29 3)) (BitVec.ofNat 2 (fld w 27 2))) else .error .field
  | 10 => if fld w 29 3 ≤ 5 then .ok (.amofxL (xField w 8) (xField w 13) (xField w 18) (BitVec.ofNat 3 (fld w 29 3)) (BitVec.ofNat 2 (fld w 27 2))) else .error .field
  | 11 => if fld w 29 3 ≤ 5 then .ok (.amofxD (xField w 8) (xField w 13) (xField w 18) (BitVec.ofNat 3 (fld w 29 3)) (BitVec.ofNat 2 (fld w 27 2))) else .error .field
  | 12 => if fld w 29 3 ≤ 5 then .ok (.amofxS (xField w 8) (xField w 13) (xField w 18) (BitVec.ofNat 3 (fld w 29 3)) (BitVec.ofNat 2 (fld w 27 2))) else .error .field
  | _ => .error .function

/-- Major 0x04 (R184). -/
def decodeOpi (w : Nat) : Except Reject Instr :=
  match fld w 18 3 with
  | 0 => .ok (.addi (xField w 8) (xField w 13) (BitVec.ofNat 11 (fld w 21 11)))
  | 1 => if fld w 27 5 = 0 then .ok (.slli (xField w 8) (xField w 13) (BitVec.ofNat 6 (fld w 21 6))) else .error .field
  | 2 => .ok (.slti (xField w 8) (xField w 13) (BitVec.ofNat 11 (fld w 21 11)))
  | 3 => .ok (.sltiu (xField w 8) (xField w 13) (BitVec.ofNat 11 (fld w 21 11)))
  | 4 => .ok (.xori (xField w 8) (xField w 13) (BitVec.ofNat 11 (fld w 21 11)))
  | 5 => if fld w 27 5 = 0 then .ok (.srli (xField w 8) (xField w 13) (BitVec.ofNat 6 (fld w 21 6))) else if fld w 27 5 = 16 then .ok (.srai (xField w 8) (xField w 13) (BitVec.ofNat 6 (fld w 21 6))) else .error .field
  | 6 => .ok (.ori (xField w 8) (xField w 13) (BitVec.ofNat 11 (fld w 21 11)))
  | _ => .ok (.andi (xField w 8) (xField w 13) (BitVec.ofNat 11 (fld w 21 11)))

/-- Major 0x05 (R182). -/
def decodeOp (w : Nat) : Except Reject Instr :=
  match fld w 23 9 with
  | 0 => .ok (.add (xField w 8) (xField w 13) (xField w 18))
  | 1 => .ok (.sub (xField w 8) (xField w 13) (xField w 18))
  | 2 => .ok (.sll (xField w 8) (xField w 13) (xField w 18))
  | 3 => .ok (.slt (xField w 8) (xField w 13) (xField w 18))
  | 4 => .ok (.sltu (xField w 8) (xField w 13) (xField w 18))
  | 5 => .ok (.xor (xField w 8) (xField w 13) (xField w 18))
  | 6 => .ok (.srl (xField w 8) (xField w 13) (xField w 18))
  | 7 => .ok (.sra (xField w 8) (xField w 13) (xField w 18))
  | 8 => .ok (.or (xField w 8) (xField w 13) (xField w 18))
  | 9 => .ok (.and (xField w 8) (xField w 13) (xField w 18))
  | 10 => .ok (.mul (xField w 8) (xField w 13) (xField w 18))
  | 11 => .ok (.mulh (xField w 8) (xField w 13) (xField w 18))
  | 12 => .ok (.mulhsu (xField w 8) (xField w 13) (xField w 18))
  | 13 => .ok (.mulhu (xField w 8) (xField w 13) (xField w 18))
  | 14 => .ok (.div (xField w 8) (xField w 13) (xField w 18))
  | 15 => .ok (.divu (xField w 8) (xField w 13) (xField w 18))
  | 16 => .ok (.rem (xField w 8) (xField w 13) (xField w 18))
  | 17 => .ok (.remu (xField w 8) (xField w 13) (xField w 18))
  | 18 => .ok (.min (xField w 8) (xField w 13) (xField w 18))
  | 19 => .ok (.max (xField w 8) (xField w 13) (xField w 18))
  | 20 => .ok (.minu (xField w 8) (xField w 13) (xField w 18))
  | 21 => .ok (.maxu (xField w 8) (xField w 13) (xField w 18))
  | 22 => .ok (.andn (xField w 8) (xField w 13) (xField w 18))
  | 23 => .ok (.orn (xField w 8) (xField w 13) (xField w 18))
  | 24 => .ok (.rol (xField w 8) (xField w 13) (xField w 18))
  | 25 => .ok (.ror (xField w 8) (xField w 13) (xField w 18))
  | 26 => .ok (.sh1add (xField w 8) (xField w 13) (xField w 18))
  | 27 => .ok (.sh2add (xField w 8) (xField w 13) (xField w 18))
  | 28 => .ok (.sh3add (xField w 8) (xField w 13) (xField w 18))
  | 29 => if fld w 18 5 = 0 then .ok (.clz (xField w 8) (xField w 13)) else .error .field
  | 30 => if fld w 18 5 = 0 then .ok (.ctz (xField w 8) (xField w 13)) else .error .field
  | 31 => if fld w 18 5 = 0 then .ok (.cpop (xField w 8) (xField w 13)) else .error .field
  | _ => .error .function

/-- Major 0x06 (R185). -/
def decodeOpiw (w : Nat) : Except Reject Instr :=
  match fld w 18 3 with
  | 0 => .ok (.addiw (xField w 8) (xField w 13) (BitVec.ofNat 11 (fld w 21 11)))
  | 1 => if fld w 26 6 = 0 then .ok (.slliw (xField w 8) (xField w 13) (BitVec.ofNat 5 (fld w 21 5))) else .error .field
  | 5 => if fld w 26 6 = 0 then .ok (.srliw (xField w 8) (xField w 13) (BitVec.ofNat 5 (fld w 21 5))) else if fld w 26 6 = 32 then .ok (.sraiw (xField w 8) (xField w 13) (BitVec.ofNat 5 (fld w 21 5))) else .error .field
  | _ => .error .function

/-- Major 0x07 (R185). -/
def decodeOpw (w : Nat) : Except Reject Instr :=
  match fld w 23 9 with
  | 0 => .ok (.addw (xField w 8) (xField w 13) (xField w 18))
  | 1 => .ok (.subw (xField w 8) (xField w 13) (xField w 18))
  | 2 => .ok (.sllw (xField w 8) (xField w 13) (xField w 18))
  | 6 => .ok (.srlw (xField w 8) (xField w 13) (xField w 18))
  | 7 => .ok (.sraw (xField w 8) (xField w 13) (xField w 18))
  | 10 => .ok (.mulw (xField w 8) (xField w 13) (xField w 18))
  | 14 => .ok (.divw (xField w 8) (xField w 13) (xField w 18))
  | 15 => .ok (.divuw (xField w 8) (xField w 13) (xField w 18))
  | 16 => .ok (.remw (xField w 8) (xField w 13) (xField w 18))
  | 17 => .ok (.remuw (xField w 8) (xField w 13) (xField w 18))
  | _ => .error .function

/-- Major 0x08 (R186). -/
def decodeLui (w : Nat) : Except Reject Instr :=
  .ok (.lui (xField w 8) (BitVec.ofNat 19 (fld w 13 19)))

/-- Major 0x09 (R186). -/
def decodeAuipc (w : Nat) : Except Reject Instr :=
  .ok (.auipc (xField w 8) (BitVec.ofNat 19 (fld w 13 19)))

/-- Major 0x0A (R194). -/
def decodeJal (w : Nat) : Except Reject Instr :=
  .ok (.jal (xField w 8) (BitVec.ofNat 19 (fld w 13 19)))

/-- Major 0x0B (R194). -/
def decodeJalr (w : Nat) : Except Reject Instr :=
  match fld w 18 3 with
  | 0 => .ok (.jalr (xField w 8) (xField w 13) (BitVec.ofNat 11 (fld w 21 11)))
  | _ => .error .function

/-- Major 0x0C (R195). -/
def decodeBrs (w : Nat) : Except Reject Instr :=
  match fld w 23 2 with
  | 0 => .ok (.beq (xField w 13) (xField w 18) (BitVec.ofNat 12 (fld w 25 7 * 2 ^ 5 + fld w 8 5)))
  | 1 => .ok (.bne (xField w 13) (xField w 18) (BitVec.ofNat 12 (fld w 25 7 * 2 ^ 5 + fld w 8 5)))
  | 2 => .ok (.blt (xField w 13) (xField w 18) (BitVec.ofNat 12 (fld w 25 7 * 2 ^ 5 + fld w 8 5)))
  | _ => .ok (.bge (xField w 13) (xField w 18) (BitVec.ofNat 12 (fld w 25 7 * 2 ^ 5 + fld w 8 5)))

/-- Major 0x0D (R195). -/
def decodeBru (w : Nat) : Except Reject Instr :=
  match fld w 23 2 with
  | 0 => .ok (.bltu (xField w 13) (xField w 18) (BitVec.ofNat 12 (fld w 25 7 * 2 ^ 5 + fld w 8 5)))
  | 1 => .ok (.bgeu (xField w 13) (xField w 18) (BitVec.ofNat 12 (fld w 25 7 * 2 ^ 5 + fld w 8 5)))
  | 2 => .ok (.bbs (xField w 13) (xField w 18) (BitVec.ofNat 12 (fld w 25 7 * 2 ^ 5 + fld w 8 5)))
  | _ => .ok (.bbc (xField w 13) (xField w 18) (BitVec.ofNat 12 (fld w 25 7 * 2 ^ 5 + fld w 8 5)))

/-- Major 0x0E (R196, R197). -/
def decodeFop (w : Nat) : Except Reject Instr :=
  match fld w 28 4 with
  | 0 => if fld w 23 3 ≠ 5 ∧ fld w 23 3 ≠ 6 then .ok (.fadd (xField w 8) (xField w 13) (xField w 18) (BitVec.ofNat 2 (fld w 26 2)) (BitVec.ofNat 3 (fld w 23 3))) else .error .field
  | 1 => if fld w 23 3 ≠ 5 ∧ fld w 23 3 ≠ 6 then .ok (.fsub (xField w 8) (xField w 13) (xField w 18) (BitVec.ofNat 2 (fld w 26 2)) (BitVec.ofNat 3 (fld w 23 3))) else .error .field
  | 2 => if fld w 23 3 ≠ 5 ∧ fld w 23 3 ≠ 6 then .ok (.fmul (xField w 8) (xField w 13) (xField w 18) (BitVec.ofNat 2 (fld w 26 2)) (BitVec.ofNat 3 (fld w 23 3))) else .error .field
  | 3 => if fld w 23 3 ≠ 5 ∧ fld w 23 3 ≠ 6 then .ok (.fdiv (xField w 8) (xField w 13) (xField w 18) (BitVec.ofNat 2 (fld w 26 2)) (BitVec.ofNat 3 (fld w 23 3))) else .error .field
  | 4 => if fld w 18 5 = 0 ∧ fld w 23 3 ≠ 5 ∧ fld w 23 3 ≠ 6 then .ok (.fsqrt (xField w 8) (xField w 13) (BitVec.ofNat 2 (fld w 26 2)) (BitVec.ofNat 3 (fld w 23 3))) else .error .field
  | 5 => if fld w 23 3 = 0 then .ok (.fmin (xField w 8) (xField w 13) (xField w 18) (BitVec.ofNat 2 (fld w 26 2))) else .error .field
  | 6 => if fld w 23 3 = 0 then .ok (.fmax (xField w 8) (xField w 13) (xField w 18) (BitVec.ofNat 2 (fld w 26 2))) else .error .field
  | 7 => if fld w 23 3 = 0 then .ok (.feq (xField w 8) (xField w 13) (xField w 18) (BitVec.ofNat 2 (fld w 26 2))) else .error .field
  | 8 => if fld w 23 3 = 0 then .ok (.flt (xField w 8) (xField w 13) (xField w 18) (BitVec.ofNat 2 (fld w 26 2))) else .error .field
  | 9 => if fld w 23 3 = 0 then .ok (.fle (xField w 8) (xField w 13) (xField w 18) (BitVec.ofNat 2 (fld w 26 2))) else .error .field
  | 10 => if fld w 18 8 = 0 then .ok (.fclass (xField w 8) (xField w 13) (BitVec.ofNat 2 (fld w 26 2))) else .error .field
  | 11 => if fld w 18 5 ≤ 3 ∧ fld w 23 3 ≠ 5 ∧ fld w 23 3 ≠ 6 then .ok (.fcvtItFmt (xField w 8) (xField w 13) (BitVec.ofNat 5 (fld w 18 5)) (BitVec.ofNat 2 (fld w 26 2)) (BitVec.ofNat 3 (fld w 23 3))) else .error .field
  | 12 => if fld w 18 5 ≤ 3 ∧ fld w 23 3 ≠ 5 ∧ fld w 23 3 ≠ 6 then .ok (.fcvtFmtIt (xField w 8) (xField w 13) (BitVec.ofNat 5 (fld w 18 5)) (BitVec.ofNat 2 (fld w 26 2)) (BitVec.ofNat 3 (fld w 23 3))) else .error .field
  | 13 => if fld w 18 5 ≠ 0 ∧ fld w 18 5 ≤ 7 ∧ fld w 23 3 ≠ 5 ∧ fld w 23 3 ≠ 6 then .ok (.fcvtFmtSf (xField w 8) (xField w 13) (BitVec.ofNat 5 (fld w 18 5)) (BitVec.ofNat 2 (fld w 26 2)) (BitVec.ofNat 3 (fld w 23 3))) else .error .field
  | _ => .error .function

/-- Major 0x0F (R198). -/
def decodeFmac (w : Nat) : Except Reject Instr :=
  match fld w 30 2 with
  | 0 => .ok (.fmadd (xField w 8) (xField w 13) (xField w 18) (xField w 23) (BitVec.ofNat 2 (fld w 28 2)))
  | 1 => .ok (.fmsub (xField w 8) (xField w 13) (xField w 18) (xField w 23) (BitVec.ofNat 2 (fld w 28 2)))
  | 2 => .ok (.fnmsub (xField w 8) (xField w 13) (xField w 18) (xField w 23) (BitVec.ofNat 2 (fld w 28 2)))
  | _ => .ok (.fnmadd (xField w 8) (xField w 13) (xField w 18) (xField w 23) (BitVec.ofNat 2 (fld w 28 2)))

/-- Major 0x10 (R200). -/
def decodeSync (w : Nat) : Except Reject Instr :=
  match fld w 23 4 with
  | 0 => if fld w 8 15 = 0 ∧ fld w 29 3 ≤ 5 then .ok (.fence (BitVec.ofNat 3 (fld w 29 3)) (BitVec.ofNat 2 (fld w 27 2))) else .error .field
  | 1 => if fld w 8 5 = 0 ∧ fld w 18 5 = 0 ∧ fld w 27 5 = 0 then .ok (.mon (xField w 13)) else .error .field
  | 2 => if fld w 18 5 = 0 ∧ fld w 27 5 = 0 then .ok (.mwait (xField w 8) (xField w 13)) else .error .field
  | 3 => if fld w 18 5 = 0 ∧ fld w 28 1 = 1 ∧ fld w 29 3 ≤ 5 then .ok (.barArrive (xField w 8) (xField w 13) (BitVec.ofNat 3 (fld w 29 3)) (BitVec.ofNat 1 (fld w 27 1))) else .error .field
  | 4 => if fld w 8 5 = 0 ∧ fld w 27 2 = 1 ∧ fld w 29 3 ≤ 5 then .ok (.barWait (xField w 13) (xField w 18) (BitVec.ofNat 3 (fld w 29 3))) else .error .field
  | 5 => if fld w 29 3 ≤ 5 then .ok (.claim (xField w 8) (xField w 13) (xField w 18) (BitVec.ofNat 3 (fld w 29 3)) (BitVec.ofNat 2 (fld w 27 2))) else .error .field
  | 6 => if fld w 8 15 = 0 ∧ fld w 27 5 = 0 then .ok (.yield) else .error .field
  | _ => .error .function

/-- Major 0x11 (R206). -/
def decodeSys (w : Nat) : Except Reject Instr :=
  match fld w 30 2 with
  | 0 => if fld w 13 5 = 0 then .ok (.mfs (xField w 8) (BitVec.ofNat 12 (fld w 18 12))) else .error .field
  | 1 => if fld w 8 5 = 0 then .ok (.mts (xField w 13) (BitVec.ofNat 12 (fld w 18 12))) else .error .field
  | 2 => if fld w 8 22 = 0 then .ok (.tcall) else if fld w 8 22 = 1024 then .ok (.brk) else if fld w 8 22 = 2048 then .ok (.tret) else .error .field
  | _ => .error .function

/-- Major 0x12 (R214). -/
def decodePriv (w : Nat) : Except Reject Instr :=
  match fld w 23 9 with
  | 0 => if fld w 8 15 = 0 then .ok (.stop) else .error .field
  | 1 => if fld w 18 5 = 0 then .ok (.spawn (xField w 8) (xField w 13)) else .error .field
  | 2 => if fld w 18 5 = 0 then .ok (.hstop (xField w 8) (xField w 13)) else .error .field
  | 3 => .ok (.gsusp (xField w 8) (xField w 13) (xField w 18))
  | 4 => .ok (.qlease (xField w 8) (xField w 13) (xField w 18))
  | _ => .error .function

/-- Major 0x13 (R161). -/
noncomputable def decodeHint (w : Nat) : Except Reject Instr :=
  match fld w 23 9 with
  | 0 => .ok (.nop (xField w 8) (xField w 13) (xField w 18))
  | 1 => .ok (.prefR (xField w 8) (xField w 13) (xField w 18))
  | 2 => .ok (.prefW (xField w 8) (xField w 13) (xField w 18))
  | _ => .ok (.hintOther (BitVec.ofNat 9 (fld w 23 9)) (xField w 18) (xField w 13) (xField w 8))

/-- Major 0x18 (R223). -/
def decodeVconf (w : Nat) : Except Reject Instr :=
  match fld w 23 9 with
  | 0 => .ok (.vsetvl (xField w 8) (xField w 13) (xField w 18))
  | 1 => .ok (.vsetvlK (xField w 8) (xField w 13) (xField w 18))
  | 2 => if fld w 18 5 = 0 then .ok (.vrows (xField w 8) (xField w 13)) else .error .field
  | _ => .error .function

/-- Major 0x19 (R233). -/
def decodeVmisc (w : Nat) : Except Reject Instr :=
  match fld w 28 4 with
  | 0 => if fld w 15 6 = 0 ∧ fld w 26 1 = 0 then .ok (.vmvVX (flag w 8) (flag w 27) (vField w 9) (xField w 21)) else .error .field
  | 1 => if fld w 15 6 = 0 then .ok (.vmvVI (flag w 8) (flag w 27) (vField w 9) (BitVec.ofNat 6 (fld w 21 6))) else .error .field
  | 2 => if fld w 15 12 = 0 then .ok (.vid (flag w 8) (flag w 27) (vField w 9)) else .error .field
  | 3 => if fld w 21 6 = 0 then .ok (.vmvVV (flag w 8) (flag w 27) (vField w 9) (vField w 15)) else .error .field
  | 4 => if fld w 14 1 = 0 ∧ fld w 21 7 = 0 then .ok (.vshape (flag w 8) (xField w 9) (vField w 15)) else .error .field
  | 5 => if fld w 14 1 = 0 ∧ fld w 21 7 = 0 then .ok (.vshapeU (flag w 8) (xField w 9) (vField w 15)) else .error .field
  | 6 => if fld w 14 1 = 0 ∧ fld w 21 7 = 0 then .ok (.vshapeS (flag w 8) (xField w 9) (vField w 15)) else .error .field
  | 7 => if fld w 9 6 = 0 ∧ fld w 21 7 = 0 then .ok (.vmat (flag w 8) (vField w 15)) else .error .field
  | 8 => if fld w 14 1 = 0 ∧ fld w 26 2 = 0 then .ok (.vmvXE (flag w 8) (xField w 9) (vField w 15) (xField w 21)) else .error .field
  | 9 => if fld w 27 1 = 0 then .ok (.vmergeVvm (flag w 8) (vField w 9) (vField w 15) (vField w 21)) else .error .field
  | 10 => if fld w 26 2 = 0 then .ok (.vmergeVxm (flag w 8) (vField w 9) (vField w 15) (xField w 21)) else .error .field
  | 11 => if fld w 27 1 = 0 then .ok (.vmergeVim (flag w 8) (vField w 9) (vField w 15) (BitVec.ofNat 6 (fld w 21 6))) else .error .field
  | _ => .error .function

/-- Major 0x1A (R245). -/
def decodeVmask (w : Nat) : Except Reject Instr :=
  match fld w 28 4 with
  | 0 => if fld w 12 3 = 0 ∧ fld w 18 3 = 0 ∧ fld w 24 4 = 0 then .ok (.vmand (flag w 8) (mField w 9) (mField w 15) (mField w 21)) else .error .field
  | 1 => if fld w 12 3 = 0 ∧ fld w 18 3 = 0 ∧ fld w 24 4 = 0 then .ok (.vmnand (flag w 8) (mField w 9) (mField w 15) (mField w 21)) else .error .field
  | 2 => if fld w 12 3 = 0 ∧ fld w 18 3 = 0 ∧ fld w 24 4 = 0 then .ok (.vmandn (flag w 8) (mField w 9) (mField w 15) (mField w 21)) else .error .field
  | 3 => if fld w 12 3 = 0 ∧ fld w 18 3 = 0 ∧ fld w 24 4 = 0 then .ok (.vmor (flag w 8) (mField w 9) (mField w 15) (mField w 21)) else .error .field
  | 4 => if fld w 12 3 = 0 ∧ fld w 18 3 = 0 ∧ fld w 24 4 = 0 then .ok (.vmnor (flag w 8) (mField w 9) (mField w 15) (mField w 21)) else .error .field
  | 5 => if fld w 12 3 = 0 ∧ fld w 18 3 = 0 ∧ fld w 24 4 = 0 then .ok (.vmorn (flag w 8) (mField w 9) (mField w 15) (mField w 21)) else .error .field
  | 6 => if fld w 12 3 = 0 ∧ fld w 18 3 = 0 ∧ fld w 24 4 = 0 then .ok (.vmxor (flag w 8) (mField w 9) (mField w 15) (mField w 21)) else .error .field
  | 7 => if fld w 12 3 = 0 ∧ fld w 18 3 = 0 ∧ fld w 24 4 = 0 then .ok (.vmxnor (flag w 8) (mField w 9) (mField w 15) (mField w 21)) else .error .field
  | 8 => if fld w 14 1 = 0 ∧ fld w 18 10 = 0 then .ok (.vmcpop (flag w 8) (xField w 9) (mField w 15)) else .error .field
  | 9 => if fld w 14 1 = 0 ∧ fld w 18 10 = 0 then .ok (.vmfirst (flag w 8) (xField w 9) (mField w 15)) else .error .field
  | 10 => if fld w 12 16 = 0 then .ok (.vmset (flag w 8) (mField w 9)) else .error .field
  | 11 => if fld w 12 16 = 0 then .ok (.vmclr (flag w 8) (mField w 9)) else .error .field
  | _ => .error .function

/-- Major 0x1B (R253). -/
def decodeVstrm (w : Nat) : Except Reject Instr :=
  match fld w 28 4 with
  | 0 => if fld w 9 6 = 0 ∧ fld w 20 1 = 0 ∧ fld w 25 3 = 0 then .ok (.vscfg (flag w 8) (xField w 15) (stField w 21)) else .error .field
  | 1 => if fld w 14 1 = 0 ∧ fld w 20 1 = 0 ∧ fld w 25 3 = 0 then .ok (.vscfgr (flag w 8) (xField w 15) (xField w 9) (stField w 21)) else .error .field
  | 2 => if fld w 14 1 = 0 ∧ fld w 20 1 = 0 ∧ fld w 25 3 = 0 then .ok (.vcopy (flag w 8) (xField w 15) (xField w 9) (stField w 21)) else .error .field
  | 3 => if fld w 14 1 = 0 ∧ fld w 20 1 = 0 ∧ fld w 25 3 = 0 then .ok (.vcopyT (flag w 8) (xField w 15) (xField w 9) (stField w 21)) else .error .field
  | 4 => if fld w 14 1 = 0 ∧ fld w 20 1 = 0 ∧ fld w 25 3 = 0 then .ok (.vcopyAddl (flag w 8) (xField w 15) (xField w 9) (stField w 21)) else .error .field
  | 5 => if fld w 14 1 = 0 ∧ fld w 20 1 = 0 ∧ fld w 25 3 = 0 then .ok (.vcopyAddd (flag w 8) (xField w 15) (xField w 9) (stField w 21)) else .error .field
  | 6 => if fld w 14 1 = 0 ∧ fld w 20 1 = 0 ∧ fld w 25 3 = 0 then .ok (.vcopyAdds (flag w 8) (xField w 15) (xField w 9) (stField w 21)) else .error .field
  | 7 => if fld w 14 1 = 0 ∧ fld w 20 1 = 0 ∧ fld w 25 3 = 0 then .ok (.vchsend (flag w 8) (xField w 15) (xField w 9) (stField w 21)) else .error .field
  | 8 => if fld w 9 6 = 0 ∧ fld w 20 1 = 0 ∧ fld w 25 3 = 0 then .ok (.vchrecv (flag w 8) (xField w 15) (stField w 21)) else .error .field
  | 9 => if fld w 9 6 = 0 ∧ fld w 25 3 = 0 then .ok (.vsend (flag w 8) (vField w 15) (stField w 21)) else .error .field
  | 10 => if fld w 9 6 = 0 ∧ fld w 25 3 = 0 then .ok (.vsendEom (flag w 8) (vField w 15) (stField w 21)) else .error .field
  | 11 => if fld w 9 12 = 0 ∧ fld w 25 3 = 0 then .ok (.veom (flag w 8) (stField w 21)) else .error .field
  | 12 => if fld w 14 1 = 0 ∧ fld w 25 3 = 0 ∧ fld w 15 6 ≤ 15 then .ok (.vsget (flag w 8) (xField w 9) (stField w 21) (BitVec.ofNat 6 (fld w 15 6))) else .error .field
  | 13 => if fld w 9 12 = 0 ∧ fld w 25 3 = 0 then .ok (.vsidle (flag w 8) (stField w 21)) else .error .field
  | _ => .error .function

/-- Major 0x1C (R304). -/
def decodeVkerb (w : Nat) : Except Reject Instr :=
  match fld w 28 4 with
  | 0 => if fld w 9 6 = 0 ∧ fld w 20 1 = 0 ∧ fld w 25 3 = 0 then .ok (.kswage (flag w 8) (xField w 15) (stField w 21)) else .error .field
  | 1 => if fld w 9 6 = 0 ∧ fld w 20 1 = 0 ∧ fld w 25 3 = 0 then .ok (.kpool (flag w 8) (xField w 15) (stField w 21)) else .error .field
  | 2 => if fld w 9 6 = 0 ∧ fld w 20 1 = 0 ∧ fld w 25 3 = 0 then .ok (.ktongs (flag w 8) (xField w 15) (stField w 21)) else .error .field
  | 4 => if fld w 14 1 = 0 ∧ fld w 20 1 = 0 ∧ fld w 26 2 = 0 then .ok (.seal (flag w 8) (xField w 9) (xField w 15) (xField w 21)) else .error .field
  | 5 => if fld w 14 1 = 0 ∧ fld w 20 1 = 0 ∧ fld w 26 2 = 0 then .ok (.unseal (flag w 8) (xField w 9) (xField w 15) (xField w 21)) else .error .field
  | _ => .error .function

/-- Major 0x20 (R236). -/
noncomputable def decodeViaVv (w : Nat) : Except Reject Instr :=
  match fld w 28 4 with
  | 0 => .ok (.vaddVv (flag w 8) (flag w 27) (vField w 9) (vField w 15) (vField w 21))
  | 1 => .ok (.vsubVv (flag w 8) (flag w 27) (vField w 9) (vField w 15) (vField w 21))
  | 2 => .ok (.vrsubVv (flag w 8) (flag w 27) (vField w 9) (vField w 15) (vField w 21))
  | 3 => .ok (.vandVv (flag w 8) (flag w 27) (vField w 9) (vField w 15) (vField w 21))
  | 4 => .ok (.vorVv (flag w 8) (flag w 27) (vField w 9) (vField w 15) (vField w 21))
  | 5 => .ok (.vxorVv (flag w 8) (flag w 27) (vField w 9) (vField w 15) (vField w 21))
  | 6 => .ok (.vsllVv (flag w 8) (flag w 27) (vField w 9) (vField w 15) (vField w 21))
  | 7 => .ok (.vsrlVv (flag w 8) (flag w 27) (vField w 9) (vField w 15) (vField w 21))
  | 8 => .ok (.vsraVv (flag w 8) (flag w 27) (vField w 9) (vField w 15) (vField w 21))
  | 9 => .ok (.vmulVv (flag w 8) (flag w 27) (vField w 9) (vField w 15) (vField w 21))
  | 10 => .ok (.vmulhVv (flag w 8) (flag w 27) (vField w 9) (vField w 15) (vField w 21))
  | 11 => .ok (.vmulhuVv (flag w 8) (flag w 27) (vField w 9) (vField w 15) (vField w 21))
  | 12 => .ok (.vminVv (flag w 8) (flag w 27) (vField w 9) (vField w 15) (vField w 21))
  | 13 => .ok (.vmaxVv (flag w 8) (flag w 27) (vField w 9) (vField w 15) (vField w 21))
  | 14 => .ok (.vminuVv (flag w 8) (flag w 27) (vField w 9) (vField w 15) (vField w 21))
  | _ => .ok (.vmaxuVv (flag w 8) (flag w 27) (vField w 9) (vField w 15) (vField w 21))

/-- Major 0x21 (R236). -/
noncomputable def decodeViaVx (w : Nat) : Except Reject Instr :=
  match fld w 28 4 with
  | 0 => if fld w 26 1 = 0 then .ok (.vaddVx (flag w 8) (flag w 27) (vField w 9) (vField w 15) (xField w 21)) else .error .field
  | 1 => if fld w 26 1 = 0 then .ok (.vsubVx (flag w 8) (flag w 27) (vField w 9) (vField w 15) (xField w 21)) else .error .field
  | 2 => if fld w 26 1 = 0 then .ok (.vrsubVx (flag w 8) (flag w 27) (vField w 9) (vField w 15) (xField w 21)) else .error .field
  | 3 => if fld w 26 1 = 0 then .ok (.vandVx (flag w 8) (flag w 27) (vField w 9) (vField w 15) (xField w 21)) else .error .field
  | 4 => if fld w 26 1 = 0 then .ok (.vorVx (flag w 8) (flag w 27) (vField w 9) (vField w 15) (xField w 21)) else .error .field
  | 5 => if fld w 26 1 = 0 then .ok (.vxorVx (flag w 8) (flag w 27) (vField w 9) (vField w 15) (xField w 21)) else .error .field
  | 6 => if fld w 26 1 = 0 then .ok (.vsllVx (flag w 8) (flag w 27) (vField w 9) (vField w 15) (xField w 21)) else .error .field
  | 7 => if fld w 26 1 = 0 then .ok (.vsrlVx (flag w 8) (flag w 27) (vField w 9) (vField w 15) (xField w 21)) else .error .field
  | 8 => if fld w 26 1 = 0 then .ok (.vsraVx (flag w 8) (flag w 27) (vField w 9) (vField w 15) (xField w 21)) else .error .field
  | 9 => if fld w 26 1 = 0 then .ok (.vmulVx (flag w 8) (flag w 27) (vField w 9) (vField w 15) (xField w 21)) else .error .field
  | 10 => if fld w 26 1 = 0 then .ok (.vmulhVx (flag w 8) (flag w 27) (vField w 9) (vField w 15) (xField w 21)) else .error .field
  | 11 => if fld w 26 1 = 0 then .ok (.vmulhuVx (flag w 8) (flag w 27) (vField w 9) (vField w 15) (xField w 21)) else .error .field
  | 12 => if fld w 26 1 = 0 then .ok (.vminVx (flag w 8) (flag w 27) (vField w 9) (vField w 15) (xField w 21)) else .error .field
  | 13 => if fld w 26 1 = 0 then .ok (.vmaxVx (flag w 8) (flag w 27) (vField w 9) (vField w 15) (xField w 21)) else .error .field
  | 14 => if fld w 26 1 = 0 then .ok (.vminuVx (flag w 8) (flag w 27) (vField w 9) (vField w 15) (xField w 21)) else .error .field
  | _ => if fld w 26 1 = 0 then .ok (.vmaxuVx (flag w 8) (flag w 27) (vField w 9) (vField w 15) (xField w 21)) else .error .field

/-- Major 0x22 (R236). -/
noncomputable def decodeViaVs (w : Nat) : Except Reject Instr :=
  match fld w 28 4 with
  | 0 => if fld w 25 2 = 0 then .ok (.vaddVs (flag w 8) (flag w 27) (vField w 9) (vField w 15) (stField w 21)) else .error .field
  | 1 => if fld w 25 2 = 0 then .ok (.vsubVs (flag w 8) (flag w 27) (vField w 9) (vField w 15) (stField w 21)) else .error .field
  | 2 => if fld w 25 2 = 0 then .ok (.vrsubVs (flag w 8) (flag w 27) (vField w 9) (vField w 15) (stField w 21)) else .error .field
  | 3 => if fld w 25 2 = 0 then .ok (.vandVs (flag w 8) (flag w 27) (vField w 9) (vField w 15) (stField w 21)) else .error .field
  | 4 => if fld w 25 2 = 0 then .ok (.vorVs (flag w 8) (flag w 27) (vField w 9) (vField w 15) (stField w 21)) else .error .field
  | 5 => if fld w 25 2 = 0 then .ok (.vxorVs (flag w 8) (flag w 27) (vField w 9) (vField w 15) (stField w 21)) else .error .field
  | 6 => if fld w 25 2 = 0 then .ok (.vsllVs (flag w 8) (flag w 27) (vField w 9) (vField w 15) (stField w 21)) else .error .field
  | 7 => if fld w 25 2 = 0 then .ok (.vsrlVs (flag w 8) (flag w 27) (vField w 9) (vField w 15) (stField w 21)) else .error .field
  | 8 => if fld w 25 2 = 0 then .ok (.vsraVs (flag w 8) (flag w 27) (vField w 9) (vField w 15) (stField w 21)) else .error .field
  | 9 => if fld w 25 2 = 0 then .ok (.vmulVs (flag w 8) (flag w 27) (vField w 9) (vField w 15) (stField w 21)) else .error .field
  | 10 => if fld w 25 2 = 0 then .ok (.vmulhVs (flag w 8) (flag w 27) (vField w 9) (vField w 15) (stField w 21)) else .error .field
  | 11 => if fld w 25 2 = 0 then .ok (.vmulhuVs (flag w 8) (flag w 27) (vField w 9) (vField w 15) (stField w 21)) else .error .field
  | 12 => if fld w 25 2 = 0 then .ok (.vminVs (flag w 8) (flag w 27) (vField w 9) (vField w 15) (stField w 21)) else .error .field
  | 13 => if fld w 25 2 = 0 then .ok (.vmaxVs (flag w 8) (flag w 27) (vField w 9) (vField w 15) (stField w 21)) else .error .field
  | 14 => if fld w 25 2 = 0 then .ok (.vminuVs (flag w 8) (flag w 27) (vField w 9) (vField w 15) (stField w 21)) else .error .field
  | _ => if fld w 25 2 = 0 then .ok (.vmaxuVs (flag w 8) (flag w 27) (vField w 9) (vField w 15) (stField w 21)) else .error .field

/-- Major 0x23 (R236). -/
noncomputable def decodeViaVi (w : Nat) : Except Reject Instr :=
  match fld w 28 4 with
  | 0 => .ok (.vaddVi (flag w 8) (flag w 27) (vField w 9) (vField w 15) (BitVec.ofNat 6 (fld w 21 6)))
  | 1 => .ok (.vsubVi (flag w 8) (flag w 27) (vField w 9) (vField w 15) (BitVec.ofNat 6 (fld w 21 6)))
  | 2 => .ok (.vrsubVi (flag w 8) (flag w 27) (vField w 9) (vField w 15) (BitVec.ofNat 6 (fld w 21 6)))
  | 3 => .ok (.vandVi (flag w 8) (flag w 27) (vField w 9) (vField w 15) (BitVec.ofNat 6 (fld w 21 6)))
  | 4 => .ok (.vorVi (flag w 8) (flag w 27) (vField w 9) (vField w 15) (BitVec.ofNat 6 (fld w 21 6)))
  | 5 => .ok (.vxorVi (flag w 8) (flag w 27) (vField w 9) (vField w 15) (BitVec.ofNat 6 (fld w 21 6)))
  | 6 => .ok (.vsllVi (flag w 8) (flag w 27) (vField w 9) (vField w 15) (BitVec.ofNat 6 (fld w 21 6)))
  | 7 => .ok (.vsrlVi (flag w 8) (flag w 27) (vField w 9) (vField w 15) (BitVec.ofNat 6 (fld w 21 6)))
  | 8 => .ok (.vsraVi (flag w 8) (flag w 27) (vField w 9) (vField w 15) (BitVec.ofNat 6 (fld w 21 6)))
  | 9 => .ok (.vmulVi (flag w 8) (flag w 27) (vField w 9) (vField w 15) (BitVec.ofNat 6 (fld w 21 6)))
  | 10 => .ok (.vmulhVi (flag w 8) (flag w 27) (vField w 9) (vField w 15) (BitVec.ofNat 6 (fld w 21 6)))
  | 11 => .ok (.vmulhuVi (flag w 8) (flag w 27) (vField w 9) (vField w 15) (BitVec.ofNat 6 (fld w 21 6)))
  | 12 => .ok (.vminVi (flag w 8) (flag w 27) (vField w 9) (vField w 15) (BitVec.ofNat 6 (fld w 21 6)))
  | 13 => .ok (.vmaxVi (flag w 8) (flag w 27) (vField w 9) (vField w 15) (BitVec.ofNat 6 (fld w 21 6)))
  | 14 => .ok (.vminuVi (flag w 8) (flag w 27) (vField w 9) (vField w 15) (BitVec.ofNat 6 (fld w 21 6)))
  | _ => .ok (.vmaxuVi (flag w 8) (flag w 27) (vField w 9) (vField w 15) (BitVec.ofNat 6 (fld w 21 6)))

/-- Major 0x24 (R237). -/
noncomputable def decodeVibVv (w : Nat) : Except Reject Instr :=
  match fld w 28 4 with
  | 0 => .ok (.vsaddVv (flag w 8) (flag w 27) (vField w 9) (vField w 15) (vField w 21))
  | 1 => .ok (.vsadduVv (flag w 8) (flag w 27) (vField w 9) (vField w 15) (vField w 21))
  | 2 => .ok (.vssubVv (flag w 8) (flag w 27) (vField w 9) (vField w 15) (vField w 21))
  | 3 => .ok (.vssubuVv (flag w 8) (flag w 27) (vField w 9) (vField w 15) (vField w 21))
  | 4 => .ok (.vaaddVv (flag w 8) (flag w 27) (vField w 9) (vField w 15) (vField w 21))
  | 5 => .ok (.vaadduVv (flag w 8) (flag w 27) (vField w 9) (vField w 15) (vField w 21))
  | 6 => .ok (.vsmulVv (flag w 8) (flag w 27) (vField w 9) (vField w 15) (vField w 21))
  | 7 => .ok (.vssrlVv (flag w 8) (flag w 27) (vField w 9) (vField w 15) (vField w 21))
  | 8 => .ok (.vssraVv (flag w 8) (flag w 27) (vField w 9) (vField w 15) (vField w 21))
  | 9 => .ok (.vwaddVv (flag w 8) (flag w 27) (vField w 9) (vField w 15) (vField w 21))
  | 10 => .ok (.vwadduVv (flag w 8) (flag w 27) (vField w 9) (vField w 15) (vField w 21))
  | 11 => .ok (.vwmulVv (flag w 8) (flag w 27) (vField w 9) (vField w 15) (vField w 21))
  | 12 => .ok (.vwmuluVv (flag w 8) (flag w 27) (vField w 9) (vField w 15) (vField w 21))
  | 13 => .ok (.vnclipVv (flag w 8) (flag w 27) (vField w 9) (vField w 15) (vField w 21))
  | 14 => .ok (.vnclipuVv (flag w 8) (flag w 27) (vField w 9) (vField w 15) (vField w 21))
  | _ => .error .function

/-- Major 0x25 (R237). -/
noncomputable def decodeVibVx (w : Nat) : Except Reject Instr :=
  match fld w 28 4 with
  | 0 => if fld w 26 1 = 0 then .ok (.vsaddVx (flag w 8) (flag w 27) (vField w 9) (vField w 15) (xField w 21)) else .error .field
  | 1 => if fld w 26 1 = 0 then .ok (.vsadduVx (flag w 8) (flag w 27) (vField w 9) (vField w 15) (xField w 21)) else .error .field
  | 2 => if fld w 26 1 = 0 then .ok (.vssubVx (flag w 8) (flag w 27) (vField w 9) (vField w 15) (xField w 21)) else .error .field
  | 3 => if fld w 26 1 = 0 then .ok (.vssubuVx (flag w 8) (flag w 27) (vField w 9) (vField w 15) (xField w 21)) else .error .field
  | 4 => if fld w 26 1 = 0 then .ok (.vaaddVx (flag w 8) (flag w 27) (vField w 9) (vField w 15) (xField w 21)) else .error .field
  | 5 => if fld w 26 1 = 0 then .ok (.vaadduVx (flag w 8) (flag w 27) (vField w 9) (vField w 15) (xField w 21)) else .error .field
  | 6 => if fld w 26 1 = 0 then .ok (.vsmulVx (flag w 8) (flag w 27) (vField w 9) (vField w 15) (xField w 21)) else .error .field
  | 7 => if fld w 26 1 = 0 then .ok (.vssrlVx (flag w 8) (flag w 27) (vField w 9) (vField w 15) (xField w 21)) else .error .field
  | 8 => if fld w 26 1 = 0 then .ok (.vssraVx (flag w 8) (flag w 27) (vField w 9) (vField w 15) (xField w 21)) else .error .field
  | 9 => if fld w 26 1 = 0 then .ok (.vwaddVx (flag w 8) (flag w 27) (vField w 9) (vField w 15) (xField w 21)) else .error .field
  | 10 => if fld w 26 1 = 0 then .ok (.vwadduVx (flag w 8) (flag w 27) (vField w 9) (vField w 15) (xField w 21)) else .error .field
  | 11 => if fld w 26 1 = 0 then .ok (.vwmulVx (flag w 8) (flag w 27) (vField w 9) (vField w 15) (xField w 21)) else .error .field
  | 12 => if fld w 26 1 = 0 then .ok (.vwmuluVx (flag w 8) (flag w 27) (vField w 9) (vField w 15) (xField w 21)) else .error .field
  | 13 => if fld w 26 1 = 0 then .ok (.vnclipVx (flag w 8) (flag w 27) (vField w 9) (vField w 15) (xField w 21)) else .error .field
  | 14 => if fld w 26 1 = 0 then .ok (.vnclipuVx (flag w 8) (flag w 27) (vField w 9) (vField w 15) (xField w 21)) else .error .field
  | _ => .error .function

/-- Major 0x26 (R237). -/
noncomputable def decodeVibVs (w : Nat) : Except Reject Instr :=
  match fld w 28 4 with
  | 0 => if fld w 25 2 = 0 then .ok (.vsaddVs (flag w 8) (flag w 27) (vField w 9) (vField w 15) (stField w 21)) else .error .field
  | 1 => if fld w 25 2 = 0 then .ok (.vsadduVs (flag w 8) (flag w 27) (vField w 9) (vField w 15) (stField w 21)) else .error .field
  | 2 => if fld w 25 2 = 0 then .ok (.vssubVs (flag w 8) (flag w 27) (vField w 9) (vField w 15) (stField w 21)) else .error .field
  | 3 => if fld w 25 2 = 0 then .ok (.vssubuVs (flag w 8) (flag w 27) (vField w 9) (vField w 15) (stField w 21)) else .error .field
  | 4 => if fld w 25 2 = 0 then .ok (.vaaddVs (flag w 8) (flag w 27) (vField w 9) (vField w 15) (stField w 21)) else .error .field
  | 5 => if fld w 25 2 = 0 then .ok (.vaadduVs (flag w 8) (flag w 27) (vField w 9) (vField w 15) (stField w 21)) else .error .field
  | 6 => if fld w 25 2 = 0 then .ok (.vsmulVs (flag w 8) (flag w 27) (vField w 9) (vField w 15) (stField w 21)) else .error .field
  | 7 => if fld w 25 2 = 0 then .ok (.vssrlVs (flag w 8) (flag w 27) (vField w 9) (vField w 15) (stField w 21)) else .error .field
  | 8 => if fld w 25 2 = 0 then .ok (.vssraVs (flag w 8) (flag w 27) (vField w 9) (vField w 15) (stField w 21)) else .error .field
  | 9 => if fld w 25 2 = 0 then .ok (.vwaddVs (flag w 8) (flag w 27) (vField w 9) (vField w 15) (stField w 21)) else .error .field
  | 10 => if fld w 25 2 = 0 then .ok (.vwadduVs (flag w 8) (flag w 27) (vField w 9) (vField w 15) (stField w 21)) else .error .field
  | 11 => if fld w 25 2 = 0 then .ok (.vwmulVs (flag w 8) (flag w 27) (vField w 9) (vField w 15) (stField w 21)) else .error .field
  | 12 => if fld w 25 2 = 0 then .ok (.vwmuluVs (flag w 8) (flag w 27) (vField w 9) (vField w 15) (stField w 21)) else .error .field
  | 13 => if fld w 25 2 = 0 then .ok (.vnclipVs (flag w 8) (flag w 27) (vField w 9) (vField w 15) (stField w 21)) else .error .field
  | 14 => if fld w 25 2 = 0 then .ok (.vnclipuVs (flag w 8) (flag w 27) (vField w 9) (vField w 15) (stField w 21)) else .error .field
  | _ => .error .function

/-- Major 0x27 (R237). -/
noncomputable def decodeVibVi (w : Nat) : Except Reject Instr :=
  match fld w 28 4 with
  | 0 => .ok (.vsaddVi (flag w 8) (flag w 27) (vField w 9) (vField w 15) (BitVec.ofNat 6 (fld w 21 6)))
  | 1 => .ok (.vsadduVi (flag w 8) (flag w 27) (vField w 9) (vField w 15) (BitVec.ofNat 6 (fld w 21 6)))
  | 2 => .ok (.vssubVi (flag w 8) (flag w 27) (vField w 9) (vField w 15) (BitVec.ofNat 6 (fld w 21 6)))
  | 3 => .ok (.vssubuVi (flag w 8) (flag w 27) (vField w 9) (vField w 15) (BitVec.ofNat 6 (fld w 21 6)))
  | 4 => .ok (.vaaddVi (flag w 8) (flag w 27) (vField w 9) (vField w 15) (BitVec.ofNat 6 (fld w 21 6)))
  | 5 => .ok (.vaadduVi (flag w 8) (flag w 27) (vField w 9) (vField w 15) (BitVec.ofNat 6 (fld w 21 6)))
  | 6 => .ok (.vsmulVi (flag w 8) (flag w 27) (vField w 9) (vField w 15) (BitVec.ofNat 6 (fld w 21 6)))
  | 7 => .ok (.vssrlVi (flag w 8) (flag w 27) (vField w 9) (vField w 15) (BitVec.ofNat 6 (fld w 21 6)))
  | 8 => .ok (.vssraVi (flag w 8) (flag w 27) (vField w 9) (vField w 15) (BitVec.ofNat 6 (fld w 21 6)))
  | 9 => .ok (.vwaddVi (flag w 8) (flag w 27) (vField w 9) (vField w 15) (BitVec.ofNat 6 (fld w 21 6)))
  | 10 => .ok (.vwadduVi (flag w 8) (flag w 27) (vField w 9) (vField w 15) (BitVec.ofNat 6 (fld w 21 6)))
  | 11 => .ok (.vwmulVi (flag w 8) (flag w 27) (vField w 9) (vField w 15) (BitVec.ofNat 6 (fld w 21 6)))
  | 12 => .ok (.vwmuluVi (flag w 8) (flag w 27) (vField w 9) (vField w 15) (BitVec.ofNat 6 (fld w 21 6)))
  | 13 => .ok (.vnclipVi (flag w 8) (flag w 27) (vField w 9) (vField w 15) (BitVec.ofNat 6 (fld w 21 6)))
  | 14 => .ok (.vnclipuVi (flag w 8) (flag w 27) (vField w 9) (vField w 15) (BitVec.ofNat 6 (fld w 21 6)))
  | _ => .error .function

/-- Major 0x28 (R239). -/
noncomputable def decodeVfaVv (w : Nat) : Except Reject Instr :=
  match fld w 28 4 with
  | 0 => .ok (.vfaddVv (flag w 8) (flag w 27) (vField w 9) (vField w 15) (vField w 21))
  | 1 => .ok (.vfsubVv (flag w 8) (flag w 27) (vField w 9) (vField w 15) (vField w 21))
  | 2 => .ok (.vfrsubVv (flag w 8) (flag w 27) (vField w 9) (vField w 15) (vField w 21))
  | 3 => .ok (.vfmulVv (flag w 8) (flag w 27) (vField w 9) (vField w 15) (vField w 21))
  | 4 => .ok (.vfdivVv (flag w 8) (flag w 27) (vField w 9) (vField w 15) (vField w 21))
  | 5 => .ok (.vfrdivVv (flag w 8) (flag w 27) (vField w 9) (vField w 15) (vField w 21))
  | 6 => if fld w 21 6 = 0 then .ok (.vfsqrt (flag w 8) (flag w 27) (vField w 9) (vField w 15)) else .error .field
  | 7 => .ok (.vfminVv (flag w 8) (flag w 27) (vField w 9) (vField w 15) (vField w 21))
  | 8 => .ok (.vfmaxVv (flag w 8) (flag w 27) (vField w 9) (vField w 15) (vField w 21))
  | 9 => .ok (.vfsgnjVv (flag w 8) (flag w 27) (vField w 9) (vField w 15) (vField w 21))
  | 10 => .ok (.vfsgnjnVv (flag w 8) (flag w 27) (vField w 9) (vField w 15) (vField w 21))
  | 11 => .ok (.vfsgnjxVv (flag w 8) (flag w 27) (vField w 9) (vField w 15) (vField w 21))
  | 12 => if fld w 21 6 = 0 then .ok (.vfclass (flag w 8) (flag w 27) (vField w 9) (vField w 15)) else .error .field
  | _ => .error .function

/-- Major 0x29 (R239). -/
noncomputable def decodeVfaVx (w : Nat) : Except Reject Instr :=
  match fld w 28 4 with
  | 0 => if fld w 26 1 = 0 then .ok (.vfaddVx (flag w 8) (flag w 27) (vField w 9) (vField w 15) (xField w 21)) else .error .field
  | 1 => if fld w 26 1 = 0 then .ok (.vfsubVx (flag w 8) (flag w 27) (vField w 9) (vField w 15) (xField w 21)) else .error .field
  | 2 => if fld w 26 1 = 0 then .ok (.vfrsubVx (flag w 8) (flag w 27) (vField w 9) (vField w 15) (xField w 21)) else .error .field
  | 3 => if fld w 26 1 = 0 then .ok (.vfmulVx (flag w 8) (flag w 27) (vField w 9) (vField w 15) (xField w 21)) else .error .field
  | 4 => if fld w 26 1 = 0 then .ok (.vfdivVx (flag w 8) (flag w 27) (vField w 9) (vField w 15) (xField w 21)) else .error .field
  | 5 => if fld w 26 1 = 0 then .ok (.vfrdivVx (flag w 8) (flag w 27) (vField w 9) (vField w 15) (xField w 21)) else .error .field
  | 7 => if fld w 26 1 = 0 then .ok (.vfminVx (flag w 8) (flag w 27) (vField w 9) (vField w 15) (xField w 21)) else .error .field
  | 8 => if fld w 26 1 = 0 then .ok (.vfmaxVx (flag w 8) (flag w 27) (vField w 9) (vField w 15) (xField w 21)) else .error .field
  | 9 => if fld w 26 1 = 0 then .ok (.vfsgnjVx (flag w 8) (flag w 27) (vField w 9) (vField w 15) (xField w 21)) else .error .field
  | 10 => if fld w 26 1 = 0 then .ok (.vfsgnjnVx (flag w 8) (flag w 27) (vField w 9) (vField w 15) (xField w 21)) else .error .field
  | 11 => if fld w 26 1 = 0 then .ok (.vfsgnjxVx (flag w 8) (flag w 27) (vField w 9) (vField w 15) (xField w 21)) else .error .field
  | _ => .error .function

/-- Major 0x2A (R239). -/
noncomputable def decodeVfaVs (w : Nat) : Except Reject Instr :=
  match fld w 28 4 with
  | 0 => if fld w 25 2 = 0 then .ok (.vfaddVs (flag w 8) (flag w 27) (vField w 9) (vField w 15) (stField w 21)) else .error .field
  | 1 => if fld w 25 2 = 0 then .ok (.vfsubVs (flag w 8) (flag w 27) (vField w 9) (vField w 15) (stField w 21)) else .error .field
  | 2 => if fld w 25 2 = 0 then .ok (.vfrsubVs (flag w 8) (flag w 27) (vField w 9) (vField w 15) (stField w 21)) else .error .field
  | 3 => if fld w 25 2 = 0 then .ok (.vfmulVs (flag w 8) (flag w 27) (vField w 9) (vField w 15) (stField w 21)) else .error .field
  | 4 => if fld w 25 2 = 0 then .ok (.vfdivVs (flag w 8) (flag w 27) (vField w 9) (vField w 15) (stField w 21)) else .error .field
  | 5 => if fld w 25 2 = 0 then .ok (.vfrdivVs (flag w 8) (flag w 27) (vField w 9) (vField w 15) (stField w 21)) else .error .field
  | 7 => if fld w 25 2 = 0 then .ok (.vfminVs (flag w 8) (flag w 27) (vField w 9) (vField w 15) (stField w 21)) else .error .field
  | 8 => if fld w 25 2 = 0 then .ok (.vfmaxVs (flag w 8) (flag w 27) (vField w 9) (vField w 15) (stField w 21)) else .error .field
  | 9 => if fld w 25 2 = 0 then .ok (.vfsgnjVs (flag w 8) (flag w 27) (vField w 9) (vField w 15) (stField w 21)) else .error .field
  | 10 => if fld w 25 2 = 0 then .ok (.vfsgnjnVs (flag w 8) (flag w 27) (vField w 9) (vField w 15) (stField w 21)) else .error .field
  | 11 => if fld w 25 2 = 0 then .ok (.vfsgnjxVs (flag w 8) (flag w 27) (vField w 9) (vField w 15) (stField w 21)) else .error .field
  | _ => .error .function

/-- Major 0x2C (R240). -/
noncomputable def decodeVfbVv (w : Nat) : Except Reject Instr :=
  match fld w 28 4 with
  | 0 => .ok (.vfmaccVv (flag w 8) (flag w 27) (vField w 9) (vField w 15) (vField w 21))
  | 1 => .ok (.vfnmaccVv (flag w 8) (flag w 27) (vField w 9) (vField w 15) (vField w 21))
  | 2 => .ok (.vfmsacVv (flag w 8) (flag w 27) (vField w 9) (vField w 15) (vField w 21))
  | 3 => .ok (.vfnmsacVv (flag w 8) (flag w 27) (vField w 9) (vField w 15) (vField w 21))
  | 4 => if fld w 21 6 = 0 then .ok (.vfcvtFX (flag w 8) (flag w 27) (vField w 9) (vField w 15)) else .error .field
  | 5 => if fld w 21 6 = 0 then .ok (.vfcvtFXu (flag w 8) (flag w 27) (vField w 9) (vField w 15)) else .error .field
  | 6 => if fld w 21 6 = 0 then .ok (.vfcvtXF (flag w 8) (flag w 27) (vField w 9) (vField w 15)) else .error .field
  | 7 => if fld w 21 6 = 0 then .ok (.vfcvtXuF (flag w 8) (flag w 27) (vField w 9) (vField w 15)) else .error .field
  | 9 => if fld w 21 6 = 0 then .ok (.vfexp (flag w 8) (flag w 27) (vField w 9) (vField w 15)) else .error .field
  | 10 => if fld w 21 6 = 0 then .ok (.vfrec (flag w 8) (flag w 27) (vField w 9) (vField w 15)) else .error .field
  | _ => .error .function

/-- Major 0x2D (R240). -/
noncomputable def decodeVfbVx (w : Nat) : Except Reject Instr :=
  match fld w 28 4 with
  | 0 => if fld w 26 1 = 0 then .ok (.vfmaccVx (flag w 8) (flag w 27) (vField w 9) (vField w 15) (xField w 21)) else .error .field
  | 1 => if fld w 26 1 = 0 then .ok (.vfnmaccVx (flag w 8) (flag w 27) (vField w 9) (vField w 15) (xField w 21)) else .error .field
  | 2 => if fld w 26 1 = 0 then .ok (.vfmsacVx (flag w 8) (flag w 27) (vField w 9) (vField w 15) (xField w 21)) else .error .field
  | 3 => if fld w 26 1 = 0 then .ok (.vfnmsacVx (flag w 8) (flag w 27) (vField w 9) (vField w 15) (xField w 21)) else .error .field
  | _ => .error .function

/-- Major 0x2E (R240). -/
noncomputable def decodeVfbVs (w : Nat) : Except Reject Instr :=
  match fld w 28 4 with
  | 0 => if fld w 25 2 = 0 then .ok (.vfmaccVs (flag w 8) (flag w 27) (vField w 9) (vField w 15) (stField w 21)) else .error .field
  | 1 => if fld w 25 2 = 0 then .ok (.vfnmaccVs (flag w 8) (flag w 27) (vField w 9) (vField w 15) (stField w 21)) else .error .field
  | 2 => if fld w 25 2 = 0 then .ok (.vfmsacVs (flag w 8) (flag w 27) (vField w 9) (vField w 15) (stField w 21)) else .error .field
  | 3 => if fld w 25 2 = 0 then .ok (.vfnmsacVs (flag w 8) (flag w 27) (vField w 9) (vField w 15) (stField w 21)) else .error .field
  | _ => .error .function

/-- Major 0x2F (R241). -/
noncomputable def decodeVfbVi (w : Nat) : Except Reject Instr :=
  match fld w 28 4 with
  | 8 => if fld w 24 3 = 0 ∧ fld w 21 3 ≠ 0 then .ok (.vfcvtFF (flag w 8) (flag w 27) (vField w 9) (vField w 15) (BitVec.ofNat 3 (fld w 21 3))) else .error .field
  | _ => .error .function

/-- Major 0x30 (R243). -/
noncomputable def decodeVcmpVv (w : Nat) : Except Reject Instr :=
  match fld w 28 4 with
  | 0 => if fld w 12 3 = 0 then .ok (.vmseqVv (flag w 8) (flag w 27) (mField w 9) (vField w 15) (vField w 21)) else .error .field
  | 1 => if fld w 12 3 = 0 then .ok (.vmsneVv (flag w 8) (flag w 27) (mField w 9) (vField w 15) (vField w 21)) else .error .field
  | 2 => if fld w 12 3 = 0 then .ok (.vmsltVv (flag w 8) (flag w 27) (mField w 9) (vField w 15) (vField w 21)) else .error .field
  | 3 => if fld w 12 3 = 0 then .ok (.vmsleVv (flag w 8) (flag w 27) (mField w 9) (vField w 15) (vField w 21)) else .error .field
  | 4 => if fld w 12 3 = 0 then .ok (.vmsltuVv (flag w 8) (flag w 27) (mField w 9) (vField w 15) (vField w 21)) else .error .field
  | 5 => if fld w 12 3 = 0 then .ok (.vmsleuVv (flag w 8) (flag w 27) (mField w 9) (vField w 15) (vField w 21)) else .error .field
  | 6 => if fld w 12 3 = 0 then .ok (.vmsgtVv (flag w 8) (flag w 27) (mField w 9) (vField w 15) (vField w 21)) else .error .field
  | 7 => if fld w 12 3 = 0 then .ok (.vmsgtuVv (flag w 8) (flag w 27) (mField w 9) (vField w 15) (vField w 21)) else .error .field
  | 8 => if fld w 12 3 = 0 then .ok (.vmfeqVv (flag w 8) (flag w 27) (mField w 9) (vField w 15) (vField w 21)) else .error .field
  | 9 => if fld w 12 3 = 0 then .ok (.vmfneVv (flag w 8) (flag w 27) (mField w 9) (vField w 15) (vField w 21)) else .error .field
  | 10 => if fld w 12 3 = 0 then .ok (.vmfltVv (flag w 8) (flag w 27) (mField w 9) (vField w 15) (vField w 21)) else .error .field
  | 11 => if fld w 12 3 = 0 then .ok (.vmfleVv (flag w 8) (flag w 27) (mField w 9) (vField w 15) (vField w 21)) else .error .field
  | 12 => if fld w 12 3 = 0 then .ok (.vmfgtVv (flag w 8) (flag w 27) (mField w 9) (vField w 15) (vField w 21)) else .error .field
  | 13 => if fld w 12 3 = 0 then .ok (.vmfgeVv (flag w 8) (flag w 27) (mField w 9) (vField w 15) (vField w 21)) else .error .field
  | _ => .error .function

/-- Major 0x31 (R243). -/
noncomputable def decodeVcmpVx (w : Nat) : Except Reject Instr :=
  match fld w 28 4 with
  | 0 => if fld w 12 3 = 0 ∧ fld w 26 1 = 0 then .ok (.vmseqVx (flag w 8) (flag w 27) (mField w 9) (vField w 15) (xField w 21)) else .error .field
  | 1 => if fld w 12 3 = 0 ∧ fld w 26 1 = 0 then .ok (.vmsneVx (flag w 8) (flag w 27) (mField w 9) (vField w 15) (xField w 21)) else .error .field
  | 2 => if fld w 12 3 = 0 ∧ fld w 26 1 = 0 then .ok (.vmsltVx (flag w 8) (flag w 27) (mField w 9) (vField w 15) (xField w 21)) else .error .field
  | 3 => if fld w 12 3 = 0 ∧ fld w 26 1 = 0 then .ok (.vmsleVx (flag w 8) (flag w 27) (mField w 9) (vField w 15) (xField w 21)) else .error .field
  | 4 => if fld w 12 3 = 0 ∧ fld w 26 1 = 0 then .ok (.vmsltuVx (flag w 8) (flag w 27) (mField w 9) (vField w 15) (xField w 21)) else .error .field
  | 5 => if fld w 12 3 = 0 ∧ fld w 26 1 = 0 then .ok (.vmsleuVx (flag w 8) (flag w 27) (mField w 9) (vField w 15) (xField w 21)) else .error .field
  | 6 => if fld w 12 3 = 0 ∧ fld w 26 1 = 0 then .ok (.vmsgtVx (flag w 8) (flag w 27) (mField w 9) (vField w 15) (xField w 21)) else .error .field
  | 7 => if fld w 12 3 = 0 ∧ fld w 26 1 = 0 then .ok (.vmsgtuVx (flag w 8) (flag w 27) (mField w 9) (vField w 15) (xField w 21)) else .error .field
  | 8 => if fld w 12 3 = 0 ∧ fld w 26 1 = 0 then .ok (.vmfeqVx (flag w 8) (flag w 27) (mField w 9) (vField w 15) (xField w 21)) else .error .field
  | 9 => if fld w 12 3 = 0 ∧ fld w 26 1 = 0 then .ok (.vmfneVx (flag w 8) (flag w 27) (mField w 9) (vField w 15) (xField w 21)) else .error .field
  | 10 => if fld w 12 3 = 0 ∧ fld w 26 1 = 0 then .ok (.vmfltVx (flag w 8) (flag w 27) (mField w 9) (vField w 15) (xField w 21)) else .error .field
  | 11 => if fld w 12 3 = 0 ∧ fld w 26 1 = 0 then .ok (.vmfleVx (flag w 8) (flag w 27) (mField w 9) (vField w 15) (xField w 21)) else .error .field
  | 12 => if fld w 12 3 = 0 ∧ fld w 26 1 = 0 then .ok (.vmfgtVx (flag w 8) (flag w 27) (mField w 9) (vField w 15) (xField w 21)) else .error .field
  | 13 => if fld w 12 3 = 0 ∧ fld w 26 1 = 0 then .ok (.vmfgeVx (flag w 8) (flag w 27) (mField w 9) (vField w 15) (xField w 21)) else .error .field
  | _ => .error .function

/-- Major 0x32 (R243). -/
noncomputable def decodeVcmpVs (w : Nat) : Except Reject Instr :=
  match fld w 28 4 with
  | 0 => if fld w 12 3 = 0 ∧ fld w 25 2 = 0 then .ok (.vmseqVs (flag w 8) (flag w 27) (mField w 9) (vField w 15) (stField w 21)) else .error .field
  | 1 => if fld w 12 3 = 0 ∧ fld w 25 2 = 0 then .ok (.vmsneVs (flag w 8) (flag w 27) (mField w 9) (vField w 15) (stField w 21)) else .error .field
  | 2 => if fld w 12 3 = 0 ∧ fld w 25 2 = 0 then .ok (.vmsltVs (flag w 8) (flag w 27) (mField w 9) (vField w 15) (stField w 21)) else .error .field
  | 3 => if fld w 12 3 = 0 ∧ fld w 25 2 = 0 then .ok (.vmsleVs (flag w 8) (flag w 27) (mField w 9) (vField w 15) (stField w 21)) else .error .field
  | 4 => if fld w 12 3 = 0 ∧ fld w 25 2 = 0 then .ok (.vmsltuVs (flag w 8) (flag w 27) (mField w 9) (vField w 15) (stField w 21)) else .error .field
  | 5 => if fld w 12 3 = 0 ∧ fld w 25 2 = 0 then .ok (.vmsleuVs (flag w 8) (flag w 27) (mField w 9) (vField w 15) (stField w 21)) else .error .field
  | 6 => if fld w 12 3 = 0 ∧ fld w 25 2 = 0 then .ok (.vmsgtVs (flag w 8) (flag w 27) (mField w 9) (vField w 15) (stField w 21)) else .error .field
  | 7 => if fld w 12 3 = 0 ∧ fld w 25 2 = 0 then .ok (.vmsgtuVs (flag w 8) (flag w 27) (mField w 9) (vField w 15) (stField w 21)) else .error .field
  | 8 => if fld w 12 3 = 0 ∧ fld w 25 2 = 0 then .ok (.vmfeqVs (flag w 8) (flag w 27) (mField w 9) (vField w 15) (stField w 21)) else .error .field
  | 9 => if fld w 12 3 = 0 ∧ fld w 25 2 = 0 then .ok (.vmfneVs (flag w 8) (flag w 27) (mField w 9) (vField w 15) (stField w 21)) else .error .field
  | 10 => if fld w 12 3 = 0 ∧ fld w 25 2 = 0 then .ok (.vmfltVs (flag w 8) (flag w 27) (mField w 9) (vField w 15) (stField w 21)) else .error .field
  | 11 => if fld w 12 3 = 0 ∧ fld w 25 2 = 0 then .ok (.vmfleVs (flag w 8) (flag w 27) (mField w 9) (vField w 15) (stField w 21)) else .error .field
  | 12 => if fld w 12 3 = 0 ∧ fld w 25 2 = 0 then .ok (.vmfgtVs (flag w 8) (flag w 27) (mField w 9) (vField w 15) (stField w 21)) else .error .field
  | 13 => if fld w 12 3 = 0 ∧ fld w 25 2 = 0 then .ok (.vmfgeVs (flag w 8) (flag w 27) (mField w 9) (vField w 15) (stField w 21)) else .error .field
  | _ => .error .function

/-- Major 0x33 (R243). -/
noncomputable def decodeVcmpVi (w : Nat) : Except Reject Instr :=
  match fld w 28 4 with
  | 0 => if fld w 12 3 = 0 then .ok (.vmseqVi (flag w 8) (flag w 27) (mField w 9) (vField w 15) (BitVec.ofNat 6 (fld w 21 6))) else .error .field
  | 1 => if fld w 12 3 = 0 then .ok (.vmsneVi (flag w 8) (flag w 27) (mField w 9) (vField w 15) (BitVec.ofNat 6 (fld w 21 6))) else .error .field
  | 2 => if fld w 12 3 = 0 then .ok (.vmsltVi (flag w 8) (flag w 27) (mField w 9) (vField w 15) (BitVec.ofNat 6 (fld w 21 6))) else .error .field
  | 3 => if fld w 12 3 = 0 then .ok (.vmsleVi (flag w 8) (flag w 27) (mField w 9) (vField w 15) (BitVec.ofNat 6 (fld w 21 6))) else .error .field
  | 4 => if fld w 12 3 = 0 then .ok (.vmsltuVi (flag w 8) (flag w 27) (mField w 9) (vField w 15) (BitVec.ofNat 6 (fld w 21 6))) else .error .field
  | 5 => if fld w 12 3 = 0 then .ok (.vmsleuVi (flag w 8) (flag w 27) (mField w 9) (vField w 15) (BitVec.ofNat 6 (fld w 21 6))) else .error .field
  | 6 => if fld w 12 3 = 0 then .ok (.vmsgtVi (flag w 8) (flag w 27) (mField w 9) (vField w 15) (BitVec.ofNat 6 (fld w 21 6))) else .error .field
  | 7 => if fld w 12 3 = 0 then .ok (.vmsgtuVi (flag w 8) (flag w 27) (mField w 9) (vField w 15) (BitVec.ofNat 6 (fld w 21 6))) else .error .field
  | _ => .error .function

/-- Major 0x34 (R275). -/
noncomputable def decodeVxrVv (w : Nat) : Except Reject Instr :=
  match fld w 28 4 with
  | 0 => if fld w 21 6 = 0 then .ok (.vredsum (flag w 8) (flag w 27) (vField w 9) (vField w 15)) else .error .field
  | 1 => if fld w 21 6 = 0 then .ok (.vredmax (flag w 8) (flag w 27) (vField w 9) (vField w 15)) else .error .field
  | 2 => if fld w 21 6 = 0 then .ok (.vredmin (flag w 8) (flag w 27) (vField w 9) (vField w 15)) else .error .field
  | 3 => if fld w 21 6 = 0 then .ok (.vredmaxu (flag w 8) (flag w 27) (vField w 9) (vField w 15)) else .error .field
  | 4 => if fld w 21 6 = 0 then .ok (.vredminu (flag w 8) (flag w 27) (vField w 9) (vField w 15)) else .error .field
  | 5 => if fld w 21 6 = 0 then .ok (.vredand (flag w 8) (flag w 27) (vField w 9) (vField w 15)) else .error .field
  | 6 => if fld w 21 6 = 0 then .ok (.vredor (flag w 8) (flag w 27) (vField w 9) (vField w 15)) else .error .field
  | 7 => if fld w 15 13 = 0 then .ok (.viota (flag w 8) (vField w 9)) else .error .field
  | 8 => if fld w 21 6 = 0 then .ok (.vfredsum (flag w 8) (flag w 27) (vField w 9) (vField w 15)) else .error .field
  | 9 => if fld w 21 6 = 0 then .ok (.vfredmax (flag w 8) (flag w 27) (vField w 9) (vField w 15)) else .error .field
  | 10 => if fld w 27 1 = 0 then .ok (.vrgatherVv (flag w 8) (vField w 9) (vField w 15) (vField w 21)) else .error .field
  | 13 => if fld w 21 7 = 0 then .ok (.vcompress (flag w 8) (vField w 9) (vField w 15)) else .error .field
  | 14 => if fld w 21 7 = 0 then .ok (.vexpand (flag w 8) (vField w 9) (vField w 15)) else .error .field
  | 15 => if fld w 21 6 = 0 then .ok (.vscanadd (flag w 8) (flag w 27) (vField w 9) (vField w 15)) else .error .field
  | _ => .error .function

/-- Major 0x35 (R275). -/
noncomputable def decodeVxrVx (w : Nat) : Except Reject Instr :=
  match fld w 28 4 with
  | 10 => if fld w 26 2 = 0 then .ok (.vrgatherVx (flag w 8) (vField w 9) (vField w 15) (xField w 21)) else .error .field
  | 11 => if fld w 26 2 = 0 then .ok (.vslideupVx (flag w 8) (vField w 9) (vField w 15) (xField w 21)) else .error .field
  | 12 => if fld w 26 2 = 0 then .ok (.vslidedownVx (flag w 8) (vField w 9) (vField w 15) (xField w 21)) else .error .field
  | _ => .error .function

/-- Major 0x37 (R275). -/
noncomputable def decodeVxrVi (w : Nat) : Except Reject Instr :=
  match fld w 28 4 with
  | 11 => if fld w 27 1 = 0 then .ok (.vslideupVi (flag w 8) (vField w 9) (vField w 15) (BitVec.ofNat 6 (fld w 21 6))) else .error .field
  | 12 => if fld w 27 1 = 0 then .ok (.vslidedownVi (flag w 8) (vField w 9) (vField w 15) (BitVec.ofNat 6 (fld w 21 6))) else .error .field
  | _ => .error .function

/-- Major 0x39 (R264). -/
def decodeVmemVx (w : Nat) : Except Reject Instr :=
  match fld w 28 4 with
  | 0 => if fld w 26 1 = 0 then .ok (.vlx (flag w 8) (flag w 27) (vField w 9) (vField w 15) (xField w 21)) else .error .field
  | 1 => if fld w 26 1 = 0 then .ok (.vsxO (flag w 8) (flag w 27) (vField w 9) (vField w 15) (xField w 21)) else .error .field
  | 2 => if fld w 26 1 = 0 then .ok (.vsxU (flag w 8) (flag w 27) (vField w 9) (vField w 15) (xField w 21)) else .error .field
  | _ => .error .function

/-- Major 0x3A (R263). -/
def decodeVmemVs (w : Nat) : Except Reject Instr :=
  match fld w 28 4 with
  | 0 => if fld w 15 6 = 0 ∧ fld w 25 2 = 0 then .ok (.vld (flag w 8) (flag w 27) (vField w 9) (stField w 21)) else .error .field
  | 1 => if fld w 9 6 = 0 ∧ fld w 25 2 = 0 then .ok (.vstO (flag w 8) (flag w 27) (vField w 15) (stField w 21)) else .error .field
  | 2 => if fld w 9 6 = 0 ∧ fld w 25 2 = 0 then .ok (.vstU (flag w 8) (flag w 27) (vField w 15) (stField w 21)) else .error .field
  | _ => .error .function

/-- Major 0x3B (R266). -/
def decodeVmemVi (w : Nat) : Except Reject Instr :=
  match fld w 28 4 with
  | 0 => if fld w 24 3 ≤ 5 then .ok (.vamoswap (flag w 8) (flag w 27) (vField w 9) (vField w 15) (BitVec.ofNat 3 (fld w 24 3)) (BitVec.ofNat 2 (fld w 22 2)) (flag w 21)) else .error .field
  | 1 => if fld w 24 3 ≤ 5 then .ok (.vamoadd (flag w 8) (flag w 27) (vField w 9) (vField w 15) (BitVec.ofNat 3 (fld w 24 3)) (BitVec.ofNat 2 (fld w 22 2)) (flag w 21)) else .error .field
  | 2 => if fld w 24 3 ≤ 5 then .ok (.vamoand (flag w 8) (flag w 27) (vField w 9) (vField w 15) (BitVec.ofNat 3 (fld w 24 3)) (BitVec.ofNat 2 (fld w 22 2)) (flag w 21)) else .error .field
  | 3 => if fld w 24 3 ≤ 5 then .ok (.vamoor (flag w 8) (flag w 27) (vField w 9) (vField w 15) (BitVec.ofNat 3 (fld w 24 3)) (BitVec.ofNat 2 (fld w 22 2)) (flag w 21)) else .error .field
  | 4 => if fld w 24 3 ≤ 5 then .ok (.vamoxor (flag w 8) (flag w 27) (vField w 9) (vField w 15) (BitVec.ofNat 3 (fld w 24 3)) (BitVec.ofNat 2 (fld w 22 2)) (flag w 21)) else .error .field
  | 5 => if fld w 24 3 ≤ 5 then .ok (.vamomin (flag w 8) (flag w 27) (vField w 9) (vField w 15) (BitVec.ofNat 3 (fld w 24 3)) (BitVec.ofNat 2 (fld w 22 2)) (flag w 21)) else .error .field
  | 6 => if fld w 24 3 ≤ 5 then .ok (.vamomax (flag w 8) (flag w 27) (vField w 9) (vField w 15) (BitVec.ofNat 3 (fld w 24 3)) (BitVec.ofNat 2 (fld w 22 2)) (flag w 21)) else .error .field
  | 7 => if fld w 24 3 ≤ 5 then .ok (.vamominu (flag w 8) (flag w 27) (vField w 9) (vField w 15) (BitVec.ofNat 3 (fld w 24 3)) (BitVec.ofNat 2 (fld w 22 2)) (flag w 21)) else .error .field
  | 8 => if fld w 24 3 ≤ 5 then .ok (.vamomaxu (flag w 8) (flag w 27) (vField w 9) (vField w 15) (BitVec.ofNat 3 (fld w 24 3)) (BitVec.ofNat 2 (fld w 22 2)) (flag w 21)) else .error .field
  | 9 => if fld w 24 3 ≤ 5 then .ok (.vamofxL (flag w 8) (flag w 27) (vField w 9) (vField w 15) (BitVec.ofNat 3 (fld w 24 3)) (BitVec.ofNat 2 (fld w 22 2)) (flag w 21)) else .error .field
  | 10 => if fld w 24 3 ≤ 5 then .ok (.vamofxD (flag w 8) (flag w 27) (vField w 9) (vField w 15) (BitVec.ofNat 3 (fld w 24 3)) (BitVec.ofNat 2 (fld w 22 2)) (flag w 21)) else .error .field
  | 11 => if fld w 24 3 ≤ 5 then .ok (.vamofxS (flag w 8) (flag w 27) (vField w 9) (vField w 15) (BitVec.ofNat 3 (fld w 24 3)) (BitVec.ofNat 2 (fld w 22 2)) (flag w 21)) else .error .field
  | _ => .error .function

/-- A 32-bit word other than PFX: the major opcode of bits [7:2] chooses the format (R154, R159). -/
noncomputable def decode32 (w : Nat) : Except Reject Instr :=
  match fld w 2 6 with
  | 0 => decodeLoad w
  | 1 => decodeStore w
  | 2 => decodeOrdls w
  | 3 => decodeAmo w
  | 4 => decodeOpi w
  | 5 => decodeOp w
  | 6 => decodeOpiw w
  | 7 => decodeOpw w
  | 8 => decodeLui w
  | 9 => decodeAuipc w
  | 10 => decodeJal w
  | 11 => decodeJalr w
  | 12 => decodeBrs w
  | 13 => decodeBru w
  | 14 => decodeFop w
  | 15 => decodeFmac w
  | 16 => decodeSync w
  | 17 => decodeSys w
  | 18 => decodePriv w
  | 19 => decodeHint w
  | 24 => decodeVconf w
  | 25 => decodeVmisc w
  | 26 => decodeVmask w
  | 27 => decodeVstrm w
  | 28 => decodeVkerb w
  | 32 => decodeViaVv w
  | 33 => decodeViaVx w
  | 34 => decodeViaVs w
  | 35 => decodeViaVi w
  | 36 => decodeVibVv w
  | 37 => decodeVibVx w
  | 38 => decodeVibVs w
  | 39 => decodeVibVi w
  | 40 => decodeVfaVv w
  | 41 => decodeVfaVx w
  | 42 => decodeVfaVs w
  | 44 => decodeVfbVv w
  | 45 => decodeVfbVx w
  | 46 => decodeVfbVs w
  | 47 => decodeVfbVi w
  | 48 => decodeVcmpVv w
  | 49 => decodeVcmpVx w
  | 50 => decodeVcmpVs w
  | 51 => decodeVcmpVi w
  | 52 => decodeVxrVv w
  | 53 => decodeVxrVx w
  | 55 => decodeVxrVi w
  | 57 => decodeVmemVx w
  | 58 => decodeVmemVs w
  | 59 => decodeVmemVi w
  | _ => .error .major

/-- A PFX instruction: the first word in bits [31:0], the second in bits [63:32] (R156, R279). -/
noncomputable def decode64 (w : Nat) : Except Reject Instr :=
  match fld w 28 4 with
  | 0 => if fld w 38 26 = 0 then .ok (.vmm (flag w 8) (flag w 27) (vField w 9) (vField w 15) (vField w 21) (BitVec.ofNat 3 (fld w 32 3)) (BitVec.ofNat 3 (fld w 35 3))) else .error .field
  | 1 => if fld w 14 1 = 0 ∧ fld w 27 1 = 0 ∧ fld w 32 6 = 0 ∧ fld w 44 20 = 0 ∧ fld w 41 3 ≤ 5 then .ok (.copr (flag w 8) (mField w 38) (vField w 15) (vField w 21) (xField w 9) (BitVec.ofNat 3 (fld w 41 3))) else .error .field
  | 2 => if fld w 9 6 = 0 ∧ fld w 20 1 = 0 ∧ fld w 26 2 = 0 ∧ fld w 32 6 = 0 ∧ fld w 44 20 = 0 ∧ fld w 41 3 ≤ 5 then .ok (.coprM (flag w 8) (mField w 38) (xField w 15) (xField w 21) (BitVec.ofNat 3 (fld w 41 3))) else .error .field
  | 3 => if fld w 14 1 = 0 ∧ fld w 21 7 = 0 ∧ fld w 32 6 = 0 ∧ fld w 41 23 = 0 then .ok (.cmvBv (flag w 8) (mField w 38) (vField w 15) (xField w 9)) else .error .field
  | 4 => if fld w 20 8 = 0 ∧ fld w 32 6 = 0 ∧ fld w 41 23 = 0 then .ok (.cmvVb (flag w 8) (vField w 9) (mField w 38) (xField w 15)) else .error .field
  | 5 => if fld w 9 6 = 0 ∧ fld w 20 1 = 0 ∧ fld w 26 2 = 0 ∧ fld w 32 6 = 0 ∧ fld w 41 23 = 0 then .ok (.cld (flag w 8) (mField w 38) (xField w 15) (xField w 21)) else .error .field
  | 6 => if fld w 9 6 = 0 ∧ fld w 20 1 = 0 ∧ fld w 26 2 = 0 ∧ fld w 32 6 = 0 ∧ fld w 41 23 = 0 then .ok (.cst (flag w 8) (mField w 38) (xField w 15) (xField w 21)) else .error .field
  | 7 => if fld w 9 19 = 0 ∧ fld w 32 6 = 0 ∧ fld w 41 23 = 0 then .ok (.czero (flag w 8) (mField w 38)) else .error .field
  | 8 => if fld w 38 3 = 0 ∧ fld w 43 21 = 0 then .ok (.ccvt (flag w 8) (flag w 27) (vField w 9) (vField w 15) (vField w 21) (BitVec.ofNat 3 (fld w 32 3)) (BitVec.ofNat 3 (fld w 35 3)) (BitVec.ofNat 2 (fld w 41 2))) else .error .field
  | _ => .error .function

/-- A compressed halfword (R157, R158, R221, R222): quadrant in bits [1:0], function in bits [15:13]. -/
def decode16 (w : Nat) : Except Reject Instr :=
  match fld w 0 2, fld w 13 3 with
  | 0, 1 => .ok (.cLd (mField w 2) (mField w 7) (BitVec.ofNat 5 (fld w 10 3 * 2 ^ 2 + fld w 5 2)))
  | 0, 2 => .ok (.cLw (mField w 2) (mField w 7) (BitVec.ofNat 5 (fld w 10 3 * 2 ^ 2 + fld w 5 2)))
  | 0, 3 => .ok (.cSd (mField w 7) (mField w 2) (BitVec.ofNat 5 (fld w 10 3 * 2 ^ 2 + fld w 5 2)))
  | 0, 4 => .ok (.cSw (mField w 7) (mField w 2) (BitVec.ofNat 5 (fld w 10 3 * 2 ^ 2 + fld w 5 2)))
  | 0, 5 => .ok (.cAddisp (mField w 2) (BitVec.ofNat 8 (fld w 5 8)))
  | 1, 0 => .ok (.cAddi (xField w 7) (BitVec.ofNat 6 (fld w 12 1 * 2 ^ 5 + fld w 2 5)))
  | 1, 1 => .ok (.cLi (xField w 7) (BitVec.ofNat 6 (fld w 12 1 * 2 ^ 5 + fld w 2 5)))
  | 1, 2 => .ok (.cJ (BitVec.ofNat 11 (fld w 2 11)))
  | 1, 3 => .ok (.cBeqz (mField w 7) (BitVec.ofNat 8 (fld w 10 3 * 2 ^ 5 + fld w 2 5)))
  | 1, 4 => .ok (.cBnez (mField w 7) (BitVec.ofNat 8 (fld w 10 3 * 2 ^ 5 + fld w 2 5)))
  | 2, 0 => if fld w 12 1 = 0 then .ok (.cMv (xField w 7) (xField w 2)) else .error .field
  | 2, 1 => if fld w 12 1 = 0 then .ok (.cAdd (xField w 7) (xField w 2)) else .error .field
  | 2, 2 => if fld w 2 5 = 0 ∧ fld w 12 1 = 0 ∧ fld w 7 5 ≠ 0 then .ok (.cJr (xField w 7)) else .error .field
  | 2, 3 => if fld w 2 5 = 0 ∧ fld w 12 1 = 0 ∧ fld w 7 5 ≠ 0 then .ok (.cJalr (xField w 7)) else .error .field
  | 2, 4 => .ok (.cLdsp (xField w 7) (BitVec.ofNat 6 (fld w 12 1 * 2 ^ 5 + fld w 2 5)))
  | 2, 5 => .ok (.cSdsp (xField w 2) (BitVec.ofNat 6 (fld w 7 6)))
  | _, _ => .error .major

/-- The length in bytes that the first halfword names (R152). -/
def sizeOfHalf (h : Nat) : Nat :=
  if fld h 0 2 = 3 then (if fld h 2 6 = 0x1D then 8 else 4) else 2

/-- The instruction whose bits are `w`, the first byte lowest; bits above its length do not matter. -/
noncomputable def decodeBits (w : Nat) : Except Reject Instr :=
  match sizeOfHalf w with
  | 2 => decode16 (w % 2 ^ 16)
  | 4 => decode32 (w % 2 ^ 32)
  | _ => decode64 (w % 2 ^ 64)

/-- The bytes of an instruction stream as one number, little-endian (R7). -/
def bytesToNat : List Byte → Nat
  | [] => 0
  | b :: bs => b.toNat + 256 * bytesToNat bs

/-- The `n` lowest bytes of `w`, lowest first (R7). -/
def natToBytes : Nat → Nat → List Byte
  | 0, _ => []
  | n + 1, w => BitVec.ofNat 8 w :: natToBytes n (w / 256)

/-- The instruction at the head of `bs`, with its length in bytes. -/
noncomputable def decode (bs : List Byte) : Except Reject (Instr × Nat) :=
  let n := sizeOfHalf (bytesToNat (bs.take 2))
  if bs.length < n ∨ bs.length < 2 then .error .truncated
  else
    match decodeBits (bytesToNat (bs.take n)) with
    | .ok i => .ok (i, n)
    | .error r => .error r

/-- The instruction the decoder reads from an instruction whose bits are `w`, numbered as the opcode table numbers
them, every bit above `nbits` being 0. -/
noncomputable def decodeTableWord (nbits w : Nat) : Option Instr :=
  match decode (natToBytes 8 (w % 2 ^ nbits)) with
  | .ok (i, _) => some i
  | .error _ => none

/-- `base` with the fields `v` placed at the bits `lo`. -/
def put1 (base v lo : Nat) : Nat := base + v * 2 ^ lo
@[inherit_doc put1] def put2 (base v1 lo1 v2 lo2 : Nat) : Nat := put1 (base + v1 * 2 ^ lo1) v2 lo2
@[inherit_doc put1] def put3 (base v1 lo1 v2 lo2 v3 lo3 : Nat) : Nat := put2 (base + v1 * 2 ^ lo1) v2 lo2 v3 lo3
@[inherit_doc put1] def put4 (base v1 lo1 v2 lo2 v3 lo3 v4 lo4 : Nat) : Nat := put3 (base + v1 * 2 ^ lo1) v2 lo2 v3 lo3 v4 lo4
@[inherit_doc put1] def put5 (base v1 lo1 v2 lo2 v3 lo3 v4 lo4 v5 lo5 : Nat) : Nat := put4 (base + v1 * 2 ^ lo1) v2 lo2 v3 lo3 v4 lo4 v5 lo5
@[inherit_doc put1] def put6 (base v1 lo1 v2 lo2 v3 lo3 v4 lo4 v5 lo5 v6 lo6 : Nat) : Nat := put5 (base + v1 * 2 ^ lo1) v2 lo2 v3 lo3 v4 lo4 v5 lo5 v6 lo6
@[inherit_doc put1] def put7 (base v1 lo1 v2 lo2 v3 lo3 v4 lo4 v5 lo5 v6 lo6 v7 lo7 : Nat) : Nat := put6 (base + v1 * 2 ^ lo1) v2 lo2 v3 lo3 v4 lo4 v5 lo5 v6 lo6 v7 lo7
@[inherit_doc put1] def put8 (base v1 lo1 v2 lo2 v3 lo3 v4 lo4 v5 lo5 v6 lo6 v7 lo7 v8 lo8 : Nat) : Nat := put7 (base + v1 * 2 ^ lo1) v2 lo2 v3 lo3 v4 lo4 v5 lo5 v6 lo6 v7 lo7 v8 lo8


/-- A word with fixed bits `base` and the operands of this form at their places. -/
def encDxAxBx (base : Nat) (d : Fin 32) (a : Fin 32) (b : Fin 32) : Nat :=
  put3 base d.val 8 a.val 13 b.val 18

/-- A word with fixed bits `base` and the operands of this form at their places. -/
def encDxAx (base : Nat) (d : Fin 32) (a : Fin 32) : Nat :=
  put2 base d.val 8 a.val 13

/-- A word with fixed bits `base` and the operands of this form at their places. -/
def encDxAxI11 (base : Nat) (d : Fin 32) (a : Fin 32) (i : BitVec 11) : Nat :=
  put3 base d.val 8 a.val 13 i.toNat 21

/-- A word with fixed bits `base` and the operands of this form at their places. -/
def encDxAxSh6 (base : Nat) (d : Fin 32) (a : Fin 32) (sh : BitVec 6) : Nat :=
  put3 base d.val 8 a.val 13 sh.toNat 21

/-- A word with fixed bits `base` and the operands of this form at their places. -/
def encDxAxSh5 (base : Nat) (d : Fin 32) (a : Fin 32) (sh : BitVec 5) : Nat :=
  put3 base d.val 8 a.val 13 sh.toNat 21

/-- A word with fixed bits `base` and the operands of this form at their places. -/
def encDxI19 (base : Nat) (d : Fin 32) (i : BitVec 19) : Nat :=
  put2 base d.val 8 i.toNat 13

/-- A word with fixed bits `base` and the operands of this form at their places. -/
def encAxBxI12 (base : Nat) (a : Fin 32) (b : Fin 32) (i : BitVec 12) : Nat :=
  put4 base (fld i.toNat 0 5) 8 a.val 13 b.val 18 (fld i.toNat 5 7) 25

/-- A word with fixed bits `base` and the operands of this form at their places. -/
def encAxBxI11 (base : Nat) (a : Fin 32) (b : Fin 32) (i : BitVec 11) : Nat :=
  put4 base (fld i.toNat 0 5) 8 a.val 13 b.val 18 (fld i.toNat 5 6) 26

/-- A word with fixed bits `base` and the operands of this form at their places. -/
def encDxAxScOrd (base : Nat) (d : Fin 32) (a : Fin 32) (sc : BitVec 3) (ord : BitVec 1) : Nat :=
  put4 base d.val 8 a.val 13 ord.toNat 27 sc.toNat 29

/-- A word with fixed bits `base` and the operands of this form at their places. -/
def encAxBxScOrd (base : Nat) (a : Fin 32) (b : Fin 32) (sc : BitVec 3) (ord : BitVec 1) : Nat :=
  put4 base a.val 13 b.val 18 ord.toNat 28 sc.toNat 29

/-- A word with fixed bits `base` and the operands of this form at their places. -/
def encDxAxBxScOrd (base : Nat) (d : Fin 32) (a : Fin 32) (b : Fin 32) (sc : BitVec 3) (ord : BitVec 2) : Nat :=
  put5 base d.val 8 a.val 13 b.val 18 ord.toNat 27 sc.toNat 29

/-- A word with fixed bits `base` and the operands of this form at their places. -/
def encDxAxBxFmt2Rm (base : Nat) (d : Fin 32) (a : Fin 32) (b : Fin 32) (fmt : BitVec 2) (rm : BitVec 3) : Nat :=
  put5 base d.val 8 a.val 13 b.val 18 rm.toNat 23 fmt.toNat 26

/-- A word with fixed bits `base` and the operands of this form at their places. -/
def encDxAxFmt2Rm (base : Nat) (d : Fin 32) (a : Fin 32) (fmt : BitVec 2) (rm : BitVec 3) : Nat :=
  put4 base d.val 8 a.val 13 rm.toNat 23 fmt.toNat 26

/-- A word with fixed bits `base` and the operands of this form at their places. -/
def encDxAxBxFmt2 (base : Nat) (d : Fin 32) (a : Fin 32) (b : Fin 32) (fmt : BitVec 2) : Nat :=
  put4 base d.val 8 a.val 13 b.val 18 fmt.toNat 26

/-- A word with fixed bits `base` and the operands of this form at their places. -/
def encDxAxFmt2 (base : Nat) (d : Fin 32) (a : Fin 32) (fmt : BitVec 2) : Nat :=
  put3 base d.val 8 a.val 13 fmt.toNat 26

/-- A word with fixed bits `base` and the operands of this form at their places. -/
def encDxAxTy5Fmt2Rm (base : Nat) (d : Fin 32) (a : Fin 32) (ty : BitVec 5) (fmt : BitVec 2) (rm : BitVec 3) : Nat :=
  put5 base d.val 8 a.val 13 ty.toNat 18 rm.toNat 23 fmt.toNat 26

/-- A word with fixed bits `base` and the operands of this form at their places. -/
def encDxAxBxCxFmt2 (base : Nat) (d : Fin 32) (a : Fin 32) (b : Fin 32) (c : Fin 32) (fmt : BitVec 2) : Nat :=
  put5 base d.val 8 a.val 13 b.val 18 c.val 23 fmt.toNat 28

/-- A word with fixed bits `base` and the operands of this form at their places. -/
def encScOrd (base : Nat) (sc : BitVec 3) (ord : BitVec 2) : Nat :=
  put2 base ord.toNat 27 sc.toNat 29

/-- A word with fixed bits `base` and the operands of this form at their places. -/
def encAx (base : Nat) (a : Fin 32) : Nat :=
  put1 base a.val 13

/-- A word with fixed bits `base` and the operands of this form at their places. -/
def encAxBxSc (base : Nat) (a : Fin 32) (b : Fin 32) (sc : BitVec 3) : Nat :=
  put3 base a.val 13 b.val 18 sc.toNat 29

/-- A word with fixed bits `base` and the operands of this form at their places. -/
def encDxN12 (base : Nat) (d : Fin 32) (n : BitVec 12) : Nat :=
  put2 base d.val 8 n.toNat 18

/-- A word with fixed bits `base` and the operands of this form at their places. -/
def encAxN12 (base : Nat) (a : Fin 32) (n : BitVec 12) : Nat :=
  put2 base a.val 13 n.toNat 18

/-- A word with fixed bits `base` and the operands of this form at their places. -/
def encCDmAmI5 (base : Nat) (d : Fin 8) (a : Fin 8) (i : BitVec 5) : Nat :=
  put4 base d.val 2 (fld i.toNat 0 2) 5 a.val 7 (fld i.toNat 2 3) 10

/-- A word with fixed bits `base` and the operands of this form at their places. -/
def encCAmBmI5 (base : Nat) (a : Fin 8) (b : Fin 8) (i : BitVec 5) : Nat :=
  put4 base b.val 2 (fld i.toNat 0 2) 5 a.val 7 (fld i.toNat 2 3) 10

/-- A word with fixed bits `base` and the operands of this form at their places. -/
def encCDmI8 (base : Nat) (d : Fin 8) (i : BitVec 8) : Nat :=
  put2 base d.val 2 i.toNat 5

/-- A word with fixed bits `base` and the operands of this form at their places. -/
def encCDxI6 (base : Nat) (d : Fin 32) (i : BitVec 6) : Nat :=
  put3 base (fld i.toNat 0 5) 2 d.val 7 (fld i.toNat 5 1) 12

/-- A word with fixed bits `base` and the operands of this form at their places. -/
def encCI11 (base : Nat) (i : BitVec 11) : Nat :=
  put1 base i.toNat 2

/-- A word with fixed bits `base` and the operands of this form at their places. -/
def encCAmI8 (base : Nat) (a : Fin 8) (i : BitVec 8) : Nat :=
  put3 base (fld i.toNat 0 5) 2 a.val 7 (fld i.toNat 5 3) 10

/-- A word with fixed bits `base` and the operands of this form at their places. -/
def encCDxBx (base : Nat) (d : Fin 32) (b : Fin 32) : Nat :=
  put2 base b.val 2 d.val 7

/-- A word with fixed bits `base` and the operands of this form at their places. -/
def encCAx (base : Nat) (a : Fin 32) : Nat :=
  put1 base a.val 7

/-- A word with fixed bits `base` and the operands of this form at their places. -/
def encCBxI6 (base : Nat) (b : Fin 32) (i : BitVec 6) : Nat :=
  put2 base b.val 2 i.toNat 7

/-- A word with fixed bits `base` and the operands of this form at their places. -/
def encKMDvBx (base : Nat) (k : Bool) (m : Bool) (d : Fin 64) (b : Fin 32) : Nat :=
  put4 base k.toNat 8 d.val 9 b.val 21 m.toNat 27

/-- A word with fixed bits `base` and the operands of this form at their places. -/
def encKMDvI6 (base : Nat) (k : Bool) (m : Bool) (d : Fin 64) (i : BitVec 6) : Nat :=
  put4 base k.toNat 8 d.val 9 i.toNat 21 m.toNat 27

/-- A word with fixed bits `base` and the operands of this form at their places. -/
def encKMDv (base : Nat) (k : Bool) (m : Bool) (d : Fin 64) : Nat :=
  put3 base k.toNat 8 d.val 9 m.toNat 27

/-- A word with fixed bits `base` and the operands of this form at their places. -/
def encKMDvAv (base : Nat) (k : Bool) (m : Bool) (d : Fin 64) (a : Fin 64) : Nat :=
  put4 base k.toNat 8 d.val 9 a.val 15 m.toNat 27

/-- A word with fixed bits `base` and the operands of this form at their places. -/
def encKDxAv (base : Nat) (k : Bool) (d : Fin 32) (a : Fin 64) : Nat :=
  put3 base k.toNat 8 d.val 9 a.val 15

/-- A word with fixed bits `base` and the operands of this form at their places. -/
def encKAv (base : Nat) (k : Bool) (a : Fin 64) : Nat :=
  put2 base k.toNat 8 a.val 15

/-- A word with fixed bits `base` and the operands of this form at their places. -/
def encKDxAvBx (base : Nat) (k : Bool) (d : Fin 32) (a : Fin 64) (b : Fin 32) : Nat :=
  put4 base k.toNat 8 d.val 9 a.val 15 b.val 21

/-- A word with fixed bits `base` and the operands of this form at their places. -/
def encKDvAvBv (base : Nat) (k : Bool) (d : Fin 64) (a : Fin 64) (b : Fin 64) : Nat :=
  put4 base k.toNat 8 d.val 9 a.val 15 b.val 21

/-- A word with fixed bits `base` and the operands of this form at their places. -/
def encKDvAvBx (base : Nat) (k : Bool) (d : Fin 64) (a : Fin 64) (b : Fin 32) : Nat :=
  put4 base k.toNat 8 d.val 9 a.val 15 b.val 21

/-- A word with fixed bits `base` and the operands of this form at their places. -/
def encKDvAvI6 (base : Nat) (k : Bool) (d : Fin 64) (a : Fin 64) (i : BitVec 6) : Nat :=
  put4 base k.toNat 8 d.val 9 a.val 15 i.toNat 21

/-- A word with fixed bits `base` and the operands of this form at their places. -/
def encKDmAmBm (base : Nat) (k : Bool) (d : Fin 8) (a : Fin 8) (b : Fin 8) : Nat :=
  put4 base k.toNat 8 d.val 9 a.val 15 b.val 21

/-- A word with fixed bits `base` and the operands of this form at their places. -/
def encKDxAm (base : Nat) (k : Bool) (d : Fin 32) (a : Fin 8) : Nat :=
  put3 base k.toNat 8 d.val 9 a.val 15

/-- A word with fixed bits `base` and the operands of this form at their places. -/
def encKDm (base : Nat) (k : Bool) (d : Fin 8) : Nat :=
  put2 base k.toNat 8 d.val 9

/-- A word with fixed bits `base` and the operands of this form at their places. -/
def encKAxSt (base : Nat) (k : Bool) (a : Fin 32) (st : Fin 16) : Nat :=
  put3 base k.toNat 8 a.val 15 st.val 21

/-- A word with fixed bits `base` and the operands of this form at their places. -/
def encKAxCxSt (base : Nat) (k : Bool) (a : Fin 32) (c : Fin 32) (st : Fin 16) : Nat :=
  put4 base k.toNat 8 c.val 9 a.val 15 st.val 21

/-- A word with fixed bits `base` and the operands of this form at their places. -/
def encKAxBxSt (base : Nat) (k : Bool) (a : Fin 32) (b : Fin 32) (st : Fin 16) : Nat :=
  put4 base k.toNat 8 b.val 9 a.val 15 st.val 21

/-- A word with fixed bits `base` and the operands of this form at their places. -/
def encKAvSt (base : Nat) (k : Bool) (a : Fin 64) (st : Fin 16) : Nat :=
  put3 base k.toNat 8 a.val 15 st.val 21

/-- A word with fixed bits `base` and the operands of this form at their places. -/
def encKSt (base : Nat) (k : Bool) (st : Fin 16) : Nat :=
  put2 base k.toNat 8 st.val 21

/-- A word with fixed bits `base` and the operands of this form at their places. -/
def encKDxStI6 (base : Nat) (k : Bool) (d : Fin 32) (st : Fin 16) (i : BitVec 6) : Nat :=
  put4 base k.toNat 8 d.val 9 i.toNat 15 st.val 21

/-- A word with fixed bits `base` and the operands of this form at their places. -/
def encKDxAxBx (base : Nat) (k : Bool) (d : Fin 32) (a : Fin 32) (b : Fin 32) : Nat :=
  put4 base k.toNat 8 d.val 9 a.val 15 b.val 21

/-- A word with fixed bits `base` and the operands of this form at their places. -/
def encKMDvSt (base : Nat) (k : Bool) (m : Bool) (d : Fin 64) (st : Fin 16) : Nat :=
  put4 base k.toNat 8 d.val 9 st.val 21 m.toNat 27

/-- A word with fixed bits `base` and the operands of this form at their places. -/
def encKMAvSt (base : Nat) (k : Bool) (m : Bool) (a : Fin 64) (st : Fin 16) : Nat :=
  put4 base k.toNat 8 a.val 15 st.val 21 m.toNat 27

/-- A word with fixed bits `base` and the operands of this form at their places. -/
def encKMDvAvBx (base : Nat) (k : Bool) (m : Bool) (d : Fin 64) (a : Fin 64) (b : Fin 32) : Nat :=
  put5 base k.toNat 8 d.val 9 a.val 15 b.val 21 m.toNat 27

/-- A word with fixed bits `base` and the operands of this form at their places. -/
def encKMDvAvScOrdUn (base : Nat) (k : Bool) (m : Bool) (d : Fin 64) (a : Fin 64) (sc : BitVec 3) (ord : BitVec 2) (un : Bool) : Nat :=
  put7 base k.toNat 8 d.val 9 a.val 15 un.toNat 21 ord.toNat 22 sc.toNat 24 m.toNat 27

/-- A word with fixed bits `base` and the operands of this form at their places. -/
def encKMDvAvBv (base : Nat) (k : Bool) (m : Bool) (d : Fin 64) (a : Fin 64) (b : Fin 64) : Nat :=
  put5 base k.toNat 8 d.val 9 a.val 15 b.val 21 m.toNat 27

/-- A word with fixed bits `base` and the operands of this form at their places. -/
def encKMDvAvSt (base : Nat) (k : Bool) (m : Bool) (d : Fin 64) (a : Fin 64) (st : Fin 16) : Nat :=
  put5 base k.toNat 8 d.val 9 a.val 15 st.val 21 m.toNat 27

/-- A word with fixed bits `base` and the operands of this form at their places. -/
def encKMDvAvI6 (base : Nat) (k : Bool) (m : Bool) (d : Fin 64) (a : Fin 64) (i : BitVec 6) : Nat :=
  put5 base k.toNat 8 d.val 9 a.val 15 i.toNat 21 m.toNat 27

/-- A word with fixed bits `base` and the operands of this form at their places. -/
def encKMDvAvI3 (base : Nat) (k : Bool) (m : Bool) (d : Fin 64) (a : Fin 64) (i : BitVec 3) : Nat :=
  put5 base k.toNat 8 d.val 9 a.val 15 i.toNat 21 m.toNat 27

/-- A word with fixed bits `base` and the operands of this form at their places. -/
def encKMDmAvBv (base : Nat) (k : Bool) (m : Bool) (d : Fin 8) (a : Fin 64) (b : Fin 64) : Nat :=
  put5 base k.toNat 8 d.val 9 a.val 15 b.val 21 m.toNat 27

/-- A word with fixed bits `base` and the operands of this form at their places. -/
def encKMDmAvBx (base : Nat) (k : Bool) (m : Bool) (d : Fin 8) (a : Fin 64) (b : Fin 32) : Nat :=
  put5 base k.toNat 8 d.val 9 a.val 15 b.val 21 m.toNat 27

/-- A word with fixed bits `base` and the operands of this form at their places. -/
def encKMDmAvSt (base : Nat) (k : Bool) (m : Bool) (d : Fin 8) (a : Fin 64) (st : Fin 16) : Nat :=
  put5 base k.toNat 8 d.val 9 a.val 15 st.val 21 m.toNat 27

/-- A word with fixed bits `base` and the operands of this form at their places. -/
def encKMDmAvI6 (base : Nat) (k : Bool) (m : Bool) (d : Fin 8) (a : Fin 64) (i : BitVec 6) : Nat :=
  put5 base k.toNat 8 d.val 9 a.val 15 i.toNat 21 m.toNat 27

/-- A word with fixed bits `base` and the operands of this form at their places. -/
def encKDv (base : Nat) (k : Bool) (d : Fin 64) : Nat :=
  put2 base k.toNat 8 d.val 9

/-- A word with fixed bits `base` and the operands of this form at their places. -/
def encKDvAv (base : Nat) (k : Bool) (d : Fin 64) (a : Fin 64) : Nat :=
  put3 base k.toNat 8 d.val 9 a.val 15

/-- A word with fixed bits `base` and the operands of this form at their places. -/
def encPKMDvAvBvTaTb (base : Nat) (k : Bool) (m : Bool) (d : Fin 64) (a : Fin 64) (b : Fin 64) (ta : BitVec 3) (tb : BitVec 3) : Nat :=
  put7 base k.toNat 8 d.val 9 a.val 15 b.val 21 m.toNat 27 ta.toNat 32 tb.toNat 35

/-- A word with fixed bits `base` and the operands of this form at their places. -/
def encPKCmAvBvXoxFmt3 (base : Nat) (k : Bool) (c : Fin 8) (a : Fin 64) (b : Fin 64) (xo : Fin 32) (fmt : BitVec 3) : Nat :=
  put6 base k.toNat 8 xo.val 9 a.val 15 b.val 21 c.val 38 fmt.toNat 41

/-- A word with fixed bits `base` and the operands of this form at their places. -/
def encPKCmAxBxFmt3 (base : Nat) (k : Bool) (c : Fin 8) (a : Fin 32) (b : Fin 32) (fmt : BitVec 3) : Nat :=
  put5 base k.toNat 8 a.val 15 b.val 21 c.val 38 fmt.toNat 41

/-- A word with fixed bits `base` and the operands of this form at their places. -/
def encPKCmAvXox (base : Nat) (k : Bool) (c : Fin 8) (a : Fin 64) (xo : Fin 32) : Nat :=
  put4 base k.toNat 8 xo.val 9 a.val 15 c.val 38

/-- A word with fixed bits `base` and the operands of this form at their places. -/
def encPKDvCmXox (base : Nat) (k : Bool) (d : Fin 64) (c : Fin 8) (xo : Fin 32) : Nat :=
  put4 base k.toNat 8 d.val 9 xo.val 15 c.val 38

/-- A word with fixed bits `base` and the operands of this form at their places. -/
def encPKCmAxBx (base : Nat) (k : Bool) (c : Fin 8) (a : Fin 32) (b : Fin 32) : Nat :=
  put4 base k.toNat 8 a.val 15 b.val 21 c.val 38

/-- A word with fixed bits `base` and the operands of this form at their places. -/
def encPKCm (base : Nat) (k : Bool) (c : Fin 8) : Nat :=
  put2 base k.toNat 8 c.val 38

/-- A word with fixed bits `base` and the operands of this form at their places. -/
def encPKMDvAvVsvTaTbOut2 (base : Nat) (k : Bool) (m : Bool) (d : Fin 64) (a : Fin 64) (vs : Fin 64) (ta : BitVec 3) (tb : BitVec 3) (out : BitVec 2) : Nat :=
  put8 base k.toNat 8 d.val 9 a.val 15 vs.val 21 m.toNat 27 ta.toNat 32 tb.toNat 35 out.toNat 41

/-- A word with fixed bits `base` and the operands of this form at their places. -/
def encFn9BxAxDx (base : Nat) (fn : BitVec 9) (b : Fin 32) (a : Fin 32) (d : Fin 32) : Nat :=
  put4 base d.val 8 a.val 13 b.val 18 fn.toNat 23

/-- The bits of an instruction, from the same encoding tables. An event has none: 0. `illegalInstruction` carries the
encoding it stands for. -/
def encode : Instr → Nat
  | .add d a b => encDxAxBx 0x17 d a b
  | .sub d a b => encDxAxBx 0x800017 d a b
  | .sll d a b => encDxAxBx 0x1000017 d a b
  | .slt d a b => encDxAxBx 0x1800017 d a b
  | .sltu d a b => encDxAxBx 0x2000017 d a b
  | .xor d a b => encDxAxBx 0x2800017 d a b
  | .srl d a b => encDxAxBx 0x3000017 d a b
  | .sra d a b => encDxAxBx 0x3800017 d a b
  | .or d a b => encDxAxBx 0x4000017 d a b
  | .and d a b => encDxAxBx 0x4800017 d a b
  | .mul d a b => encDxAxBx 0x5000017 d a b
  | .mulh d a b => encDxAxBx 0x5800017 d a b
  | .mulhsu d a b => encDxAxBx 0x6000017 d a b
  | .mulhu d a b => encDxAxBx 0x6800017 d a b
  | .div d a b => encDxAxBx 0x7000017 d a b
  | .divu d a b => encDxAxBx 0x7800017 d a b
  | .rem d a b => encDxAxBx 0x8000017 d a b
  | .remu d a b => encDxAxBx 0x8800017 d a b
  | .min d a b => encDxAxBx 0x9000017 d a b
  | .max d a b => encDxAxBx 0x9800017 d a b
  | .minu d a b => encDxAxBx 0xA000017 d a b
  | .maxu d a b => encDxAxBx 0xA800017 d a b
  | .andn d a b => encDxAxBx 0xB000017 d a b
  | .orn d a b => encDxAxBx 0xB800017 d a b
  | .rol d a b => encDxAxBx 0xC000017 d a b
  | .ror d a b => encDxAxBx 0xC800017 d a b
  | .sh1add d a b => encDxAxBx 0xD000017 d a b
  | .sh2add d a b => encDxAxBx 0xD800017 d a b
  | .sh3add d a b => encDxAxBx 0xE000017 d a b
  | .clz d a => encDxAx 0xE800017 d a
  | .ctz d a => encDxAx 0xF000017 d a
  | .cpop d a => encDxAx 0xF800017 d a
  | .addi d a i => encDxAxI11 0x13 d a i
  | .slli d a sh => encDxAxSh6 0x40013 d a sh
  | .slti d a i => encDxAxI11 0x80013 d a i
  | .sltiu d a i => encDxAxI11 0xC0013 d a i
  | .xori d a i => encDxAxI11 0x100013 d a i
  | .srli d a sh => encDxAxSh6 0x140013 d a sh
  | .srai d a sh => encDxAxSh6 0x80140013 d a sh
  | .ori d a i => encDxAxI11 0x180013 d a i
  | .andi d a i => encDxAxI11 0x1C0013 d a i
  | .addw d a b => encDxAxBx 0x1F d a b
  | .subw d a b => encDxAxBx 0x80001F d a b
  | .sllw d a b => encDxAxBx 0x100001F d a b
  | .srlw d a b => encDxAxBx 0x300001F d a b
  | .sraw d a b => encDxAxBx 0x380001F d a b
  | .mulw d a b => encDxAxBx 0x500001F d a b
  | .divw d a b => encDxAxBx 0x700001F d a b
  | .divuw d a b => encDxAxBx 0x780001F d a b
  | .remw d a b => encDxAxBx 0x800001F d a b
  | .remuw d a b => encDxAxBx 0x880001F d a b
  | .addiw d a i => encDxAxI11 0x1B d a i
  | .slliw d a sh => encDxAxSh5 0x4001B d a sh
  | .srliw d a sh => encDxAxSh5 0x14001B d a sh
  | .sraiw d a sh => encDxAxSh5 0x8014001B d a sh
  | .lui d i => encDxI19 0x23 d i
  | .auipc d i => encDxI19 0x27 d i
  | .jal d i => encDxI19 0x2B d i
  | .jalr d a i => encDxAxI11 0x2F d a i
  | .beq a b i => encAxBxI12 0x33 a b i
  | .bne a b i => encAxBxI12 0x800033 a b i
  | .blt a b i => encAxBxI12 0x1000033 a b i
  | .bge a b i => encAxBxI12 0x1800033 a b i
  | .bltu a b i => encAxBxI12 0x37 a b i
  | .bgeu a b i => encAxBxI12 0x800037 a b i
  | .bbs a b i => encAxBxI12 0x1000037 a b i
  | .bbc a b i => encAxBxI12 0x1800037 a b i
  | .lb d a i => encDxAxI11 0x3 d a i
  | .lh d a i => encDxAxI11 0x40003 d a i
  | .lw d a i => encDxAxI11 0x80003 d a i
  | .ld d a i => encDxAxI11 0xC0003 d a i
  | .lbu d a i => encDxAxI11 0x100003 d a i
  | .lhu d a i => encDxAxI11 0x140003 d a i
  | .lwu d a i => encDxAxI11 0x180003 d a i
  | .sb a b i => encAxBxI11 0x7 a b i
  | .sh a b i => encAxBxI11 0x800007 a b i
  | .sw a b i => encAxBxI11 0x1000007 a b i
  | .sd a b i => encAxBxI11 0x1800007 a b i
  | .lbOrd d a sc ord => encDxAxScOrd 0xB d a sc ord
  | .lhOrd d a sc ord => encDxAxScOrd 0x80000B d a sc ord
  | .lwOrd d a sc ord => encDxAxScOrd 0x100000B d a sc ord
  | .ldOrd d a sc ord => encDxAxScOrd 0x180000B d a sc ord
  | .lbuOrd d a sc ord => encDxAxScOrd 0x200000B d a sc ord
  | .lhuOrd d a sc ord => encDxAxScOrd 0x280000B d a sc ord
  | .lwuOrd d a sc ord => encDxAxScOrd 0x300000B d a sc ord
  | .sbOrd a b sc ord => encAxBxScOrd 0x400000B a b sc ord
  | .shOrd a b sc ord => encAxBxScOrd 0x480000B a b sc ord
  | .swOrd a b sc ord => encAxBxScOrd 0x500000B a b sc ord
  | .sdOrd a b sc ord => encAxBxScOrd 0x580000B a b sc ord
  | .amoswap d a b sc ord => encDxAxBxScOrd 0xF d a b sc ord
  | .amoadd d a b sc ord => encDxAxBxScOrd 0x80000F d a b sc ord
  | .amoand d a b sc ord => encDxAxBxScOrd 0x100000F d a b sc ord
  | .amoor d a b sc ord => encDxAxBxScOrd 0x180000F d a b sc ord
  | .amoxor d a b sc ord => encDxAxBxScOrd 0x200000F d a b sc ord
  | .amomin d a b sc ord => encDxAxBxScOrd 0x280000F d a b sc ord
  | .amomax d a b sc ord => encDxAxBxScOrd 0x300000F d a b sc ord
  | .amominu d a b sc ord => encDxAxBxScOrd 0x380000F d a b sc ord
  | .amomaxu d a b sc ord => encDxAxBxScOrd 0x400000F d a b sc ord
  | .amocas d a b sc ord => encDxAxBxScOrd 0x480000F d a b sc ord
  | .amofxL d a b sc ord => encDxAxBxScOrd 0x500000F d a b sc ord
  | .amofxD d a b sc ord => encDxAxBxScOrd 0x580000F d a b sc ord
  | .amofxS d a b sc ord => encDxAxBxScOrd 0x600000F d a b sc ord
  | .fadd d a b fmt rm => encDxAxBxFmt2Rm 0x3B d a b fmt rm
  | .fsub d a b fmt rm => encDxAxBxFmt2Rm 0x1000003B d a b fmt rm
  | .fmul d a b fmt rm => encDxAxBxFmt2Rm 0x2000003B d a b fmt rm
  | .fdiv d a b fmt rm => encDxAxBxFmt2Rm 0x3000003B d a b fmt rm
  | .fsqrt d a fmt rm => encDxAxFmt2Rm 0x4000003B d a fmt rm
  | .fmin d a b fmt => encDxAxBxFmt2 0x5000003B d a b fmt
  | .fmax d a b fmt => encDxAxBxFmt2 0x6000003B d a b fmt
  | .feq d a b fmt => encDxAxBxFmt2 0x7000003B d a b fmt
  | .flt d a b fmt => encDxAxBxFmt2 0x8000003B d a b fmt
  | .fle d a b fmt => encDxAxBxFmt2 0x9000003B d a b fmt
  | .fclass d a fmt => encDxAxFmt2 0xA000003B d a fmt
  | .fcvtItFmt d a ty fmt rm => encDxAxTy5Fmt2Rm 0xB000003B d a ty fmt rm
  | .fcvtFmtIt d a ty fmt rm => encDxAxTy5Fmt2Rm 0xC000003B d a ty fmt rm
  | .fcvtFmtSf d a ty fmt rm => encDxAxTy5Fmt2Rm 0xD000003B d a ty fmt rm
  | .fmadd d a b c fmt => encDxAxBxCxFmt2 0x3F d a b c fmt
  | .fmsub d a b c fmt => encDxAxBxCxFmt2 0x4000003F d a b c fmt
  | .fnmsub d a b c fmt => encDxAxBxCxFmt2 0x8000003F d a b c fmt
  | .fnmadd d a b c fmt => encDxAxBxCxFmt2 0xC000003F d a b c fmt
  | .fence sc ord => encScOrd 0x43 sc ord
  | .mon a => encAx 0x800043 a
  | .mwait d a => encDxAx 0x1000043 d a
  | .barArrive d a sc ord => encDxAxScOrd 0x11800043 d a sc ord
  | .barWait a b sc => encAxBxSc 0xA000043 a b sc
  | .claim d a b sc ord => encDxAxBxScOrd 0x2800043 d a b sc ord
  | .yield => 0x3000043
  | .mfs d n => encDxN12 0x47 d n
  | .mts a n => encAxN12 0x40000047 a n
  | .tcall => 0x80000047
  | .brk => 0x80040047
  | .tret => 0x80080047
  | .stop => 0x4B
  | .spawn d a => encDxAx 0x80004B d a
  | .hstop d a => encDxAx 0x100004B d a
  | .gsusp d a b => encDxAxBx 0x180004B d a b
  | .qlease d a b => encDxAxBx 0x200004B d a b
  | .nop d a b => encDxAxBx 0x4F d a b
  | .prefR d a b => encDxAxBx 0x80004F d a b
  | .prefW d a b => encDxAxBx 0x100004F d a b
  | .cLd d a i => encCDmAmI5 0x2000 d a i
  | .cLw d a i => encCDmAmI5 0x4000 d a i
  | .cSd a b i => encCAmBmI5 0x6000 a b i
  | .cSw a b i => encCAmBmI5 0x8000 a b i
  | .cAddisp d i => encCDmI8 0xA000 d i
  | .cAddi d i => encCDxI6 0x1 d i
  | .cLi d i => encCDxI6 0x2001 d i
  | .cJ i => encCI11 0x4001 i
  | .cBeqz a i => encCAmI8 0x6001 a i
  | .cBnez a i => encCAmI8 0x8001 a i
  | .cMv d b => encCDxBx 0x2 d b
  | .cAdd d b => encCDxBx 0x2002 d b
  | .cJr a => encCAx 0x4002 a
  | .cJalr a => encCAx 0x6002 a
  | .cLdsp d i => encCDxI6 0x8002 d i
  | .cSdsp b i => encCBxI6 0xA002 b i
  | .vsetvl d a b => encDxAxBx 0x63 d a b
  | .vsetvlK d a b => encDxAxBx 0x800063 d a b
  | .vrows d a => encDxAx 0x1000063 d a
  | .vmvVX k m d b => encKMDvBx 0x67 k m d b
  | .vmvVI k m d i => encKMDvI6 0x10000067 k m d i
  | .vid k m d => encKMDv 0x20000067 k m d
  | .vmvVV k m d a => encKMDvAv 0x30000067 k m d a
  | .vshape k d a => encKDxAv 0x40000067 k d a
  | .vshapeU k d a => encKDxAv 0x50000067 k d a
  | .vshapeS k d a => encKDxAv 0x60000067 k d a
  | .vmat k a => encKAv 0x70000067 k a
  | .vmvXE k d a b => encKDxAvBx 0x80000067 k d a b
  | .vmergeVvm k d a b => encKDvAvBv 0x90000067 k d a b
  | .vmergeVxm k d a b => encKDvAvBx 0xA0000067 k d a b
  | .vmergeVim k d a i => encKDvAvI6 0xB0000067 k d a i
  | .vmand k d a b => encKDmAmBm 0x6B k d a b
  | .vmnand k d a b => encKDmAmBm 0x1000006B k d a b
  | .vmandn k d a b => encKDmAmBm 0x2000006B k d a b
  | .vmor k d a b => encKDmAmBm 0x3000006B k d a b
  | .vmnor k d a b => encKDmAmBm 0x4000006B k d a b
  | .vmorn k d a b => encKDmAmBm 0x5000006B k d a b
  | .vmxor k d a b => encKDmAmBm 0x6000006B k d a b
  | .vmxnor k d a b => encKDmAmBm 0x7000006B k d a b
  | .vmcpop k d a => encKDxAm 0x8000006B k d a
  | .vmfirst k d a => encKDxAm 0x9000006B k d a
  | .vmset k d => encKDm 0xA000006B k d
  | .vmclr k d => encKDm 0xB000006B k d
  | .vscfg k a st => encKAxSt 0x6F k a st
  | .vscfgr k a c st => encKAxCxSt 0x1000006F k a c st
  | .vcopy k a b st => encKAxBxSt 0x2000006F k a b st
  | .vcopyT k a b st => encKAxBxSt 0x3000006F k a b st
  | .vcopyAddl k a b st => encKAxBxSt 0x4000006F k a b st
  | .vcopyAddd k a b st => encKAxBxSt 0x5000006F k a b st
  | .vcopyAdds k a b st => encKAxBxSt 0x6000006F k a b st
  | .vchsend k a b st => encKAxBxSt 0x7000006F k a b st
  | .vchrecv k a st => encKAxSt 0x8000006F k a st
  | .vsend k a st => encKAvSt 0x9000006F k a st
  | .vsendEom k a st => encKAvSt 0xA000006F k a st
  | .veom k st => encKSt 0xB000006F k st
  | .vsget k d st i => encKDxStI6 0xC000006F k d st i
  | .vsidle k st => encKSt 0xD000006F k st
  | .kswage k a st => encKAxSt 0x73 k a st
  | .kpool k a st => encKAxSt 0x10000073 k a st
  | .ktongs k a st => encKAxSt 0x20000073 k a st
  | .seal k d a b => encKDxAxBx 0x40000073 k d a b
  | .unseal k d a b => encKDxAxBx 0x50000073 k d a b
  | .vld k m d st => encKMDvSt 0xEB k m d st
  | .vstO k m a st => encKMAvSt 0x100000EB k m a st
  | .vstU k m a st => encKMAvSt 0x200000EB k m a st
  | .vlx k m d a b => encKMDvAvBx 0xE7 k m d a b
  | .vsxO k m d a b => encKMDvAvBx 0x100000E7 k m d a b
  | .vsxU k m d a b => encKMDvAvBx 0x200000E7 k m d a b
  | .vamoswap k m d a sc ord un => encKMDvAvScOrdUn 0xEF k m d a sc ord un
  | .vamoadd k m d a sc ord un => encKMDvAvScOrdUn 0x100000EF k m d a sc ord un
  | .vamoand k m d a sc ord un => encKMDvAvScOrdUn 0x200000EF k m d a sc ord un
  | .vamoor k m d a sc ord un => encKMDvAvScOrdUn 0x300000EF k m d a sc ord un
  | .vamoxor k m d a sc ord un => encKMDvAvScOrdUn 0x400000EF k m d a sc ord un
  | .vamomin k m d a sc ord un => encKMDvAvScOrdUn 0x500000EF k m d a sc ord un
  | .vamomax k m d a sc ord un => encKMDvAvScOrdUn 0x600000EF k m d a sc ord un
  | .vamominu k m d a sc ord un => encKMDvAvScOrdUn 0x700000EF k m d a sc ord un
  | .vamomaxu k m d a sc ord un => encKMDvAvScOrdUn 0x800000EF k m d a sc ord un
  | .vamofxL k m d a sc ord un => encKMDvAvScOrdUn 0x900000EF k m d a sc ord un
  | .vamofxD k m d a sc ord un => encKMDvAvScOrdUn 0xA00000EF k m d a sc ord un
  | .vamofxS k m d a sc ord un => encKMDvAvScOrdUn 0xB00000EF k m d a sc ord un
  | .vaddVv k m d a b => encKMDvAvBv 0x83 k m d a b
  | .vaddVx k m d a b => encKMDvAvBx 0x87 k m d a b
  | .vaddVs k m d a st => encKMDvAvSt 0x8B k m d a st
  | .vaddVi k m d a i => encKMDvAvI6 0x8F k m d a i
  | .vsubVv k m d a b => encKMDvAvBv 0x10000083 k m d a b
  | .vsubVx k m d a b => encKMDvAvBx 0x10000087 k m d a b
  | .vsubVs k m d a st => encKMDvAvSt 0x1000008B k m d a st
  | .vsubVi k m d a i => encKMDvAvI6 0x1000008F k m d a i
  | .vrsubVv k m d a b => encKMDvAvBv 0x20000083 k m d a b
  | .vrsubVx k m d a b => encKMDvAvBx 0x20000087 k m d a b
  | .vrsubVs k m d a st => encKMDvAvSt 0x2000008B k m d a st
  | .vrsubVi k m d a i => encKMDvAvI6 0x2000008F k m d a i
  | .vandVv k m d a b => encKMDvAvBv 0x30000083 k m d a b
  | .vandVx k m d a b => encKMDvAvBx 0x30000087 k m d a b
  | .vandVs k m d a st => encKMDvAvSt 0x3000008B k m d a st
  | .vandVi k m d a i => encKMDvAvI6 0x3000008F k m d a i
  | .vorVv k m d a b => encKMDvAvBv 0x40000083 k m d a b
  | .vorVx k m d a b => encKMDvAvBx 0x40000087 k m d a b
  | .vorVs k m d a st => encKMDvAvSt 0x4000008B k m d a st
  | .vorVi k m d a i => encKMDvAvI6 0x4000008F k m d a i
  | .vxorVv k m d a b => encKMDvAvBv 0x50000083 k m d a b
  | .vxorVx k m d a b => encKMDvAvBx 0x50000087 k m d a b
  | .vxorVs k m d a st => encKMDvAvSt 0x5000008B k m d a st
  | .vxorVi k m d a i => encKMDvAvI6 0x5000008F k m d a i
  | .vsllVv k m d a b => encKMDvAvBv 0x60000083 k m d a b
  | .vsllVx k m d a b => encKMDvAvBx 0x60000087 k m d a b
  | .vsllVs k m d a st => encKMDvAvSt 0x6000008B k m d a st
  | .vsllVi k m d a i => encKMDvAvI6 0x6000008F k m d a i
  | .vsrlVv k m d a b => encKMDvAvBv 0x70000083 k m d a b
  | .vsrlVx k m d a b => encKMDvAvBx 0x70000087 k m d a b
  | .vsrlVs k m d a st => encKMDvAvSt 0x7000008B k m d a st
  | .vsrlVi k m d a i => encKMDvAvI6 0x7000008F k m d a i
  | .vsraVv k m d a b => encKMDvAvBv 0x80000083 k m d a b
  | .vsraVx k m d a b => encKMDvAvBx 0x80000087 k m d a b
  | .vsraVs k m d a st => encKMDvAvSt 0x8000008B k m d a st
  | .vsraVi k m d a i => encKMDvAvI6 0x8000008F k m d a i
  | .vmulVv k m d a b => encKMDvAvBv 0x90000083 k m d a b
  | .vmulVx k m d a b => encKMDvAvBx 0x90000087 k m d a b
  | .vmulVs k m d a st => encKMDvAvSt 0x9000008B k m d a st
  | .vmulVi k m d a i => encKMDvAvI6 0x9000008F k m d a i
  | .vmulhVv k m d a b => encKMDvAvBv 0xA0000083 k m d a b
  | .vmulhVx k m d a b => encKMDvAvBx 0xA0000087 k m d a b
  | .vmulhVs k m d a st => encKMDvAvSt 0xA000008B k m d a st
  | .vmulhVi k m d a i => encKMDvAvI6 0xA000008F k m d a i
  | .vmulhuVv k m d a b => encKMDvAvBv 0xB0000083 k m d a b
  | .vmulhuVx k m d a b => encKMDvAvBx 0xB0000087 k m d a b
  | .vmulhuVs k m d a st => encKMDvAvSt 0xB000008B k m d a st
  | .vmulhuVi k m d a i => encKMDvAvI6 0xB000008F k m d a i
  | .vminVv k m d a b => encKMDvAvBv 0xC0000083 k m d a b
  | .vminVx k m d a b => encKMDvAvBx 0xC0000087 k m d a b
  | .vminVs k m d a st => encKMDvAvSt 0xC000008B k m d a st
  | .vminVi k m d a i => encKMDvAvI6 0xC000008F k m d a i
  | .vmaxVv k m d a b => encKMDvAvBv 0xD0000083 k m d a b
  | .vmaxVx k m d a b => encKMDvAvBx 0xD0000087 k m d a b
  | .vmaxVs k m d a st => encKMDvAvSt 0xD000008B k m d a st
  | .vmaxVi k m d a i => encKMDvAvI6 0xD000008F k m d a i
  | .vminuVv k m d a b => encKMDvAvBv 0xE0000083 k m d a b
  | .vminuVx k m d a b => encKMDvAvBx 0xE0000087 k m d a b
  | .vminuVs k m d a st => encKMDvAvSt 0xE000008B k m d a st
  | .vminuVi k m d a i => encKMDvAvI6 0xE000008F k m d a i
  | .vmaxuVv k m d a b => encKMDvAvBv 0xF0000083 k m d a b
  | .vmaxuVx k m d a b => encKMDvAvBx 0xF0000087 k m d a b
  | .vmaxuVs k m d a st => encKMDvAvSt 0xF000008B k m d a st
  | .vmaxuVi k m d a i => encKMDvAvI6 0xF000008F k m d a i
  | .vsaddVv k m d a b => encKMDvAvBv 0x93 k m d a b
  | .vsaddVx k m d a b => encKMDvAvBx 0x97 k m d a b
  | .vsaddVs k m d a st => encKMDvAvSt 0x9B k m d a st
  | .vsaddVi k m d a i => encKMDvAvI6 0x9F k m d a i
  | .vsadduVv k m d a b => encKMDvAvBv 0x10000093 k m d a b
  | .vsadduVx k m d a b => encKMDvAvBx 0x10000097 k m d a b
  | .vsadduVs k m d a st => encKMDvAvSt 0x1000009B k m d a st
  | .vsadduVi k m d a i => encKMDvAvI6 0x1000009F k m d a i
  | .vssubVv k m d a b => encKMDvAvBv 0x20000093 k m d a b
  | .vssubVx k m d a b => encKMDvAvBx 0x20000097 k m d a b
  | .vssubVs k m d a st => encKMDvAvSt 0x2000009B k m d a st
  | .vssubVi k m d a i => encKMDvAvI6 0x2000009F k m d a i
  | .vssubuVv k m d a b => encKMDvAvBv 0x30000093 k m d a b
  | .vssubuVx k m d a b => encKMDvAvBx 0x30000097 k m d a b
  | .vssubuVs k m d a st => encKMDvAvSt 0x3000009B k m d a st
  | .vssubuVi k m d a i => encKMDvAvI6 0x3000009F k m d a i
  | .vaaddVv k m d a b => encKMDvAvBv 0x40000093 k m d a b
  | .vaaddVx k m d a b => encKMDvAvBx 0x40000097 k m d a b
  | .vaaddVs k m d a st => encKMDvAvSt 0x4000009B k m d a st
  | .vaaddVi k m d a i => encKMDvAvI6 0x4000009F k m d a i
  | .vaadduVv k m d a b => encKMDvAvBv 0x50000093 k m d a b
  | .vaadduVx k m d a b => encKMDvAvBx 0x50000097 k m d a b
  | .vaadduVs k m d a st => encKMDvAvSt 0x5000009B k m d a st
  | .vaadduVi k m d a i => encKMDvAvI6 0x5000009F k m d a i
  | .vsmulVv k m d a b => encKMDvAvBv 0x60000093 k m d a b
  | .vsmulVx k m d a b => encKMDvAvBx 0x60000097 k m d a b
  | .vsmulVs k m d a st => encKMDvAvSt 0x6000009B k m d a st
  | .vsmulVi k m d a i => encKMDvAvI6 0x6000009F k m d a i
  | .vssrlVv k m d a b => encKMDvAvBv 0x70000093 k m d a b
  | .vssrlVx k m d a b => encKMDvAvBx 0x70000097 k m d a b
  | .vssrlVs k m d a st => encKMDvAvSt 0x7000009B k m d a st
  | .vssrlVi k m d a i => encKMDvAvI6 0x7000009F k m d a i
  | .vssraVv k m d a b => encKMDvAvBv 0x80000093 k m d a b
  | .vssraVx k m d a b => encKMDvAvBx 0x80000097 k m d a b
  | .vssraVs k m d a st => encKMDvAvSt 0x8000009B k m d a st
  | .vssraVi k m d a i => encKMDvAvI6 0x8000009F k m d a i
  | .vwaddVv k m d a b => encKMDvAvBv 0x90000093 k m d a b
  | .vwaddVx k m d a b => encKMDvAvBx 0x90000097 k m d a b
  | .vwaddVs k m d a st => encKMDvAvSt 0x9000009B k m d a st
  | .vwaddVi k m d a i => encKMDvAvI6 0x9000009F k m d a i
  | .vwadduVv k m d a b => encKMDvAvBv 0xA0000093 k m d a b
  | .vwadduVx k m d a b => encKMDvAvBx 0xA0000097 k m d a b
  | .vwadduVs k m d a st => encKMDvAvSt 0xA000009B k m d a st
  | .vwadduVi k m d a i => encKMDvAvI6 0xA000009F k m d a i
  | .vwmulVv k m d a b => encKMDvAvBv 0xB0000093 k m d a b
  | .vwmulVx k m d a b => encKMDvAvBx 0xB0000097 k m d a b
  | .vwmulVs k m d a st => encKMDvAvSt 0xB000009B k m d a st
  | .vwmulVi k m d a i => encKMDvAvI6 0xB000009F k m d a i
  | .vwmuluVv k m d a b => encKMDvAvBv 0xC0000093 k m d a b
  | .vwmuluVx k m d a b => encKMDvAvBx 0xC0000097 k m d a b
  | .vwmuluVs k m d a st => encKMDvAvSt 0xC000009B k m d a st
  | .vwmuluVi k m d a i => encKMDvAvI6 0xC000009F k m d a i
  | .vnclipVv k m d a b => encKMDvAvBv 0xD0000093 k m d a b
  | .vnclipVx k m d a b => encKMDvAvBx 0xD0000097 k m d a b
  | .vnclipVs k m d a st => encKMDvAvSt 0xD000009B k m d a st
  | .vnclipVi k m d a i => encKMDvAvI6 0xD000009F k m d a i
  | .vnclipuVv k m d a b => encKMDvAvBv 0xE0000093 k m d a b
  | .vnclipuVx k m d a b => encKMDvAvBx 0xE0000097 k m d a b
  | .vnclipuVs k m d a st => encKMDvAvSt 0xE000009B k m d a st
  | .vnclipuVi k m d a i => encKMDvAvI6 0xE000009F k m d a i
  | .vfaddVv k m d a b => encKMDvAvBv 0xA3 k m d a b
  | .vfaddVx k m d a b => encKMDvAvBx 0xA7 k m d a b
  | .vfaddVs k m d a st => encKMDvAvSt 0xAB k m d a st
  | .vfsubVv k m d a b => encKMDvAvBv 0x100000A3 k m d a b
  | .vfsubVx k m d a b => encKMDvAvBx 0x100000A7 k m d a b
  | .vfsubVs k m d a st => encKMDvAvSt 0x100000AB k m d a st
  | .vfrsubVv k m d a b => encKMDvAvBv 0x200000A3 k m d a b
  | .vfrsubVx k m d a b => encKMDvAvBx 0x200000A7 k m d a b
  | .vfrsubVs k m d a st => encKMDvAvSt 0x200000AB k m d a st
  | .vfmulVv k m d a b => encKMDvAvBv 0x300000A3 k m d a b
  | .vfmulVx k m d a b => encKMDvAvBx 0x300000A7 k m d a b
  | .vfmulVs k m d a st => encKMDvAvSt 0x300000AB k m d a st
  | .vfdivVv k m d a b => encKMDvAvBv 0x400000A3 k m d a b
  | .vfdivVx k m d a b => encKMDvAvBx 0x400000A7 k m d a b
  | .vfdivVs k m d a st => encKMDvAvSt 0x400000AB k m d a st
  | .vfrdivVv k m d a b => encKMDvAvBv 0x500000A3 k m d a b
  | .vfrdivVx k m d a b => encKMDvAvBx 0x500000A7 k m d a b
  | .vfrdivVs k m d a st => encKMDvAvSt 0x500000AB k m d a st
  | .vfsqrt k m d a => encKMDvAv 0x600000A3 k m d a
  | .vfminVv k m d a b => encKMDvAvBv 0x700000A3 k m d a b
  | .vfminVx k m d a b => encKMDvAvBx 0x700000A7 k m d a b
  | .vfminVs k m d a st => encKMDvAvSt 0x700000AB k m d a st
  | .vfmaxVv k m d a b => encKMDvAvBv 0x800000A3 k m d a b
  | .vfmaxVx k m d a b => encKMDvAvBx 0x800000A7 k m d a b
  | .vfmaxVs k m d a st => encKMDvAvSt 0x800000AB k m d a st
  | .vfsgnjVv k m d a b => encKMDvAvBv 0x900000A3 k m d a b
  | .vfsgnjVx k m d a b => encKMDvAvBx 0x900000A7 k m d a b
  | .vfsgnjVs k m d a st => encKMDvAvSt 0x900000AB k m d a st
  | .vfsgnjnVv k m d a b => encKMDvAvBv 0xA00000A3 k m d a b
  | .vfsgnjnVx k m d a b => encKMDvAvBx 0xA00000A7 k m d a b
  | .vfsgnjnVs k m d a st => encKMDvAvSt 0xA00000AB k m d a st
  | .vfsgnjxVv k m d a b => encKMDvAvBv 0xB00000A3 k m d a b
  | .vfsgnjxVx k m d a b => encKMDvAvBx 0xB00000A7 k m d a b
  | .vfsgnjxVs k m d a st => encKMDvAvSt 0xB00000AB k m d a st
  | .vfclass k m d a => encKMDvAv 0xC00000A3 k m d a
  | .vfmaccVv k m d a b => encKMDvAvBv 0xB3 k m d a b
  | .vfmaccVx k m d a b => encKMDvAvBx 0xB7 k m d a b
  | .vfmaccVs k m d a st => encKMDvAvSt 0xBB k m d a st
  | .vfnmaccVv k m d a b => encKMDvAvBv 0x100000B3 k m d a b
  | .vfnmaccVx k m d a b => encKMDvAvBx 0x100000B7 k m d a b
  | .vfnmaccVs k m d a st => encKMDvAvSt 0x100000BB k m d a st
  | .vfmsacVv k m d a b => encKMDvAvBv 0x200000B3 k m d a b
  | .vfmsacVx k m d a b => encKMDvAvBx 0x200000B7 k m d a b
  | .vfmsacVs k m d a st => encKMDvAvSt 0x200000BB k m d a st
  | .vfnmsacVv k m d a b => encKMDvAvBv 0x300000B3 k m d a b
  | .vfnmsacVx k m d a b => encKMDvAvBx 0x300000B7 k m d a b
  | .vfnmsacVs k m d a st => encKMDvAvSt 0x300000BB k m d a st
  | .vfcvtFX k m d a => encKMDvAv 0x400000B3 k m d a
  | .vfcvtFXu k m d a => encKMDvAv 0x500000B3 k m d a
  | .vfcvtXF k m d a => encKMDvAv 0x600000B3 k m d a
  | .vfcvtXuF k m d a => encKMDvAv 0x700000B3 k m d a
  | .vfcvtFF k m d a i => encKMDvAvI3 0x800000BF k m d a i
  | .vfexp k m d a => encKMDvAv 0x900000B3 k m d a
  | .vfrec k m d a => encKMDvAv 0xA00000B3 k m d a
  | .vmseqVv k m d a b => encKMDmAvBv 0xC3 k m d a b
  | .vmseqVx k m d a b => encKMDmAvBx 0xC7 k m d a b
  | .vmseqVs k m d a st => encKMDmAvSt 0xCB k m d a st
  | .vmseqVi k m d a i => encKMDmAvI6 0xCF k m d a i
  | .vmsneVv k m d a b => encKMDmAvBv 0x100000C3 k m d a b
  | .vmsneVx k m d a b => encKMDmAvBx 0x100000C7 k m d a b
  | .vmsneVs k m d a st => encKMDmAvSt 0x100000CB k m d a st
  | .vmsneVi k m d a i => encKMDmAvI6 0x100000CF k m d a i
  | .vmsltVv k m d a b => encKMDmAvBv 0x200000C3 k m d a b
  | .vmsltVx k m d a b => encKMDmAvBx 0x200000C7 k m d a b
  | .vmsltVs k m d a st => encKMDmAvSt 0x200000CB k m d a st
  | .vmsltVi k m d a i => encKMDmAvI6 0x200000CF k m d a i
  | .vmsleVv k m d a b => encKMDmAvBv 0x300000C3 k m d a b
  | .vmsleVx k m d a b => encKMDmAvBx 0x300000C7 k m d a b
  | .vmsleVs k m d a st => encKMDmAvSt 0x300000CB k m d a st
  | .vmsleVi k m d a i => encKMDmAvI6 0x300000CF k m d a i
  | .vmsltuVv k m d a b => encKMDmAvBv 0x400000C3 k m d a b
  | .vmsltuVx k m d a b => encKMDmAvBx 0x400000C7 k m d a b
  | .vmsltuVs k m d a st => encKMDmAvSt 0x400000CB k m d a st
  | .vmsltuVi k m d a i => encKMDmAvI6 0x400000CF k m d a i
  | .vmsleuVv k m d a b => encKMDmAvBv 0x500000C3 k m d a b
  | .vmsleuVx k m d a b => encKMDmAvBx 0x500000C7 k m d a b
  | .vmsleuVs k m d a st => encKMDmAvSt 0x500000CB k m d a st
  | .vmsleuVi k m d a i => encKMDmAvI6 0x500000CF k m d a i
  | .vmsgtVv k m d a b => encKMDmAvBv 0x600000C3 k m d a b
  | .vmsgtVx k m d a b => encKMDmAvBx 0x600000C7 k m d a b
  | .vmsgtVs k m d a st => encKMDmAvSt 0x600000CB k m d a st
  | .vmsgtVi k m d a i => encKMDmAvI6 0x600000CF k m d a i
  | .vmsgtuVv k m d a b => encKMDmAvBv 0x700000C3 k m d a b
  | .vmsgtuVx k m d a b => encKMDmAvBx 0x700000C7 k m d a b
  | .vmsgtuVs k m d a st => encKMDmAvSt 0x700000CB k m d a st
  | .vmsgtuVi k m d a i => encKMDmAvI6 0x700000CF k m d a i
  | .vmfeqVv k m d a b => encKMDmAvBv 0x800000C3 k m d a b
  | .vmfeqVx k m d a b => encKMDmAvBx 0x800000C7 k m d a b
  | .vmfeqVs k m d a st => encKMDmAvSt 0x800000CB k m d a st
  | .vmfneVv k m d a b => encKMDmAvBv 0x900000C3 k m d a b
  | .vmfneVx k m d a b => encKMDmAvBx 0x900000C7 k m d a b
  | .vmfneVs k m d a st => encKMDmAvSt 0x900000CB k m d a st
  | .vmfltVv k m d a b => encKMDmAvBv 0xA00000C3 k m d a b
  | .vmfltVx k m d a b => encKMDmAvBx 0xA00000C7 k m d a b
  | .vmfltVs k m d a st => encKMDmAvSt 0xA00000CB k m d a st
  | .vmfleVv k m d a b => encKMDmAvBv 0xB00000C3 k m d a b
  | .vmfleVx k m d a b => encKMDmAvBx 0xB00000C7 k m d a b
  | .vmfleVs k m d a st => encKMDmAvSt 0xB00000CB k m d a st
  | .vmfgtVv k m d a b => encKMDmAvBv 0xC00000C3 k m d a b
  | .vmfgtVx k m d a b => encKMDmAvBx 0xC00000C7 k m d a b
  | .vmfgtVs k m d a st => encKMDmAvSt 0xC00000CB k m d a st
  | .vmfgeVv k m d a b => encKMDmAvBv 0xD00000C3 k m d a b
  | .vmfgeVx k m d a b => encKMDmAvBx 0xD00000C7 k m d a b
  | .vmfgeVs k m d a st => encKMDmAvSt 0xD00000CB k m d a st
  | .vredsum k m d a => encKMDvAv 0xD3 k m d a
  | .vredmax k m d a => encKMDvAv 0x100000D3 k m d a
  | .vredmin k m d a => encKMDvAv 0x200000D3 k m d a
  | .vredmaxu k m d a => encKMDvAv 0x300000D3 k m d a
  | .vredminu k m d a => encKMDvAv 0x400000D3 k m d a
  | .vredand k m d a => encKMDvAv 0x500000D3 k m d a
  | .vredor k m d a => encKMDvAv 0x600000D3 k m d a
  | .viota k d => encKDv 0x700000D3 k d
  | .vfredsum k m d a => encKMDvAv 0x800000D3 k m d a
  | .vfredmax k m d a => encKMDvAv 0x900000D3 k m d a
  | .vrgatherVv k d a b => encKDvAvBv 0xA00000D3 k d a b
  | .vrgatherVx k d a b => encKDvAvBx 0xA00000D7 k d a b
  | .vslideupVx k d a b => encKDvAvBx 0xB00000D7 k d a b
  | .vslideupVi k d a i => encKDvAvI6 0xB00000DF k d a i
  | .vslidedownVx k d a b => encKDvAvBx 0xC00000D7 k d a b
  | .vslidedownVi k d a i => encKDvAvI6 0xC00000DF k d a i
  | .vcompress k d a => encKDvAv 0xD00000D3 k d a
  | .vexpand k d a => encKDvAv 0xE00000D3 k d a
  | .vscanadd k m d a => encKMDvAv 0xF00000D3 k m d a
  | .vmm k m d a b ta tb => encPKMDvAvBvTaTb 0x77 k m d a b ta tb
  | .copr k c a b xo fmt => encPKCmAvBvXoxFmt3 0x10000077 k c a b xo fmt
  | .coprM k c a b fmt => encPKCmAxBxFmt3 0x20000077 k c a b fmt
  | .cmvBv k c a xo => encPKCmAvXox 0x30000077 k c a xo
  | .cmvVb k d c xo => encPKDvCmXox 0x40000077 k d c xo
  | .cld k c a b => encPKCmAxBx 0x50000077 k c a b
  | .cst k c a b => encPKCmAxBx 0x60000077 k c a b
  | .czero k c => encPKCm 0x70000077 k c
  | .ccvt k m d a vs ta tb out => encPKMDvAvVsvTaTbOut2 0x80000077 k m d a vs ta tb out
  | .bcfgWrite _ => 0
  | .reclaimWrite _ => 0
  | .mboxRead _ => 0
  | .tlbwcWrite _ => 0
  | .tlbinvWrite _ => 0
  | .tlbinvComplete _ => 0
  | .heatFlush _ => 0
  | .heatFlushComplete _ => 0
  | .codeGranuleVerify _ _ => 0
  | .convoyStart _ => 0
  | .streamTrim _ => 0
  | .convoyDrain _ => 0
  | .lanedeadline _ => 0
  | .reclaimDeadlineExpiry _ => 0
  | .resvExpiry _ => 0
  | .loadDataReturn _ _ => 0
  | .writePerform _ => 0
  | .fenceRetire _ => 0
  | .monitorWake _ => 0
  | .mwaitTimeout _ => 0
  | .barrierWake _ => 0
  | .roleChangeComplete _ => 0
  | .hartStopComplete _ => 0
  | .gangPlace _ => 0
  | .sliceExpiry _ => 0
  | .gangSuspendComplete _ _ => 0
  | .leaseExpiry _ => 0
  | .streamFetchAhead _ _ => 0
  | .copyStripRead _ _ => 0
  | .copyStripWrite _ _ => 0
  | .channelDeliver _ _ => 0
  | .kerbAccept _ _ => 0
  | .kerbUnitResult _ _ => 0
  | .kerbUnitResume _ _ => 0
  | .kerbComplete _ _ => 0
  | .sealComplete _ => 0
  | .unsealComplete _ => 0
  | .hostRead _ _ _ => 0
  | .hostWrite _ _ _ => 0
  | .tailWrite _ _ => 0
  | .launchRecordRead _ => 0
  | .launchAccept _ => 0
  | .launchComplete _ _ => 0
  | .goWrite => 0
  | .recovery => 0
  | .ckctlInterval _ => 0
  | .ckctlNow => 0
  | .checkpointPoint => 0
  | .checkpointDrainComplete => 0
  | .pcapreqWrite _ _ => 0
  | .pcapApply _ => 0
  | .updreqWrite _ => 0
  | .updateResult => 0
  | .attreqWrite _ => 0
  | .coldBoot => 0
  | .governorWindow _ _ _ => 0
  | .thermalEmergency _ _ _ => 0
  | .memoryRequestArrive _ _ => 0
  | .memoryRequestServe _ _ => 0
  | .refreshDue _ _ => 0
  | .refreshEnd _ _ => 0
  | .bankSetIdle _ _ => 0
  | .refctlTrace _ _ => 0
  | .refctlArm _ => 0
  | .refctlArmComplete _ => 0
  | .channelReqPdown _ _ => 0
  | .channelReqSref _ _ => 0
  | .channelReqActive _ => 0
  | .channelDeferredEntry _ => 0
  | .patrolScrub _ _ => 0
  | .poolTimeout _ => 0
  | .peerTimeout _ => 0
  | .peerRequest _ _ _ _ => 0
  | .flitRetransmit _ => 0
  | .portRetrainFail _ => 0
  | .lockstepMismatch _ => 0
  | .rollbackResume _ => 0
  | .illegalInstruction _ enc => enc.toNat
  | .hintOther fn b a d => encFn9BxAxDx 0x4F fn b a d
  | .relayComplete _ => 0
  | .kerbUnitGranuleRead _ _ => 0
  | .channelStateChangeComplete _ => 0
  | .bankAccessEnd _ _ => 0
  | .thermalEmergencyExpiry _ => 0

/-- The bytes of an instruction in memory, lowest address first (R7, R152). -/
def encodeBytes (i : Instr) : List Byte := natToBytes i.size (encode i)

end Sys2Proof
end

