-- ==== Sys2Proof/Machine/VConf.lean ====
section
/-! DEFINITION. Major VCONF (spec/08_vector_arithmetic.md R223-R225): granting a vector length (R67, R68, R77), relaying
registers into a new geometry (R78), and the tile height (R224). -/

namespace Sys2Proof.Machine

/-- The fields of VCFG as a status word (R67). -/
def VCfg.word (c : VCfg) : Word :=
  BitVec.ofNat 64 (c.nslot.toNat + c.sew.toNat * 2 ^ 2 + c.fmt.toNat * 2 ^ 12 + c.frm.toNat * 2 ^ 16 + c.vxrm.toNat * 2 ^ 19
    + 2 ^ 21 + boolN c.ill * 2 ^ 63)

/-- The configuration a word requests; bits 21 and 63 are not part of a request (R77). -/
def VCfg.request (w : Word) : VCfg :=
  { nslot := w.extractLsb' 0 2, sew := w.extractLsb' 2 7, fmt := w.extractLsb' 12 4, frm := w.extractLsb' 16 3,
    vxrm := w.extractLsb' 19 2, ill := false }

/-- The width of the format a FMT code names (R68). -/
def fmtWidth (code : Nat) : Nat := match Fmt.ofCode code with | some f => f.width | none => 0

/-- A request the hart may not have (R68), apart from being scalar-only. -/
def illegalRequest (w : Word) : Bool :=
  let c := VCfg.request w
  c.sew == 0 || decide (64 < c.sew.toNat) || decide (c.rps < c.sew.toNat) || decide (8 ≤ c.fmt.toNat)
    || (c.fmt != 0 && c.sew.toNat != fmtWidth c.fmt.toNat) || c.frm == 5 || c.frm == 6
    || bitsOf w.toNat 11 9 != 0 || bitsOf w.toNat 62 22 != 0

/-- A register relayed into a geometry with `cap` = VLMAX(EW) and `rps` rows of a slot (R78). -/
def VReg.relay (r : VReg) (cap rps : Nat) : VReg :=
  match r.shape with
  | .g es p =>
    if rps < r.ew then { r with shape := .u 0, extent := 0, bad := [] }
    else { r with shape := .g (es.take cap) p, extent := min r.extent cap, bad := r.bad.filter (· < cap) }
  | _ => { r with extent := min r.extent cap }

/-- A mask relayed: bits from the new VLMAX up are cleared (R78). -/
def Mask.relay (k : Mask) (cap : Nat) : Mask :=
  { bits := k.bits.take cap, ones := min k.ones cap, bad := k.bad.filter (· < cap) }

/-- Every general register and mask in the geometry of the hart's present partition and configuration (R78); masks at the SEW of that
configuration (log 104). -/
def Hart.relayRegs (h : Hart) : Hart :=
  { h with v := h.v.map fun r => r.relay (h.vlmaxAt r.ew) h.vs.cfg.rps, m := h.m.map fun k => k.relay (h.vlmaxAt h.sew), relay := true }

/-- The partition shrunk to the RQ lowest quartets (R77, R340). -/
def VState.shrink (v : VState) : VState := { v with qcount := v.rq, rq := 0 }

/-- A pending reclaim is served: the partition shrinks, and the registers are relayed under the configuration still in force (R77, R78). -/
def Hart.served (h : Hart) : Hart := ({ h with vs := h.vs.shrink, reclaimAt := none } : Hart).relayRegs

/-- The hart with a configuration requested; a change of NSLOT relays the registers (R77, R78). -/
def Hart.reslot (h : Hart) (req : VCfg) : Hart :=
  let t : Hart := { h with vs := { h.vs with cfg := req } }
  if req.nslot != h.vs.cfg.nslot then t.relayRegs else t

/-- The hart after a legal vsetvl (R77), which relays for a reclaim first and for NSLOT after it; `serve` when a pending reclaim is
served. -/
def Hart.configure (h : Hart) (req : VCfg) (avl : Nat) (serve : Bool) : Hart :=
  let h := (if serve then h.served else h).reslot req
  { h with vs := { h.vs with vl := min avl h.vlmax, vstart := 0 } }

/-- The hart after an illegal vsetvl (R68, R77). -/
def Hart.misconfigure (h : Hart) : Hart :=
  { h with vs := { h.vs with cfg := { h.vs.cfg with ill := true }, vl := 0, vstart := 0 } }

/-- Freed quartets that RESV holds for an incoming hart (R340, R474). -/
def State.reserve (s : State) (c : CoreId) (bits : BitVec 8) : State :=
  s.setCore c { s.core c with reserved := (s.core c).reserved ++ [(bits, s.cycle + 65536)] }

/-- vsetvl and vsetvl.k (R77, R223-R225). -/
def State.vsetvl (s : State) (d a b : Fin 32) (keep : Bool) : State :=
  let h := s.h
  let req := s.getX b
  if h.relay then s.stall
  else if h.scalarOnly || illegalRequest req then (s.setH h.misconfigure).write 4 d 0
  else
    let serve := h.vs.rq != 0 && !keep
    let h' := h.configure (VCfg.request req) (s.getX a).toNat serve
    let s := if serve && h.reclaimAt.any (·.resv) then
        let freed := quartetBits (h.vs.qfirst + h.vs.rq) (h.vs.qcount - h.vs.rq)
        let s := s.reserve (coreOf s.cur) freed
        if h.id.paired then s.reserve { coreOf s.cur with core := Fin.ofNat 192 (s.cur.core.val + 1) } freed else s
      else s
    (((s.setH h').spillDown s.cur 64).evictWays (coreOf s.cur)).write 4 d (BitVec.ofNat 64 h'.vs.vl)

/-- vsetvl: grants a vector length, serving a pending reclaim (R77 with KEEP = 0). -/
def execVsetvl (d a b : Fin 32) (s : State) : Out := .next (s.vsetvl d a b false)

/-- vsetvl.k: grants a vector length and keeps the partition (R77 with KEEP = 1). -/
def execVsetvlK (d a b : Fin 32) (s : State) : Out := .next (s.vsetvl d a b true)

/-- The largest of 1, 2, 4 and 8 not above a request; 1 for 0 (R224). -/
def rowsOf (n : Nat) : Nat := if 8 ≤ n then 8 else if 4 ≤ n then 4 else if 2 ≤ n then 2 else 1

/-- vrows: sets the tile height (R224); a hart that R68 stops traps ILLEGAL. -/
def execVrows (d a : Fin 32) (s : State) : Out :=
  .next (if s.h.relay then s.stall
    else if s.h.scalarOnly then s.illegal (encode (.vrows d a))
    else
      let r := rowsOf (s.getX a).toNat
      (s.setH { s.h with vs := { s.h.vs with rows := r } }).write 4 d (BitVec.ofNat 64 r))

/-- RELAY_COMPLETE: the relay steps a vsetvl started have ended (R225, R397). -/
def execRelayComplete (h : HartId) (s : State) : Out := .next (s.setHart h { s.hart h with relay := false })

end Sys2Proof.Machine
end

