-- ==== Sys2Proof/Machine/Status.lean ====
section
/-! DEFINITION. Status registers (spec/07_scalar_instructions.md R206-R213): their words, what a move to each writes, and the
privileged ones (spec/19_translation_and_protection.md R445-R461, R469, R474) with the steps they start. -/

namespace Sys2Proof.Machine

/-- HARTID (R38), GANGID and GANGSIZE are fields; PRIO (R41), LANES (R76), FFLAGS (R103). -/
def hartidWord (i : HartId) (h : Hart) : Word :=
  BitVec.ofNat 64 (i.slot.val + i.core.val * 2 ^ 3 + i.die.val * 2 ^ 11 + h.id.index.toNat * 2 ^ 16
    + h.id.moves.toNat * 2 ^ 27 + h.id.gen.toNat * 2 ^ 32)
@[inherit_doc hartidWord] def Hart.prioWord (h : Hart) : Word :=
  BitVec.ofNat 64 (h.id.prioCur.toNat + h.id.prioMax.toNat * 2 ^ 8)
@[inherit_doc hartidWord] def Hart.lanesWord (h : Hart) : Word :=
  BitVec.ofNat 64 (h.lanes + h.vs.qcount * 2 ^ 20 + h.vs.qfirst * 2 ^ 24 + h.vs.rq * 2 ^ 28)
@[inherit_doc hartidWord] def Hart.fflagsWord (h : Hart) : Word :=
  BitVec.ofNat 64 (h.vs.flags.toNat + h.vs.en.toNat * 2 ^ 8)

/-- The block index a BCFG.PAIR bit pairs `b` into. -/
def Hart.pairedBlock (h : Hart) (b : Fin 8) : Bool := h.pair.getLsbD (b.val / 2)

/-- BCFG.NZ (R286): a pair's elements are held in its even block. -/
def Hart.nz (h : Hart) : Nat :=
  ((List.range 8).map fun b =>
    let k := if h.pair.getLsbD (b / 2) then b / 2 * 2 else b
    boolN (!(h.blk.getD k []).isEmpty) * 2 ^ b).sum

/-- TVEC and FVEC, TSTATUS and FSTATUS (R329, R330, R445, R446). -/
def TrapRegs.vec (t : TrapRegs) : Word := BitVec.ofNat 64 (boolN t.en + t.base.toNat * 4)
@[inherit_doc TrapRegs.vec] def Hart.tstatus (h : Hart) : Word :=
  BitVec.ofNat 64 (boolN h.inh + boolN h.trap.conv * 2 ^ 3 + h.trap.member.toNat * 2 ^ 4 + boolN h.rwarn * 2 ^ 8)
@[inherit_doc TrapRegs.vec] def Hart.fstatus (h : Hart) : Word :=
  BitVec.ofNat 64 (boolN h.inf + boolN h.ppriv * 2 + boolN h.priv * 2 ^ 2 + boolN h.fw.conv * 2 ^ 3
    + h.fw.member.toNat * 2 ^ 4)

/-- A request as MBOX shows it (R456). -/
def Request.word (r : Request) : Word :=
  BitVec.ofNat 64 (1 + r.acc.code * 2 + r.slot.val * 2 ^ 3 + boolN r.engine * 2 ^ 6 + boolN r.prefetch * 2 ^ 7
    + r.tag * 2 ^ 8 + r.vpn * 2 ^ 16)

/-- LIMITS (R469). -/
def State.limits (s : State) (d : Fin 8) : Word :=
  BitVec.ofNat 64 ((s.die d).pcap.toNat + 540 * 2 ^ 16 + s.ecap.toNat * 2 ^ 32 + 2000 * 2 ^ 48)

/-- A privileged number, and one that exists only in slot 7 (R443, R445). -/
def statusDenied (n : Nat) (priv : Bool) (slot : Fin 8) : Bool :=
  (decide (0x800 ≤ n) && !priv) || (decide (0x810 ≤ n ∧ n ≤ 0x814) && slot != 7)

/-- The value of a status register (R207, R445); `none` where the number is unassigned. -/
def State.status (s : State) (n : Nat) : Option Word :=
  let h := s.h
  let c := s.core (coreOf s.cur)
  let d := s.die s.cur.die
  match n with
  | 0x000 => some (hartidWord s.cur h)
  | 0x001 => some h.id.gangId
  | 0x002 => some (h.id.gangSize.setWidth 64)
  | 0x003 => some h.prioWord
  | 0x008 => some h.lanesWord
  | 0x009 => some (s.lanecap (coreOf s.cur))
  | 0x010 => some (BitVec.ofNat 64 h.vs.vl)
  | 0x011 => some h.vs.cfg.word
  | 0x012 => some (BitVec.ofNat 64 h.vs.rows)
  | 0x013 => some (BitVec.ofNat 64 h.vs.vstart)
  | 0x014 => some (boolW h.vs.sat)
  | 0x015 => some (BitVec.ofNat 64 h.vlmax)
  | 0x018 => some h.fflagsWord
  | 0x019 => some (h.vs.frm.setWidth 64)
  | 0x020 => some (BitVec.ofNat 64 Config.tlen)
  | 0x021 => some (BitVec.ofNat 64 (h.pair.toNat + h.nz * 2 ^ 8))
  | 0x028 => some (d.capbase.setWidth 64)
  | 0x030 => some (BitVec.ofNat 64 s.cycle)
  | 0x031 => some h.instret
  | 0x032 => some h.latcnt
  | 0x040 => some (h.trap.cause.setWidth 64)
  | 0x041 => some h.trap.tval
  | 0x042 => some (h.trap.pc.setWidth 64)
  | 0x043 => some h.trap.vec
  | 0x044 => some h.tstatus
  | 0x800 => some (h.fw.cause.setWidth 64)
  | 0x801 => some h.fw.tval
  | 0x802 => some (h.fw.pc.setWidth 64)
  | 0x803 => some (h.fw.vec ||| 1)
  | 0x804 => some h.fstatus
  | 0x808 => some h.space
  | 0x809 => some h.spawnCtx
  | 0x810 => some (match c.mbox with | [] => 0 | r :: _ => r.word)
  | 0x811 => some c.mboxsp
  | 0x812 => some c.tlbw0
  | 0x813 => some c.tlbw1
  | 0x814 => some c.tlbwc
  | 0x815 => some d.tlbinv
  | 0x818 => some d.heat
  | 0x820 => some d.reclaim
  | 0x828 => some (s.limits s.cur.die)
  | _ => none

/-- Reading MBOX removes the oldest request and latches its space (R456). -/
def State.takeRequest (s : State) : State :=
  let c := s.core (coreOf s.cur)
  match c.mbox with
  | [] => s
  | r :: rs =>
    s.setCore (coreOf s.cur) { c with mbox := rs, outstanding := c.outstanding ++ [r], mboxsp := r.space }

/-- MBOX_READ: the translation request a read of MBOX returns (R456). -/
def execMboxRead (d : Fin 32) (s : State) : Out :=
  .next (let v := (s.status 0x810).getD 0; s.takeRequest.setX d v)

/-- mfs: xd := a status register (R206, R207). -/
def execMfs (d : Fin 32) (n : BitVec 12) (s : State) : Out :=
  .next (if statusDenied n.toNat s.h.priv s.cur.slot then s.illegal (encode (.mfs d n))
    else match s.status n.toNat with
      | none => s.illegal (encode (.mfs d n))
      | some v => (if n = 0x810 then s.takeRequest else s).write 4 d v)

/-- A write to BCFG: every block whose pairing changes becomes zero (R287). -/
def Hart.setPair (h : Hart) (p : BitVec 4) : Hart :=
  let changed := fun (b : Nat) => (h.pair ^^^ p).getLsbD (b / 2)
  { h with pair := p, blk := h.blk.mapFinIdx fun b x _ => if changed b then [] else x,
           blkBad := h.blkBad.mapFinIdx fun b x _ => if changed b then [] else x }

/-- The heat record of a TLB entry: its physical address, where the page has one (R462). -/
def Die.heatRecord (d : Die) (e : TlbEntry) : Option Nat :=
  if leafType e.w0 ≤ 1 then some (bitsOf d.heat.toNat 39 28 * 2 ^ 28 + 16 * bitsOf (leafPa e.level e.w0 0) 40 16) else none

/-- Adds `n` to a 4-byte field with saturation (R462). -/
def State.addSat32 (s : State) (pa n : Nat) : State :=
  if n = 0 then s else s.pokeNat pa 4 (min (s.peekNat pa 4 + n) (2 ^ 32 - 1))

/-- HEAT_WRITE_BACK: adds an entry's counts into its record; the caller zeroes them. A write-back the tables refuse is
counted (R462, R463, R497). -/
def State.heatWriteBack (s : State) (d : Fin 8) (e : TlbEntry) : State :=
  match (s.die d).heatRecord e with
  | none => s
  | some r =>
    if e.unit = 0 ∧ e.strided = 0 ∧ e.indexed = 0 then s
    else if !s.permits (s.targetOf r) 0x1203 .a || ((List.range 12).any fun k => s.frozen (r + k)) then s.bump d 0x78
    else ((s.addSat32 r e.unit).addSat32 (r + 4) e.strided).addSat32 (r + 8) e.indexed

/-- An entry with its counts zeroed. -/
def TlbEntry.cold (e : TlbEntry) : TlbEntry := { e with unit := 0, strided := 0, indexed := 0 }

/-- Drops the TLB entries a test picks out, after writing back their counts (R459, R462). -/
def State.dropTlb (s : State) (d : Fin 8) (p : TlbEntry → Bool) : State :=
  let s := ((s.die d).tlb.filter p).foldl (fun s e => s.heatWriteBack d e) s
  s.setDie d { s.die d with tlb := (s.die d).tlb.filter fun e => !p e }

/-- Puts an entry into the die TLB in place of one that covers the same granule; a full TLB evicts its oldest entry
(R454, R457; log 19). -/
def State.installTlb (s : State) (d : Fin 8) (e : TlbEntry) : State :=
  let s := s.dropTlb d fun o => o.verified == e.verified && (o.covers e.asid e.vpn || e.covers o.asid o.vpn)
  let s := (s.cores.filter fun p => p.1 / 192 == d.val).foldl (fun s p =>
    s.setCore { die := d, core := Fin.ofNat 192 p.1 } { p.2 with tlb := p.2.tlb.filter (· != e.tag) }) s
  let s := match (s.die d).tlb with
    | o :: rest => if 131071 ≤ rest.length then
        let s := s.heatWriteBack d o
        s.setDie d { s.die d with tlb := rest } else s
    | [] => s
  s.setDie d { s.die d with tlb := (s.die d).tlb ++ [e] }

/-- Whether a leaf is malformed at a level (R452). A word with LEAF = 0 is no leaf. -/
def leafMalformed (level : Nat) (w0 w1 : Word) : Bool :=
  let ty := leafType w0
  let far := ty == 3 || ty == 4
  level == 0 || !w0.getLsbD 1 || decide (5 ≤ ty)
    || bitsOf w0.toNat 47 16 * 65536 % 2 ^ (16 + levelBits level) != 0
    || bitsOf w0.toNat 13 10 != 0 || bitsOf w0.toNat 15 14 != 0 || (ty != 4 && bitsOf w0.toNat 63 48 != 0)
    || (ty != 4 && bitsOf w1.toNat 31 0 != 0) || (!far && bitsOf w1.toNat 50 32 != 0) || bitsOf w1.toNat 63 51 != 0
    || (far && (leafModule w1 == Config.thisModule || decide (409600 ≤ leafModule w1)))

/-- The write to TLBWC: it answers one request of the core (R457). -/
def State.answer457 (s : State) (v : Word) : State :=
  let c := s.core (coreOf s.cur)
  let tag := bitsOf v.toNat 7 0
  let level := bitsOf v.toNat 9 8
  let s := s.setCore (coreOf s.cur) { c with tlbwc := BitVec.ofNat 64 (trunc 10 v.toNat) }
  match (c.outstanding ++ c.mbox).find? (·.tag == tag) with
  | none => s
  | some r =>
    let c' := s.core (coreOf s.cur)
    let s := s.setCore (coreOf s.cur)
      { c' with outstanding := c'.outstanding.filter (·.tag != tag), mbox := c'.mbox.filter (·.tag != tag) }
    if level = 0 ∨ leafMalformed level c.tlbw0 c.tlbw1 ∨ !c.tlbw0.getLsbD 0 then
      if r.prefetch then s
      else
        let i : HartId := { s.cur with slot := r.slot }
        s.setHart i { s.hart i with xnone := some r.vpn }
    else
      s.installTlb s.cur.die
        { asid := spaceAsid r.space, level := level, vpn := r.vpn, w0 := c.tlbw0, w1 := c.tlbw1, verified := false,
          unit := 0, strided := 0, indexed := 0 }

/-- TLBWC_WRITE (R457). -/
def execTlbwcWrite (v : Word) (s : State) : Out := .next (s.answer457 v)

/-- The addresses of the page whose translation covers a VPN at a level. -/
def pageRange (level vpn : Nat) : Nat × Nat :=
  let n := 16 + levelBits level
  let lo := vpn * 65536 / 2 ^ n * 2 ^ n
  (lo, lo + 2 ^ n)

/-- A translation that a stream holds as an entry. -/
def heldEntry (asid vpn level : Nat) (w0 w1 : Word) : TlbEntry :=
  { asid := asid, level := level, vpn := vpn, w0 := w0, w1 := w1, verified := false, unit := 0, strided := 0, indexed := 0 }

/-- The translations that a stream of a hart holds, as entries (R94, R267). -/
def Hart.heldBy (h : Hart) (t : Stream) : List TlbEntry :=
  t.held.map fun (vpn, level, w0, w1) => heldEntry (spaceAsid h.space) vpn level w0 w1

/-- A hart whose load and store streams hold no translation that `hit` chooses (R459). -/
def Hart.dropHeld (h : Hart) (hit : TlbEntry → Bool) : Hart :=
  let out := fun (p : Nat × Nat × Word × Word) => hit (heldEntry (spaceAsid h.space) p.1 p.2.1 p.2.2.1 p.2.2.2)
  { h with stm := h.stm.map fun t => if t.mode ≤ 1 then { t with held := t.held.filter fun p => !out p } else t }

/-- The translations that a value of TLBINV names (R459). -/
def invHit (w : Nat) (e : TlbEntry) : Bool :=
  match bitsOf w 2 1 with
  | 0 => e.covers (bitsOf w 19 4) (bitsOf w 63 24)
  | 1 => e.asid == bitsOf w 19 4
  | _ => true

/-- The harts of a die. -/
def State.hartsOf (s : State) (d : Fin 8) : List Hart := (s.harts.filter fun p => p.1 / 1536 == d.val).map (·.2)

/-- The levels of the translations on a die that a value of TLBINV names: in its TLB, or held by a stream. -/
def State.invLevels (s : State) (d : Fin 8) (w : Nat) : List Nat :=
  (((s.die d).tlb ++ (s.hartsOf d).flatMap fun h => h.stm.toList.flatMap h.heldBy).filter (invHit w)).map (·.level)

/-- The write to TLBINV: the fields are stored, and the entries named are written back and dropped, by the die and by its load and
store streams (R459). KIND 3 is ignored. -/
def State.invalidate (s : State) (v : Word) : State :=
  let kind := bitsOf v.toNat 2 1
  let asid := bitsOf v.toNat 19 4
  let vpn := bitsOf v.toNat 63 24
  let hit := invHit v.toNat
  if kind = 3 then s
  else
    let level := (s.invLevels s.cur.die v.toNat).foldl min 3
    let range := if kind = 0 then pageRange level vpn else (0, 2 ^ 56)
    let s := s.dropTlb s.cur.die hit
    let s := { s with harts := s.harts.map fun (k, h) => (k, if k / 1536 == s.cur.die.val then Hart.dropHeld h hit else h) }
    s.setDie s.cur.die
      { s.die s.cur.die with
        tlbinv := BitVec.ofNat 64 (1 + kind * 2 + asid * 2 ^ 4 + vpn * 2 ^ 24), invRange := range }

/-- TLBINV_WRITE (R459): it waits while BUSY is 1. -/
def execTlbinvWrite (v : Word) (s : State) : Out :=
  .next (if (s.die s.cur.die).tlbinv.getLsbD 0 then s.stall else s.invalidate v)

/-- An incomplete copy, kerb command or seal of the die that probed an affected page (R459): copies and commands hold what they probed,
and a seal's pages are those of its buffer (log 105). -/
def State.invPending (s : State) (d : Fin 8) : Bool :=
  let w := (s.die d).tlbinv.toNat
  let (lo, hi) := (s.die d).invRange
  (s.hartsOf d).any fun h => h.ilock.any fun e =>
    match e.kind with
    | .send | .unseal => false
    | .seal => (bitsOf w 2 1 == 2 || spaceAsid h.space == bitsOf w 19 4) && overlaps e.rdlo (e.rdhi - e.rdlo) lo hi
    | _ => (h.heldBy h.stm[e.stream]).any (invHit w)

/-- TLBINV_COMPLETE: BUSY clears once every affected transfer has completed (R459). -/
def execTlbinvComplete (die : Fin 8) (s : State) : Out :=
  .next (if s.invPending die then s
    else s.setDie die { s.die die with tlbinv := (s.die die).tlbinv &&& ~~~1 })

/-- The write to HEAT (R461): with FLUSH = 1 every count held on the die is written back, at the BASE written. -/
def State.writeHeat (s : State) (v : Word) : State :=
  let d := s.cur.die
  let w := v &&& 0xFFF0000003
  if v.getLsbD 1 then
    let s := s.setDie d { s.die d with heat := w }
    let s := (s.die d).tlb.foldl (fun s e => s.heatWriteBack d e) s
    s.setDie d { s.die d with tlb := (s.die d).tlb.map TlbEntry.cold }
  else s.setDie d { s.die d with heat := w ||| ((s.die d).heat &&& 2) }

/-- HEAT_FLUSH: the write-backs a write of FLUSH starts (R461). -/
def execHeatFlush (v : Word) (s : State) : Out := .next (s.writeHeat v)

/-- HEAT_FLUSH_COMPLETE: FLUSH clears once every write-back has performed (R461). -/
def execHeatFlushComplete (die : Fin 8) (s : State) : Out :=
  .next (s.setDie die { s.die die with heat := (s.die die).heat &&& ~~~2 })

/-- The RES a write to RECLAIM gets (R474). -/
def State.reclaimResult (s : State) (v : Word) : Nat :=
  let core := bitsOf v.toNat 7 0
  let slot := bitsOf v.toNat 10 8
  let rq := bitsOf v.toNat 15 12
  let len := bitsOf v.toNat 63 40
  let h := s.hart { die := s.cur.die, core := Fin.ofNat 192 core, slot := Fin.ofNat 8 slot }
  if ¬(rq = 1 ∨ rq = 2 ∨ rq = 4) ∨ slot = 7 ∨ 192 ≤ core ∨ (1 ≤ len ∧ len ≤ 4095) then 2
  else if h.st = .empty ∨ h.st = .creating ∨ h.scalarOnly then 1
  else if h.vs.qcount ≤ rq then 2 else 0

/-- The write to RECLAIM: it marks a partition, keeping the first deadline of a pending mark and the lesser RQ (R339,
R474). -/
def State.markReclaim (s : State) (v : Word) : State :=
  let res := s.reclaimResult v
  let w : Word := (v &&& 0xFFFFFF000001F7FF) ||| BitVec.ofNat 64 (res * 2 ^ 17)
  let s := s.setDie s.cur.die { s.die s.cur.die with reclaim := w }
  if res ≠ 0 then s
  else
    let i : HartId := { die := s.cur.die, core := Fin.ofNat 192 (bitsOf v.toNat 7 0), slot := Fin.ofNat 8 (bitsOf v.toNat 10 8) }
    let h := s.hart i
    let rq := bitsOf v.toNat 15 12
    let len := if bitsOf v.toNat 63 40 = 0 then 65536 else bitsOf v.toNat 63 40
    match h.reclaimAt with
    | some r =>
      s.setHart i { h with vs := { h.vs with rq := min h.vs.rq rq }, reclaimAt := some { r with resv := r.resv || v.getLsbD 16 } }
    | none =>
      s.setHart i { h with vs := { h.vs with rq := rq },
                           reclaimAt := some { since := s.cycle, length := len, warned := false, resv := v.getLsbD 16 } }

/-- RECLAIM_WRITE (R474). -/
def execReclaimWrite (v : Word) (s : State) : Out := .next (s.markReclaim v)

/-- BCFG_WRITE (R287). -/
def execBcfgWrite (v : Word) (s : State) : Out := .next (s.setH (s.h.setPair (v.extractLsb' 0 4)))

/-- SPACE and SPAWNCTX with their reserved bits zero (R448). -/
def spaceMask : Word := 0xFFFFFFFFFFFFCFFF

/-- FFLAGS after a write: a 1 clears its flag, EN is written (R103). -/
def VState.writeFflags (v : VState) (w : Word) : VState :=
  { v with flags := v.flags &&& ~~~(w.extractLsb' 0 5), en := w.extractLsb' 8 5 }

/-- The trap registers of a level after a write of TVEC or FVEC (R329). -/
def TrapRegs.setVec (t : TrapRegs) (w : Word) (en : Bool) : TrapRegs := { t with base := w.extractLsb' 2 54, en := en }

/-- TPC and FPC: bit 0 reads 0 (R329). -/
def pcOf (w : Word) : BitVec 56 := evenPc (w.setWidth 56)

/-- TSTATUS after a write: RWARN, and at FIRMWARE INH, CONV and MEMBER (R330, R445). -/
def Hart.writeTstatus (h : Hart) (w : Word) : Hart :=
  let h := { h with rwarn := w.getLsbD 8 }
  if h.priv then { h with inh := w.getLsbD 0, trap := { h.trap with conv := w.getLsbD 3, member := w.extractLsb' 4 3 } } else h

/-- What a write to a status register does (R206-R211, R445): read-only fields ignore it (R11). -/
def State.writeStatus (s : State) (n : Nat) (w : Word) : State :=
  let h := s.h
  let vs := h.vs
  let c := s.core (coreOf s.cur)
  match n with
  | 0x003 => s.setH { h with id := { h.id with prioCur := if h.id.prioMax.toNat < bitsOf w.toNat 1 0 then h.id.prioMax
                                                          else w.extractLsb' 0 2 } }
  | 0x013 => s.setH { h with vs := { vs with vstart := bitsOf w.toNat 27 0 } }
  | 0x014 => s.setH { h with vs := { vs with sat := vs.sat && !w.getLsbD 0 } }
  | 0x018 => s.setH { h with vs := vs.writeFflags w }
  | 0x019 => s.setH { h with vs := { vs with frm := if bitsOf w.toNat 2 0 ≤ 4 then w.extractLsb' 0 3 else 0 } }
  | 0x021 => s.setH (h.setPair (w.extractLsb' 0 4))
  | 0x032 => s.setH { h with latcnt := w }
  | 0x040 => s.setH { h with trap := { h.trap with cause := w.extractLsb' 0 10 } }
  | 0x041 => s.setH { h with trap := { h.trap with tval := w } }
  | 0x042 => s.setH { h with trap := { h.trap with pc := pcOf w } }
  | 0x043 => s.setH { h with trap := h.trap.setVec w (w.getLsbD 0) }
  | 0x044 => s.setH (h.writeTstatus w)
  | 0x800 => s.setH { h with fw := { h.fw with cause := w.extractLsb' 0 10 } }
  | 0x801 => s.setH { h with fw := { h.fw with tval := w } }
  | 0x802 => s.setH { h with fw := { h.fw with pc := pcOf w } }
  | 0x803 => s.setH { h with fw := h.fw.setVec w h.fw.en }
  | 0x804 => s.setH { h with ppriv := w.getLsbD 1 }
  | 0x808 => s.setH { h with space := w &&& spaceMask }
  | 0x809 => s.setH { h with spawnCtx := w &&& spaceMask }
  | 0x811 => s.setCore (coreOf s.cur) { c with mboxsp := w &&& spaceMask }
  | 0x812 => s.setCore (coreOf s.cur) { c with tlbw0 := w }
  | 0x813 => s.setCore (coreOf s.cur) { c with tlbw1 := w }
  | 0x814 => s.answer457 w
  | 0x815 => s.invalidate w
  | 0x818 => s.writeHeat w
  | 0x820 => s.markReclaim w
  | 0x828 =>
    { s.setDie s.cur.die { s.die s.cur.die with pcap := BitVec.ofNat 16 (min (bitsOf w.toNat 15 0) 540) } with
      ecap := BitVec.ofNat 16 (min (bitsOf w.toNat 47 32) 2000) }
  | _ => s

/-- mts: a status register := xa under its access codes (R206-R208). A write to TLBINV waits while BUSY is 1 (R459). -/
def execMts (a : Fin 32) (n : BitVec 12) (s : State) : Out :=
  .next (if statusDenied n.toNat s.h.priv s.cur.slot || (s.status n.toNat).isNone then s.illegal (encode (.mts a n))
    else if n = 0x815 && (s.die s.cur.die).tlbinv.getLsbD 0 then s.stall
    else (s.writeStatus n.toNat (s.getX a)).retire 4)

/-- tcall: traps CALL with the restart after it (R213). -/
def execTcall (s : State) : Out := .next (s.takeTrap { cause := .call, acc := .read, tval := 0 } (s.h.pc + 4) false 0)

/-- break: traps BREAK with the restart after it (R213). -/
def execBrk (s : State) : Out := .next (s.takeTrap { cause := .brk, acc := .read, tval := 0 } (s.h.pc + 4) false 0)

/-- tret: returns from the firmware trap, or the user trap, being handled; ILLEGAL where none is (R213, R333, R447). -/
def execTret (s : State) : Out :=
  .next (match s.h.trapReturn with
    | none => s.illegal (encode .tret)
    | some h => s.setH { h with instret := if s.h.inf then h.instret else h.instret + 1 })

end Sys2Proof.Machine
end

