-- ==== Sys2Proof/Machine/Streams.lean ====
section
/-! DEFINITION. Stream registers (spec/09_vector_memory_and_motion.md): shape records and their checks (R251, R252), what a
configuring instruction loads (R254), what vsget reads (R255), which streams a member may consume, the trim (R257), the
elements a consumer takes and the advance of a stream (R258, R260, R274), and heat counts (R460). -/

namespace Sys2Proof.Machine

/-- A shape record (R251), with an EXTENT0 of 48 bits for the register form (R254). -/
structure Record where
  base : Nat
  ctrl : Nat
  ext : List Nat
  str : List Word
deriving DecidableEq, Repr

/-- The record in 64 bytes, read as one number (R251). -/
def Record.ofNat (w : Nat) : Record :=
  let at_ := fun (off n : Nat) => w / 2 ^ (8 * off) % 2 ^ (8 * n)
  { base := at_ 0 8, ctrl := at_ 8 8, ext := [at_ 16 4, at_ 20 4, at_ 24 4, at_ 28 4],
    str := [BitVec.ofNat 64 (at_ 32 8), BitVec.ofNat 64 (at_ 40 8), BitVec.ofNat 64 (at_ 48 8), BitVec.ofNat 64 (at_ 56 8)] }

/-- The operands of vscfgr as a record (R254): BASE, STRIDE0, and x(c + 1) with COUNT, WIDTH and MODE. -/
def Record.ofRegs (base stride w : Word) : Record :=
  { base := base.toNat, ctrl := bitsOf w.toNat 54 48 + bitsOf w.toNat 55 55 * 2 ^ 7 + bitsOf w.toNat 58 56 * 2 ^ 8
      + bitsOf w.toNat 63 59 * 2 ^ 11,
    ext := [bitsOf w.toNat 47 0, 0, 0, 0], str := [stride, 0, 0, 0] }

@[inherit_doc Record] def Record.width (r : Record) : Nat := bitsOf r.ctrl 6 0
@[inherit_doc Record] def Record.mode (r : Record) : Nat := bitsOf r.ctrl 10 8

/-- D of R250: one more than the highest index with a non-zero extent, at least 1. -/
def Record.dims (r : Record) : Nat :=
  if r.ext.getD 3 0 ≠ 0 then 4 else if r.ext.getD 2 0 ≠ 0 then 3 else if r.ext.getD 1 0 ≠ 0 then 2 else 1

/-- N of R250. -/
def Record.count (r : Record) : Nat := (r.ext.take r.dims).foldl (· * ·) 1

/-- BASE and the used strides, in the order they are checked. -/
def Record.aligned (r : Record) : List Word :=
  BitVec.ofNat 64 r.base :: r.str.take r.dims

/-- Checks 3 to 10 of R252, in order; `modes` are the modes the instruction accepts. -/
def Record.check (r : Record) (modes : List Nat) (enc : Nat) : Option Exc :=
  let w := r.width
  let d := r.dims
  if r.base / 2 ^ 56 ≠ 0 ∨ bitsOf r.ctrl 7 7 ≠ 0 ∨ r.ctrl / 2 ^ 11 ≠ 0 then some (illegalExc enc)
  else if !([1, 2, 4, 8, 16, 32, 64].contains w) then some (illegalExc enc)
  else if !(modes.contains r.mode) then some (illegalExc enc)
  else if ((r.ext.take d).drop 1).any (· == 0) then some (illegalExc enc)
  else if (r.str.drop d).any (· != 0) then some (illegalExc enc)
  else if 2 ^ 48 - 1 < r.count then some (illegalExc enc)
  else if w < 8 ∧ r.str.getD 0 0 ≠ 0 then some (illegalExc enc)
  else if 8 ≤ w then
    (r.aligned.find? fun x => x.toNat % (w / 8) != 0).map fun x => alignExc x .read
  else none

/-- A stream register configured from a record (R254): ACTIVE, or DONE where N is 0. -/
def Stream.ofRecord (r : Record) : Stream :=
  { Stream.idle with
    state := if r.count = 0 then .done else .active, base := BitVec.ofNat 64 (r.base % 2 ^ 56), extent := r.ext,
    stride := r.str, width := r.width, remain := r.count, mode := r.mode }

/-- The hart with one stream register changed. -/
def Hart.setSt (h : Hart) (st : Fin 16) (t : Stream) : Hart := { h with stm := h.stm.set st t }

/-- An incomplete interlock entry belongs to the stream register. -/
def Hart.entryOf (h : Hart) (st : Fin 16) : Bool :=
  h.ilock.any fun e => e.stream == st && e.kind != .seal && e.kind != .unseal

/-- The record at an address, read as a load (R252). -/
def State.readRecord (s : State) (va : Word) : Reply Nat :=
  match s.h.guard .read va.toNat 64 (s.readBytes s.cur va.toNat 64 .read) with
  | .ok bs => .ok (leNat bs)
  | .trap e => .trap e
  | .miss a c => .miss a c
  | .wait => .wait

/-- An error of the stream that no trap has reported (R271, R319). -/
def Stream.unreported (t : Stream) : Bool := t.state = .error && !t.rpt

/-- The error a use of the stream register reports (R271, R319). -/
def Hart.streamErr (h : Hart) (st : Fin 16) : Option Exc := if h.stm[st].unreported then h.stm[st].err else none

/-- A stream that a consumer of width `w` may name as a source (R229, R257, R258, R263, R269, R271). -/
def Stream.isSource (t : Stream) (w rows : Nat) : Bool :=
  t.state != .idle && !(t.state = .error && t.rpt) && t.width == w && (rows == 1 || t.mode == 0) &&
    (t.mode == 0 || (t.mode == 2 && t.tap) || (t.mode == 3 && !t.dir) || t.mode == 4)

/-- A stream that vst may write (R263). -/
def Stream.isSink (t : Stream) (w : Nat) : Bool :=
  t.state != .idle && !(t.state = .error && t.rpt) && t.width == w && t.mode == 1

/-- The channel a receive bind holds (R272). -/
def Stream.chan (t : Stream) : Fin 4 := Fin.ofNat 4 (bitsOf t.bind.toNat 1 0)

/-- AVAIL (R249, R257). -/
def Hart.avail (h : Hart) (t : Stream) : Nat :=
  match t.mode with
  | 0 => t.fetched - t.pos
  | 2 => if t.tap then (t.ready.headD []).length else 0
  | 3 => if t.dir then 0 else (h.chan[t.chan].entries.takeWhile Option.isSome).length
  | 4 => (t.ready.headD []).length
  | _ => 0

/-- The head of the stream's channel is END. -/
def Hart.endNext (h : Hart) (t : Stream) : Bool :=
  match h.chan[t.chan].entries with
  | none :: _ => true
  | _ => false

/-- One stream operand's step of the trim: the elements it can give of `need`, or none while it waits (R257). -/
def Hart.trimStep (h : Hart) (t : Stream) (need : Nat) : Option Nat :=
  match t.mode with
  | 0 | 1 => some (min need t.remain)
  | 2 => if 1 ≤ h.avail t ∨ t.remain = 0 then some (min need (h.avail t)) else none
  | 3 => if 1 ≤ h.avail t ∨ h.endNext t then some (min need (h.avail t)) else none
  | _ => if 1 ≤ h.avail t ∨ t.state = .done then some (min need (h.avail t)) else none

/-- The trim over the stream operands in member order (R257). -/
def Hart.trim (h : Hart) : List (Fin 16) → Nat → Option Nat
  | [], need => some need
  | st :: sts, need =>
    match h.trimStep h.stm[st] need with
    | none => none
    | some n => h.trim sts n

/-- STATUS (R249). -/
def Stream.status (t : Stream) : Word :=
  let code := match t.state with | .idle => 0 | .active => 1 | .done => 2 | .error => 3
  let snd := match t.send with | .none => 0 | .busy => 1 | .undeliverable => 2
  BitVec.ofNat 64 (code + boolN t.eom * 2 ^ 2 + boolN t.rpt * 2 ^ 3 + snd * 2 ^ 4 + boolN t.mark * 2 ^ 6 + boolN t.tap * 2 ^ 7
    + t.mode * 2 ^ 8 + t.width * 2 ^ 12 + boolN t.dir * 2 ^ 19)

/-- The field vsget reads (R255). -/
def Hart.streamField (h : Hart) (t : Stream) (sel : Nat) : Word :=
  match sel with
  | 0 => t.status
  | 1 => BitVec.ofNat 64 t.pos
  | 2 => BitVec.ofNat 64 t.remain
  | 3 => BitVec.ofNat 64 (h.avail t)
  | 4 => t.base
  | 5 => t.dbase
  | 6 => BitVec.ofNat 64 t.acc
  | 7 => t.bind
  | 8 | 9 | 10 | 11 => BitVec.ofNat 64 (t.extent.getD (sel - 8) 0)
  | _ => t.stride.getD (sel - 12) 0

/-- Which of the three heat counts an element adds to (R460). -/
inductive Heat where
  | unit | strided | indexed
deriving DecidableEq, Repr

/-- The count the elements of a load, store or copy-source stream add to (R460). -/
def Stream.heatKind (t : Stream) : Heat :=
  if t.extent.getD 1 0 = 0 ∧ t.extent.getD 2 0 = 0 ∧ t.extent.getD 3 0 = 0 ∧
      (t.width < 8 ∨ t.stride.getD 0 0 = BitVec.ofNat 64 (t.width / 8)) then .unit else .strided

/-- An entry with one count raised. -/
def TlbEntry.count (e : TlbEntry) (k : Heat) : TlbEntry :=
  match k with
  | .unit => { e with unit := e.unit + 1 }
  | .strided => { e with strided := e.strided + 1 }
  | .indexed => { e with indexed := e.indexed + 1 }

/-- A count of the entry is full (R460). -/
def TlbEntry.full (e : TlbEntry) (k : Heat) : Bool :=
  match k with
  | .unit => e.unit == 2 ^ 24 - 1
  | .strided => e.strided == 2 ^ 24 - 1
  | .indexed => e.indexed == 2 ^ 24 - 1

/-- A committed vector element at `va` adds to the heat counts of its page (R460, R461). -/
def State.addHeat (s : State) (i : HartId) (va : Nat) (k : Heat) : State :=
  let d := s.die i.die
  if !d.heat.getLsbD 0 then s
  else
    let hit : TlbEntry → Bool := fun e => !e.verified && e.covers (spaceAsid (s.hart i).space) (vpnOf va)
    match d.tlb.find? hit with
    | none => s
    | some e =>
      let s := if e.full k then s.heatWriteBack i.die e else s
      s.setDie i.die { s.die i.die with
        tlb := (s.die i.die).tlb.map fun o => if hit o then (if o.full k then o.cold.count k else o.count k) else o }

/-- A vector access reaches the scratchpad banks of its words (R32). -/
def State.reachBanks (s : State) (i : HartId) (ps : List (Target × Nat)) : State :=
  ps.foldl (fun s p => match p.1 with | .mem loc _ => s.atBanks i loc p.2 none | _ => s) s

/-- A vector access of `n` bytes at an address reaches the scratchpad banks of its words (R32). -/
def State.reachWords (s : State) (i : HartId) (va n : Nat) (acc : Acc) : State :=
  match s.pieces i va n acc with
  | .ok ps => s.reachBanks i ps
  | _ => s

/-- Where an access of an accepted transfer goes: by a translation the transfer holds (R267), checked only against seals and
verified granules (R323, R473). -/
def State.heldTarget (s : State) (i : HartId) (t : Stream) (va : Nat) (acc : Acc) : Reply Target :=
  match t.held.find? (·.1 == vpnOf va) with
  | some (_, level, w0, w1) =>
    let pa := leafPa level w0 va
    match leafType w0 with
    | 3 => .ok (.peer (leafModule w1) pa)
    | 4 => .ok (.sealed (leafModule w1) (leafVersion w0 w1) pa)
    | k => if (acc = .write || acc = .rmw) && s.frozen pa then denied va acc
           else .ok (.mem pa (if k = 0 then .normal else if k = 1 then .quarter else .pool))
  | none => s.translate i va acc

/-- The module with the translations that a stream of hart `i` holds among those of its die (R94). -/
def State.withHeld (s : State) (i : HartId) (t : Stream) : State :=
  if t.held = [] then s
  else
    let d := s.die i.die
    s.setDie i.die { d with tlb := d.tlb ++ (s.hart i).heldBy t }

/-- The pieces of an access to `n` bytes of a load or store stream's walk. -/
def State.streamPieces (s : State) (i : HartId) (t : Stream) (va n : Nat) (acc : Acc) : Reply (List (Target × Nat)) :=
  (s.withHeld i t).pieces i va n acc

/-- Translations of the granules of some addresses, put before those held already (R94, R267). -/
def State.holdPages (s : State) (i : HartId) (held : List (Nat × Nat × Word × Word)) : List Nat → List (Nat × Nat × Word × Word)
  | [] => held
  | va :: vas =>
    if held.any (·.1 == vpnOf va) then s.holdPages i held vas
    else
      match (s.die i.die).tlb.find? fun e => !e.verified && e.covers (spaceAsid (s.hart i).space) (vpnOf va) with
      | some e => s.holdPages i ((vpnOf va, e.level, e.w0, e.w1) :: held) vas
      | none => s.holdPages i held vas

/-- The page of an address: the leaf that the stream holds or the die has for it, by level and number, or else its granule (R450, R458). -/
def State.pageOf (s : State) (i : HartId) (t : Stream) (va : Nat) : Nat × Nat :=
  match (s.withHeld i t).pagedBy i va with
  | some e => (e.level, vpnOf va / 2 ^ levelBits e.level)
  | none => (3, vpnOf va)

/-- An element in each of the first pages along a walk from element `n`, as many as `more` beyond those in `seen`, within `k`
elements: their addresses. -/
def pagesFrom (addr : Nat → Nat) (page : Nat → Nat × Nat) : Nat → Nat → Nat → List (Nat × Nat) → List Nat
  | 0, _, _, _ => []
  | _ + 1, _, 0, _ => []
  | k + 1, n, more + 1, seen =>
    let p := page (addr n)
    if seen.contains p then pagesFrom addr page k (n + 1) (more + 1) seen
    else addr n :: pagesFrom addr page k (n + 1) more (p :: seen)

/-- A load or store stream of hart `i` holds the translations of its current page and its next two, as far as the die has them or
the stream held them (R94, R458). -/
def State.holdAhead (s : State) (i : HartId) (t : Stream) : Stream :=
  let pages := pagesFrom (fun n => (t.elemAddr n).1) (s.pageOf i t) (t.count - t.pos) t.pos 3 []
  { t with held := (s.withHeld i t).holdPages i [] pages }

/-- A walk of a stream goes on over elements `n` to `n + k - 1` of `count`: where it enters a page, its engine asks for the translation of
the page two ahead (R458). -/
def State.prefetch (s : State) (i : HartId) (t : Stream) (addr : Nat → Nat) (acc : Acc) (count : Nat) : Nat → Nat → State
  | 0, _ => s
  | k + 1, n =>
    let page := s.pageOf i t
    let s' :=
      if n ≠ 0 ∧ page (addr (n - 1)) = page (addr n) then s
      else
        match (pagesFrom addr page (count - n) n 3 [])[2]? with
        | some va => (match (s.withHeld i t).translate i va acc with | .miss va acc => s.request i va acc true true | _ => s)
        | none => s
    s'.prefetch i t addr acc count k (n + 1)

/-- The walk of a load or store stream goes on by `k` elements: it holds its pages, and asks for the one two ahead (R94, R458). -/
def State.walksOn (s : State) (i : HartId) (st : Fin 16) (k : Nat) : State :=
  let t := (s.hart i).stm[st]
  if 1 < t.mode then s
  else
    let n := if t.mode = 0 then max t.fetched t.pos else t.pos
    let s := s.setHart i ((s.hart i).setSt st (s.holdAhead i t))
    s.prefetch i t (fun n => (t.elemAddr n).1) (if t.mode = 0 then .read else .write) t.count (t.pos + k - n) n

/-- The value of element `n` of a load or copy-source walk (R250, R261). -/
def State.loadElem (s : State) (t : Stream) (n : Nat) : Reply Nat :=
  let (a, b) := t.elemAddr n
  let k := max 1 (t.width / 8)
  s.h.guard .read a k ((s.streamPieces s.cur t a k .read).bind fun ps =>
    (s.readPieces s.cur a .read ps).bind fun bs => .ok (leNat bs / 2 ^ b % 2 ^ t.width))

/-- The bytes of a `w`-bit element that lies at bit `b` of its first byte, and the bits of them it has (R96, R122). -/
def elemBytes (b w v : Nat) : List Byte × Byte :=
  if 8 ≤ w then (leBytes (w / 8) v, 0xFF) else ([BitVec.ofNat 8 (v % 2 ^ w * 2 ^ b)], BitVec.ofNat 8 ((2 ^ w - 1) * 2 ^ b))

/-- The write of element `n` of a store stream by the current hart (R122), with its heat count. -/
def State.storeElem (s : State) (t : Stream) (n v : Nat) : Reply State :=
  let (a, b) := t.elemAddr n
  let (bs, mask) := elemBytes b t.width v
  s.h.guard .write a bs.length ((s.streamPieces s.cur t a bs.length .write).bind fun ps =>
    s.writable s.cur ps (.ok (((s.writePieces s.cur a mask ps bs).addHeat s.cur a t.heatKind).reachBanks s.cur ps)))

/-- Element `k` that a consumer takes, counted from the first not yet consumed: a tapped copy, a channel or kerb results.
An element of another width than the bind's stops the consumer (R274). -/
def Hart.queued (h : Hart) (t : Stream) (k : Nat) : Except Exc Nat :=
  match t.mode with
  | 3 =>
    match h.chan[t.chan].entries.getD k none with
    | some (v, w) => if w = t.width then .ok v else .error { cause := .channel, acc := .read, tval := BitVec.ofNat 64 w }
    | none => .ok 0
  | _ => .ok ((t.ready.headD []).getD k 0)

/-- The transfer of the stream has completed: its entry is gone. -/
def Hart.quiet (h : Hart) (st : Fin 16) : Bool := !h.entryOf st

/-- A stream that is done where nothing remains and its transfer is complete (R249, R260, R314). -/
def Stream.settleState (t : Stream) (quiet : Bool) : Stream :=
  if t.state = .active ∧ t.remain = 0 ∧ quiet ∧ t.mode ≠ 3 then { t with state := .done } else t

/-- A queue of strips without its first `n` elements; an empty strip leaves it. -/
def dropReady (n : Nat) : List (List Nat) → List (List Nat)
  | [] => []
  | l :: ls => if l.length ≤ n then ls else l.drop n :: ls

/-- A tapped copy that is written and consumed to its end is complete: its entry goes (R136, R269). -/
def Hart.endTap (h : Hart) (st : Fin 16) : Hart :=
  let t := h.stm[st]
  if t.mode = 2 ∧ t.tap = true ∧ t.state = .active ∧ t.remain = 0 ∧ t.written = t.count then
    { h with ilock := h.ilock.filter fun e => !(e.stream == st && e.kind != .seal && e.kind != .unseal),
             stm := h.stm.set st ({ t with held := [] }.settleState true) }
  else h

/-- The stream after `n` of its elements are consumed (R260); an element of a channel is taken with an acquire read (R139); `whole`
when the convoy took all it had fixed (R274). -/
def Hart.consume (h : Hart) (st : Fin 16) (n : Nat) (whole : Bool) : Hart :=
  let t := h.stm[st]
  match t.mode with
  | 3 =>
    let es := h.chan[t.chan].entries.drop n
    let fin := whole && (match es with | none :: _ => true | _ => false)
    let h := if n = 0 then h else h.discardAhead
    { h.setSt st { t with pos := t.pos + n, eom := fin } with
      chan := h.chan.set t.chan { h.chan[t.chan] with entries := if fin then es.drop 1 else es } }
  | _ =>
    (h.setSt st ({ t with pos := t.pos + n, remain := t.remain - n,
                          ready := if n = 0 then t.ready else dropReady n t.ready }.settleState (h.quiet st))).endTap st

end Sys2Proof.Machine
end

