-- ==== Sys2Proof/Machine/Kerb.lean ====
section
/-! DEFINITION. Kerb commands (spec/11_memory_side_engines.md R301-R319) as computations: the command record and its checks
(R305-R307), swage scores (R310), pool bags (R311), and the selection of the Tongs (R312, R313). -/

namespace Sys2Proof.Machine

/-- A 64-byte command record by its eight words (R305). -/
structure Cmd where
  src : Nat
  ctrl : Nat
  count : Nat
  aux0 : Nat
  aux1 : Nat
  w5 : Nat
  w6 : Nat
  w7 : Nat
deriving DecidableEq, Repr

/-- The record in 64 bytes read as one number (R305). -/
def Cmd.ofNat (w : Nat) : Cmd :=
  let f := fun (k : Nat) => w / 2 ^ (64 * k) % 2 ^ 64
  { src := f 0, ctrl := f 1, count := f 2, aux0 := f 3, aux1 := f 4, w5 := f 5, w6 := f 6, w7 := f 7 }

/-- Fields of CTRL (R306). -/
def Cmd.fmt (c : Cmd) : Nat := bitsOf c.ctrl 7 4
@[inherit_doc Cmd.fmt] def Cmd.sel (c : Cmd) : Nat := bitsOf c.ctrl 9 8
@[inherit_doc Cmd.fmt] def Cmd.cmp (c : Cmd) : Nat := bitsOf c.ctrl 12 10
@[inherit_doc Cmd.fmt] def Cmd.smallest (c : Cmd) : Bool := bitAt c.ctrl 13
@[inherit_doc Cmd.fmt] def Cmd.out (c : Cmd) : Nat := bitsOf c.ctrl 15 14
@[inherit_doc Cmd.fmt] def Cmd.k (c : Cmd) : Nat := bitsOf c.ctrl 26 16
@[inherit_doc Cmd.fmt] def Cmd.indexBytes (c : Cmd) : Nat := if bitAt c.ctrl 27 then 8 else 4
@[inherit_doc Cmd.fmt] def Cmd.rb (c : Cmd) : Nat := bitsOf c.ctrl 35 32

/-- Bytes of one element (R306) of a command of a kind: 0 swage, 1 pool, 2 Tongs. -/
def Cmd.elemBytes (c : Cmd) (kind : Nat) : Nat :=
  match kind with
  | 0 => if c.fmt = 2 then 2 else 1
  | 1 => (match c.fmt with | 0 => 4 | 1 => 2 | 2 => 2 | 3 => 1 | 4 => 4 | _ => 1)
  | _ => (match c.fmt with | 0 => 1 | 1 => 2 | 2 => 4 | 3 => 1 | 4 => 2 | 5 => 4 | 6 => 2 | 7 => 2 | _ => 4)

/-- Bytes of one scanned item: an element of the Tongs, else a row (R306). -/
def Cmd.itemBytes (c : Cmd) (kind : Nat) : Nat := if kind = 2 then c.elemBytes 2 else 2 ^ c.rb

/-- D: elements of a row (R306). -/
def Cmd.d (c : Cmd) (kind : Nat) : Nat := c.itemBytes kind / c.elemBytes kind

/-- Bytes of the threshold patterns: FP32 scores, or the format (R305). -/
def Cmd.thrBytes (c : Cmd) (kind : Nat) : Nat := if kind = 0 then 4 else c.elemBytes 2

/-- Check 3 of R307: everything in the record is a code of R305 and R306. -/
def Cmd.legal (c : Cmd) (kind : Nat) : Bool :=
  let addr := fun (a : Nat) => decide (a < 2 ^ 56)
  let thr := fun (a : Nat) => decide (a < 2 ^ (8 * c.thrBytes kind))
  let sel := c.sel
  let common := bitsOf c.ctrl 3 0 == kind && addr c.src && decide (c.count ≤ 2 ^ 32) && bitsOf c.ctrl 31 28 == 0
    && bitsOf c.ctrl 63 36 == 0 && c.w7 == 0
  let selection := (sel == 1 || c.cmp == 0) && (sel == 2 || (!c.smallest && c.k == 0))
    && (sel != 2 || decide (1 ≤ c.k ∧ c.k ≤ 1024))
  let row := decide (6 ≤ c.rb ∧ c.rb ≤ 13)
  match kind with
  | 0 => common && decide (c.fmt ≤ 2) && decide (sel ≤ 2) && selection && c.out == 0 && !bitAt c.ctrl 27 && row
      && addr c.aux0 && c.aux1 == 0 && thr c.w5 && thr c.w6
  | 1 => common && decide (c.fmt ≤ 5) && sel == 0 && c.cmp == 0 && !c.smallest && c.k == 0 && row && addr c.aux0
      && addr c.aux1 && decide (c.w5 < 2 ^ 32) && decide (c.w6 ≤ 2 ^ 32)
  | _ => common && decide (c.fmt ≤ 8) && (sel == 1 || sel == 2) && selection && c.out == 0 && !bitAt c.ctrl 27 && c.rb == 0
      && c.aux0 == 0 && c.aux1 == 0 && thr c.w5 && thr c.w6

/-- Check 4 of R307: the first misaligned address. -/
def Cmd.misaligned (c : Cmd) (kind : Nat) : Option Nat :=
  if c.src % c.itemBytes kind ≠ 0 then some c.src
  else
    match kind with
    | 0 => if c.aux0 % c.elemBytes 0 ≠ 0 then some c.aux0 else none
    | 1 => if c.aux0 % c.indexBytes ≠ 0 then some c.aux0 else if c.aux1 % 4 ≠ 0 then some c.aux1 else none
    | _ => none

/-- Bytes of the auxiliary arrays, each an address and a length (R307). -/
def Cmd.arrays (c : Cmd) (kind : Nat) : List (Nat × Nat) :=
  match kind with
  | 0 => [(c.aux0, 2 ^ c.rb)]
  | 1 => [(c.aux0, c.w6 * c.indexBytes), (c.aux1, (c.w5 + 1) * 4)]
  | _ => []

/-- The WIDTH of the result stream (R309). -/
def Cmd.width (c : Cmd) (kind : Nat) : Nat :=
  match kind with
  | 0 => if c.sel = 0 then 32 else 64
  | 1 => (match c.out with | 0 => 64 | 1 => 32 | 2 => 64 | _ => 16)
  | _ => 64

/-- The result count is certain to be 0 (R308). -/
def Cmd.empty (c : Cmd) (kind : Nat) : Bool := if kind = 1 then c.w5 == 0 else c.count == 0

/-- A number cut into `n` items of `bytes` bytes, lowest first. -/
def cut (bytes : Nat) : Nat → Nat → List Nat
  | 0, _ => []
  | n + 1, w => w % 2 ^ (8 * bytes) :: cut bytes n (w / 2 ^ (8 * bytes))

/-- The value of an element of a swage (R310) and of a pool or Tongs command (R306). -/
def swageValue (fmt x : Nat) : FVal :=
  match fmt with
  | 0 => let i := sext x 8; .fin (decide (i < 0)) i.natAbs 0
  | 1 => Fmt.e4m3.value x
  | _ => Fmt.bf16.value x

/-- The FP32 score of a row (R310): a NaN, 0 x infinity or opposite infinities give the canonical NaN; an exact zero sum is
+0 unless every product is a zero of one sign, and +0 for integers. -/
def swageScore (fmt : Nat) (w q : List Nat) : Nat :=
  let ps := (w.zip q).map fun (a, b) => (swageValue fmt a).mul (swageValue fmt b)
  let s := (sumTerms .f32 .rne ps false).1
  if fmt = 0 ∧ trunc 31 s = 0 then 0 else s

/-- The cell an element of a pool row adds (R112, R311). -/
def poolCell (fmt x : Nat) : Nat :=
  match fmt with
  | 0 => fxOfFloat (Fmt.f32.value x)
  | 1 => fxOfFloat (Fmt.bf16.value x)
  | 2 => fxOfFloat (Fmt.f16.value x)
  | 3 => fxOfInt (sext x 8)
  | 4 => fxOfInt (sext x 32)
  | _ => fxOfFloat (Fmt.e4m3.value x)

/-- A cell as the result elements of OUT (R309, R111). -/
def poolOut (out cell : Nat) : List Nat :=
  match out with
  | 0 => [cell % 2 ^ 64, cell / 2 ^ 64]
  | 1 => [(fxRead .f32 cell).1]
  | 2 => [(fxRead .f64 cell).1]
  | _ => [(fxRead .bf16 cell).1]

/-- The floating format of a selection; none for an integer format (R306). -/
def selFmt (kind fmt : Nat) : Option Fmt :=
  if kind = 0 then some .f32
  else match fmt with | 6 => some .f16 | 7 => some .bf16 | 8 => some .f32 | _ => none

/-- The integer value of a Tongs element. -/
def selInt (fmt x : Nat) : Int :=
  match fmt with
  | 0 => sext x 8 | 1 => sext x 16 | 2 => sext x 32 | 3 => zext x 8 | 4 => zext x 16 | _ => zext x 32

/-- Whether an element meets the predicate (R312). -/
def selMatch (kind fmt cmp x lo hi : Nat) : Bool :=
  match selFmt kind fmt with
  | none =>
    let (v, l, u) := (selInt fmt x, selInt fmt lo, selInt fmt hi)
    match cmp with
    | 0 => v == l | 1 => v != l | 2 => decide (v < l) | 3 => decide (v ≤ l) | 4 => decide (l < v) | 5 => decide (l ≤ v)
    | 6 => decide (l ≤ v ∧ v ≤ u) | _ => !decide (l ≤ v ∧ v ≤ u)
  | some g =>
    let (v, l, u) := (g.value x, g.value lo, g.value hi)
    let le := fun (a b : FVal) => a.lt b || a.eq b
    match cmp with
    | 0 => v.eq l | 1 => !v.eq l | 2 => v.lt l | 3 => le v l | 4 => l.lt v | 5 => le l v
    | 6 => le l v && le v u
    | _ => !v.isNaN && !l.isNaN && !u.isNaN && !(le l v && le v u)

/-- A NaN element is not eligible for top-k (R313). -/
def selEligible (kind fmt x : Nat) : Bool :=
  match selFmt kind fmt with | none => true | some g => !(g.value x).isNaN

/-- `x` comes before `y` by value alone (R313). -/
def selBefore (kind fmt : Nat) (smallest : Bool) (x y : Nat) : Bool :=
  let lt := fun (a b : Nat) =>
    match selFmt kind fmt with
    | none => decide (selInt fmt a < selInt fmt b)
    | some g => (g.value a).lt (g.value b)
  if smallest then lt x y else lt y x

/-- Inserts a pair behind every pair that it does not precede: equal values keep the order of their indices (R313). -/
def topInsert (kind fmt : Nat) (smallest : Bool) (p : Nat × Nat) : List (Nat × Nat) → List (Nat × Nat)
  | [] => [p]
  | q :: qs => if selBefore kind fmt smallest p.2 q.2 then p :: q :: qs else q :: topInsert kind fmt smallest p qs

/-- The pairs (index, pattern) of a top-k scan in order (R313). -/
def topK (kind fmt : Nat) (smallest : Bool) (k : Nat) (es : List (Nat × Nat)) : List (Nat × Nat) :=
  ((es.filter fun e => selEligible kind fmt e.2).foldl (fun l e => (topInsert kind fmt smallest e l).take k) [])

/-- A pair as a result element (R309). -/
def pairElem (kind fmt : Nat) (p : Nat × Nat) : Nat :=
  p.1 % 2 ^ 32 * 2 ^ 32 + (if kind = 2 ∧ fmt ≤ 2 then pat 32 (selInt fmt p.2) else p.2 % 2 ^ 32)

/-- The rows that the bags of a pool command name, each with its bag, in the order of R311; and the bags whose cells an offset or an
index makes NANC. -/
def Cmd.bags (c : Cmd) (index offsets : List Nat) : List (Nat × Nat) × List Nat :=
  let rows := fun b =>
    let lo := offsets.getD b 0
    let hi := offsets.getD (b + 1) 0
    if hi < lo ∨ c.w6 < hi then none else some ((index.drop lo).take (hi - lo))
  ((List.range c.w5).flatMap fun b => ((rows b).getD []).filterMap fun r => if r < c.count then some (b, r) else none,
   (List.range c.w5).filter fun b => (rows b).all fun l => l.any fun r => decide (c.count ≤ r))

/-- One row added into the cells of a bag (R311). -/
def addRow (fmt : Nat) (cells row : List Nat) : List Nat := (cells.zip row).map fun (c, x) => fxAdd c (poolCell fmt x)

end Sys2Proof.Machine
end

