-- ==== Sys2Proof/Machine/Members.lean ====
section
/-! DEFINITION. What a convoy-class instruction names, and the checks made as it joins its convoy
(spec/06_instruction_words.md R165, R166; R68, R73, R227, R230, R281, R288, R300, R307, R322, R324). -/

namespace Sys2Proof.Machine

/-- What a member names: the v registers it reads and writes with their widths, masks, stream, block, and the causes of
ILLEGAL that its entry gives it. -/
structure Info where
  reads : List (Nat × Nat)
  writes : List (Nat × Nat)
  maskR : List Nat
  maskW : List Nat
  /-- Registers named besides: by vshape and vmat. -/
  named : List Nat
  st : Option (Fin 16)
  /-- The stream is consumed by the member (R257). -/
  consumes : Bool
  blk : Option (Fin 8)
  crucible : Bool
  /-- The member closes its convoy (R164). -/
  closes : Bool
  /-- It reads or writes a v register, a mask or VL: stopped by VCFG.ILL, and in a scalar-only hart (R68). -/
  vec : Bool
  /-- Its operands suit its entry. -/
  ok : Bool
deriving DecidableEq, Repr

/-- A member that names nothing. -/
def Info.none : Info :=
  { reads := [], writes := [], maskR := [], maskW := [], named := [], st := Option.none, consumes := false, blk := Option.none,
    crucible := false, closes := false, vec := false, ok := true }

/-- The registers of a group, each at a width (R73). -/
def groupOf (rows base w : Nat) : List (Nat × Nat) := (List.range rows).map fun j => (base + j, w)

/-- Widths a member may use at the vector length in force (R227). -/
def Hart.widthsOk (h : Hart) (ws : List Nat) : Bool := ws.all fun w => decide (w ≤ 64) && decide (h.vs.vl ≤ h.vlmaxAt w)

/-- Bases aligned to the tile height (R73). -/
def Hart.basesOk (h : Hart) (bs : List Nat) : Bool := bs.all fun b => b % h.vs.rows == 0

/-- The v register reads, and the stream, of a third operand at width `w`. -/
def Src.reads (b : Src) (rows w : Nat) : List (Nat × Nat) := match b with | .v r => groupOf rows r.val w | _ => []
@[inherit_doc Src.reads] def Src.base (b : Src) : List Nat := match b with | .v r => [r.val] | _ => []
@[inherit_doc Src.reads] def Src.stream (b : Src) : Option (Fin 16) := match b with | .st r => some r | _ => none

/-- A stream operand that may be consumed at width `w`; other operands need nothing. -/
def Src.ok (b : Src) (h : Hart) (w : Nat) : Bool := match b with | .st r => h.stm[r].isSource w h.vs.rows | _ => true

/-- A send-bound stream (R273). -/
def Stream.sendBound (t : Stream) : Bool := t.mode == 3 && t.dir && t.state != .idle

/-- An index or address operand's width: at least 32 (R264, R275). -/
def indexWidth (w : Nat) : Nat := max w 32

/-- The rows of a block move, and whether they are legal (R291). -/
def moveRows (xo : Word) : Nat × Nat :=
  let i0 := bitsOf xo.toNat 39 32
  let nr := bitsOf xo.toNat 47 40
  (i0, if nr = 0 then Config.tlen - i0 else nr)
@[inherit_doc moveRows] def moveOk (xo : Word) : Bool :=
  decide ((moveRows xo).1 < Config.tlen ∧ (moveRows xo).1 + (moveRows xo).2 ≤ Config.tlen)

/-- A block that a Crucible member may name: not the odd half of a pair (R288). -/
def Hart.blockOk (h : Hart) (c : Fin 8) : Bool := !(h.wideBlock c.val && c.val % 2 == 1)

/-- What a member names in a hart's configuration. -/
def MOp.info (op : MOp) (h : Hart) (masked : Bool) : Info :=
  let w := h.sew
  let n := h.vs.rows
  let fmt := h.vs.cfg.fmt.toNat
  let m0 := if masked then [0] else []
  let v : Info := { Info.none with vec := true }
  match op with
  | .ew f d a b =>
    let (wa, wb, wd) := f.widths w
    let ra := if f.noA then [] else groupOf n a.val wa
    let rb := if f.unary then [] else b.reads n wb
    { v with
      reads := ra ++ rb ++ (if f.fused then groupOf n d.val wd else []), writes := groupOf n d.val wd,
      maskR := if f = .merge then [0] else m0, st := b.stream, consumes := b.stream.isSome,
      ok := h.widthsOk ([wd] ++ (if f.noA then [] else [wa]) ++ (if f.unary then [] else [wb]))
        && h.basesOk ([d.val] ++ (if f.noA then [] else [a.val]) ++ (if f.unary then [] else b.base)) && f.permits fmt
        && (f.noA || a != d || wa == wd) && (f.unary || b != .v d || wb == wd) && b.ok h wb }
  | .cmp f d a b =>
    { v with
      reads := groupOf n a.val w ++ b.reads n w, maskR := m0, maskW := (List.range n).map (d.val + ·), st := b.stream,
      consumes := b.stream.isSome,
      ok := h.widthsOk [w] && h.basesOk ([d.val, a.val] ++ b.base) && f.permits fmt && b.ok h w }
  | .mask f d a b => { v with maskR := if f = .set || f = .clr then [] else [a.val, b.val], maskW := [d.val] }
  | .mcpop _ a | .mfirst _ a => { v with maskR := [a.val], closes := true }
  | .shape _ a | .shapeU _ a | .shapeS _ a => { Info.none with named := [a.val], closes := true }
  | .mat a => { v with named := [a.val] }
  | .elem _ a _ => { v with reads := groupOf n a.val w, closes := true, ok := h.widthsOk [w] && h.basesOk [a.val] }
  | .scfg _ st => { Info.none with st := some st }
  | .scfgr _ c st => { Info.none with st := some st, ok := decide (1 ≤ c.val ∧ c.val ≤ 30) }
  | .copy _ _ _ st | .chsend _ _ st | .chrecv _ st | .sidle st | .kerb _ _ st _ => { Info.none with st := some st }
  | .send a _ st =>
    let t := h.stm[st]
    { v with reads := groupOf n a.val t.width, st := some st,
             ok := t.sendBound && h.widthsOk [t.width] && h.basesOk [a.val] }
  | .eom st => { Info.none with st := some st, ok := h.stm[st].sendBound }
  | .sget _ st _ => { Info.none with st := some st, closes := true }
  | .seal _ _ _ | .unseal _ _ _ => { Info.none with closes := true }
  | .load d st =>
    { v with writes := groupOf n d.val w, maskR := m0, st := some st, consumes := true,
             ok := n == 1 && h.stm[st].isSource w n && h.widthsOk [w] }
  | .store _ a st =>
    { v with reads := groupOf n a.val w, maskR := m0, st := some st, consumes := true,
             ok := n == 1 && h.stm[st].isSink w && h.widthsOk [w] }
  | .gather d a _ =>
    let wa := indexWidth w
    { v with reads := groupOf n a.val wa, writes := groupOf n d.val w, maskR := m0,
             ok := [8, 16, 32, 64].contains w && h.widthsOk [w, wa] && h.basesOk [d.val, a.val] && (a != d || wa == w) }
  | .scatter _ d a _ =>
    let wa := indexWidth w
    { v with reads := groupOf n d.val w ++ groupOf n a.val wa, maskR := m0,
             ok := [8, 16, 32, 64].contains w && h.widthsOk [w, wa] && h.basesOk [d.val, a.val] }
  | .amo f d a _ _ =>
    let wide := match f with | .fxL | .fxD => [64] | .fxS => [32] | _ => [32, 64]
    { v with reads := groupOf n a.val 64 ++ groupOf n d.val w, writes := groupOf n d.val w, maskR := m0,
             ok := wide.contains w && h.widthsOk [w, 64] && h.basesOk [d.val, a.val] && (a != d || w == 64) }
  | .xr f d a b =>
    let wi := if f.indexed then indexWidth w else w
    { v with reads := (if f.readsA then groupOf n a.val w else []) ++ b.reads n wi, writes := groupOf n d.val w,
             maskR := if f.readsM0 then [0] else m0, closes := true,
             ok := h.widthsOk [w] && (b.base.isEmpty || h.widthsOk [wi])
               && h.basesOk ([d.val] ++ (if f.readsA then [a.val] else []) ++ b.base) && f.permits fmt }
  | .vmm d a b ta tb =>
    let dest := groupOf n d.val 64
    let bs := groupOf 8 b.val (itWidth tb)
    { v with reads := (a.val, itWidth ta) :: bs ++ dest, writes := dest, maskR := m0,
             ok := w == 64 && h.basesOk [d.val] && b.val % 8 == 0 && h.widthsOk [64, itWidth tb]
               && dest.all fun r => r.1 != a.val && !(decide (b.val ≤ r.1 ∧ r.1 < b.val + 8)) }
  | .copr c a b _ f =>
    let wo := (opFmt f).width
    { v with reads := [(a.val, wo), (b.val, wo)], blk := some c, crucible := true,
             ok := h.blockOk c && opWide f == h.wideBlock c.val }
  | .coprM c _ _ f => { Info.none with blk := some c, crucible := true, ok := h.blockOk c && opWide f == h.wideBlock c.val }
  | .cmvBv c a xo =>
    { v with reads := [(a.val, h.blockWidth c.val)], blk := some c, crucible := true,
             ok := h.blockOk c && moveOk (h.getX xo) }
  | .cmvVb d c xo =>
    { v with writes := [(d.val, h.blockWidth c.val)], blk := some c, crucible := true,
             ok := h.blockOk c && moveOk (h.getX xo) }
  | .cld c _ _ | .cst c _ _ | .czero c => { Info.none with blk := some c, crucible := true, ok := h.blockOk c }
  | .ccvt d a vs _ _ out =>
    let wd := (ccvtFmt out).width
    let dest := groupOf n d.val wd
    { v with
      reads := groupOf n a.val 64 ++ (if out.toNat ≤ 1 then [(vs.val, 8)] else []),
      writes := dest ++ (if out.toNat ≤ 1 then [] else [(vs.val, 8)]), maskR := m0, crucible := true,
      ok := w == 64 && h.basesOk [d.val, a.val] && h.widthsOk [64, wd] && a != d && dest.all fun r => r.1 != vs.val }

/-- A member of the kind vshape, which runs while VCFG.ILL is 1 but not in a scalar-only hart (R68, R233). -/
def MOp.isShape (op : MOp) : Bool := match op with | .shape _ _ | .shapeU _ _ | .shapeS _ _ => true | _ => false

/-- ILLEGAL at check 2 of R166. The Lamplighter's slot holds no stream registers, vector state or blocks (R20; log 20). -/
def Member.illegal (m : Member) (h : Hart) (slot : Fin 8) : Bool :=
  let i := m.op.info h m.masked
  slot == 7 || (i.vec && (h.vs.cfg.ill || h.scalarOnly)) || (m.op.isShape && h.scalarOnly) || !i.ok

/-- TYPEPAIR at check 3 of R166 (R283). -/
def MOp.badPair (op : MOp) : Bool :=
  match op with
  | .vmm _ _ _ ta tb | .ccvt _ _ _ ta tb _ => !pairOk ta tb
  | _ => false

/-- ccvt of OUT 2 or 3, which stands alone (R300). -/
def MOp.alone (op : MOp) : Bool := match op with | .ccvt _ _ _ _ _ out => decide (2 ≤ out.toNat) | _ => false

/-- Registers that cmv.vb writes (R294), and the A operand of vmm (R281). -/
def MOp.moved (op : MOp) : List Nat := match op with | .cmvVb d _ _ => [d.val] | _ => []
@[inherit_doc MOp.moved] def MOp.aOperand (op : MOp) : List Nat := match op with | .vmm _ a _ _ _ => [a.val] | _ => []

/-- Two lists share an element. -/
def meets (a b : List Nat) : Bool := a.any b.contains

/-- The earlier member `p` and the joining member `q` conflict (R165, R230, R281, R294, R300). -/
def conflict (h : Hart) (p q : Member) : Bool :=
  let i := p.op.info h p.masked
  let j := q.op.info h q.masked
  let regs := fun (l : List (Nat × Nat)) => l.map (·.1)
  let differ := fun (a b : List (Nat × Nat)) => a.any fun x => b.any fun y => x.1 == y.1 && x.2 != y.2
  meets (regs i.writes) (regs j.writes) || meets i.maskW j.maskW || (i.st.isSome && i.st == j.st)
    || (i.crucible && j.crucible) || differ i.writes (j.reads ++ j.writes) || differ i.reads j.writes
    || meets p.op.moved (regs j.reads) || meets q.op.aOperand (regs i.writes) || p.op.alone || q.op.alone

/-- The joining member makes a conflict with the members so far: also a third stream operand (R165). -/
def conflicts (h : Hart) (ps : List Member) (q : Member) : Bool :=
  ps.any (conflict h · q)
    || ((q.op.info h q.masked).st.isSome && decide (2 ≤ (ps.filter fun p => (p.op.info h p.masked).st.isSome).length))

/-- ILLEGAL, TYPEPAIR and CONVOY carry the encoding (R166). -/
def encExc (c : Cause) (enc : Nat) : Exc := { cause := c, acc := .read, tval := BitVec.ofNat 64 enc }

/-- Checks 1 to 4 of a kerb command: its record is read (R307). -/
def State.kerbRecord (s : State) (kind : Nat) (xa : Word) (enc : Nat) : Reply Nat :=
  if xa.toNat % 64 ≠ 0 then .trap (alignExc xa .read)
  else
    match s.readRecord xa with
    | .ok w =>
      let c := Cmd.ofNat w
      if !c.legal kind then .trap (illegalExc enc)
      else
        match c.misaligned kind with
        | some a => .trap (alignExc (BitVec.ofNat 64 a) .read)
        | none => .ok w
    | r => r

/-- The leaf that lets the hart write the page at `va` for seal, where it has one; sealed bytes are no obstacle here (R322). A window
operand traps (R31, R446): in the launch window what is mapped there is not NORMAL memory that page tables let the hart write, and the
rest of it is untranslated (R509). -/
def State.sealLeaf (s : State) (i : HartId) (a : Nat) : Reply TlbEntry :=
  let h := s.hart i
  let va := a % 2 ^ 56
  if 0xFFFE ≤ va / 2 ^ 40 then denied va .write
  else if va / 2 ^ 48 = 0xFD then
    match s.translate i va .read with
    | .trap e => if e.cause = .page then pageFault va .write else denied va .write
    | _ => denied va .write
  else if spaceRoot h.space = 0 then pageFault va .write
  else
    match (s.die i.die).tlb.find? fun e => e.covers (spaceAsid h.space) (vpnOf va) && !e.verified with
    | none => if h.xnone = some (vpnOf va) then pageFault va .write else .miss va .write
    | some e => if (!h.priv && !leafU e.w0) || !leafW e.w0 then denied va .write else .ok e

/-- A physical address of NORMAL memory, which for domain `mid` lies outside reserved memory; ACCESS at `va` otherwise (R322, R427,
R509). -/
def State.normalPa (s : State) (mid pa va : Nat) : Reply Nat :=
  match s.region pa with
  | .normal _ => if mid != 0 && reservedPa pa then denied va .write else .ok pa
  | _ => denied va .write

/-- The physical address of a page the hart may seal at `va`: NORMAL memory of this module that it may write (R322). -/
def State.sealTarget (s : State) (i : HartId) (a : Nat) : Reply Nat :=
  let va := a % 2 ^ 56
  if va / 2 ^ 48 = 0xFC then (if (s.hart i).priv then s.normalPa 0 (va % 2 ^ 48) va else denied va .write)
  else (s.sealLeaf i va).bind fun e =>
    if leafType e.w0 != 0 then denied va .write else s.normalPa (spaceDom (s.hart i).space) (leafPa e.level e.w0 va) va

/-- What unseal translates its address to: a physical address of this module, or none where the page is of another module. The hart must
be able to write the page, by its translation and by the access tables; live seals are no obstacle here (R324). The alias windows trap
(R31). -/
def State.unsealTarget (s : State) (i : HartId) (a : Nat) : Reply (Option Nat) :=
  let va := a % 2 ^ 56
  if 0xFFFE ≤ va / 2 ^ 40 then denied va .write
  else (({ s with seals := [] } : State).translate i va .write).bind fun x =>
    .ok (match x with | .mem pa _ => some pa | _ => none)

/-- The physical addresses of the first `n` granules of a buffer to be sealed, the lowest checked first (R322). -/
def State.sealGranules (s : State) (i : HartId) (va : Nat) : Nat → Reply (List Nat)
  | 0 => .ok []
  | n + 1 =>
    match s.sealTarget i va with
    | .ok p =>
      match s.sealGranules i (va + 65536) n with
      | .ok ps => .ok (p :: ps)
      | r => r
    | .trap e => .trap e
    | .miss x c => .miss x c
    | .wait => .wait

/-- The checks at check 2 of R166 that translate or read memory: those of a kerb command, which keep its record, and those
of seal and unseal (R307, R321, R322, R324). -/
def State.memberChecks (s : State) (m : Member) : Reply Member :=
  match m.op with
  | .kerb k a st _ =>
    match s.kerbRecord k.val (s.getX a) m.enc with
    | .ok w => .ok { m with op := .kerb k a st w }
    | .trap e => .trap e
    | .miss x c => .miss x c
    | .wait => .wait
  | .seal _ a b =>
    if (s.getX a).toNat % 65536 ≠ 0 then .trap (alignExc (s.getX a) .write)
    else
      match s.sealGranules s.cur (s.getX a).toNat (bitsOf (s.getX b).toNat 31 0) with
      | .ok _ => .ok m
      | .trap e => .trap e
      | .miss x c => .miss x c
      | .wait => .wait
  | .unseal _ a _ =>
    match s.unsealTarget s.cur (s.getX a).toNat with
    | .ok _ => .ok m
    | .trap e => .trap e
    | .miss x c => .miss x c
    | .wait => .wait
  | _ => .ok m

/-- seal or unseal at the last boot epoch, where the device has no sealing feature (R421, R423). -/
def State.sealAbsent (s : State) (op : MOp) : Bool :=
  match op with
  | .seal _ _ _ | .unseal _ _ _ => s.bootEpoch == 65535
  | _ => false

/-- Every cause a member has of itself, in the order of R166; the member as it joins otherwise. -/
def State.joinCheck (s : State) (m : Member) : Reply Member :=
  if m.illegal s.h s.cur.slot || s.sealAbsent m.op then .trap (illegalExc m.enc)
  else
    match s.memberChecks m with
    | .ok m' =>
      if m.op.badPair then .trap (encExc .typepair m.enc)
      else if conflicts s.h s.h.convoy m then .trap (encExc .convoy m.enc)
      else .ok m'
    | r => r

end Sys2Proof.Machine
end

