-- ==== Sys2Proof/Machine/Elementwise.lean ====
section
/-! DEFINITION. How members that work on registers position by position execute (spec/08_vector_arithmetic.md R228-R235,
R243-R246; spec/10_matrix_and_crucible.md R282, R300), up to a stopping position (R85). -/

namespace Sys2Proof.Machine

/-- What keeps a member from going on at a position: a cause, or a wait, perhaps for a translation. -/
inductive Halt where
  | trap (e : Exc)
  | hold (miss : Option (Nat × Acc))
deriving DecidableEq, Repr

/-- What a member's execution gives: the state, the position at which it halts if it does, and what it does when its convoy
drains (R335). -/
structure Ran where
  s : State
  halt : Option (Nat × Halt)
  late : Option (State → Reply State)

/-- A member that has gone on to the limit. -/
def Ran.done (s : State) : Ran := { s := s, halt := none, late := none }

/-- A member that halts. -/
def Ran.stop (s : State) (p : Nat) (h : Halt) : Ran := { s := s, halt := some (p, h), late := none }

/-- A member that acts when its convoy drains. -/
def Ran.later (s : State) (f : State → Reply State) : Ran := { s := s, halt := none, late := some f }

/-- The halt that an answer other than a value means. -/
def Reply.halt {α : Type} (r : Reply α) : Halt :=
  match r with
  | .ok _ | .wait => .hold none
  | .trap e => .trap e
  | .miss va acc => .hold (some (va, acc))

/-- What a convoy reads once at its start, and the positions it processes (R167): from `start` up to `limit`, of `total`; `org` is
VSTART, at or below `start`. Positions below `past` have made their accesses and consumed their stream elements while the convoy
waited (log 96). `mask0` is m0 as it stood before a compare of the convoy wrote any row, and `kept` has the operand registers of a
Crucible member that a later member writes (log 97). -/
structure Ctx where
  org : Nat
  past : Nat
  start : Nat
  limit : Nat
  total : Nat
  vl : Nat
  rows : Nat
  cfg : VCfg
  rnd : Rnd
  mask0 : Mask
  kept : List (Nat × VReg)
  /-- The place of the member in hand. -/
  me : Nat
  /-- Only the tags of registers and masks are worked out: no element is computed and nothing halts (R82, R93). -/
  blind : Bool
  /-- v registers and masks that earlier members of the convoy write. -/
  fresh : List Nat
  freshM : List Nat
  /-- The place of the member whose cause stops the convoy at its first position, and whether the member in hand stands
  behind that one, so that it has not begun (R334). -/
  stopper : Option Nat
  gone : Bool

/-- The element width SEW. -/
def Ctx.sew (c : Ctx) : Nat := c.cfg.sew.toNat

/-- The positions of row `j` that are processed, as element numbers from the first to one past the last (R84, R85). -/
def Ctx.row (c : Ctx) (j : Nat) : Nat × Nat :=
  (max c.start (j * c.vl) - j * c.vl, min c.limit ((j + 1) * c.vl) - j * c.vl)

/-- The numbers from `lo` to below `hi`. -/
def span (lo hi : Nat) : List Nat := (List.range (hi - lo)).map (lo + ·)

/-- Runs a computation over positions in order, up to the first that halts. -/
def runLanes {α : Type} (f : Nat → Reply α) : List Nat → List (Nat × α) × Option (Nat × Halt)
  | [] => ([], none)
  | e :: es =>
    match f e with
    | .ok a => let (l, r) := runLanes f es; ((e, a) :: l, r)
    | r => ([], some (e, r.halt))

/-- Checks along a list, up to the first that does not pass. -/
def eachOk {α : Type} (f : α → Reply Unit) : List α → Reply Unit
  | [] => .ok ()
  | a :: l => (f a).bind fun _ => eachOk f l

/-- The positions of a member, unless only tags are worked out. -/
def Ctx.lanes {α : Type} (c : Ctx) (f : Nat → Reply α) (es : List Nat) : List (Nat × α) × Option (Nat × Halt) :=
  if c.blind then ([], none) else runLanes f es

/-- What an earlier attempt of the waiting convoy, or an earlier row, has taken for the member in hand at position `p` (R229; log 96). -/
def Hart.taken (h : Hart) (c : Ctx) (p : Nat) : Option (Nat × Nat) := Map.get none h.waited.log (p * 8 + c.me)

/-- What the access of the member in hand at position `p` gave, and its address, are kept until the convoy ends (log 96). -/
def Hart.keepTaken (h : Hart) (c : Ctx) (p v a : Nat) : Hart :=
  { h with waited := { h.waited with log := Map.set none h.waited.log (p * 8 + c.me) (some (v, a)) } }

/-- The value a list of pairs holds for a position. -/
def valueAt {α : Type} (d : α) (l : List (Nat × α)) (e : Nat) : α := ((l.find? fun p => p.1 == e).map (·.2)).getD d

/-- A result whose raised flags are enabled traps ARITH, and is not written (R103, R231). -/
def guardFlags (en : Flags) (o : LaneOut) : Reply LaneOut := if o.fl &&& en != 0 then .trap (arithExc o.fl) else .ok o

/-- Flags and saturation of the results accrue (R231). -/
def VState.accrue (v : VState) (l : List (Nat × LaneOut)) : VState :=
  l.foldl (fun v p => (v.raise p.2.fl).clipped p.2.clip) v

/-- A U or A register becomes G, holding its image (R87). -/
def VReg.materialize (r : VReg) : VReg :=
  match r.shape with
  | .g _ _ => r
  | _ => { r with shape := .g ((List.range r.extent).map r.own) .slot }

/-- A source read at another width than its own is materialized (R87). -/
def Hart.readAt (h : Hart) (k w : Nat) : Hart :=
  if (h.getV k).ew = w then h else h.setV k (h.getV k).materialize

/-- A choice among what the manual allows, free for each use (log 9). -/
def State.pick (s : State) (k : Nat) : Nat := Config.choice (s.fresh * 2 ^ 64 + k)

/-- The number of the element that a load stream gives position `e` of a row (R229, R258, R260); none where the walk has no
such element. -/
def Ctx.elemNo (c : Ctx) (t : Stream) (e : Nat) : Option Nat :=
  let back := min c.past c.vl
  if t.pos + e < back then none else some (t.pos + e - back)

/-- The stream element a .vs member or vld takes at position `e`; rows after the first reuse it (R229). -/
def State.takeElem (s : State) (c : Ctx) (st : Fin 16) (e : Nat) : Reply Nat :=
  match s.h.taken c e with
  | some (v, _) => .ok v
  | none =>
    let t := s.h.stm[st]
    if t.mode = 0 then
      match c.elemNo t e with
      | some n => s.loadElem t n
      | none => .ok (trunc t.width (s.pick e))
    else
      match s.h.queued t (e - c.past) with
      | .ok v => .ok v
      | .error x => .trap x

/-- A masked-off position consumes its stream element too: one that another width keeps in its channel stops the convoy there
(R229, R274). -/
def State.passElem (s : State) (c : Ctx) (st : Option (Fin 16)) (e : Nat) : Reply Unit :=
  match st with
  | some st => if s.h.stm[st].mode = 0 ∨ e < c.past then .ok () else (s.takeElem c st e).bind fun _ => .ok ()
  | none => .ok ()

/-- A third operand's value at position `e` of row `j`, at width `w` (R229). -/
def State.op3 (s : State) (c : Ctx) (b : Src) (w j e : Nat) (zeroExt : Bool) : Reply Nat :=
  match b with
  | .v r =>
    match s.h.elemErr (r.val + j) w e with
    | some x => .trap x
    | none => .ok (s.h.elem (r.val + j) w e)
  | .x r => .ok (trunc w (s.getX r).toNat)
  | .imm i => .ok (trunc w (if zeroExt then uimm6 i else imm6 i).toNat)
  | .st st => s.takeElem c st e

/-- A third operand as a source in the sense of R81. -/
def State.op3Cover (s : State) (c : Ctx) (b : Src) (w j : Nat) (zeroExt : Bool) : Cover :=
  match b with
  | .v r => (s.h.getV (r.val + j)).cover w c.vl
  | .x r => .u (trunc w (s.getX r).toNat)
  | .imm i => .u (trunc w (if zeroExt then uimm6 i else imm6 i).toNat)
  | .st _ => .g

/-- Goes on with a register element, unless it is bad. -/
def State.vElem (s : State) (k w e : Nat) : Reply Nat :=
  match s.h.elemErr k w e with
  | some x => .trap x
  | none => .ok (s.h.elem k w e)

/-- Goes on with a mask bit, unless it is bad. -/
def State.mBit (s : State) (k e : Nat) : Reply Bool :=
  match s.h.maskErr k e with
  | some x => .trap x
  | none => .ok ((s.h.getM k).bit e)

/-- The heat count of the load-stream element taken at position `e` (R460). -/
def State.heatTaken (s : State) (c : Ctx) (st : Fin 16) (e : Nat) : State :=
  let t := s.h.stm[st]
  if t.mode ≠ 0 ∨ !(s.die s.cur.die).heat.getLsbD 0 then s
  else
    match c.elemNo t e with
    | some n => s.addHeat s.cur (t.elemAddr n).1 t.heatKind
    | none => s

/-- The stream elements of the positions given are taken: each is counted and kept, the first time (R229, R460; log 96). -/
def State.noteTaken (s : State) (c : Ctx) (st : Option (Fin 16)) (es : List Nat) : State :=
  match st with
  | none => s
  | some st => es.foldl (fun s e =>
      if (s.h.taken c e).isSome then s
      else
        match s.takeElem c st e with
        | .ok v => let s := s.heatTaken c st e; s.setH (s.h.keepTaken c e v 0)
        | _ => s) s

/-- Position `e` of a member masked by mk: m0 read, and true where the member is unmasked (R228). -/
def State.activeBit (s : State) (masked : Bool) (e : Nat) : Reply Bool := if masked then s.mBit 0 e else .ok true

/-- Row `j` is begun: some position of it is processed, or it is the row in which the convoy stops (R85). -/
def Ctx.begun (c : Ctx) (j : Nat) : Bool :=
  decide (0 < c.vl ∧ c.start < c.total ∧ c.start < (j + 1) * c.vl ∧ j * c.vl ≤ c.limit)

/-- The registers of a group, row by row from `base`, are read at width `w` in the rows that are begun (R87). -/
def Hart.readRows (h : Hart) (c : Ctx) (base w : Nat) : Hart :=
  ((List.range c.rows).filter c.begun).foldl (fun h j => h.readAt (base + j) w) h

/-- The sources of a row that is begun are read at the widths `wa` and `wb` (R87); `noA` and `noB` say which is not read. -/
def State.readSources (s : State) (c : Ctx) (noA noB : Bool) (a wa : Nat) (b : Src) (wb j : Nat) : State :=
  if c.begun j then
    let h := if noA then s.h else s.h.readAt (a + j) wa
    s.setH (if noB then h else match b with | .v r => h.readAt (r.val + j) wb | _ => h)
  else s

/-- One row of an element-wise member (R228). At a position the causes of its registers come before those of its stream (R334);
vmerge reads both its operands (R235). -/
def State.ewRow (s : State) (c : Ctx) (masked : Bool) (f : EwOp) (d a : Nat) (b : Src) (j : Nat) : Ran :=
  let (lo, hi) := c.row j
  let (wa, wb, wd) := f.widths c.sew
  let s := s.readSources c f.noA f.unary a wa b wb j
  if hi ≤ lo then .done s
  else
    let h := s.h
    let lane := fun e => (s.activeBit masked e).bind fun act =>
      if !act then (s.passElem c b.stream e).bind fun _ => .ok none
      else (if f = .merge then s.mBit 0 e else .ok true).bind fun m =>
        (if f.noA then .ok 0 else s.vElem (a + j) wa e).bind fun x =>
        (if f.fused then s.vElem (d + j) wd e else .ok 0).bind fun z =>
        (if f.unary then .ok 0 else s.op3 c b wb j e f.zextImm).bind fun y =>
        (guardFlags h.vs.en (f.eval c.cfg c.rnd c.sew (if m then x else y) y z e)).bind fun o => .ok (some o)
    let (out, halt) := c.lanes lane (span lo hi)
    match halt with
    | some (e, x) => .stop s (j * c.vl + e) x
    | none =>
      let done := out.filterMap fun (e, o) => o.map fun o => (e, o)
      let known := h.allTrue c.vl
      let ca := (h.getV (a + j)).cover wa c.vl
      let cd := if f.fused then (h.getV (d + j)).cover wd c.vl else .u 0
      let full := if f = .merge then (if known then ca else .g)
        else f.fullShape wd ca (s.op3Cover c b wb j f.zextImm) cd fun x y z => (f.eval c.cfg c.rnd c.sew x y z 0).r
      let r := (h.getV (d + j)).writeRow h.lanes h.vs.cfg.rps wd c.vl lo hi (!masked || known) (fun e => done.any (·.1 == e))
        (fun e => (valueAt (plain 0) done e).r) full
      let s := s.setH { h.setV (d + j) r with vs := h.vs.accrue done }
      .done (s.noteTaken c b.stream (done.map (·.1)))

/-- Rows one after another, up to the first halt. -/
def Ctx.eachRow (f : State → Nat → Ran) : List Nat → State → Ran
  | [], s => .done s
  | j :: js, s =>
    let r := f s j
    match r.halt with
    | some _ => r
    | none => Ctx.eachRow f js r.s

/-- An element-wise member. -/
def State.runEw (s : State) (c : Ctx) (masked : Bool) (f : EwOp) (d a : Nat) (b : Src) : Ran :=
  Ctx.eachRow (fun s j => s.ewRow c masked f d a b j) (List.range c.rows) s

/-- One row of a compare (R243, R244): the mask applied is m0 of `k`, as it stood before the member wrote any row. -/
def State.cmpRow (s : State) (c : Ctx) (k : Hart) (masked : Bool) (f : CmpOp) (d a : Nat) (b : Src) (j : Nat) : Ran :=
  let (lo, hi) := c.row j
  let w := c.sew
  let s := s.readSources c false false a w b w j
  if hi ≤ lo then .done s
  else
    let h := s.h
    let bit := fun e => (if masked then (match k.maskErr 0 e with | some x => .trap x | none => .ok ((k.getM 0).bit e))
        else Reply.ok true).bind fun act =>
      if !act then (s.passElem c b.stream e).bind fun _ => .ok none
      else (s.vElem (a + j) w e).bind fun x => (s.op3 c b w j e false).bind fun y =>
        let (r, fl) := f.eval c.cfg w x y
        (guardFlags h.vs.en { r := boolN r, fl := fl, clip := false }).bind fun o => .ok (some o)
    let (out, halt) := c.lanes bit (span lo hi)
    match halt with
    | some (e, x) => .stop s (j * c.vl + e) x
    | none =>
      let done := out.filterMap fun (e, o) => o.map fun o => (e, o)
      let uniform := match (h.getV (a + j)).cover w c.vl, s.op3Cover c b w j false with
        | .u x, .u y => (f.eval c.cfg w x y).1
        | _, _ => false
      let ones := if uniform && !masked && lo == 0 then c.vl else 0
      let m := (h.getM (d + j)).write c.vl lo hi (fun e => done.any (·.1 == e)) (fun e => (valueAt (plain 0) done e).r == 1) ones
      let s := s.setH { h.setM (d + j) m with vs := h.vs.accrue done }
      .done (s.noteTaken c b.stream (done.map (·.1)))

/-- A compare. One that writes m0 is masked by m0 as it stood at the convoy's start (R244). -/
def State.runCmp (s : State) (c : Ctx) (masked : Bool) (f : CmpOp) (d a : Nat) (b : Src) : Ran :=
  let k := if d = 0 then s.h.setM 0 c.mask0 else s.h
  Ctx.eachRow (fun s j => s.cmpRow c k masked f d a b j) (List.range c.rows) s

/-- Mask logic over positions VSTART to VL - 1 (R245, R246). -/
def State.runMask (s : State) (c : Ctx) (f : MaskOp) (d a b : Nat) : Ran :=
  let hi := min c.limit c.vl
  if hi ≤ c.start then .done s
  else
    let h := s.h
    let bit := fun e => if f = .set ∨ f = .clr then .ok (f.eval false false)
      else (s.mBit a e).bind fun x => (s.mBit b e).bind fun y => .ok (f.eval x y)
    let (out, halt) := c.lanes bit (span c.start hi)
    match halt with
    | some (e, x) => .stop s e x
    | none =>
      let known := fun (k : Nat) => decide (c.vl ≤ (h.getM k).ones)
      let ones := if f.known (known a) (known b) && c.start == 0 then c.vl else 0
      .done (s.setH (h.setM d ((h.getM d).write c.vl c.start hi (fun _ => true) (valueAt false out) ones)))

/-- One row of the array matrix instruction (R282). -/
def State.vmmRow (s : State) (c : Ctx) (masked : Bool) (d a b : Nat) (ta tb : BitVec 3) (j : Nat) : Ran :=
  let (lo, hi) := c.row j
  let (wa, wb) := (itWidth ta, itWidth tb)
  let s := if c.begun j then
      s.setH ((List.range 8).foldl (fun h k => h.readAt (b + k) wb) ((s.h.readAt a wa).readAt (d + j) 64))
    else s
  if hi ≤ lo then .done s
  else
    let h := s.h
    let pair := fun e k => (s.vElem a wa (8 * j + k)).bind fun x => (s.vElem (b + k) wb e).bind fun y => .ok (x, y)
    let lane := fun e => (s.activeBit masked e).bind fun act =>
      if !act then .ok none
      else (s.vElem (d + j) 64 e).bind fun n =>
        match runLanes (pair e) (List.range 8) with
        | (_, some (_, .trap x)) => .trap x
        | (ab, _) => (guardFlags h.vs.en (vmmElem ta tb n (ab.map (·.2)))).bind fun o => .ok (some o)
    let (out, halt) := c.lanes lane (span lo hi)
    match halt with
    | some (e, x) => .stop s (j * c.vl + e) x
    | none =>
      let done := out.filterMap fun (e, o) => o.map fun o => (e, o)
      let r := (h.getV (d + j)).writeRow h.lanes h.vs.cfg.rps 64 c.vl lo hi (!masked || h.allTrue c.vl)
        (fun e => done.any (·.1 == e)) (fun e => (valueAt (plain 0) done e).r) .g
      .done (s.setH { h.setV (d + j) r with vs := h.vs.accrue done })

/-- The array matrix instruction. -/
def State.runVmm (s : State) (c : Ctx) (masked : Bool) (d a b : Nat) (ta tb : BitVec 3) : Ran :=
  Ctx.eachRow (fun s j => s.vmmRow c masked d a b ta tb j) (List.range c.rows) s

/-- The scale element of tile position (j, e) (R299). -/
def scaleNo (vl j e : Nat) : Nat := j * ceilDiv vl 32 + e / 32

/-- The scale of a position: a covering U register gives its value to every position (R299, R300). -/
def State.scaleAt (s : State) (c : Ctx) (vs j e : Nat) : Reply Nat :=
  match (s.h.getV vs).cover 8 c.vl with
  | .u x => .ok x
  | _ => s.vElem vs 8 (scaleNo c.vl j e)

/-- One row of ccvt OUT 0 and 1 (R300). -/
def State.ccvtRow (s : State) (c : Ctx) (masked : Bool) (d a vs : Nat) (p : Int) (g : Fmt) (j : Nat) : Ran :=
  let (lo, hi) := c.row j
  let s := if c.begun j then s.setH ((s.h.readAt (a + j) 64).readAt vs 8) else s
  if hi ≤ lo then .done s
  else
    let h := s.h
    let lane := fun e => (s.activeBit masked e).bind fun act =>
      if !act then .ok none
      else (s.vElem (a + j) 64 e).bind fun n => (s.scaleAt c vs j e).bind fun x =>
        (guardFlags h.vs.en (floating (ccvtElem g p n x))).bind fun o => .ok (some o)
    let (out, halt) := c.lanes lane (span lo hi)
    match halt with
    | some (e, x) => .stop s (j * c.vl + e) x
    | none =>
      let done := out.filterMap fun (e, o) => o.map fun o => (e, o)
      let full : Cover := match (h.getV (a + j)).cover 64 c.vl, (h.getV vs).cover 8 c.vl with
        | .u n, .u x => .u (ccvtElem g p n x).1
        | _, _ => .g
      let r := (h.getV (d + j)).writeRow h.lanes h.vs.cfg.rps g.width c.vl lo hi (!masked || h.allTrue c.vl)
        (fun e => done.any (·.1 == e)) (fun e => (valueAt (plain 0) done e).r) full
      .done (s.setH { h.setV (d + j) r with vs := h.vs.accrue done })

/-- The narrow conversions of row `j` in position order, with the row's active positions (R300). -/
def State.ccvtNarrowed (s : State) (c : Ctx) (masked : Bool) (a : Nat) (p : Int) (g : Fmt) (j : Nat) :
    Reply (List (Nat × Nat) × List (Nat × LaneOut)) :=
  let src := fun e => (s.activeBit masked e).bind fun act =>
    if act then (s.vElem (a + j) 64 e).bind fun n => .ok (some n) else .ok none
  match runLanes src (List.range c.vl) with
  | (_, some (_, .trap x)) => .trap x
  | (ns, _) =>
    let active := ns.filterMap fun (e, o) => o.map fun n => (e, n)
    .ok (active, active.map fun (e, n) =>
      (e, floating (ccvtNarrow g p n (ccvtScale g p ((active.filter fun q => q.1 / 32 == e / 32).map (·.2))))))

/-- The conversions of a row up to the first that raises an enabled flag, whose flags TVAL shows (R103). -/
def enabledAt (en : Flags) : List (Nat × LaneOut) → List (Nat × LaneOut) × Option Flags
  | [] => ([], none)
  | q :: l =>
    if q.2.fl &&& en != 0 then ([q], some q.2.fl)
    else let (r, x) := enabledAt en l; (q :: r, x)

/-- One row of ccvt OUT 2 and 3: its scales and its elements (R300). A cause stops the convoy at the row's first position;
the flags that the row raised before an ARITH stop stay accrued (R103; log 39). -/
def State.ccvtScaledRow (s : State) (c : Ctx) (masked : Bool) (d a vs : Nat) (p : Int) (g : Fmt) (j : Nat) : Ran :=
  let s := if c.begun j then s.setH (s.h.readAt (a + j) 64) else s
  let h := s.h
  if (j + 1) * c.vl ≤ c.start ∨ c.limit < j * c.vl then .done s
  else
    match s.ccvtNarrowed c masked a p g j with
    | .trap x => if c.limit < (j + 1) * c.vl then .done s else .stop s (j * c.vl) (.trap x)
    | .ok (active, done) =>
      let (seen, trap) := enabledAt h.vs.en done
      if c.limit < (j + 1) * c.vl then
        .done (if trap.isSome && c.limit == j * c.vl then s.setH { h with vs := h.vs.accrue seen } else s)
      else
        match trap with
        | some fl => .stop s (j * c.vl) (.trap (arithExc fl))
        | none =>
          let scale := fun b => ccvtScale g p ((active.filter fun q => q.1 / 32 == b).map (·.2))
          let blocks := (List.range (ceilDiv c.vl 32)).filter fun b => active.any fun q => q.1 / 32 == b
          let r := (h.getV (d + j)).writeRow h.lanes h.vs.cfg.rps g.width c.vl 0 c.vl (!masked || h.allTrue c.vl)
            (fun e => done.any (·.1 == e)) (fun e => (valueAt (plain 0) done e).r) .g
          let n := c.rows * ceilDiv c.vl 32
          let k := j * ceilDiv c.vl 32
          let x := (h.getV vs).writeRow h.lanes h.vs.cfg.rps 8 n 0 n false
            (fun i => blocks.any fun b => k + b == i) (fun i => scale (i - k)) .g
          .done (s.setH { (h.setV (d + j) r).setV vs x with vs := h.vs.accrue done })
    | _ => .done s

/-- ccvt (R300). -/
def State.runCcvt (s : State) (c : Ctx) (masked : Bool) (d a vs : Nat) (ta tb : BitVec 3) (out : BitVec 2) : Ran :=
  let p := pairPoint ta tb
  let g := ccvtFmt out
  Ctx.eachRow (fun s j => if out.toNat ≤ 1 then s.ccvtRow c masked d a vs p g j else s.ccvtScaledRow c masked d a vs p g j)
    (List.range c.rows) s

end Sys2Proof.Machine
end

