-- ==== Sys2Proof/Machine/VMemory.lean ====
section
/-! DEFINITION. How members that access memory or transfer data execute (spec/09_vector_memory_and_motion.md R263-R267, R273):
loads and stores, gathers, scatters and vector atomics in windows, sends and copy declarations, up to a stopping position. -/

namespace Sys2Proof.Machine

/-- The list in the order a number names, one of all its orders (R133, R134). -/
def reorder {α : Type} : Nat → Nat → List α → List α
  | 0, _, l => l
  | _ + 1, _, [] => []
  | n + 1, k, a :: l =>
    let i := k % (l.length + 1)
    match (a :: l)[i]? with
    | some x => x :: reorder n (k / (l.length + 1)) ((a :: l).eraseIdx i)
    | none => a :: l

/-- The order of an unordered member's accesses: any (R133); ascending for an ordered one (R132). -/
def State.order {α : Type} (s : State) (ordered : Bool) (l : List α) : List α :=
  if ordered then l else reorder l.length (s.pick l.length) l

/-- Accesses one after another; one that cannot go on here was found before, so it is passed over. -/
def performAll {α : Type} (f : State → α → Reply State) : List α → State → State
  | [], s => s
  | a :: l, s => match f s a with | .ok s => performAll f l s | _ => performAll f l s

/-- vld: positions of its one row take the stream's elements (R263). -/
def State.runLoad (s : State) (c : Ctx) (masked : Bool) (d : Nat) (st : Fin 16) : Ran :=
  let (lo, hi) := c.row 0
  if hi ≤ lo then .done s
  else
    let h := s.h
    let lane := fun e => (s.activeBit masked e).bind fun act =>
      if act then (s.takeElem c st e).bind fun v => .ok (some v) else (s.passElem c (some st) e).bind fun _ => .ok none
    let (out, halt) := c.lanes lane (span lo hi)
    match halt with
    | some (e, x) => .stop s e x
    | none =>
      let done := out.filterMap fun (e, o) => o.map fun v => (e, v)
      let r := (h.getV d).writeRow h.lanes h.vs.cfg.rps c.sew c.vl lo hi (!masked || h.allTrue c.vl)
        (fun e => done.any (·.1 == e)) (valueAt 0 done) .g
      .done ((s.setH (h.setV d r)).noteTaken c (some st) (done.map (·.1)))

/-- vst: positions of its one row are written to the stream's addresses (R263, R132-R134); those that have been written while the convoy
waited are not written again (log 96). -/
def State.runStore (s : State) (c : Ctx) (masked ordered : Bool) (a : Nat) (st : Fin 16) : Ran :=
  let (lo, hi) := c.row 0
  let s := s.setH (s.h.readRows c a c.sew)
  if hi ≤ lo then .done s
  else
    let t := s.h.stm[st]
    let lane := fun e => (s.activeBit masked e).bind fun act =>
      if !act then .ok none
      else (s.vElem a c.sew e).bind fun v =>
        match c.elemNo t e with
        | none => .ok none
        | some n =>
          let (x, _) := t.elemAddr n
          let k := max 1 (t.width / 8)
          (s.h.guard .write x k (s.streamPieces s.cur t x k .write)).bind fun ps => s.writable s.cur ps (.ok (some (n, v)))
    let (out, halt) := c.lanes lane (span (max lo c.past) hi)
    match halt with
    | some (e, x) => .stop s e x
    | none =>
      let ws := out.filterMap (·.2)
      .done ((performAll (fun s p => s.storeElem t p.1 p.2) (s.order ordered ws) s).healAll s.cur
        (if 8 ≤ t.width then ws.map fun p => ((t.elemAddr p.1).1, t.width / 8) else []))

/-- Windows of an indexed member (R265): positions with their addresses, cut before the position that would bring in a
257th distinct granule. -/
def windowsOf : List Nat → List (Nat × Nat) → List (Nat × Nat) → List (List (Nat × Nat))
  | _, w, [] => if w = [] then [] else [w]
  | gs, w, (t, a) :: ps =>
    let g := a / 65536
    if gs.contains g then windowsOf gs (w ++ [(t, a)]) ps
    else if gs.length = 256 then w :: windowsOf [g] [(t, a)] ps
    else windowsOf (g :: gs) (w ++ [(t, a)]) ps

/-- The probe of one position of an indexed member: translation and checks, then alignment (R264-R266, R334). -/
def State.probeElem (s : State) (acc : Acc) (amo : Option AmoOp) (n size a : Nat) : Reply Unit :=
  match s.translate s.cur a acc with
  | .ok t =>
    match amo with
    | some f =>
      if !f.accepted n t || s.journals s.cur t then denied a acc
      else if a % size ≠ 0 then .trap (alignExc (BitVec.ofNat 64 a) acc) else .ok ()
    | none =>
      if a % size ≠ 0 then .trap (alignExc (BitVec.ofNat 64 a) acc)
      else if acc = .write then s.writable s.cur [(t, n)] (.ok ())
      else .ok ()
  | .trap e => .trap e
  | .miss x c => .miss x c
  | .wait => .wait

/-- The position at which a window's fault stops the convoy: the first of the active positions that form it (R265). -/
def windowStart (c : Ctx) (w : List (Nat × Nat)) : Nat := match w with | (t, _) :: _ => t | [] => c.start

/-- What committing positions gives: the state, a value for each position, and the first that halts. -/
structure Committed where
  s : State
  vals : List (Nat × Nat)
  halt : Option (Nat × Halt)

/-- Positions one after another, up to the first that halts. -/
def commitAll (f : State → Nat → Nat → Reply (State × Nat)) : List (Nat × Nat) → State → Committed
  | [], s => { s := s, vals := [], halt := none }
  | (t, a) :: l, s =>
    match f s t a with
    | .ok (s', v) => let r := commitAll f l s'; { r with vals := (t, v) :: r.vals }
    | r => { s := s, vals := [], halt := some (t, r.halt) }

/-- Windows one after another: each is probed whole, then its positions below the limit are committed (R265). `data` reads what the first
position writes: an error there comes before the window's faults (R334). Positions below `b` are committed already, in an earlier part
of the convoy or while it waited (log 96). -/
def runWindows (c : Ctx) (ordered : Bool) (b : Nat) (data : State → Nat → Reply Unit) (probe : State → Nat → Reply Unit)
    (f : State → Nat → Nat → Reply (State × Nat)) : List (List (Nat × Nat)) → State → Committed
  | [], s => { s := s, vals := [], halt := none }
  | w :: ws, s =>
    let p := windowStart c w
    if c.limit ≤ p then { s := s, vals := [], halt := none }
    else
      let w := w.filter fun q => decide (b ≤ q.1)
      match (if p < b then .ok () else data s p).bind fun _ => eachOk (fun q => probe s q.2) w with
      | .ok _ =>
        let r := commitAll f (s.order ordered (w.filter fun q => decide (q.1 < c.limit))) s
        match r.halt with
        | some _ => r
        | none => let r' := runWindows c ordered b data probe f ws r.s; { r' with vals := r.vals ++ r'.vals }
      | x => { s := s, vals := [], halt := some (p, x.halt) }

/-- Positions below this one are behind an indexed member: committed in an earlier part of its convoy, or while that waited. -/
def Ctx.behind (c : Ctx) : Nat := max c.start c.past

/-- The active positions of an indexed member with their addresses, as far as its index and mask values are known: all of
the tile, or up to the limit where an earlier member of the convoy writes them (R265). -/
def State.indexed (s : State) (c : Ctx) (masked : Bool) (a wa : Nat) (addr : Nat → Nat) :
    List (Nat × Option Nat) × Option (Nat × Halt) :=
  let chained := (List.range c.rows).any (fun j => c.fresh.contains (a + j)) || (masked && c.freshM.contains 0)
  let top := if chained then c.limit else c.total
  let (out, halt) := c.lanes (fun t =>
    (s.activeBit masked (t % c.vl)).bind fun act =>
      if act then (s.vElem (a + t / c.vl) wa (t % c.vl)).bind fun i => .ok (some (addr i)) else .ok none) (span c.behind top)
  ((span c.org c.behind).map (fun t => (t, (s.h.taken c t).map (·.2))) ++ out, halt)

/-- The results of an indexed member written into the rows of its destination (R84, R264, R266). -/
def State.writeRows (s : State) (c : Ctx) (masked : Bool) (d : Nat) (done : List (Nat × Nat)) : State :=
  let h := s.h
  s.setH ((List.range c.rows).foldl (fun h j =>
    let (lo, hi) := c.row j
    if hi ≤ lo then h
    else
      let r := (h.getV (d + j)).writeRow h.lanes h.vs.cfg.rps c.sew c.vl lo hi (!masked || h.allTrue c.vl)
        (fun e => done.any (·.1 == j * c.vl + e)) (fun e => valueAt 0 done (j * c.vl + e)) .g
      h.setV (d + j) r) h)

/-- The earlier of two halts, below the limit. -/
def Ctx.first (c : Ctx) (x y : Option (Nat × Halt)) : Option (Nat × Halt) :=
  let y := y.filter fun q => decide (q.1 < c.limit)
  match x, y with
  | some (p, _), some (q, _) => if p ≤ q then x else y
  | none, y => y
  | x, none => x

/-- An indexed member: its addresses `addr` from index elements of width `wa`, the accesses `f` of its positions, in
windows (R265). -/
def State.runIndexed (s : State) (c : Ctx) (masked ordered : Bool) (a wa : Nat) (acc : Acc) (amo : Option AmoOp) (n size : Nat)
    (addr : Nat → Nat) (data : State → Nat → Reply Unit) (f : State → Nat → Nat → Reply (State × Nat)) : Committed :=
  let (ps, bad) := s.indexed c masked a wa addr
  let at_ := ps.filterMap fun (t, o) => o.map fun x => (t, x)
  let probe := fun (s : State) (x : Nat) =>
    (s.probeElem acc amo n size x).bind fun _ => if ordered then .ok () else s.h.guard acc x (if amo.isSome then size else n) (.ok ())
  let r := runWindows c ordered c.behind data probe f (windowsOf [] [] at_) s
  let old := (span c.start c.behind).filterMap fun t => (s.h.taken c t).map fun q => (t, q.1)
  { r with
    s := r.vals.foldl (fun s q => s.setH (s.h.keepTaken c q.1 q.2 (valueAt 0 at_ q.1))) r.s, vals := old ++ r.vals,
    halt := c.first r.halt bad }

/-- The committed elements as a member's result: values into its destination, if it has one. -/
def Committed.ran (r : Committed) (c : Ctx) (masked : Bool) (d : Option Nat) : Ran :=
  match r.halt with
  | some (p, x) => .stop r.s p x
  | none => .done (match d with | some d => r.s.writeRows c masked d r.vals | none => r.s)

/-- The address of an indexed element (R264). -/
def State.indexAddr (s : State) (c : Ctx) (b : Fin 32) (i : Nat) : Nat := ((s.getX b).toNat + i * (c.sew / 8)) % 2 ^ 56

/-- vlx (R264). -/
def State.runGather (s : State) (c : Ctx) (masked : Bool) (d a : Nat) (b : Fin 32) : Ran :=
  let wa := indexWidth c.sew
  let n := c.sew / 8
  let s := s.setH (s.h.readRows c a wa)
  if c.limit ≤ c.start then .done s
  else
    (s.runIndexed c masked true a wa .read none n n (s.indexAddr c b) (fun _ _ => .ok ()) fun s _ x =>
      (s.h.guard .read x n (s.readBytes s.cur x n .read)).bind fun bs => .ok ((s.addHeat s.cur x .indexed).reachWords s.cur x n .read, leNat bs)).ran
      c masked (some d)

/-- The data element of an indexed write at tile position `t` can be read. -/
def State.dataAt (s : State) (c : Ctx) (d t : Nat) : Reply Unit := (s.vElem (d + t / c.vl) c.sew (t % c.vl)).bind fun _ => .ok ()

/-- vsx.o and vsx.u (R264). -/
def State.runScatter (s : State) (c : Ctx) (masked ordered : Bool) (d a : Nat) (b : Fin 32) : Ran :=
  let wa := indexWidth c.sew
  let n := c.sew / 8
  let s := s.setH ((s.h.readRows c a wa).readRows c d c.sew)
  if c.limit ≤ c.start then .done s
  else
    (s.runIndexed c masked ordered a wa .write none n n (s.indexAddr c b) (fun s t => s.dataAt c d t) fun s t x =>
      (s.vElem (d + t / c.vl) c.sew (t % c.vl)).bind fun v =>
        (s.h.guard .write x n (s.writeBytes s.cur x 0xFF (leBytes n v))).bind fun s =>
          .ok ((s.addHeat s.cur x .indexed).reachWords s.cur x n .write, 0)).ran
      c masked none

/-- A result of a vector atomic: the old value, or the class of the new cell (R192, R266). -/
def AmoOp.result (f : AmoOp) (old new : Nat) : Nat :=
  match f with
  | .fxL | .fxD | .fxS => fxClass new
  | _ => old

/-- A vector atomic (R266): its release part waits, and a failed POOL or PEER write is reported by a system-scope release
(R129, R491); its acquire part discards what was fetched ahead (R130). -/
def State.runAmo (s : State) (c : Ctx) (masked : Bool) (f : AmoOp) (d a : Nat) (ord : BitVec 2) (sc : BitVec 3)
    (unordered : Bool) : Ran :=
  let s := s.setH ((s.h.readRows c a 64).readRows c d c.sew)
  if c.limit ≤ c.start then .done s
  else if c.past = c.org && isRelease ord && sc == 5 && s.h.wfail.isSome then
    .stop s c.start (.trap (lostExc (s.h.wfail.getD 0)))
  else if c.past = c.org && isRelease ord && s.releaseWaits s.cur sc then .stop s c.start (.hold none)
  else
    let n := c.sew / 8
    let size := f.cell n
    let r := s.runIndexed c masked (!unordered) a 64 .rmw (some f) n size (fun x => x % 2 ^ 56) (fun s t => s.dataAt c d t) fun s t x =>
      (s.vElem (d + t / c.vl) c.sew (t % c.vl)).bind fun v =>
        (s.h.guard .rmw x size (s.atomic s.cur f (BitVec.ofNat 64 x) n v 0 true)).bind fun (s, old, new) =>
          .ok (s.addHeat s.cur x .indexed, f.result old new)
    ({ r with s := r.s.acquire (isAcquire ord) }).ran c masked (some d)

/-- Elements the two strip buffers of a stream hold at a width (R268, R273). -/
def bufferedElems (w : Nat) : Nat := 2 * (131072 / max 1 w)

/-- The hart without the entry of one stream, for checks of that stream's own accesses (R137). -/
def Hart.others (h : Hart) (st : Fin 16) : Hart :=
  { h with ilock := h.ilock.filter fun e => !(e.stream == st && e.kind != .seal && e.kind != .unseal) }

/-- A send of the current hart begins: its entry is made, and its count of delivered elements starts at 0 (R135, R273). The stream
keeps its strip buffers (R268). -/
def State.beginSend (s : State) (st : Fin 16) : State :=
  let t := s.h.stm[st]
  s.setH ((s.h.setSt st { t with send := .busy, pos := 0, outbox := [], partway := true, readTo := 0,
                                 bufs := if t.bufs.isSome then t.bufs else s.bufferPlace s.cur }).enter
    [{ no := 0, kind := .send, stream := st, rdlo := 0, rdhi := 0, wrlo := 0, wrhi := 0, progress := 0 }])

/-- The live hart a send-bound stream names (R63, R65, R272). -/
def State.receiver (s : State) (i : HartId) (t : Stream) : Option Nat :=
  let w := t.bind.toNat
  (s.harts.find? fun (k, h) => k / 1536 == i.die.val && k % 8 != 7 && h.st != .empty && h.id.gangId == (s.hart i).id.gangId &&
    h.id.index.toNat == bitsOf w 10 0 && h.id.gen.toNat == bitsOf w 31 16).map (·.1)

/-- A hart of a gang without the place that one send holds in its channels (R64, R273). -/
def Hart.freeChan (h : Hart) (me : Nat × Nat) : Hart :=
  { h with chan := h.chan.map fun c => if c.holder = some me then { c with holder := none } else c }

/-- A send that has read its data and has nothing left to deliver gives up its place in the channel, and its entry completes (R273).
One that has delivered nothing finds out here that its hart is gone (R65). -/
def State.sendOver (s : State) (i : HartId) (st : Fin 16) : State :=
  let h := s.hart i
  let t := h.stm[st]
  if t.partway || !t.outbox.isEmpty then s
  else
    let snd : SendState := if t.send != .busy then t.send
      else if t.pos = 0 && (s.receiver i t).isNone then .undeliverable else .none
    let s := s.setHart i ((h.setSt st { t with send := snd }).others st)
    let me := (h.id.index.toNat, st.val)
    { s with harts := s.harts.map fun (k, g) =>
        (k, if k / 1536 == i.die.val && g.id.gangId == h.id.gangId && g.chan.toList.any (fun c => c.holder = some me) then g.freeChan me else g) }

/-- The data of a send, and its END, are all read (R273). -/
def State.endSend (s : State) (st : Fin 16) : State :=
  (s.setH (s.h.setSt st { s.h.stm[st] with partway := false, readTo := 0 })).sendOver s.cur st

/-- Puts END behind the data of a send; it waits while both buffers are full (R273). -/
def State.sendEnd (s : State) (st : Fin 16) : Reply State :=
  let t := s.h.stm[st]
  if t.send = .undeliverable then .ok s
  else if bufferedElems t.width ≤ t.outbox.length then .wait
  else .ok (s.setH (s.h.setSt st { t with outbox := t.outbox ++ [none] }))

/-- vsend and vsend.eom (R273): elements are read into the strip buffers in tile order; the convoy waits while both are
full, at its last position where only END finds no room. What has been read into the buffers is not read again. A send that completed
UNDELIVERABLE sends no more. -/
def State.runSend (s : State) (c : Ctx) (a : Nat) (eom : Bool) (st : Fin 16) : Ran :=
  let t := s.h.stm[st]
  if c.gone then .done s
  else if !t.partway && (s.h.entryOf st || decide (32 ≤ s.h.ilock.length)) then .stop s c.start (.hold none)
  else
    let s := if t.partway then s else s.beginSend st
    let s := s.setH (s.h.readRows c a t.width)
    let late : State → Reply State := fun s => (if eom then s.sendEnd st else .ok s).bind fun s => .ok (s.endSend st)
    let t := s.h.stm[st]
    if t.send = .undeliverable then .later s late
    else
      let room := bufferedElems t.width - t.outbox.length
      let b := max c.start t.readTo
      let last := fun p => eom && p + 1 == c.total
      let lane := fun p => if b + room ≤ p + boolN (last p) then .wait else s.vElem (a + p / c.vl) t.width (p % c.vl)
      let (out, halt) := c.lanes lane (span b c.limit)
      match halt with
      | some (p, x) => .stop s p x
      | none =>
        .later (s.setH (s.h.setSt st { t with outbox := t.outbox ++ out.map fun q => some q.2, readTo := max b c.limit })) late

/-- The bit at which destination element `n` of a copy lies, counted from DBASE's byte (R267). -/
def Stream.destAt (t : Stream) (n : Nat) : Nat × Nat :=
  ((t.dbase.toNat + n * t.destBits / 8) % 2 ^ 56, n * t.destBits % 8)

/-- The element type a destination-add copy converts (R270). -/
def CopyForm.amo (f : CopyForm) : Option AmoOp :=
  match f with
  | .addl => some .fxL
  | .addd => some .fxD
  | .adds => some .fxS
  | _ => none

/-- The probe of one element of a copy: its source to be read, its destination to be written or added to, and the hart's
earlier transfers (R137, R267). -/
def State.probeCopy (s : State) (st : Fin 16) (n : Nat) : Reply Unit :=
  let t := s.h.stm[st]
  let h := s.h.others st
  let k := max 1 (t.width / 8)
  let src := (t.elemAddr n).1
  let dst := (t.destAt n).1
  let size := max 1 (t.destBits / 8)
  (s.pieces s.cur src k .read).bind fun _ =>
    (h.guard .read src k (.ok ())).bind fun _ =>
      (match t.form.amo with
       | some f => (s.translate s.cur dst .rmw).bind fun x =>
           if f.accepted k x && !s.journals s.cur x then .ok () else denied dst .rmw
       | none => (s.pieces s.cur dst size .write).bind fun _ => .ok ()).bind fun _ => h.guard .write dst size (.ok ())

/-- Elements are accepted in order from ACC on, up to the first that faults or waits (R267). -/
def State.accept (s : State) (st : Fin 16) : Nat → Nat → Nat × Option Halt
  | 0, n => (n, none)
  | k + 1, n =>
    match s.probeCopy st n with
    | .ok _ => s.accept st k (n + 1)
    | r => (n, some r.halt)

/-- The bounding range of a copy's source walk (R136, R267). -/
def Stream.sourceRange (t : Stream) : Nat × Nat :=
  let as := (List.range t.count).map fun n => (t.elemAddr n).1
  match as with
  | [] => (0, 0)
  | a :: _ => (as.foldl min a, as.foldl max a + max 1 (t.width / 8))

/-- A copy declared anew: the stream loaded from its record, with its interlock entry (R136, R267) and its strip buffers (R268). -/
def Hart.declare (h : Hart) (st : Fin 16) (f : CopyForm) (xa xb : Word) (r : Record) (bufs : Option (BitVec 8)) : Hart :=
  let t : Stream :=
    { Stream.ofRecord r with
      dbase := BitVec.ofNat 64 (xb.toNat % 2 ^ 56), form := f, recAddr := xa, tap := decide (f = .tap),
      bufs := bufs }
  let (lo, hi) := t.sourceRange
  let kind : EntryKind := if f.amo.isSome then .copyAdd else .copy
  let e : Entry := { no := 0, kind := kind, stream := st, rdlo := lo, rdhi := hi, wrlo := t.dbase.toNat,
                     wrhi := t.dbase.toNat + ceilDiv (t.count * t.destBits) 8, progress := 0 }
  if t.count = 0 then h.setSt st t else (h.setSt st t).enter [e]

/-- The stream holds this very copy, still ACTIVE (R267). -/
def Stream.sameCopy (t : Stream) (f : CopyForm) (xa xb : Word) : Bool :=
  t.state = .active && t.mode == 2 && t.form = f && t.recAddr == xa && t.dbase.toNat == xb.toNat % 2 ^ 56

/-- Destination alignment and the widths of the add forms (R267). -/
def copyCheck (f : CopyForm) (xb : Word) (r : Record) (enc : Nat) : Option Exc :=
  let w := r.width
  let size := if f.amo.isSome then 16 else max 1 (w / 8)
  if (f = .addl ∨ f = .addd) ∧ w ≠ 64 ∨ f = .adds ∧ w ≠ 32 then some (illegalExc enc)
  else if xb.toNat % size ≠ 0 then some (alignExc xb .write)
  else none

/-- Acceptance of the elements of a declared copy: it stays as far as it went whatever stops the convoy (R267, R335). -/
def State.acceptCopy (s : State) (c : Ctx) (st : Fin 16) : Ran :=
  let t := s.h.stm[st]
  let (n, halt) := s.accept st (t.count - t.acc) t.acc
  let pages := (List.range (n - t.acc)).flatMap fun k => [(t.elemAddr (t.acc + k)).1, (t.destAt (t.acc + k)).1]
  let s := s.setH (s.h.setSt st { t with acc := n, held := s.holdPages s.cur t.held pages })
  match halt with
  | some x => .stop s c.start x
  | none => .done s

/-- vcopy and its forms (R267-R270): it waits for the stream's entry and for room in the table first, then come the record's checks, then
WIDTH and DBASE (log 113). -/
def State.runCopy (s : State) (c : Ctx) (f : CopyForm) (xa xb : Word) (st : Fin 16) (enc : Nat) : Ran :=
  if c.gone then .done s
  else if s.h.stm[st].sameCopy f xa xb then s.acceptCopy c st
  else if s.h.entryOf st || decide (32 ≤ s.h.ilock.length) then .stop s c.start (.hold none)
  else if xa.toNat % 64 ≠ 0 then .stop s c.start (.trap (alignExc xa .read))
  else
    match s.readRecord xa with
    | .ok w =>
      let r := Record.ofNat w
      match (r.check [2] enc).orElse fun _ => copyCheck f xb r enc with
      | some e => .stop s c.start (.trap e)
      | none => (s.setH (s.h.declare st f xa xb r (s.bufferPlace s.cur))).acceptCopy c st
    | r => .stop s c.start r.halt

end Sys2Proof.Machine
end

