-- ==== Sys2Proof/Machine/CrucibleRun.lean ====
section
/-! DEFINITION. How members that work whole rows or whole blocks execute: the Crossroads (spec/09_vector_memory_and_motion.md
R275-R277), outer products, block moves, loads and stores (spec/10_matrix_and_crucible.md R289-R296). -/

namespace Sys2Proof.Machine

/-- A row of a Crossroads result as a register (R275): a reduction leaves element 0, with EXTENT 1. -/
def VReg.crossed (r : VReg) (f : XrOp) (w vl : Nat) (es : List Nat) : VReg :=
  let n := if f.reduces then 1 else vl
  { r with shape := .g (padTo 0 n es) .slot, ew := w, extent := n, bad := [] }

/-- One row of a Crossroads member: its sources are read whole before its destination is written (R276). A cause stops the
convoy at the row's first position (R103; log 59). -/
def State.xrRow (s : State) (c : Ctx) (masked : Bool) (f : XrOp) (d a : Nat) (b : Src) (j : Nat) : Ran :=
  if c.limit < (j + 1) * c.vl ∨ (j + 1) * c.vl ≤ c.start ∨ c.vl = 0 then .done s
  else
    let w := c.sew
    let wi := indexWidth w
    let h := if f.readsA then s.h.readAt (a + j) w else s.h
    let h := match b with | .v r => h.readAt (r.val + j) wi | _ => h
    let s := s.setH h
    let es := List.range c.vl
    let src := fun e => (if f.readsA then s.vElem (a + j) w e else .ok 0).bind fun x =>
      (match b with | .v r => s.vElem (r.val + j) wi e | _ => .ok 0).bind fun i =>
      (if masked || f.readsM0 then s.mBit 0 e else .ok true).bind fun m => .ok (x, i, m)
    let (vs, halt) := c.lanes src es
    match halt with
    | some (_, x) => .stop s (j * c.vl) x
    | none =>
      let va := (vs.map fun q => q.2.1).toArray
      let vi := (vs.map fun q => q.2.2.1).toArray
      let vm := (vs.map fun q => q.2.2.2).toArray
      let k := match b with
        | .x r => (s.getX r).toNat
        | .imm i => (uimm6 i).toNat
        | _ => 0
      let idx := fun e => match b with | .v _ => vi.getD e 0 | _ => k % 2 ^ wi
      let m0 := fun e => vm.getD e false
      let (r, fl) := f.row c.cfg.format c.rnd w c.vl (fun e => va.getD e 0) idx k m0 (fun e => !masked || m0 e)
      if !c.blind && fl &&& h.vs.en != 0 then .stop s (j * c.vl) (.trap (arithExc fl))
      else .done (s.setH { h.setV (d + j) ((h.getV (d + j)).crossed f w c.vl r) with vs := h.vs.raise fl })

/-- A Crossroads member (R276): the mask of a masked row is m0. -/
def State.runXr (s : State) (c : Ctx) (masked : Bool) (f : XrOp) (d a : Nat) (b : Src) : Ran :=
  Ctx.eachRow (fun s j => s.xrRow c masked f d a b j) (List.range c.rows) s

/-- A Crucible member that finds a cause stops at the end of the tile (R295). -/
def Ctx.block (c : Ctx) (s : State) (e : Exc) : Ran := .stop s c.total (.trap e)

/-- A register as the operand of a Crucible member: one that a later member of the convoy writes is read as it stood before the convoy
(R167, R295; log 97). -/
def Hart.operandReg (h : Hart) (c : Ctx) (k : Nat) : Hart :=
  match c.kept.find? fun q => q.1 == k with
  | some (_, r) => h.setV k r
  | none => h

/-- Operand elements `off` to `off + n - 1` of a register at width `w`; 0 at and beyond VLMAX(w) (R289, R291). -/
def State.operand (s : State) (c : Ctx) (k w off n : Nat) : Reply (List Nat) :=
  let s := s.setH (s.h.operandReg c k)
  let top := s.h.vlmaxAt w
  let (vs, halt) := runLanes (fun i => if top ≤ off + i then .ok 0 else s.vElem k w (off + i)) (List.range n)
  match halt with
  | some (_, .trap e) => .trap e
  | _ => .ok (vs.map (·.2))

/-- The outer product of two operand lists onto a block, all at once or not at all (R289, R290). -/
def State.outerOnto (s : State) (c : Ctx) (b : Fin 8) (f : BitVec 3) (x y : List Nat) : Ran :=
  match s.h.blockErr b.val with
  | some e => c.block s e
  | none =>
    let x := x.toArray
    let y := y.toArray
    let (es, fl) := s.h.outer b.val f (fun i => x.getD i 0) (fun i => y.getD i 0)
    if fl &&& s.h.vs.en != 0 then c.block s (arithExc fl)
    else .done (s.setH { s.h with blk := s.h.blk.set b (blockOf es), vs := s.h.vs.raise fl })

/-- Operand elements of one side of an outer product (R289). -/
def operandCount (f : BitVec 3) : Nat := if opRank2 f then 2 * Config.tlen else Config.tlen

/-- copr.f (R289). -/
def State.runCopr (s : State) (c : Ctx) (b : Fin 8) (va vb : Nat) (xo : Word) (f : BitVec 3) : Ran :=
  let w := (opFmt f).width
  let n := operandCount f
  let s := s.setH ((s.h.readAt va w).readAt vb w)
  match (s.operand c va w (bitsOf xo.toNat 31 0) n).bind fun x =>
      (s.operand c vb w (bitsOf xo.toNat 63 32) n).bind fun y => .ok (x, y) with
  | .trap e => c.block s e
  | .ok (x, y) => s.outerOnto c b f x y
  | r => .stop s c.start r.halt

/-- Bytes of one side of a copr.m operand (R289). -/
def operandBytes (f : BitVec 3) : Nat := operandCount f * (opFmt f).width / 8

/-- A read of the current hart for a Crucible member (R296). -/
def State.blockRead (s : State) (va : Word) (n : Nat) : Reply (List Byte) :=
  s.h.guard .read va.toNat n (s.readBytes s.cur va.toNat n .read)

/-- copr.m (R289). -/
def State.runCoprM (s : State) (c : Ctx) (b : Fin 8) (a y : Word) (f : BitVec 3) : Ran :=
  let w := (opFmt f).width / 8
  let n := operandCount f
  match (s.blockRead a (n * w)).bind fun p => (s.blockRead y (n * w)).bind fun q => .ok (p, q) with
  | .trap e => c.block s e
  | .ok (p, q) => s.outerOnto c b f (cut w n (leNat p)) (cut w n (leNat q))
  | r => .stop s c.start r.halt

/-- cmv.bv (R291). -/
def State.runCmvBv (s : State) (c : Ctx) (b : Fin 8) (va : Nat) (xo : Word) : Ran :=
  let w := s.h.blockWidth b.val
  let t := Config.tlen
  let (i0, nr) := moveRows xo
  let s := s.setH (s.h.readAt va w)
  match s.operand c va w (bitsOf xo.toNat 31 0) (nr * t) with
  | .trap e => c.block s e
  | .ok es =>
    let es := es.toArray
    let new := (List.range (t * t)).map fun n =>
      if i0 * t ≤ n ∧ n < (i0 + nr) * t then es.getD (n - i0 * t) 0 else s.h.blockAt b.val n
    let bad := (s.h.blkBad.getD b.val []).filter fun n => !decide (i0 * t ≤ n ∧ n < (i0 + nr) * t)
    .done (s.setH { s.h with blk := s.h.blk.set b (blockOf new), blkBad := s.h.blkBad.set b bad })
  | r => .stop s c.start r.halt

/-- Elements of a register after cmv.vb writes `es` from index `off` at width `w` (R291). -/
def Hart.moveInto (h : Hart) (d w off : Nat) (es : List Nat) : Hart :=
  let top := h.vlmaxAt w
  let r := h.getV d
  let es := es.take (top - off)
  let n := max (min r.extent top) (if es = [] then 0 else off + es.length)
  let a := es.toArray
  let old := r.elems h.lanes h.vs.cfg.rps w n
  let new := ((List.range n).zip old).map fun (i, x) => if off ≤ i ∧ i < off + es.length then a.getD (i - off) 0 else x
  let bad := if w = r.ew then r.bad.filter (· < n)
    else if r.bad = [] then [] else (List.range n).filter fun i => (r.badAt h.lanes h.vs.cfg.rps w i).isSome
  h.setV d { r with shape := .g new .slot, ew := w, extent := n, bad := bad }

/-- cmv.vb (R291). -/
def State.runCmvVb (s : State) (c : Ctx) (b : Fin 8) (vd : Nat) (xo : Word) : Ran :=
  let t := Config.tlen
  let (i0, nr) := moveRows xo
  match (s.h.blkBad.getD b.val []).find? fun n => decide (i0 * t ≤ n ∧ n < (i0 + nr) * t) with
  | some n => c.block s (arrayExc n b.val false true)
  | none =>
    let es := (List.range (nr * t)).map fun n => s.h.blockAt b.val (i0 * t + n)
    .done (s.setH (s.h.moveInto vd (s.h.blockWidth b.val) (bitsOf xo.toNat 31 0) es))

/-- Where row `i` of a block image lies (R292). -/
def blockRowAt (a stride : Word) (i : Nat) : Word := a + BitVec.ofNat 64 i * stride

/-- The rows of a block image read in turn. -/
def State.readImage (s : State) (a stride : Word) (bytes : Nat) : List Nat → Reply (List Byte)
  | [] => .ok []
  | i :: is => (s.blockRead (blockRowAt a stride i) bytes).bind fun p =>
      (s.readImage a stride bytes is).bind fun q => .ok (p ++ q)

/-- cld (R292). -/
def State.runCld (s : State) (c : Ctx) (b : Fin 8) (a stride : Word) : Ran :=
  let w := s.h.blockWidth b.val / 8
  let t := Config.tlen
  match s.readImage a stride (t * w) (List.range t) with
  | .trap e => c.block s e
  | .ok bs =>
    .done (s.setH { s.h with blk := s.h.blk.set b (blockOf (cut w (t * t) (leNat bs))), blkBad := s.h.blkBad.set b [] })
  | r => .stop s c.start r.halt

/-- cst (R292): its element writes are unordered among themselves (R296). -/
def State.runCst (s : State) (c : Ctx) (b : Fin 8) (a stride : Word) : Ran :=
  let w := s.h.blockWidth b.val / 8
  let t := Config.tlen
  let at_ := fun n => blockRowAt a stride (n / t) + BitVec.ofNat 64 (n % t * w)
  match s.h.blockErr b.val with
  | some e => c.block s e
  | none =>
    let probe := fun n =>
      (s.h.guard .write (at_ n).toNat w (s.pieces s.cur (at_ n).toNat w .write)).bind fun ps => s.writable s.cur ps (.ok ())
    match runLanes probe (List.range (t * t)) with
    | (_, some (_, .trap e)) => c.block s e
    | (_, some (_, x)) => .stop s c.start x
    | (_, none) =>
      .done ((performAll (fun s n => s.writeBytes s.cur (at_ n).toNat 0xFF (leBytes w (s.h.blockAt b.val n)))
        (s.order false (List.range (t * t))) s).healAll s.cur ((List.range (t * t)).map fun n => ((at_ n).toNat, w)))

/-- czero (R293). -/
def State.runCzero (s : State) (b : Fin 8) : Ran :=
  .done (s.setH { s.h with blk := s.h.blk.set b [], blkBad := s.h.blkBad.set b [] })

/-- The memory footprint of a Crucible member, in 64 KiB pieces in ascending order of its accesses, with the kind of access
(R294). -/
def MOp.footprint (op : MOp) (h : Hart) : List (Word × Nat) × Acc :=
  let t := Config.tlen
  match op with
  | .coprM _ a b f => ([(h.getX a, operandBytes f), (h.getX b, operandBytes f)], .read)
  | .cld c a b => ((List.range t).map fun i => (blockRowAt (h.getX a) (h.getX b) i, t * (h.blockWidth c.val / 8)), .read)
  | .cst c a b => ((List.range t).map fun i => (blockRowAt (h.getX a) (h.getX b) i, t * (h.blockWidth c.val / 8)), .write)
  | _ => ([], .read)

/-- The addresses that must be multiples of an element's bytes (R289, R292). -/
def MOp.mustAlign (op : MOp) (h : Hart) : List Word × Nat :=
  match op with
  | .coprM _ a b f => ([h.getX a, h.getX b], (opFmt f).width / 8)
  | .cld c a b | .cst c a b => ([h.getX a, h.getX b], h.blockWidth c.val / 8)
  | _ => ([], 1)

end Sys2Proof.Machine
end

