-- ==== Sys2Proof/Machine/Drain.lean ====
section
/-! DEFINITION. What members do when their convoy drains (R335): stream configuration and binding
(spec/09_vector_memory_and_motion.md R252-R256, R272, R273), acceptance of kerb commands (spec/11_memory_side_engines.md R308,
R316), seals (R320-R324), and results written to x registers (R88, R234, R247, R255). -/

namespace Sys2Proof.Machine

/-- A member that only acts at its drain writes xd (R335). -/
def Ran.result (s : State) (d : Fin 32) (v : Word) : Ran := .later s fun s => .ok (s.setX d v)

/-- The word vshape returns (R88). -/
def VReg.shapeWord (r : VReg) : Word :=
  let code := match r.shape with | .u _ => 0 | .a _ _ => 1 | .g _ p => 2 + (match p with | .slot => 0 | .ways _ => 4 | .hbm => 12)
  BitVec.ofNat 64 (code + r.ew * 2 ^ 4 + r.extent * 2 ^ 12)

/-- What vshape.u and vshape.s return (R88). -/
def VReg.scalarU (r : VReg) : Word :=
  match r.shape with | .u v => BitVec.ofNat 64 v | .a b _ => BitVec.ofNat 64 b | .g _ _ => 0
@[inherit_doc VReg.scalarU] def VReg.scalarS (r : VReg) : Word := match r.shape with | .a _ st => BitVec.ofNat 64 st | _ => 0

/-- vmcpop and vmfirst (R247): bits below VL; a bad bit stops the convoy at its position. -/
def State.runMaskScan (s : State) (c : Ctx) (d : Fin 32) (a : Nat) (first : Bool) : Ran :=
  let (vs, halt) := runLanes (fun e => s.mBit a e) (List.range c.vl)
  match halt with
  | some (e, x) => .stop s (max c.org e) x
  | none =>
    let set := vs.filter (·.2)
    .result s d (if first then (match set with | (e, _) :: _ => BitVec.ofNat 64 e | [] => -1) else BitVec.ofNat 64 set.length)

/-- vmv.x.e (R234). -/
def State.runElem (s : State) (c : Ctx) (d : Fin 32) (a : Nat) (b : Fin 32) : Ran :=
  let t := (s.getX b).toNat
  if c.rows * c.vl ≤ t then .result s d 0
  else
    let s := s.setH (s.h.readAt (a + t / c.vl) c.sew)
    match s.vElem (a + t / c.vl) c.sew (t % c.vl) with
    | .ok v => .result s d (if c.cfg.fmt = 0 then BitVec.ofInt 64 (sext v c.sew) else BitVec.ofNat 64 v)
    | r => .stop s (max c.org t) r.halt

/-- vmat (R87, R88). -/
def State.runMat (s : State) (a : Nat) : Ran := .done (s.setH (s.h.setV a (s.h.getV a).materialize))

/-- A stream replaced by one newly configured or bound; it first waits for its incomplete entry (R254, R272). -/
def State.replaceStream (st : Fin 16) (t : Stream) (s : State) : Reply State :=
  if s.h.entryOf st then .wait else .ok (s.setH (s.h.setSt st t))

/-- vscfg (R252, R254). While the stream's entry is incomplete nothing is checked. -/
def State.runScfg (s : State) (c : Ctx) (xa : Word) (st : Fin 16) (enc : Nat) : Ran :=
  if s.h.entryOf st then .later s fun _ => .wait
  else if xa.toNat % 64 ≠ 0 then .stop s c.start (.trap (alignExc xa .read))
  else
    match s.readRecord xa with
    | .ok w =>
      let r := Record.ofNat w
      match r.check [0, 1] enc with
      | some e => .stop s c.start (.trap e)
      | none => .later s (State.replaceStream st (Stream.ofRecord r))
    | r => .stop s c.start r.halt

/-- vscfgr (R254). -/
def State.runScfgr (s : State) (c : Ctx) (a k : Fin 32) (st : Fin 16) (enc : Nat) : Ran :=
  if s.h.entryOf st then .later s fun _ => .wait
  else
    let r := Record.ofRegs (s.getX a) (s.getX k) (s.getX (k + 1))
    match r.check [0, 1] enc with
    | some e => .stop s c.start (.trap e)
    | none => .later s (State.replaceStream st (Stream.ofRecord r))

/-- CHANNEL with an operand in TVAL (R272). -/
def channelExc (w : Word) : Exc := { cause := .channel, acc := .read, tval := w }

/-- A stream bound to a channel (R249, R272). -/
def Stream.bound (w : Word) (width : Nat) (send : Bool) : Stream :=
  { Stream.idle with state := .active, width := width, remain := 2 ^ 48 - 1, bind := w, mode := 3, dir := send }

/-- WIDTH of a bind (R272). -/
def bindWidthOk (w : Nat) : Bool := [8, 16, 32, 64].contains w

/-- vchsend (R272). -/
def State.runChsend (s : State) (c : Ctx) (xa xb : Word) (st : Fin 16) : Ran :=
  if s.h.entryOf st then .later s fun _ => .wait
  else if bitsOf xa.toNat 15 13 ≠ 0 ∨ bitsOf xa.toNat 63 39 ≠ 0 ∨ bindWidthOk (bitsOf xa.toNat 38 32) = false then
    .stop s c.start (.trap (channelExc xa))
  else if xb ≠ s.h.id.gangId then .stop s c.start (.trap (channelExc xb))
  else .later s (State.replaceStream st (Stream.bound xa (bitsOf xa.toNat 38 32) true))

/-- Any other stream register that holds receive channel `k` becomes IDLE (R272). -/
def Hart.releaseChan (h : Hart) (k : Fin 4) : Hart :=
  { h with stm := h.stm.map fun t => if t.mode = 3 ∧ !t.dir ∧ t.state ≠ .idle ∧ t.chan = k then Stream.idle else t }

/-- vchrecv (R272). -/
def State.runChrecv (s : State) (c : Ctx) (xa : Word) (st : Fin 16) : Ran :=
  if s.h.entryOf st then .later s fun _ => .wait
  else if bitsOf xa.toNat 63 9 ≠ 0 ∨ bindWidthOk (bitsOf xa.toNat 8 2) = false then .stop s c.start (.trap (channelExc xa))
  else .later s fun s =>
    State.replaceStream st (Stream.bound xa (bitsOf xa.toNat 8 2) false)
      (s.setH (s.h.releaseChan (Fin.ofNat 4 (bitsOf xa.toNat 1 0))))

/-- vsidle (R256): it waits for the stream's entry, reports an error not yet reported, and clears the stream. -/
def State.runSidle (s : State) (st : Fin 16) : Ran :=
  .later s fun s =>
    if s.h.entryOf st then .wait
    else match s.h.streamErr st with
      | some e => .trap { e with stream := some st }
      | none => .ok (s.setH (s.h.setSt st Stream.idle))

/-- veom (R273). -/
def State.runEom (s : State) (st : Fin 16) : Ran :=
  .later s fun s =>
    if s.h.entryOf st || decide (32 ≤ s.h.ilock.length) then .wait
    else ((s.beginSend st).sendEnd st).bind fun s => .ok (s.endSend st)

/-- vsget (R255): the field as it stands when the member executes. -/
def State.runSget (s : State) (d : Fin 32) (st : Fin 16) (sel : BitVec 6) : Ran :=
  .later s fun s => .ok (s.setX d (s.h.streamField s.h.stm[st] sel.toNat))

/-- The first bytes of the 64 KiB granules of a range (R307). -/
def granuleStarts (lo n : Nat) : List Nat :=
  if n = 0 then []
  else lo :: (List.range ((lo + n - 1) / 65536 - lo / 65536)).map fun k => (lo / 65536 + k + 1) * 65536

/-- The quarter of a stack is leased to the gang of a hart (R220, R302). -/
def State.leased (s : State) (i : HartId) (stack : Nat) : Bool :=
  s.leases.any fun (k, l) => k == stack && l.die == i.die && l.gang == (s.hart i).id.gangId && decide (s.cycle < l.ends)

/-- Order 5 of R307 at one granule: translated or not. -/
def State.kerbMapped (s : State) (i : HartId) (va : Nat) : Reply Unit :=
  match s.translate i va .read with
  | .trap e => if e.cause = .page then .trap e else .ok ()
  | .miss a c => .miss a c
  | _ => .ok ()

/-- Order 6 of R307 at one granule of the scanned range: in the quarter window of the stack that holds the first granule. -/
def State.kerbQuarter (s : State) (i : HartId) (first va : Nat) : Reply Unit :=
  match s.translate i va .read with
  | .ok (.mem pa .quarter) =>
    match s.translate i first .read with
    | .ok (.mem p .quarter) =>
      if s.region p = s.region pa ∧ s.leased i ((pa - 2 ^ 40) / 2 ^ 36) = true then .ok () else denied (va % 2 ^ 56) .read
    | _ => denied (va % 2 ^ 56) .read
  | .trap e => .trap e
  | .miss a c => .miss a c
  | _ => denied (va % 2 ^ 56) .read

/-- Order 7 of R307 at one granule of an auxiliary array. -/
def State.kerbAux (s : State) (i : HartId) (va : Nat) : Reply Unit :=
  match s.translate i va .read with
  | .ok (.mem _ .normal) | .ok (.mem _ .quarter) => .ok ()
  | .trap e => .trap e
  | .miss a c => .miss a c
  | _ => denied (va % 2 ^ 56) .read

/-- Orders 5 to 7 of R307, in the convoy's probe. -/
def State.kerbProbe (s : State) (i : HartId) (kind : Nat) (c : Cmd) : Reply Unit :=
  let scan := granuleStarts c.src (c.count * c.itemBytes kind)
  (eachOk (s.kerbMapped i) scan).bind fun _ =>
    (eachOk (s.kerbQuarter i c.src) scan).bind fun _ =>
      eachOk (s.kerbAux i) ((c.arrays kind).flatMap fun (a, n) => granuleStarts a n)

/-- The job of a command just accepted: the query, or the bags that the index and offsets arrays give, as read (R310, R311). -/
def Cmd.job (c : Cmd) (kind : Nat) (arrays units : List Nat) (arrival : Nat) : KerbJob :=
  let (items, nanc) := if kind = 1 then
      c.bags (cut c.indexBytes c.w6 (arrays.getD 0 0)) (cut 4 (c.w5 + 1) (arrays.getD 1 0)) else ([], [])
  { kind := kind, src := c.src, ctrl := c.ctrl, count := c.count, aux0 := c.aux0, aux1 := c.aux1, w5 := c.w5, w6 := c.w6,
    aux := if kind = 0 then cut (c.elemBytes 0) (c.d 0) (arrays.getD 0 0) else [], items := items, nanc := nanc, data := [],
    bound := if kind = 1 then items.length else c.count, scanned := 0, sent := 0, paused := false,
    units := units.map fun u => (u, 0), arrival := arrival }

/-- The command of a job (R305), and its items in all. -/
def KerbJob.cmd (j : KerbJob) : Cmd :=
  { src := j.src, ctrl := j.ctrl, count := j.count, aux0 := j.aux0, aux1 := j.aux1, w5 := j.w5, w6 := j.w6, w7 := 0 }
@[inherit_doc KerbJob.cmd] def KerbJob.total (j : KerbJob) : Nat := if j.kind = 1 then j.items.length else j.count

/-- The address of an item of a command. -/
def KerbJob.itemAddr (j : KerbJob) (n : Nat) : Nat :=
  j.src + (if j.kind = 1 then (j.items.getD n (0, 0)).2 else n) * j.cmd.itemBytes j.kind

/-- The item after `n` that may lie in another unit: that at the next granule of 8 KiB (R301), or a pool's next. -/
def KerbJob.beyond (j : KerbJob) (n : Nat) : Nat :=
  if j.kind = 1 then n + 1 else max (n + 1) (((j.itemAddr n / 8192 + 1) * 8192 - j.src) / max 1 (j.cmd.itemBytes j.kind))

/-- The unit that holds an item (R301). -/
def State.itemUnit (s : State) (i : HartId) (t : Stream) (j : KerbJob) (n : Nat) : Option Nat :=
  match s.heldTarget i t (j.itemAddr n) .read with
  | .ok (.mem pa _) => (s.bankOf pa).map (·.1)
  | _ => none

/-- The lowest item from `n` on that a unit holds, or the bound. -/
def State.nextItem (s : State) (i : HartId) (t : Stream) (j : KerbJob) (u : Nat) : Nat → Nat → Nat
  | 0, n => n
  | k + 1, n =>
    if j.bound ≤ n then j.bound
    else if s.itemUnit i t j n = some u then n
    else s.nextItem i t j u k (j.beyond n)

/-- A job with the units at their next items, and the items read with every lower one. -/
def State.settleJob (s : State) (i : HartId) (t : Stream) (j : KerbJob) : KerbJob :=
  let us := j.units.map fun (u, n) => (u, s.nextItem i t j u (j.bound + 1 - n) n)
  { j with units := us, scanned := us.foldl (fun m u => min m u.2) j.bound }

/-- The auxiliary arrays read in order, each as one number; a command issued again, with number `no`, waits only for the transfers
before it (R318). -/
def State.readArrays (s : State) (i : HartId) (no : Option Nat) : List (Nat × Nat) → Reply (List Nat)
  | [] => .ok []
  | (a, n) :: l =>
    let r := s.readBytes i a n .read
    (match no with
     | none => (s.hart i).guard .read a n r
     | some k => if (s.hart i).heldBefore k .read a n then .wait else r).bind fun bs =>
      (s.readArrays i no l).bind fun ws => .ok (leNat bs :: ws)

/-- The stream of a command at acceptance (R308). -/
def Cmd.stream (c : Cmd) (kind : Nat) (rec : Word) : Stream :=
  { Stream.idle with
    state := if c.empty kind then .done else .active, base := BitVec.ofNat 64 (rec.toNat % 2 ^ 56), width := c.width kind,
    remain := if c.empty kind then 0 else 2 ^ 48 - 1, mode := 4 }

/-- The scan entry of a command, and the entry of its auxiliary arrays, which completes as they are read at acceptance (R316). -/
def Cmd.entry (c : Cmd) (kind : Nat) (st : Fin 16) : Entry :=
  { no := 0, kind := if kind = 2 then .tongs else .kerb, stream := st, rdlo := c.src, rdhi := c.src + c.count * c.itemBytes kind,
    wrlo := 0, wrhi := 0, progress := 0 }
@[inherit_doc Cmd.entry] def Cmd.auxEntry (c : Cmd) (kind : Nat) (st : Fin 16) : Entry :=
  let as := c.arrays kind
  { c.entry kind st with rdlo := as.foldl (fun m a => min m a.1) (2 ^ 56), rdhi := as.foldl (fun m a => max m (a.1 + a.2)) 0 }

/-- Where the granules of a command's scanned range lie, each with its length; one whose translation has gone since the probe is asked
for again, and faults as at the probe (R302, R307; log 108). -/
def State.commandPieces (s : State) (i : HartId) (hi : Nat) : List Nat → Reply (List (Nat × Nat))
  | [] => .ok []
  | va :: vas =>
    (s.translate i va .read).bind fun x =>
      match x with
      | .mem pa .quarter => (s.commandPieces i hi vas).bind fun ps => .ok ((pa, min (65536 - va % 65536) (hi - va)) :: ps)
      | _ => denied (va % 2 ^ 56) .read

/-- The units a command's scanned range participates with (R301). -/
def State.commandUnits (s : State) (i : HartId) (c : Cmd) (kind : Nat) : Reply (List Nat) :=
  let size := c.count * c.itemBytes kind
  (s.commandPieces i (c.src + size) (granuleStarts c.src size)).bind fun ps => .ok (s.unitsOf ps)

/-- Acceptance of a kerb command by hart `i` (R308, R316), or of one with number `no` again (R318). It waits for room in every unit's
queue (R303), and while a unit waits to leave ACTIVE (R488). An uncorrectable error in an auxiliary array stops the command before any
result (R319). -/
def State.acceptKerb (s : State) (i : HartId) (st : Fin 16) (kind : Nat) (rec : Word) (c : Cmd) (no : Option Nat) : Reply State :=
  let h := s.hart i
  if h.entryOf st || decide (32 < h.ilock.length + (if kind = 2 ∨ no.isSome = true then 1 else 2)) then .wait
  else
    let t := c.stream kind rec
    if c.empty kind then .ok (s.setHart i (h.setSt st t))
    else (s.commandUnits i c kind).bind fun units =>
    if units.any fun u => decide (16 ≤ s.unitQueue u) || bitAt (s.channel u).power 5 then .wait
    else
      let s := units.foldl (fun s u => s.wakeChannel u) s
      match s.readArrays i no (c.arrays kind) with
      | .ok ws =>
        let t := { t with held := s.holdPages i [] (granuleStarts c.src (c.count * c.itemBytes kind)) }
        let j := s.settleJob i t (c.job kind ws units s.commands)
        let es := if j.total = 0 then [] else [c.entry kind st]
        let h := h.setSt st { t with job := some j }
        .ok (({ s with commands := s.commands + 1 } : State).setHart i
          (match no with | none => h.enter es | some k => h.enterAt k es))
      | .trap e =>
        if e.cause = .dataerr then
          .ok (s.setHart i (h.setSt st { t with state := .error, err := some { e with stream := some st },
                                                failed := [c.entry kind st, c.auxEntry kind st] }))
        else .trap e
      | .miss a k => .miss a k
      | .wait => .wait

/-- A kerb command is accepted when its convoy drains (R308). -/
def State.runKerb (s : State) (kind : Nat) (a : Fin 32) (st : Fin 16) (record : Nat) : Ran :=
  .later s fun s => s.acceptKerb s.cur st kind (s.getX a) (Cmd.ofNat record) none

/-- Granules that follow one another in physical memory (R322). -/
def contiguous : List Nat → Bool
  | a :: b :: l => b == a + 65536 && contiguous (b :: l)
  | _ => true

/-- The status of a seal of the granules `ps`, in the order of the table (R322). -/
def State.sealStatus (s : State) (ps : List Nat) (xb : Word) : Nat :=
  if 64 ≤ s.seals.length then 1
  else if ps.any fun p => s.seals.any fun l => overlaps p 65536 l.base (l.base + l.len) then 2
  else if ps = [] ∨ bitsOf xb.toNat 63 32 ≠ 0 then 3
  else if !contiguous ps then 4
  else if s.sealCount = 2 ^ 32 - 1 then 5
  else 0

/-- Some hart has a write to these granules that has left it and has not performed: it lies before the seal's point (R323). -/
def State.writesHeld (s : State) (ps : List Nat) : Bool :=
  s.harts.any fun (_, h) => h.posted.any fun w => w.module.isNone &&
    ps.any fun p => overlaps p 65536 w.pa (w.pa + w.bytes.length)

/-- seal (R321, R322). Writes made before it come before its point: those of the hart's earlier transfers too (R135, R137, R150). -/
def State.runSeal (s : State) (d : Fin 32) (xa xb : Word) : Ran :=
  .later s fun s =>
    let len := 65536 * bitsOf xb.toNat 31 0
    if 32 ≤ s.h.ilock.length then .wait
    else (s.sealGranules s.cur xa.toNat (bitsOf xb.toNat 31 0)).bind fun ps =>
      let code := s.sealStatus ps xb
      if code ≠ 0 then .ok (s.setX d (BitVec.ofNat 64 (code * 2 ^ 56)))
      else s.h.guard .read xa.toNat len
        (if s.writesHeld ps then .wait
         else
          let n := s.sealCount + 1
          let version := s.bootEpoch * 2 ^ 32 + n
          let e : Entry := { no := 0, kind := .seal, stream := 0, rdlo := xa.toNat % 2 ^ 56, rdhi := xa.toNat % 2 ^ 56 + len,
                             wrlo := 0, wrhi := 0, progress := 0 }
          let l : Seal := { base := ps.headD 0, len := len, version := version }
          let s := { s with seals := s.seals ++ [l], sealCount := n }
          .ok ((s.setH (s.h.enter [e])).setX d (BitVec.ofNat 64 version)))

/-- unseal (R321, R324): a transfer that writes the buffer, behind the hart's earlier transfers there (R135, R137). -/
def State.runUnseal (s : State) (d : Fin 32) (xa xb : Word) : Ran :=
  .later s fun s =>
    if 32 ≤ s.h.ilock.length then .wait
    else (s.unsealTarget s.cur xa.toNat).bind fun pa =>
      if bitsOf xb.toNat 63 48 ≠ 0 then .ok (s.setX d 2)
      else
        match s.seals.find? fun l => pa == some l.base && l.version == bitsOf xb.toNat 47 0 with
        | none => .ok (s.setX d 1)
        | some l => s.h.guard .write xa.toNat l.len <|
          let e : Entry := { no := 0, kind := .unseal, stream := 0, rdlo := 0, rdhi := 0, wrlo := xa.toNat % 2 ^ 56,
                             wrhi := xa.toNat % 2 ^ 56 + l.len, progress := 0 }
          let s := { s with seals := s.seals.filter (· != l) }
          .ok ((s.setH (s.h.enter [e])).setX d 0)

end Sys2Proof.Machine
end

