-- ==== Sys2Proof/Machine/Context.lean ====
section
/-! DEFINITION. A hart's context outside its slot (spec/12_traps_and_preemption.md R344-R350): what a suspend keeps, the
context image in memory, the checks of an image, and the restore. -/

namespace Sys2Proof.Machine

/-- Source elements of one copy strip (R268). -/
def Stream.stripLen (t : Stream) : Nat := 131072 / max 1 t.width

/-- A stream register as a suspend leaves it (R318, R344, R350): strips fetched ahead and kerb results are fetched again. -/
def Stream.paused (t : Stream) : Stream :=
  match t.mode with
  | 0 | 1 => { t with fetched := t.pos, held := [] }
  | 2 => { t with strips := [], ready := [], fetched := min t.pos t.written / t.stripLen * t.stripLen }
  | 4 => if t.state = .active then { t with ready := [], job := none } else t
  | _ => t

/-- A hart as a suspend keeps it (R340, R344, R345): its convoy and waits begin again at the saved PC, an armed monitor will
report REARM, and a pending reclaim is cancelled. -/
def Hart.paused (h : Hart) : Hart :=
  { h with
    st := .suspending, phase := .open, convoy := [], ahead := none, waited := Waited.reset, xwait := none, xnone := none, fence := none, wait := none,
    mon := h.mon.map fun m => { m with hit := false, rearm := true }, stm := h.stm.map Stream.paused,
    vs := { h.vs with rq := 0 }, reclaimAt := none, relay := false, reports := false, credit := 0, age := 0, yielded := false }

/-- Elements packed at a width from bit 0 up (R96), in whole doublewords (R347). -/
def packed (w : Nat) (es : List Nat) : List Byte :=
  leBytes (ceilDiv (es.length * w) 64 * 8) (es.foldr (fun e n => e % 2 ^ w + 2 ^ w * n) 0)

/-- Doublewords as bytes. -/
def wordBytes (ws : List Nat) : List Byte := ws.flatMap (leBytes 8)

/-- KIND codes of the interlock section, in the order R136 names them. -/
def EntryKind.code : EntryKind → Nat
  | .copy => 0 | .copyAdd => 1 | .send => 2 | .kerb => 3 | .tongs => 4 | .seal => 5 | .unseal => 6
@[inherit_doc EntryKind.code] def EntryKind.ofCode : Nat → EntryKind
  | 0 => .copy | 1 => .copyAdd | 2 => .send | 3 => .kerb | 4 => .tongs | 5 => .seal | _ => .unseal

/-- The status section (R347). -/
def Hart.statusWords (h : Hart) : List Nat :=
  [h.vs.cfg.word.toNat, h.vs.vl, h.vs.rows, h.vs.vstart, boolN h.vs.sat, h.fflagsWord.toNat, h.vs.frm.toNat, h.prioWord.toNat,
   h.latcnt.toNat, h.instret.toNat, h.pair.toNat + h.nz * 2 ^ 8, h.trap.cause.toNat, h.trap.tval.toNat, h.trap.pc.toNat,
   h.trap.vec.toNat, h.tstatus.toNat] ++ List.replicate 16 0

/-- One stream register of the streams section (R347). -/
def Stream.words (t : Stream) : List Nat :=
  [t.base.toNat, t.dbase.toNat] ++ padTo 0 4 t.extent ++ padTo 0 4 (t.stride.map (·.toNat))
    ++ [t.pos, t.remain, 0, t.acc, t.bind.toNat, t.status.toNat]

/-- One entry of the interlock section (R347). -/
def Entry.words (e : Entry) : List Nat :=
  [e.kind.code + 2 ^ 8 + e.stream.val * 2 ^ 12, e.rdlo, e.rdhi, e.wrlo, e.wrhi, e.progress, 0, 0]

/-- One tag of the tags section (R347). -/
def VReg.words (r : VReg) : List Nat :=
  [(r.move .slot).shapeWord.toNat, r.scalarU.toNat, r.scalarS.toNat, 0]

/-- A receive channel of the channels section (R347). -/
def Chan.image (c : Chan) : List Byte :=
  let n := c.entries.length
  leBytes 8 n ++ (if n = 0 then [] else
    leBytes 64 ((List.range n).foldl (fun b k => b + boolN ((c.entries.getD k none).isNone) * 2 ^ k) 0)
      ++ wordBytes (c.entries.map fun e => match e with | some (v, _) => v % 2 ^ 64 | none => 0))

/-- Bytes of the mask, register and block sections (R347). -/
def Hart.maskImage (h : Hart) : List Byte := h.m.toList.flatMap fun m => packed 1 (m.bits.map boolN)
@[inherit_doc Hart.maskImage] def Hart.dataImage (h : Hart) : List Byte :=
  h.v.toList.flatMap fun r => match r.shape with | .g es _ => packed r.ew es | _ => []
@[inherit_doc Hart.maskImage] def Hart.blockImage (h : Hart) : List Byte :=
  (List.range 8).flatMap fun b =>
    if h.nz.testBit b && !(h.wideBlock b && b % 2 == 1) then packed (h.blockWidth b) (h.blockList b) else []

/-- PLACE of the header (R348). -/
def Hart.placeWord (h : Hart) : Nat :=
  h.id.index.toNat + h.id.moves.toNat * 2 ^ 11 + h.id.gen.toNat * 2 ^ 16 + h.vs.qcount * 2 ^ 32
    + h.vs.cfg.nslot.toNat * 2 ^ 36 + boolN h.scalarOnly * 2 ^ 38 + boolN h.id.paired * 2 ^ 39 + boolN h.mon.isSome * 2 ^ 40

/-- The sections behind the header (R347), and the header in front of them with CHECK as given (R348). -/
def Hart.sections (h : Hart) : List Byte × List Byte × List Byte × List Byte :=
  (wordBytes ((h.x.toList.drop 1).map (·.toNat) ++ [h.pc.toNat] ++ h.statusWords ++ h.stm.toList.flatMap Stream.words
      ++ padTo 0 256 (h.ilock.flatMap Entry.words) ++ h.v.toList.flatMap VReg.words
      ++ h.m.toList.map fun m => m.bits.length + m.ones * 2 ^ 32) ++ h.chan.toList.flatMap Chan.image,
   h.maskImage, h.dataImage, h.blockImage)
@[inherit_doc Hart.sections] def Hart.imageWith (h : Hart) (check : Nat) : List Byte :=
  let (a, b, c, d) := h.sections
  let o1 := 128 + a.length
  let o2 := o1 + b.length
  let o3 := o2 + c.length
  wordBytes ([0x48454154 + 2 ^ 32, o3 + d.length, h.id.gangId.toNat, h.placeWord,
      (match h.mon with | some m => m.va.toNat | none => 0), check, o1, o2, o3] ++ List.replicate 7 0) ++ a ++ b ++ c ++ d

/-- The context image of a suspended hart (R347, R348). -/
def Hart.image (h : Hart) : List Byte := h.imageWith (leNat (Config.shake256 8 (h.imageWith 0)) % 2 ^ 64)

/-- A doubleword of an image, and `n` elements of `w` bits from a byte offset on. -/
def imgWord (a : Array Byte) (off : Nat) : Nat := leNat ((List.range 8).map fun k => a.getD (off + k) 0)
@[inherit_doc imgWord] def imgBits (a : Array Byte) (off w n : Nat) : List Nat :=
  let x := leNat ((List.range (ceilDiv (n * w) 64 * 8)).map fun k => a.getD (off + k) 0)
  (List.range n).map fun k => x / 2 ^ (w * k) % 2 ^ w

/-- A stream register from its words, each field at its width (R249). The AVAIL word is not used (R347). -/
def Stream.ofImage (a : Array Byte) (off : Nat) : Stream :=
  let f := fun k => imgWord a (off + 8 * k)
  let st := f 15
  { Stream.idle with
    state := (match bitsOf st 1 0 with | 0 => .idle | 1 => .active | 2 => .done | _ => .error),
    base := BitVec.ofNat 64 (trunc 56 (f 0)), dbase := BitVec.ofNat 64 (trunc 56 (f 1)), extent := [f 2, f 3, f 4, f 5].map (trunc 48),
    stride := [BitVec.ofNat 64 (f 6), BitVec.ofNat 64 (f 7), BitVec.ofNat 64 (f 8), BitVec.ofNat 64 (f 9)],
    width := bitsOf st 18 12, pos := trunc 48 (f 10), remain := trunc 48 (f 11),
    acc := trunc 48 (f 13), bind := BitVec.ofNat 64 (f 14), eom := bitAt st 2,
    rpt := bitAt st 3, send := (match bitsOf st 5 4 with | 0 => .none | 1 => .busy | _ => .undeliverable), mark := bitAt st 6,
    tap := bitAt st 7, mode := bitsOf st 10 8, dir := bitAt st 19 }

/-- A register from its tag, with the elements of a general register still to be read. -/
def VReg.ofImage (a : Array Byte) (off : Nat) : VReg :=
  let w := imgWord a off
  let u := imgWord a (off + 8)
  { shape := (match bitsOf w 1 0 with | 0 => .u u | 1 => .a u (imgWord a (off + 16)) | _ => .g [] .slot),
    ew := bitsOf w 10 4, extent := bitsOf w 36 12, used := 0, bad := [] }

/-- The channels from their section on, and where it ends. -/
def chansOfImage (a : Array Byte) : Nat → Nat → List Chan × Nat
  | 0, off => ([], off)
  | k + 1, off =>
    let n := min 512 (imgWord a off)
    if n = 0 then let (cs, e) := chansOfImage a k (off + 8); ({ entries := [], holder := none } :: cs, e)
    else
      let ends := leNat ((List.range 64).map fun j => a.getD (off + 8 + j) 0)
      let es := (List.range n).map fun j =>
        if bitAt ends j then none else some (imgWord a (off + 72 + 8 * j), 64)
      let (cs, e) := chansOfImage a k (off + 72 + 8 * n)
      ({ entries := es, holder := none } :: cs, e)

/-- The general registers filled from their section on. -/
def fillRegs (a : Array Byte) : List VReg → Nat → List VReg
  | [], _ => []
  | r :: rs, off =>
    match r.shape with
    | .g _ _ =>
      { r with shape := .g (imgBits a off r.ew r.extent) .slot } :: fillRegs a rs (off + ceilDiv (r.extent * r.ew) 64 * 8)
    | _ => r :: fillRegs a rs off

/-- The bytes of the mask, register and block sections that a header and its tags, descriptors and BCFG word call for (R347). -/
def sectionBytes (a : Array Byte) : Nat × Nat × Nat :=
  let pair := imgWord a (384 + 80)
  (((List.range 8).map fun k => ceilDiv (bitsOf (imgWord a (6784 + 8 * k)) 24 0) 64 * 8).sum,
   ((List.range 64).map fun k =>
      let r := VReg.ofImage a (4736 + 32 * k)
      match r.shape with | .g _ _ => ceilDiv (r.extent * r.ew) 64 * 8 | _ => 0).sum,
   ((List.range 8).map fun b =>
      let wide := bitAt pair (b / 2)
      if bitAt pair (8 + b) && !(wide && b % 2 == 1) then Config.tlen * Config.tlen * (if wide then 8 else 4) else 0).sum)

/-- The bits that are fields of the words of an image that have reserved bits, by the word's offset: PLACE and the header's last words
(R348), the status words (R41, R67, R72-R74, R102, R103, R286, R328-R330), STATUS of each stream (R249), the entries, the tags (R88)
and the mask descriptors (R347). -/
def imageFields : List (Nat × Nat) :=
  (24, 2 ^ 41 - 1) :: ((List.range 7).map fun k => (72 + 8 * k, 0))
    ++ ([2 ^ 63 + 0x3FF1FF, 2 ^ 25 - 1, 0xF, 2 ^ 28 - 1, 1, 0x1F1F, 7, 0x303, 2 ^ 64 - 1, 2 ^ 64 - 1, 0xFF0F, 0x3FF, 2 ^ 64 - 1, 2 ^ 56 - 1,
          2 ^ 56 - 3, 0x179] ++ List.replicate 16 0).zipIdx.map (fun (m, k) => (384 + 8 * k, m))
    ++ (List.range 16).map (fun k => (640 + 128 * k + 120, 0xFF7FF))
    ++ (List.range 32).flatMap (fun k => [(2688 + 64 * k, 0xF10F), (2688 + 64 * k + 48, 0), (2688 + 64 * k + 56, 0)])
    ++ (List.range 64).flatMap (fun k => [(4736 + 32 * k, 3 + 0x7F0 + (2 ^ 37 - 2 ^ 12)), (4736 + 32 * k + 24, 0)])
    ++ (List.range 8).map fun k => (6784 + 8 * k, (2 ^ 25 - 1) * (2 ^ 32 + 1))

/-- COUNT of each channel and the end of the channels section (R347). -/
def channelCounts (a : Array Byte) : Nat → Nat → List Nat × Nat
  | 0, off => ([], off)
  | k + 1, off =>
    let n := imgWord a off
    let (cs, e) := channelCounts a k (off + 8 + (if n = 0 ∨ 512 < n then 0 else 64 + 8 * n))
    (n :: cs, e)

/-- The masks filled from their section on; `ds` are their descriptors. -/
def fillMasks (a : Array Byte) : List Nat → Nat → List Mask
  | [], _ => []
  | d :: ds, off =>
    let n := bitsOf d 24 0
    { bits := (imgBits a off 1 n).map (· == 1), ones := bitsOf d 56 32, bad := [] } :: fillMasks a ds (off + ceilDiv n 64 * 8)

/-- The blocks filled from their section on: block `b` where NZ has its bit set. -/
def fillBlocks (a : Array Byte) (pair nz : Nat) : List Nat → Nat → List (Map Nat)
  | [], _ => []
  | b :: bs, off =>
    let wide := bitAt pair (b / 2)
    if bitAt nz b && !(wide && b % 2 == 1) then
      let w := if wide then 64 else 32
      let n := Config.tlen * Config.tlen
      blockOf (imgBits a off w n) :: fillBlocks a pair nz bs (off + n * w / 8)
    else [] :: fillBlocks a pair nz bs off

/-- A vector from a list, padded. -/
def vecOf {α : Type} (n : Nat) (d : α) (l : List α) : Vector α n := Vector.ofFn fun i => l.getD i.val d

/-- The hart an image describes (R347). -/
def Hart.ofImage (a : Array Byte) : Hart :=
  let st := fun k => imgWord a (384 + 8 * k)
  let place := imgWord a 24
  let cfg := VCfg.request (BitVec.ofNat 64 (st 0))
  let ff := BitVec.ofNat 64 (st 5)
  let ts := st 15
  let entries := (List.range 32).filterMap fun k =>
    let f := fun j => imgWord a (2688 + 64 * k + 8 * j)
    if bitAt (f 0) 8 then
      some ({ no := k, kind := EntryKind.ofCode (bitsOf (f 0) 3 0), stream := Fin.ofNat 16 (bitsOf (f 0) 15 12), rdlo := f 1, rdhi := f 2,
              wrlo := f 3, wrhi := f 4, progress := f 5 } : Entry)
    else none
  let regs := (List.range 64).map fun k => VReg.ofImage a (4736 + 32 * k)
  let (chans, _) := chansOfImage a 4 6848
  { Hart.reset with
    pc := evenPc (BitVec.ofNat 56 (imgWord a 376)),
    x := Vector.ofFn fun i => if i.val = 0 then 0 else BitVec.ofNat 64 (imgWord a (128 + 8 * (i.val - 1))),
    id := { Hart.reset.id with index := BitVec.ofNat 11 place, moves := BitVec.ofNat 5 (place / 2 ^ 11),
                               gen := BitVec.ofNat 16 (place / 2 ^ 16), gangId := BitVec.ofNat 64 (imgWord a 16),
                               prioCur := BitVec.ofNat 2 (st 7), prioMax := BitVec.ofNat 2 (st 7 / 2 ^ 8),
                               paired := bitAt place 39 },
    vs := { Hart.reset.vs with
      cfg := { cfg with ill := bitAt (st 0) 63 }, vl := st 1, rows := st 2, vstart := st 3, sat := bitAt (st 4) 0,
      flags := ff.extractLsb' 0 5, en := ff.extractLsb' 8 5, frm := BitVec.ofNat 3 (st 6), qcount := bitsOf place 35 32 },
    latcnt := BitVec.ofNat 64 (st 8), instret := BitVec.ofNat 64 (st 9), pair := BitVec.ofNat 4 (st 10),
    trap := { cause := BitVec.ofNat 10 (st 11), tval := BitVec.ofNat 64 (st 12), pc := evenPc (BitVec.ofNat 56 (st 13)),
              en := bitAt (st 14) 0, base := BitVec.ofNat 54 (st 14 / 4), conv := bitAt ts 3, member := BitVec.ofNat 3 (ts / 16) },
    inh := bitAt ts 0, rwarn := bitAt ts 8,
    stm := Vector.ofFn fun i => Stream.ofImage a (640 + 128 * i.val), ilock := entries, transfers := 32,
    v := vecOf 64 VReg.reset (fillRegs a regs (imgWord a 56)),
    m := vecOf 8 Mask.reset (fillMasks a ((List.range 8).map fun k => imgWord a (6784 + 8 * k)) (imgWord a 48)),
    chan := vecOf 4 { entries := [], holder := none } chans,
    blk := vecOf 8 [] (fillBlocks a (st 10 % 16) (bitsOf (st 10) 15 8) (List.range 8) (imgWord a 64)),
    mon := if bitAt place 40 then some { va := BitVec.ofNat 64 (imgWord a 32), sector := 0, hit := false, rearm := true }
           else none }

/-- The digest of an image with its CHECK field zero (R348). -/
def imageCheck (a : Array Byte) : Nat :=
  leNat (Config.shake256 8 (a.toList.take 40 ++ List.replicate 8 0 ++ a.toList.drop 48)) % 2 ^ 64

/-- The checks of R350 on an image and the hart it describes: MAGIC and FORMAT; SIZE and the offsets, which the sections fix; CHECK;
reserved fields and codes (log 84); EW and EXTENT of each tag; COUNT; MEXT. -/
def imageOk (a : Array Byte) (h : Hart) : Bool :=
  let (counts, o1) := channelCounts a 4 6848
  let (m, g, b) := sectionBytes a
  imgWord a 0 == 0x48454154 + 2 ^ 32 && counts.all (fun n => decide (n ≤ 512))
    && (h.v.toList.all fun r => decide (1 ≤ r.ew ∧ r.ew ≤ 64 ∧ r.extent ≤ h.vlmaxAt r.ew))
    && ((List.range 64).all fun k => decide (imgWord a (4736 + 32 * k) % 4 ≠ 3))
    && ((List.range 8).all fun k => decide (bitsOf (imgWord a (6784 + 8 * k)) 24 0 ≤ h.vlmax))
    && ((List.range 32).all fun k => decide (imgWord a (2688 + 64 * k) % 16 ≤ 6))
    && imageFields.all (fun (off, m) => imgWord a off &&& m == imgWord a off)
    && imgWord a 8 == o1 + m + g + b && a.size == o1 + m + g + b
    && imgWord a 48 == o1 && imgWord a 56 == o1 + m && imgWord a 64 == o1 + m + g
    && imgWord a 40 == imageCheck a

/-- What a suspended hart had besides its image (log 21): copy forms and record addresses, elements of a send not yet
delivered and how far its data are read, what a stopped convoy's restart still reads, widths of elements in its channels, errors not yet reported, and
writes ordered behind its paused transfers, each now behind the entries that stood before it. -/
def Hart.withHidden (h p : Hart) : Hart :=
  { h with
    stm := Vector.ofFn fun i =>
      let t := h.stm[i]
      let o := p.stm[i]
      { t with form := o.form, recAddr := o.recAddr, outbox := o.outbox, partway := o.partway, readTo := o.readTo, err := o.err,
               failed := o.failed, written := o.written, fetched := o.fetched },
    chan := Vector.ofFn fun i =>
      let c := h.chan[i]
      { entries := (List.range c.entries.length).map fun k =>
          match c.entries.getD k none, p.chan[i].entries.getD k none with
          | some (v, _), some (_, w) => some (v, w)
          | e, _ => e,
        holder := p.chan[i].holder },
    mon := match h.mon, p.mon with | some m, some o => some { m with sector := o.sector } | m, _ => m,
    wfail := p.wfail, kept := p.kept,
    posted := p.posted.map fun w => { w with after := (p.ilock.filter fun e => decide (e.no < w.after)).length } }

/-- An image with nothing else known: the copies it holds go on from their entries' PROGRESS; whether a 64-bit copy with destination-add
adds INT64 or FP64 inputs, which no field of the image says, is free: `pick` (log 21). -/
def Hart.withoutHidden (h : Hart) (pick : Nat) : Hart :=
  { h with stm := Vector.ofFn fun i =>
      let t := h.stm[i]
      let done := ((h.ilock.find? fun e => e.stream == i && (e.kind == .copy || e.kind == .copyAdd)).map (·.progress)).getD t.count
      let form : CopyForm :=
        if h.ilock.any fun e => e.stream == i && e.kind == .copyAdd then
          (if t.width = 32 then .adds else if pick / 2 ^ i.val % 2 = 0 then .addl else .addd)
        else if t.tap then .tap else .plain
      if t.mode = 2 then ({ t with written := done, form := form } : Stream).paused else t }

/-- The suspended hart an image belongs to. -/
def State.parkedFor (s : State) (h : Hart) : Option Hart :=
  s.dies.findSome? fun (_, d) => d.parked.find? fun p =>
    p.id.gangId == h.id.gangId && p.id.index == h.id.index && p.id.gen == h.id.gen

end Sys2Proof.Machine
end

