-- ==== Sys2Proof/Machine/Fetch.lean ====
section
/-! DEFINITION. Fetching an instruction's bytes (spec/06_instruction_words.md R152, spec/18_host_and_launch.md R509): its
length from its first halfword, its parts halfword by halfword, and its class (R163). -/

namespace Sys2Proof.Machine

/-- The halfword at an even address, fetched by a hart: the exit stub page of a launch is read from the firmware image
(R509), and the code that the on-device loader made for one counts as verified (R472). -/
def State.fetchHalf (s : State) (i : HartId) (va : Nat) : Reply Nat :=
  let va := va % 2 ^ 56
  let made := match s.launchOf i with
    | some l => if l.entry.toNat ≤ va then (l.code.drop (va - l.entry.toNat)).take 2 else []
    | none => []
  if 0x00FD000000000000 ≤ va ∧ va < 0x00FD000000010000 ∧ (s.launchOf i).isSome then
    .ok (leNat [exitStubByte (va - 0x00FD000000000000), exitStubByte (va - 0x00FD000000000000 + 1)])
  else if made ≠ [] then .ok (leNat made)
  else
    match s.readBytes i va 2 .fetch with
    | .ok bs => .ok (leNat bs)
    | .trap e => .trap e
    | .miss a c => .miss a c
    | .wait => .wait

/-- A fault on the second word of a PFX instruction is reported at that word's address (R280). -/
def faultAt {α : Type} (va : Nat) (r : Reply α) : Reply α :=
  match r with
  | .trap e => .trap { e with tval := BitVec.ofNat 64 (va % 2 ^ 56) }
  | r => r

/-- Joins the readings of the parts of an instruction, lowest first. -/
def joinHalves : List (Reply Nat) → Reply Nat
  | [] => .ok 0
  | r :: rs =>
    match r with
    | .ok a => match joinHalves rs with
      | .ok b => .ok (a + 65536 * b)
      | r => r
    | r => r

/-- The bits of the instruction at `va` and its length in bytes (R152). -/
def State.fetch (s : State) (i : HartId) (va : Nat) : Reply (Nat × Nat) :=
  match s.fetchHalf i va with
  | .ok h =>
    let n := sizeOfHalf h
    let rest :=
      if n = 2 then []
      else if n = 4 then [s.fetchHalf i (va + 2)]
      else [s.fetchHalf i (va + 2), faultAt (va + 4) (s.fetchHalf i (va + 4)), faultAt (va + 4) (s.fetchHalf i (va + 6))]
    match joinHalves rest with
    | .ok w => .ok (h + 65536 * w, n)
    | .trap e => .trap e
    | .miss a c => .miss a c
    | .wait => .wait
  | .trap e => .trap e
  | .miss a c => .miss a c
  | .wait => .wait

/-- The first byte of the part of the instruction at `pc` that a miss at `va` concerns: the second word of a PFX instruction is one
part (R152, R280). -/
def partAt (pc va : Nat) : Nat := if va = (pc + 6) % 2 ^ 56 then (pc + 4) % 2 ^ 56 else va

/-- The part whose first fetch the hart waits for: of the next instruction to issue, at `pc`, or of the one behind it, which decides
whether that one is the last of its convoy (R164). -/
def State.awaited (s : State) (i : HartId) (pc : Nat) : Option Nat :=
  match s.fetch i pc with
  | .miss va _ => some (partAt pc va)
  | .ok (_, n) => match s.fetch i (pc + n) with
    | .miss va _ => some (partAt (pc + n) va)
    | _ => none
  | _ => none

/-- A convoy-class word: format V or P (R154, R163). -/
def convoyClass (w : Nat) : Bool :=
  let major := w / 4 % 64
  w % 4 == 3 && (decide (0x19 ≤ major ∧ major ≤ 0x1D) || decide (0x20 ≤ major ∧ major ≤ 0x3B))

/-- A word that joins an open convoy: convoy class with K = 0 (R163). -/
def joins (w : Nat) : Bool := convoyClass w && !bitAt w 8

end Sys2Proof.Machine
end

