-- ==== Sys2Proof/Machine/Pairing.lean ====
section
/-! DEFINITION. Rolling a lockstep pair back (spec/21_fleet_operation.md R500, R501). -/

namespace Sys2Proof.Machine

/-- A function applied to the current hart's state as if hart `i` were current. -/
def State.asHart (s : State) (i : HartId) (f : State → State) : State := { f { s with cur := i } with cur := s.cur }

/-- A monitor as a rollback leaves it: writes that performed since the checkpoint count, also where another sector has been watched
meanwhile (log 68). -/
def Monitor.rolledBack (now : Option Monitor) (m : Monitor) : Monitor :=
  { m with hit := m.hit || now.all fun x => x.sector != m.sector || x.hit }

/-- A paired hart returns to its checkpoint (R500). What left the pair is not undone: transfers, what engines have done for their streams,
channels, writes and a mark of its partition stay, and an error that a trap undone has reported is unreported again (log 68). A stop or a
suspend that has begun goes on (R502). -/
def Hart.rolledBack (h c : Hart) : Hart :=
  let t : Hart := { c with
    stm := Vector.ofFn fun i =>
      if h.entryOf i || c.entryOf i || h.stm[i].mode == 4 then { h.stm[i] with rpt := c.stm[i].rpt } else c.stm[i],
    chan := h.chan, ilock := h.ilock, transfers := h.transfers, posted := h.posted, wfail := h.wfail.orElse fun _ => c.wfail,
    latcnt := h.latcnt, reads := h.reads, mon := c.mon.map (Monitor.rolledBack h.mon),
    vs := { c.vs with rq := h.vs.rq }, reclaimAt := h.reclaimAt }
  if h.st = .suspending then t.paused
  else if h.st = .stopping then
    { t with st := .stopping, reports := h.reports, pc := h.pc, x := h.x, instret := h.instret, convoy := h.convoy, ahead := h.ahead,
             phase := if h.convoy = [] then .open else .start, wait := none }
  else t

/-- A pair is retired: its cores take no hart until the next cold boot (R501, R504). -/
def State.retirePair (s : State) (c : CoreId) : State :=
  [c.core, Fin.ofNat 192 (c.core.val + 1)].foldl (fun s k =>
    let x : CoreId := { c with core := k }
    let a := 0xB0000 + c.die.val * 0x1000 + 0x400 + 8 * k.val
    let w := s.peekNat a 8
    (s.setCore x { s.core x with usable := 0 }).pokeNat a 8 (w / 2 ^ 9 * 2 ^ 9 + 2 ^ 8)) s

/-- A pair rolls back to its checkpoint; the third time in a row it raises MCHECK, and the pair is retired (R500, R501). -/
def State.rollBack (s : State) (h : HartId) : State :=
  match s.pairs.find? fun p => p.1 == hartKey h with
  | none => s
  | some (_, p) =>
    let s := (s.setHart h ((s.hart h).rolledBack p.hart)).bump h.die 0x68
    let p' : PairCopy := { p with rollbacks := p.rollbacks + 1, resumeAt := some (s.cycle + 64) }
    let s := { s with pairs := s.pairs.map fun q => if q.1 == hartKey h then (q.1, p') else q }
    if p'.rollbacks < 3 then s
    else
      let lseq := ((s.launchOf h).map fun l => l.seq % 2 ^ 32).getD 0
      let s := s.asHart h fun s => s.trapHere { cause := .mcheck, acc := .read, tval := 3 }
      (s.mclog h.die 0 h.core.val lseq).retirePair (coreOf h)

/-- DATAERR from an array, a mask or a block (R338). -/
def Exc.fromArray (e : Exc) : Bool := e.cause = .dataerr && e.origin = .array

end Sys2Proof.Machine
end

