-- ==== Sys2Proof/Machine/Convoy.lean ====
section
/-! DEFINITION. Convoys (spec/06_instruction_words.md R163-R168): a member joins, the convoy closes, starts, is trimmed and
probed (R257-R259), and runs to its drain or to a stop (R85, R334, R335). -/

namespace Sys2Proof.Machine

/-- Bytes of the convoy's words. -/
def convoyBytes (ms : List Member) : Nat := (ms.map (·.size)).sum

/-- What each member names. -/
def Hart.infos (h : Hart) : List Info := h.convoy.map fun m => m.op.info h m.masked

/-- The first stream register named that is in ERROR with its error not yet reported, with the member's place (R271, R319). -/
def Hart.convoyErr (h : Hart) : Option (Nat × Exc) :=
  ((List.range h.convoy.length).zip h.infos).findSome? fun (k, i) =>
    match i.st with
    | none => none
    | some st => (h.streamErr st).map fun e => (k, { e with stream := some st })

/-- A member that uses VSTART: its convoy leaves VSTART 0 (R74, R234, R247, R273, R276, R295). -/
def MOp.resets (op : MOp) : Bool :=
  match op with
  | .shape _ _ | .shapeU _ _ | .shapeS _ _ | .scfg _ _ | .scfgr _ _ _ | .copy _ _ _ _ | .chsend _ _ _ | .chrecv _ _
  | .eom _ | .sget _ _ _ | .sidle _ | .kerb _ _ _ _ | .seal _ _ _ | .unseal _ _ _ => false
  | _ => true

/-- A Crucible member other than ccvt: it commits at the drain or not at all (R295). -/
def MOp.whole (op : MOp) : Bool :=
  match op with
  | .copr _ _ _ _ _ | .coprM _ _ _ _ | .cmvBv _ _ _ | .cmvVb _ _ _ | .cld _ _ _ | .cst _ _ _ | .czero _ => true
  | _ => false

/-- A member that computes addresses of its own, or reads a record. -/
def MOp.reaches (op : MOp) : Bool :=
  match op with
  | .gather _ _ _ | .scatter _ _ _ _ | .amo _ _ _ _ _ | .cld _ _ _ | .cst _ _ _ | .scfg _ _ | .copy _ _ _ _ | .kerb _ _ _ _ => true
  | _ => false

/-- The streams the convoy consumes, in member order (R257). -/
def Hart.consumed (h : Hart) : List (Fin 16) := h.infos.filterMap fun i => if i.consumes then i.st else none

/-- Operand registers of the convoy's Crucible member that a later member writes (R167; log 97). -/
def Hart.overwritten (h : Hart) : List Nat :=
  let is := h.infos
  ((List.range h.convoy.length).zip h.convoy).flatMap fun (k, m) =>
    (match m.op with
     | .copr _ a b _ _ => [a.val, b.val]
     | .cmvBv _ a _ => [a.val]
     | _ => []).filter fun r => (is.drop (k + 1)).any fun i => i.writes.any fun w => w.1 == r

/-- What the convoy in hand reads as it stood before its first start, where it is being restarted (log 97). -/
def Hart.keptHere (h : Hart) : Option Kept := if 0 < h.vs.vstart then h.kept.filter fun k => k.pc == h.pc else none

/-- The context of the convoy in hand, processing positions below `limit` (R167). -/
def Hart.ctx (h : Hart) (limit : Nat) : Ctx :=
  { org := h.vs.vstart, past := max h.vs.vstart h.waited.upto, start := h.vs.vstart, limit := limit,
    total := if h.phase = .empty then h.vs.vstart else max h.vs.vstart (h.vs.rows * h.vs.vl),
    vl := h.vs.vl, rows := h.vs.rows, cfg := h.vs.cfg, rnd := h.vrnd,
    mask0 := (match h.keptHere with | some k => k.m0 | none => h.getM 0),
    kept := (match h.keptHere with | some k => k.regs | none => h.overwritten.map fun k => (k, h.getV k)),
    me := 0, blind := false, fresh := [], freshM := [], stopper := none, gone := false }

/-- One member's execution (R335). Members that read whole registers, and scalar results, act only where every position is
processed; `cru` withholds a Crucible member that cannot commit. -/
def State.runMember (s : State) (c : Ctx) (cru : Bool) (m : Member) : Ran :=
  let whole := c.limit == c.total
  let k := m.masked
  match m.op with
  | .ew f d a b => s.runEw c k f d.val a.val b
  | .cmp f d a b => s.runCmp c k f d.val a.val b
  | .mask f d a b => s.runMask c f d.val a.val b.val
  | .mcpop d a => if whole then s.runMaskScan c d a.val false else .done s
  | .mfirst d a => if whole then s.runMaskScan c d a.val true else .done s
  | .shape d a => .later s fun s => .ok (s.setX d (s.h.getV a.val).shapeWord)
  | .shapeU d a => .later s fun s => .ok (s.setX d (s.h.getV a.val).scalarU)
  | .shapeS d a => .later s fun s => .ok (s.setX d (s.h.getV a.val).scalarS)
  | .mat a => if c.gone then .done s else s.runMat a.val
  | .elem d a b => if whole then s.runElem c d a.val b else .done s
  | .scfg a st => s.runScfg c (s.getX a) st m.enc
  | .scfgr a j st => s.runScfgr c a j st m.enc
  | .copy f a b st => if m.acted then .done s else s.runCopy c f (s.getX a) (s.getX b) st m.enc
  | .chsend a b st => s.runChsend c (s.getX a) (s.getX b) st
  | .chrecv a st => s.runChrecv c (s.getX a) st
  | .send a eom st => s.runSend c a.val eom st
  | .eom st => s.runEom st
  | .sget d st sel => s.runSget d st sel
  | .sidle st => s.runSidle st
  | .kerb kind a st record => s.runKerb kind.val a st record
  | .seal d a b => s.runSeal d (s.getX a) (s.getX b)
  | .unseal d a b => s.runUnseal d (s.getX a) (s.getX b)
  | .load d st => s.runLoad c k d.val st
  | .store ordered a st => s.runStore c k ordered a.val st
  | .gather d a b => s.runGather c k d.val a.val b
  | .scatter ordered d a b => s.runScatter c k ordered d.val a.val b
  | .amo f d a ord unordered => s.runAmo c k f d.val a.val ord (BitVec.ofNat 3 (m.enc / 2 ^ 24)) unordered
  | .xr f d a b => s.runXr c k f d.val a.val b
  | .vmm d a b ta tb => s.runVmm c k d.val a.val b.val ta tb
  | .ccvt d a vs ta tb out => s.runCcvt c k d.val a.val vs.val ta tb out
  | .copr b va vb xo f => if whole && cru then s.runCopr c b va.val vb.val (s.getX xo) f else .done s
  | .coprM b a y f => if whole && cru then s.runCoprM c b (s.getX a) (s.getX y) f else .done s
  | .cmvBv b va xo => if whole && cru then s.runCmvBv c b va.val (s.getX xo) else .done s
  | .cmvVb vd b xo => if whole && cru then s.runCmvVb c b vd.val (s.getX xo) else .done s
  | .cld b a st => if whole && cru then s.runCld c b (s.getX a) (s.getX st) else .done s
  | .cst b a st => if whole && cru then s.runCst c b (s.getX a) (s.getX st) else .done s
  | .czero b => if whole && cru then s.runCzero b else .done s

/-- What a pass over the members gives: the state, the first halt with its member's place, and what remains for the drain. -/
structure Pass where
  s : State
  halt : Option (Nat × Nat × Halt)
  late : List (Nat × (State → Reply State))

/-- Where a halt at position `p` stops a convoy that has waited: not below the positions whose accesses are made (log 96). -/
def Ctx.stopAt (c : Ctx) (p : Nat) : Nat := if c.org < c.past then max p c.past else p

/-- The members in program order. One that halts below the limit ends the pass; one that halts at it leaves its state, and
the first such halt is kept. -/
def State.pass (s : State) (c : Ctx) (cru : Bool) : Nat → List Member → Pass
  | _, [] => { s := s, halt := none, late := [] }
  | k, m :: ms =>
    let i := m.op.info s.h m.masked
    let r := s.runMember { c with me := k, gone := c.stopper.any fun j => decide (j < k) } cru m
    match r.halt with
    | some (q, x) =>
      let p := c.stopAt q
      if p < c.limit then { s := r.s, halt := some (k, p, x), late := [] }
      else
        let q := r.s.pass c cru (k + 1) ms
        if q.halt.any fun h => decide (h.2.1 < c.limit) then q else { q with halt := some (k, p, x) }
    | none =>
      let c' := { c with fresh := i.writes.map (·.1) ++ c.fresh, freshM := i.maskW ++ c.freshM }
      let q := r.s.pass c' cru (k + 1) ms
      { q with late := (match r.late with | some f => (k, f) :: q.late | none => q.late) }

/-- Registers that a member reads at positions of every row: the B operand of vmm, and the operands whose elements it takes by an index
of their own, A and the scales of ccvt (R282, R299). -/
def MOp.crossReads (op : MOp) : List Nat :=
  match op with
  | .vmm _ _ b _ _ => (List.range 8).map (b.val + ·)
  | _ => []
@[inherit_doc MOp.crossReads] def MOp.indexReads (op : MOp) : List Nat :=
  match op with
  | .vmm _ a _ _ _ => [a.val]
  | .ccvt _ _ vs _ _ out => if out.toNat ≤ 1 then [vs.val] else []
  | _ => []

/-- Masks read without regard to the row: m0 in every row (R93), and those of mask logic in its one row (R245). -/
def Member.crossMasks (m : Member) (i : Info) : List Nat :=
  match m.op with
  | .mcpop _ _ | .mfirst _ _ | .xr _ _ _ _ => []
  | _ => i.maskR

/-- Some member reads, across rows, what another member of the convoy writes. -/
def Hart.crosses (h : Hart) (reads masks : Member → Info → List Nat) : Bool :=
  let ms := h.convoy.zip h.infos
  let pairs := (List.range ms.length).flatMap fun i => (List.range ms.length).map fun j => (i, j)
  pairs.any fun (i, j) =>
    i != j && (match ms[i]?, ms[j]? with
      | some (m, a), some (_, b) => meets (reads m a) (b.writes.map (·.1)) || meets (masks m a) b.maskW
      | _, _ => false)

/-- The limits of the parts in which a convoy is executed. Members take effect in program order at each position (R167): where one reads
across rows what another writes, a row at a time, and position by position where it takes elements by an index of its own; elsewhere
all positions at once come to the same. -/
def Hart.cuts (h : Hart) (c : Ctx) : List Nat :=
  if h.crosses (fun m _ => m.op.indexReads) (fun _ _ => []) then span (c.start + 1) c.limit
  else if decide (1 < c.rows) && h.crosses (fun m _ => m.op.crossReads) Member.crossMasks then
    ((List.range c.rows).map fun j => (j + 1) * c.vl).filter fun p => decide (c.start < p ∧ p < c.limit)
  else []

/-- The parts of a convoy one after another; what is to be done at the drain is left by the last. -/
def State.sweep (c : Ctx) (cru : Bool) (ms : List Member) : List Nat → Nat → State → Pass
  | [], b, s => s.pass { c with start := b } cru 0 ms
  | p :: ps, b, s =>
    let q := s.pass { c with start := b, limit := p } cru 0 ms
    if q.halt.any fun h => decide (h.2.1 < p) then q else State.sweep c cru ms ps p q.s

/-- A register with the tag of `b` (R82, R84): the shape that uninterrupted rows give it, with its own elements where that is general. -/
def VReg.tagged (r b : VReg) : VReg :=
  match b.shape with
  | .g _ _ => { r.materialize with ew := b.ew, extent := b.extent, bad := b.bad }
  | _ => b

/-- A hart whose registers and masks have the tags that `t` has for them (R82, R93). -/
def Hart.taggedBy (h t : Hart) : Hart :=
  { h with v := Vector.ofFn fun i => h.v[i].tagged t.v[i], m := Vector.ofFn fun i => { h.m[i] with ones := t.m[i].ones } }

/-- The convoy's members over the positions of a context. Where that takes several parts, the tags are those of whole rows. -/
def State.passAll (s : State) (c : Ctx) (cru : Bool) : Pass :=
  match s.h.cuts c with
  | [] => s.pass c cru 0 s.h.convoy
  | ps =>
    let q := State.sweep c cru s.h.convoy ps c.start s
    let t := (s.pass { c with blind := true } cru 0 s.h.convoy).s
    { q with s := q.s.setH (q.s.h.taggedBy t.h) }

/-- What is to be done at the drain, in program order; the place of the first that cannot be done. -/
def runLate : List (Nat × (State → Reply State)) → State → State × Option (Nat × Halt)
  | [], s => (s, none)
  | (k, f) :: l, s =>
    match f s with
    | .ok s => runLate l s
    | r => (s, some (k, r.halt))

/-- How a convoy ends: drained, or halted at a position by the member in a place. -/
structure Ended where
  s : State
  halt : Option (Nat × Nat × Halt)

/-- The convoy's execution (R334, R335): positions below `limit` are processed; the cause `why` found at the limit in an
earlier pass stands. Each pass starts from the state before the convoy. Where something to be done at the drain has to wait, all
positions but the last are processed, so that the convoy has not come to its end (R344). -/
def State.runTo (s : State) (limit : Nat) (cru : Bool) (why : Option (Nat × Nat × Halt)) : Nat → Ended
  | 0 => { s := s, halt := why }
  | fuel + 1 =>
    let c := s.h.ctx limit
    let c := { c with stopper := (why.filter fun w => w.2.1 == c.start).map (·.1) }
    let q := s.passAll c cru
    let blockAt := fun (k : Nat) => (s.h.convoy[k]?).any fun m => m.op.whole
    let wholes := s.h.convoy.any fun m => m.op.whole
    match q.halt with
    | some (k, p, x) =>
      if p < limit then s.runTo p cru (some (k, p, x)) fuel
      else
        let first := match why with
          | some (k', p', x') => if k' ≤ k then (k', p', x') else (k, p, x)
          | none => (k, p, x)
        if cru && wholes && !blockAt first.1 then s.runTo limit false (some first) fuel else { s := q.s, halt := some first }
    | none =>
      match why with
      | some w => if cru && wholes && !blockAt w.1 then s.runTo limit false why fuel else { s := q.s, halt := some w }
      | none =>
        match runLate q.late q.s with
        | (s', none) => { s := s', halt := none }
        | (_, some (k, x)) =>
          let trap := match x with | .trap _ => true | .hold _ => false
          let p := c.stopAt (if trap || wholes then c.start else max c.start (limit - 1))
          s.runTo p false (some (k, p, x)) fuel

/-- Streams advance by the positions of row 0 below `p` (R258, R260, R274). -/
def State.consumeTo (s : State) (sts : List (Fin 16)) (start p : Nat) : State :=
  let vl := s.h.vs.vl
  if vl ≤ start then s
  else s.setH (sts.foldl (fun h st => h.consume st (min p vl - start) (decide (vl ≤ p))) s.h)

/-- Flags and reports that go with the cause of a stop (R103, R491). -/
def State.noteCause (s : State) (e : Exc) : State :=
  match e.cause with
  | .arith => s.setH { s.h with vs := s.h.vs.raise (e.tval.setWidth 5) }
  | .dataerr => if e.origin = .remote then s.setH { s.h with wfail := none } else s
  | _ => s

/-- What a restart of the convoy in hand is to read as it stood before the convoy's first start (log 97). -/
def Hart.keeps (h : Hart) : Option Kept :=
  let c := h.ctx 0
  let masks := decide (1 < h.vs.rows) && h.convoy.any fun m => m.masked && (match m.op with | .cmp _ d _ _ => d == 0 | _ => false)
  if masks || !c.kept.isEmpty then some { pc := h.pc, m0 := c.mask0, regs := c.kept } else none

/-- The streams of a convoy that stops at position `p`, where it started at `start`. A stop below the start, in row 0 of a Crossroads
member, takes its load and store streams back to that row's first element (log 59); a send reads on from its stopping position, but
for what it has read beyond that (R273). -/
def Hart.stopStreams (h : Hart) (sts : List (Fin 16)) (start p : Nat) : Hart :=
  let h := if start ≤ p ∨ h.vs.vl ≤ start then h else
    sts.foldl (fun h st =>
      let t := h.stm[st]
      if 1 < t.mode then h
      else h.setSt st { t with state := .active, pos := t.pos - (start - p), remain := t.remain + (start - p) }) h
  h.convoy.foldl (fun h m =>
    match m.op with
    | .send _ _ st => let t := h.stm[st]; if t.readTo ≤ p then h.setSt st { t with readTo := 0 } else h
    | _ => h) h

/-- The convoy stops at position `p` with the cause of the member in place `k` (R331, R334). -/
def State.stopConvoy (s : State) (k p : Nat) (e : Exc) : State :=
  let s := s.setH { s.h with vs := { s.h.vs with vstart := p } }
  (s.noteCause e).takeTrap e s.h.pc true k

/-- The member in place `k` finds a cause `e` at VSTART before anything is committed. What decides there (R334): the cause of an earlier
member at that position, or a DATAERR of this one; as far as the streams of those members have elements. -/
def State.decider (s : State) (k : Nat) (e : Exc) : Nat × Exc :=
  let c := s.h.ctx (s.h.vs.vstart + 1)
  let dry := (s.h.infos.take (k + 1)).any fun i => i.consumes && i.st.any fun st => decide (2 ≤ s.h.stm[st].mode) && s.h.avail s.h.stm[st] == 0
  if c.total ≤ c.start || dry then (k, e)
  else
    match (s.pass c false 0 (s.h.convoy.take (k + 1))).halt with
    | some (j, p, .trap x) => if p = c.start && (j < k || x.cause = .dataerr) then (j, x) else (k, e)
    | _ => (k, e)

/-- The convoy stops at VSTART with nothing committed (R259, R334), for the cause `e` of the member in place `k` or one that comes before
it; `t` is the state with the convoy's trim, which takes effect only where the convoy had begun to execute. -/
def State.stopEarly (s t : State) (k : Nat) (e : Exc) : State :=
  let (j, x) := t.decider k e
  if x = e then s.stopConvoy j s.h.vs.vstart x else t.stopConvoy j s.h.vs.vstart x

/-- The copy declarations of a convoy that waits at position `p` for its member in place `k` have acted, but for that member
and, where the convoy waits at its first position, those behind it. -/
def markActed (first : Bool) (k : Nat) (ms : List Member) : List Member :=
  ms.mapIdx fun i m => if i = k ∨ (first = true ∧ k < i) then m else { m with acted := true }

/-- The convoy waits for an answer to a miss of its engine, or for something else. -/
def State.waitFor (s : State) (miss : Option (Nat × Acc)) : State :=
  match miss with
  | some (va, acc) => s.engineMissed va acc
  | none => s.stall

/-- The convoy of a hart that was `b` before it began waits for its member in place `k`: positions below `p` have made their accesses and
consumed their stream elements, and its registers, masks, blocks and flags are those it began with, to be worked out anew when
it goes on (log 96). -/
def Hart.waiting (h b : Hart) (sts : List (Fin 16)) (k p : Nat) : Hart :=
  let start := b.vs.vstart
  let past := max start b.waited.upto
  let sts := if b.vs.vl ≤ past ∨ p ≤ past then [] else sts
  let h := sts.foldl (fun h st => h.consume st (min p b.vs.vl - past) (decide (b.vs.vl ≤ p))) h
  { h with
    v := b.v, m := b.m, blk := b.blk, blkBad := b.blkBad, vs := b.vs, convoy := markActed (decide (p = start)) k b.convoy,
    waited := { h.waited with upto := if start < p then p else 0 } }

/-- Where a convoy that has to wait at position `p` has made its accesses: a Crossroads member holds those of its row (R276). -/
def Hart.waitAt (h : Hart) (p : Nat) : Nat :=
  let row := if h.vs.vl = 0 then p else p / h.vs.vl * h.vs.vl
  if h.convoy.any fun m => match m.op with | .xr _ _ _ _ => true | _ => false then max (max h.vs.vstart h.waited.upto) row else p

/-- The sends of the hart with what `t` has read into their buffers, unless that may rest on an atomic not yet performed. -/
def Hart.sendsOf (h t : Hart) : Hart :=
  if h.convoy.any fun m => match m.op with | .amo _ _ _ _ _ => true | _ => false then h
  else h.convoy.foldl (fun h m => match m.op with | .send _ _ st => h.setSt st t.stm[st] | _ => h) h

/-- The convoy waits at position `p` for its member in place `k`; `t` is the state in which everything below `p` has been done. -/
def State.holdConvoy (s t : State) (k p : Nat) (miss : Option (Nat × Acc)) : State :=
  let q := s.h.waitAt p
  let u := if q = p then t else
    let u := (s.runTo q false (some (k, q, .hold miss)) (q + 4)).s
    u.setH (u.h.sendsOf t.h)
  (u.setH (u.h.waiting s.h s.h.consumed k q)).waitFor miss

/-- The x register that a member writes (R164). -/
def MOp.xdest (op : MOp) : Option (Fin 32) :=
  match op with
  | .mcpop d _ | .mfirst d _ | .shape d _ | .shapeU d _ | .shapeS d _ | .elem d _ _ | .sget d _ _ | .seal d _ _ | .unseal d _ _ => some d
  | _ => none

/-- Where the hart's next scalar instruction stands while its closed convoy is in flight: behind the convoy's words, or where those
that have issued since have come to (R168, R400). -/
def Hart.front (h : Hart) : Front :=
  match h.ahead with
  | some a => a.front
  | none =>
    { pc := h.pc + BitVec.ofNat 56 (convoyBytes h.convoy), x := h.x,
      instret := if h.inf then h.instret else h.instret + BitVec.ofNat 64 h.convoy.length, trap := h.trap, inh := h.inh, wrote := [],
      flags := 0, warned := h.reclaimAt.any (·.warned) }

/-- The hart as the next scalar instruction behind its convoy in flight finds it. -/
def Hart.behind (h : Hart) : Hart :=
  let f := h.front
  { h with
    pc := f.pc, x := f.x, instret := f.instret, trap := f.trap, inh := f.inh, vs := { h.vs with flags := h.vs.flags ||| f.flags },
    phase := .open, convoy := [], ahead := none, waited := Waited.reset }

/-- The hart `h`, which has a convoy in flight, after an instruction behind it has left `u` and written the registers `ws`. -/
def Hart.wentAhead (h u : Hart) (ws : List (Fin 32)) (stores : List (Front × Word × List Byte)) : Hart :=
  { h with
    latcnt := u.latcnt, reads := u.reads, faulted := u.faulted, credit := u.credit, age := u.age, yielded := u.yielded,
    ahead := some
      { front := { pc := u.pc, x := u.x, instret := u.instret, trap := u.trap, inh := u.inh, wrote := h.front.wrote ++ ws,
                   flags := u.vs.flags, warned := h.front.warned },
        stores := stores } }

/-- The stores that have issued behind the hart's convoy. -/
def Hart.aheadStores (h : Hart) : List (Front × Word × List Byte) := (h.ahead.map (·.stores)).getD []

/-- The hart `h` at a front behind the convoy that `b` has in hand: the general registers that the convoy wrote are the convoy's, unless
the instructions behind it wrote them too (R168). -/
def Hart.atFront (h b : Hart) (f : Front) : Hart :=
  let ds := b.convoy.filterMap fun m => m.op.xdest
  { h with
    pc := f.pc, instret := f.instret, trap := f.trap, inh := f.inh,
    x := Vector.ofFn fun i => if ds.contains i && !f.wrote.contains i then b.x[i] else f.x[i],
    vs := { h.vs with flags := b.vs.flags ||| f.flags }, reclaimAt := h.reclaimAt.map fun r => { r with warned := f.warned } }

/-- The stores that have issued behind the convoy perform; one that cannot is issued again, with what follows it (log 82). -/
def State.replay (b : Hart) : List (Front × Word × List Byte) → State → State
  | [], s => s
  | (f, va, bs) :: l, s =>
    match s.scalarWrite va bs none false with
    | .ok t => State.replay b l t
    | _ => s.setH (s.h.atFront b f)

/-- The convoy has drained: VSTART is 0 where a member used it, and the PC passes its words and what has issued behind it. -/
def State.drained (s : State) : State :=
  let h := s.h
  let uses := h.convoy.any fun m => m.op.resets
  let t := s.setH { h.atFront h h.front with
    phase := .open, convoy := [], ahead := none, waited := Waited.reset,
    kept := h.kept.filter fun k => k.pc != h.pc, xwait := none, xnone := none }
  let t := t.setH { t.h with vs := { t.h.vs with vstart := if uses then 0 else h.vs.vstart } }
  match h.ahead with
  | some a => State.replay h a.stores t
  | none => t

/-- General registers written take slots; others are spilled as far as needed (R89). -/
def State.respill (s : State) : State := s.spillDown s.cur 64

/-- A convoy of the state `s` that has gone on to its end as `t` has drained. -/
def State.drainedFrom (s t : State) : State :=
  let sts := s.h.consumed
  (if s.h.phase = .empty then t.setH (sts.foldl (fun h st => h.consume st 0 true) t.h)
   else t.consumeTo sts (s.h.ctx 0).past (s.h.ctx 0).total).drained.respill

/-- A convoy of the state `s` that has gone on to position `p` as `t` has stopped there, with its streams advanced (R85, R260, R335). -/
def State.stoppedFrom (s t : State) (p : Nat) : State :=
  let sts := s.h.consumed
  let t := t.consumeTo sts (s.h.ctx 0).past p
  (t.setH { t.h.stopStreams sts s.h.vs.vstart p with kept := s.h.keeps.orElse fun _ => s.h.kept }).respill

/-- A gang suspend finds the convoy in flight: it stops at a position of its choice, with what lies below it committed, or drains (R344;
log 9). -/
def State.parkConvoy (s : State) : State :=
  let start := s.h.vs.vstart
  let total := (s.h.ctx 0).total
  let least := (s.h.ctx 0).past
  let e := least + s.pick 0 % (total - least + 1)
  let stop := fun (p : Nat) =>
    let t := s.stoppedFrom (s.runTo p false (some (0, p, .hold none)) (total + 4)).s p
    if s.h.convoy.any fun m => m.op.resets then t.setH { t.h with vs := { t.h.vs with vstart := p } } else t
  if !(s.h.phase = .drain || s.h.phase = .empty) || s.h.convoyErr.isSome then s
  else
    let r := s.runTo e (e == total) (if e = total then none else some (0, e, .hold none)) (total + 4)
    match r.halt with
    | none => s.drainedFrom r.s
    | some (_, p, _) => if start < p ∧ p < total then stop p else if start < least then stop least else s

/-- The trimmed convoy runs (R167). -/
def State.drainConvoy (s : State) : State :=
  match s.h.convoyErr with
  | some (k, e) =>
    let p := (s.h.ctx 0).past
    if p = s.h.vs.vstart then s.stopEarly s k e
    else (s.stoppedFrom (s.runTo p false (some (k, p, .trap e)) (p + 4)).s p).stopConvoy k p e
  | none =>
    let total := (s.h.ctx 0).total
    let r := s.runTo total true none (total + 4)
    match r.halt with
    | none => s.drainedFrom r.s
    | some (k, p, .trap e) =>
      if s.h.id.paired && e.fromArray then (s.countError e).rollBack s.cur
      else
        let whole := (s.h.convoy[k]?).any fun m => m.op.whole
        (s.stoppedFrom r.s p).stopConvoy k (if whole && p == total then s.h.vs.rows * s.h.vs.vl else p) e
    | some (k, p, .hold miss) => s.holdConvoy r.s k p miss

/-- The probe of a member that names memory (R259, R294, R307): what keeps it from going on. -/
def State.probeMember (s : State) (need : Nat) (m : Member) : Reply Unit :=
  match m.op with
  | .kerb kind _ _ record => s.kerbProbe s.cur kind.val (Cmd.ofNat record)
  | _ =>
    let i := m.op.info s.h m.masked
    let stream : Reply Unit :=
      match i.st with
      | none => .ok ()
      | some st =>
        let t := s.h.stm[st]
        if i.consumes && decide (t.mode ≤ 1) then
          let acc : Acc := if t.mode = 0 then .read else .write
          eachOk (fun n => (s.streamPieces s.cur t (t.elemAddr (t.pos + n)).1 (max 1 (t.width / 8)) acc).bind fun _ => .ok ())
            (List.range need)
        else .ok ()
    let (rs, acc) := m.op.footprint s.h
    let (as, n) := m.op.mustAlign s.h
    (stream.bind fun _ => eachOk (fun (a, k) => (s.pieces s.cur a.toNat k acc).bind fun _ => .ok ()) rs).bind fun _ =>
      match as.find? fun a => a.toNat % n != 0 with
      | some a => .trap (alignExc a acc)
      | none => .ok ()

/-- The probe over the members in program order, with the place of the first that does not pass. -/
def State.probeAll (s : State) (need : Nat) : Nat → List Member → Option (Nat × Halt)
  | _, [] => none
  | k, m :: ms =>
    match s.probeMember need m with
    | .ok _ => s.probeAll need (k + 1) ms
    | r => some (k, r.halt)

/-- The convoy of a hart holds a Crucible member. -/
def Hart.crucible (h : Hart) : Bool := h.infos.any (·.crucible)

/-- The cores whose Crucibles a hart's convoys use: its own and, if it is paired, its shadow's (R498). -/
def crucibles (i : HartId) (h : Hart) : List Nat := coreKey (coreOf i) :: (if h.id.paired then [coreKey (coreOf i) + 1] else [])

/-- Another hart's convoy has a Crucible the current hart's needs (R55). -/
def State.crucibleTaken (s : State) : Bool :=
  s.harts.any fun (k, h) =>
    k != hartKey s.cur && (h.phase = .drain || h.phase = .empty) && h.crucible
      && meets (crucibles (hartIdOf k) h) (crucibles s.cur s.h)

/-- The cores whose Crucibles the current hart's convoys use. -/
def State.crucibleCores (s : State) : List CoreId :=
  coreOf s.cur :: (if s.h.id.paired then [{ coreOf s.cur with core := Fin.ofNat 192 (s.cur.core.val + 1) }] else [])

/-- The slots of a core whose convoys, or whose shadowed convoys, wait for its Crucible, and that of the current hart, in the order they are
served: by number after the slot served last (R55, R498). -/
def State.crucibleQueue (s : State) (c : CoreId) : List Nat :=
  let core := s.core c
  let waits := (List.range 8).filter fun k =>
    let own := s.hart { die := c.die, core := c.core, slot := Fin.ofNat 8 k }
    let lead := s.hart { die := c.die, core := Fin.ofNat 192 (c.core.val - 1), slot := Fin.ofNat 8 k }
    let h := if c.core.val % 2 = 1 && lead.id.paired && lead.st != .empty then lead else own
    k == s.cur.slot.val || (core.crucWait.contains k && h.phase = .trim && h.crucible)
  waits.filter (fun k => decide (core.crucLast < k)) ++ waits.filter fun k => decide (k ≤ core.crucLast)

/-- The slot of the current hart waits for a core's Crucible no longer. -/
def Core.unwait (c : Core) (slot : Nat) : Core := { c with crucWait := c.crucWait.filter (· != slot) }

/-- A wait of hart `i` for the Crucible has ended, if it had one (R55). -/
def State.unwaits (s : State) (i : HartId) : State :=
  ({ s with cur := i } : State).crucibleCores.foldl (fun s c =>
    if (s.core c).crucWait.contains i.slot.val then s.setCore c ((s.core c).unwait i.slot.val) else s) s

/-- A convoy with a Crucible member is granted the Crucible from here to its drain, or waits for it (R55). -/
def State.grantCrucible (s : State) : Option State :=
  let me := s.cur.slot.val
  if !s.h.crucible then some s
  else if s.crucibleTaken || s.crucibleCores.any fun c => (s.crucibleQueue c).head? != some me then none
  else some (s.crucibleCores.foldl (fun s c => s.setCore c { (s.core c).unwait me with crucLast := me }) s)

/-- The convoy waits for the Crucible (R55). -/
def State.awaitCrucible (s : State) : State :=
  let me := s.cur.slot.val
  (s.crucibleCores.foldl (fun s c => s.setCore c { s.core c with crucWait := me :: ((s.core c).unwait me).crucWait }) s).stall

/-- The registers a convoy names (R89). -/
def Info.registers (i : Info) : List Nat := i.reads.map (·.1) ++ i.writes.map (·.1) ++ i.named

/-- Row `j` of a group has a position that the convoy processes. -/
def Ctx.processes (c : Ctx) (j : Nat) : Bool := decide (0 < c.vl ∧ j < c.rows ∧ c.start < c.total ∧ c.start < (j + 1) * c.vl)

/-- The registers of a group in rows that are processed, and of those the ones written in part alone (R84). -/
def Ctx.rowRegs (c : Ctx) (rs : List (Nat × Nat)) : List Nat := (rs.map (·.1)).filter fun k => c.processes (k % c.rows)
@[inherit_doc Ctx.rowRegs] def Ctx.partRegs (c : Ctx) (partly : Bool) (rs : List (Nat × Nat)) : List Nat :=
  (c.rowRegs rs).filter fun k => partly || decide (k % c.rows * c.vl < c.start)

/-- The registers whose elements a member needs (R88, R89): those it reads at a position it processes, those it writes in part, and what
vmat and the members that ignore VSTART name. -/
def Member.needs (m : Member) (h : Hart) (c : Ctx) : List Nat :=
  let i := m.op.info h m.masked
  let partly := m.masked && !h.allTrue c.vl
  match m.op with
  | .mat a => [a.val]
  | .elem _ a b => let t := (h.getX b).toNat; if c.rows * c.vl ≤ t then [] else [a.val + t / c.vl]
  | .copr _ a b _ _ => [a.val, b.val]
  | .cmvBv _ a _ => [a.val]
  | .cmvVb d _ _ => [d.val]
  | .vmm _ a b _ _ =>
    if c.start < c.total then a.val :: (List.range 8).map (b.val + ·) ++ c.rowRegs i.writes else []
  | .ccvt _ _ vs _ _ _ =>
    (if c.start < c.total then [vs.val] else []) ++ c.rowRegs (i.reads.filter fun r => r.1 != vs.val)
      ++ c.partRegs partly (i.writes.filter fun w => w.1 != vs.val)
  | .xr _ _ _ _ => c.rowRegs i.reads
  | _ => c.rowRegs i.reads ++ c.partRegs partly i.writes

/-- The registers that are to be refilled, each with the place of the first member that needs it: one that an earlier member needs
is refilled already, and one that it writes in full needs no refill (R89). -/
def neededBy (h : Hart) (c : Ctx) : Nat → List Nat → List Member → List (Nat × Nat)
  | _, _, [] => []
  | k, full, m :: ms =>
    let i := m.op.info h m.masked
    let needs := (m.needs h c).filter fun r => !full.contains r
    needs.map (fun r => (k, r)) ++ neededBy h c (k + 1) (full ++ needs ++ c.rowRegs i.writes) ms

/-- The errors that the refills of the needed registers meet: the elements that fail become bad; the place and the cause of the first
(R90, R338). -/
def State.refill (s : State) : List (Nat × Nat) → State × Option (Nat × Exc)
  | [] => (s, none)
  | (k, r) :: l =>
    match s.refillErrors s.cur r with
    | [] => s.refill l
    | e :: bad =>
      let x := { s.h.getV r with bad := e :: bad ++ (s.h.getV r).bad, refilled := true }
      ((((s.setH (s.h.setV r x))).refill l).1, some (k, x.badExc e r))

/-- The trimmed and probed convoy begins to execute (R167): the registers its members need are refilled into slots (R89; log 81). -/
def State.beginConvoy (s : State) : State × Option (Nat × Exc) :=
  let needed := neededBy s.h (s.h.ctx 0) 0 [] s.h.convoy
  let (s, bad) := s.refill needed
  (s.settle s.cur (needed.map (·.2)), bad)

/-- The trim and the probe (R257, R259), the Crucible where it is needed (R55), and the run that follows; while the agenda paces convoys,
that is left to a later step (log 1). -/
def State.trimConvoy (s : State) : State :=
  match s.h.convoyErr with
  | some (k, e) => s.stopEarly s k e
  | none =>
    let h := s.h
    let start := h.vs.vstart
    let sts := h.consumed
    let trims := !sts.isEmpty && decide (start < h.vs.vl)
    match (if trims then h.trim sts (h.vs.vl - start) else some 0) with
    | none => s.stall
    | some need =>
      let h := if trims then { h with vs := { h.vs with vl := start + need } } else h
      let t := s.setH { h with phase := if trims && need == 0 then .empty else .drain }
      match s.probeAll need 0 h.convoy with
      | some (k, .trap e) => s.stopEarly t k e
      | some (_, .hold miss) => s.waitFor miss
      | none =>
        match t.grantCrucible with
        | none => s.awaitCrucible
        | some t =>
          let t := sts.foldl (fun t st => t.walksOn t.cur st need) t
          match t.beginConvoy with
          | (t, some (k, e)) => t.stopEarly t k e
          | (t, none) => if t.paced then t else t.drainConvoy

/-- The convoy starts (R167); every register it names counts as used (R89). -/
def State.startConvoy (s : State) : State :=
  if s.h.relay then s.stall
  else
    match s.h.convoyErr with
    | some (k, e) => s.stopEarly s k e
    | none =>
      let n := s.h.vs.convoys + 1
      let h := (s.h.infos.flatMap Info.registers).foldl (fun h k => h.setV k { h.getV k with used := n }) s.h
      ((s.unwaits s.cur).setH { h with vs := { h.vs with convoys := n }, phase := .trim, waited := Waited.reset }).trimConvoy

/-- A closed convoy goes on from the phase it has reached. -/
def State.advanceConvoy (s : State) : State :=
  match s.h.phase with
  | .open => (s.setH { s.h with phase := .start }).startConvoy
  | .start => s.startConvoy
  | .trim => s.trimConvoy
  | .drain | .empty => s.drainConvoy

/-- The open convoy closes (R164) and starts. -/
def State.closeConvoy (s : State) : State := (s.setH { s.h with phase := .start }).startConvoy

/-- A convoy-class instruction issues (R163-R166): it begins or joins the hart's open convoy after its checks, or, with K = 1
behind an open convoy, closes that one. The convoy closes where the next instruction does not join it. A word that the device does not
assign is ILLEGAL wherever it stands (R160, R423). -/
def State.joinConvoy (s : State) (k : Bool) (m : Member) : State :=
  let h := s.h
  if h.phase ≠ .open then s.stall
  else if h.convoy = [] ∧ k = false then s.trapHere (if s.sealAbsent m.op then illegalExc m.enc else encExc .convoy m.enc)
  else if h.convoy ≠ [] ∧ k = true then s.closeConvoy
  else
    match s.joinCheck m with
    | .trap e => s.takeTrap e h.pc true h.convoy.length
    | .miss va acc => s.missed va acc
    | .wait => s.stall
    | .ok m =>
      let ms := h.convoy ++ [m]
      let s' := s.setH { h with convoy := ms }
      if (m.op.info h m.masked).closes || decide (8 ≤ ms.length) then s'.closeConvoy
      else
        match s.fetch s.cur (h.pc.toNat + convoyBytes ms) with
        | .ok (w, _) => if joins w then s' else s'.closeConvoy
        | .trap e => s.takeTrap e h.pc true ms.length
        | .miss va acc => s.missed va acc
        | .wait => s.stall

/-- A convoy-class instruction of 4 bytes, and one of 8 bytes (R152, R163), with its encoding. -/
def State.vecWord (s : State) (k masked : Bool) (enc : Nat) (op : MOp) : State :=
  s.joinConvoy k { enc := enc, size := 4, masked := masked, op := op, acted := false }
@[inherit_doc State.vecWord] def State.vecWide (s : State) (k masked : Bool) (enc : Nat) (op : MOp) : State :=
  s.joinConvoy k { enc := enc, size := 8, masked := masked, op := op, acted := false }

end Sys2Proof.Machine
end

