-- ==== Sys2Proof/Machine/Priv.lean ====
section
/-! DEFINITION. Major PRIV (spec/07_scalar_instructions.md R214-R220): stop, spawn, hstop, gsusp and qlease; hints (R161, R162);
and words that decode to no instruction (R160). -/

namespace Sys2Proof.Machine

/-- The unreported error that a stop or a suspend of the hart reports: a POOL or PEER write that failed (R491), or a transfer
(R271, R319). -/
def Hart.pendingError (h : Hart) : Option Exc :=
  match h.wfail with
  | some va => some (lostExc va)
  | none => (List.finRange 16).findSome? fun st => (h.streamErr st).map fun e => { e with stream := some st }

/-- The error is taken, with TPC on the hart's PC (R271, R491). -/
def State.takePending (s : State) (e : Exc) : State :=
  (if e.origin = .remote then s.setH { s.h with wfail := none } else s).trapHere e

/-- The current hart stops (R215): an error not yet reported traps on the stop first, where a wait has ended (R218). A convoy that is open
closes, and one in flight completes, before that. -/
def State.stopHere (s : State) : State :=
  match s.h.pendingError with
  | some e => if s.h.convoy ≠ [] then s.setH s.h.stopWhole else (s.setH { s.h with st := .running, wait := none }).takePending e
  | none => s.setH s.h.stopWhole

/-- stop: ends the issuing hart (R215). -/
def execStop (s : State) : Out := .next s.stopHere

/-- The descriptor of a spawn (R216), from its 128 bytes as one number. -/
structure Descriptor where
  entry : Word
  args : Word
  arglen : Word
  stub : Word
  gangId : Word
  gangSize : Word
  place : Nat
  image : Word
  spill : Word
  rest : Nat
deriving DecidableEq, Repr

@[inherit_doc Descriptor] def Descriptor.ofNat (w : Nat) : Descriptor :=
  let f := fun k => BitVec.ofNat 64 (w / 2 ^ (64 * k))
  { entry := f 0, args := f 1, arglen := f 2, stub := f 3, gangId := f 4, gangSize := f 5, place := (f 6).toNat, image := f 7,
    spill := f 8, rest := w / 2 ^ (64 * 9) }

/-- Fields of PLACE (R216). -/
def Descriptor.core (d : Descriptor) : Nat := bitsOf d.place 7 0
@[inherit_doc Descriptor.core] def Descriptor.slot (d : Descriptor) : Nat := bitsOf d.place 10 8
@[inherit_doc Descriptor.core] def Descriptor.qfirst (d : Descriptor) : Nat := bitsOf d.place 14 12
@[inherit_doc Descriptor.core] def Descriptor.qcount (d : Descriptor) : Nat := bitsOf d.place 19 16
@[inherit_doc Descriptor.core] def Descriptor.nslot (d : Descriptor) : BitVec 2 := BitVec.ofNat 2 (d.place / 2 ^ 20)
@[inherit_doc Descriptor.core] def Descriptor.prio (d : Descriptor) : BitVec 2 := BitVec.ofNat 2 (d.place / 2 ^ 22)
@[inherit_doc Descriptor.core] def Descriptor.pair (d : Descriptor) : Bool := bitAt d.place 24
@[inherit_doc Descriptor.core] def Descriptor.index (d : Descriptor) : Nat := bitsOf d.place 42 32
@[inherit_doc Descriptor.core] def Descriptor.gen (d : Descriptor) : Nat := bitsOf d.place 63 48

/-- BADDESC (R217, R498): the fields of GANGID and GANGSIZE have the ranges of R39 and R40. With QCOUNT 0 any QFIRST passes, where a
multiple of 0 has no meaning: a DESIGN CHOICE (log 83). -/
def Descriptor.bad (d : Descriptor) : Bool :=
  let size := d.gangSize.toNat
  decide (1344 < bitsOf size 15 0) || bitsOf size 47 16 == 0 || decide (4 < bitsOf size 50 48)
    || decide (bitsOf size 47 16 ≤ bitsOf d.gangId.toNat 31 0) ||
  d.rest != 0 || bitAt d.place 11 || bitAt d.place 15 || bitsOf d.place 31 25 != 0 || bitsOf d.place 47 43 != 0
    || bitsOf d.gangSize.toNat 63 51 != 0 || decide (192 ≤ d.core) || d.slot == 7 || !([0, 1, 2, 4, 8].contains d.qcount)
    || d.qfirst % max 1 d.qcount != 0 || decide (bitsOf d.gangSize.toNat 15 0 ≤ d.index) || d.entry.getLsbD 0
    || (d.qcount != 0 && d.spill.toNat % 65536 != 0) || (d.pair && d.core % 2 == 1)

/-- Where the spawn's hart goes, and its shadow's place (R498). -/
def Descriptor.place? (d : Descriptor) (die : Fin 8) : HartId :=
  { die := die, core := Fin.ofNat 192 d.core, slot := Fin.ofNat 8 d.slot }
@[inherit_doc Descriptor.place?] def partner (i : HartId) : HartId := { i with core := Fin.ofNat 192 (i.core.val + 1) }

/-- A slot that no hart and no shadow occupies (R498). -/
def State.vacant (s : State) (i : HartId) : Bool :=
  (s.hart i).st = .empty &&
    !(i.core.val % 2 == 1 &&
      (let j := { i with core := Fin.ofNat 192 (i.core.val - 1) }; (s.hart j).id.paired && (s.hart j).st != .empty))

/-- Quartets that a spawn may take on a core: in the cache role, or reserved for exactly this partition; fewer than four
partitions (R217, R474). -/
def State.lanesFree (s : State) (c : CoreId) (first count : Nat) : Bool :=
  let want := quartetBits first count
  count == 0 || (decide (s.parts c < 4) && (want &&& s.cacheBits c == want || (s.core c).reserved.any fun r => r.1 == want))

/-- The reservation of a core once its quartets are taken (R474). -/
def State.takeReserved (s : State) (c : CoreId) (first count : Nat) : State :=
  if (s.core c).reserved.any fun r => r.1 == quartetBits first count then
    s.setCore c { s.core c with reserved := (s.core c).reserved.filter fun r => r.1 != quartetBits first count }
  else s

/-- A core whose pair is retired takes no hart (R501). -/
def State.coreDown (s : State) (c : CoreId) : Bool := bitAt (s.peekNat (fleetBlock c.die.val + 0x400 + 8 * c.core.val) 8) 8

/-- NOLANES (R217, R498); a core whose pair is retired has none, even for a scalar-only hart (R501; log 107). -/
def State.noLanes (s : State) (i : HartId) (d : Descriptor) : Bool :=
  s.coreDown (coreOf i) || !s.lanesFree (coreOf i) d.qfirst d.qcount ||
    (d.pair && (!s.vacant (partner i) || !s.lanesFree (coreOf (partner i)) d.qfirst d.qcount))

/-- The fields a new hart takes from its descriptor and its creator (R216, R448). -/
def Descriptor.onto (d : Descriptor) (h : Hart) (space : Word) : Hart :=
  { h with
    st := .creating, space := space,
    id := { h.id with index := BitVec.ofNat 11 d.index, gen := BitVec.ofNat 16 d.gen, gangId := d.gangId,
                      gangSize := d.gangSize.setWidth 51, prioMax := d.prio, paired := d.pair,
                      spillBase := if d.qcount = 0 then 0 else d.spill },
    vs := { h.vs with qcount := d.qcount, qfirst := d.qfirst } }

/-- A hart in the initial state of R46. -/
def Descriptor.fresh (d : Descriptor) (space : Word) : Hart :=
  let h := d.onto Hart.reset space
  { h with
    pc := evenPc (d.entry.setWidth 56), x := ((Hart.reset.x.set 1 d.stub).set 10 d.args).set 11 d.arglen,
    id := { h.id with prioCur := d.prio }, vs := { h.vs with cfg := { VCfg.reset with nslot := d.nslot, ill := d.qcount == 0 } } }

/-- The sector of a monitor whose saved address has no translation yet: no sector of the machine. -/
def unarmed : Nat := 2 ^ 58

/-- The translation that the monitor of a restored hart lacks (R345). -/
def State.rearmMiss (s : State) (i : HartId) : Option Nat :=
  match (s.hart i).mon with
  | some m =>
    if m.sector = unarmed then (match s.translate i m.va.toNat .read with | .miss va _ => some va | _ => none) else none
  | none => none

/-- The monitor of a restored hart is armed on its saved address (R345). -/
def State.rearm (s : State) (i : HartId) : State :=
  let h := s.hart i
  match h.mon with
  | none => s
  | some m =>
    match s.translate i m.va.toNat .read with
    | .ok (.mem loc _) => s.setHart i { h with mon := some { m with sector := loc / 64 } }
    | _ => s.setHart i { h with mon := some { m with sector := unarmed } }

/-- A hart placed in a slot (R26, R28, R92): spill copies leave the quartets it takes, and its strip buffers are placed. -/
def State.place (s : State) (i : HartId) (h : Hart) : State :=
  let s := s.takeReserved (coreOf i) h.vs.qfirst h.vs.qcount
  let s := if h.id.paired then s.takeReserved (coreOf (partner i)) h.vs.qfirst h.vs.qcount else s
  let s := (s.setHart i h).evictWays (coreOf i)
  ((if h.id.paired then s.evictWays (coreOf (partner i)) else s).rebuffer i).spillDown i 64

/-- The header's PLACE agrees with the descriptor's in QCOUNT, NSLOT and PAIR, and its scalar-only bit with QCOUNT (R348, R350; log 84). -/
def Descriptor.agrees (d : Descriptor) (place : Nat) : Bool :=
  bitsOf place 35 32 == d.qcount && bitsOf place 37 36 == d.nslot.toNat && bitAt place 38 == (d.qcount == 0) && bitAt place 39 == d.pair

/-- The hart an image restores under a descriptor, or BADIMAGE (R350). -/
def Descriptor.restored (d : Descriptor) (a : Array Byte) (parked : Hart → Option Hart) (space : Word) (pick : Nat) : Option Hart :=
  let g := Hart.ofImage a
  if imageOk a g && g.id.gangId == d.gangId && g.id.index.toNat == d.index && g.id.gen.toNat == d.gen
      && d.agrees (imgWord a 24) && g.vs.cfg.nslot == d.nslot then
    let h := match parked g with | some p => g.withHidden p | none => g.withoutHidden pick
    some { d.onto h space with id := { (d.onto h space).id with moves := h.id.moves + 1 } }
  else none

/-- The largest image a hart can have (R349). -/
def maxImage : Nat := 56288 + 9 * (1024 / 8 * 65536)

/-- The GANGID of a gang (R39). -/
def Gang.gangId (g : Gang) : Word := BitVec.ofNat 64 (g.seq % 2 ^ 32 * 2 ^ 32 + g.gindex)

/-- The die with one gang changed. -/
def Die.mapGang (d : Die) (id : Word) (f : Gang → Gang) : Die :=
  { d with gangs := d.gangs.map fun g => if g.gangId = id then f g else g }

/-- A hart that is placed is suspended no more (R47). -/
def Die.unpark (d : Die) (h : Hart) : Die :=
  { d.mapGang h.id.gangId fun g => { g with saved := g.saved.filter fun p => p.1 != h.id.index.toNat } with
    parked := d.parked.filter fun p => !(p.id.gangId == h.id.gangId && p.id.index == h.id.index) }

/-- spawn (R216, R217): the checks in their order; xd := the code. -/
def State.spawn (s : State) (d : Fin 32) (w : Nat) : State :=
  let k := Descriptor.ofNat w
  let i := k.place? s.cur.die
  let done := fun (s : State) (code : Word) => s.write 4 d code
  let create := fun (h : Hart) =>
    let s := s.setDie s.cur.die ((s.die s.cur.die).unpark h)
    done ((s.place i h).rearm i) 0
  if k.bad then done s 3
  else if !s.vacant i then done s 1
  else if s.noLanes i k then done s 2
  else if k.image = 0 then create (k.fresh s.h.spawnCtx)
  else
    let read := fun (n : Nat) => s.h.guard .read k.image.toNat n (s.readBytes s.cur k.image.toNat n .read)
    s.onReply ((read 128).bind fun hd =>
        let size := leNat ((hd.drop 8).take 8)
        if maxImage < size then .ok [] else read size) fun bs =>
      match (if k.image.toNat % 4096 = 0 then k.restored bs.toArray s.parkedFor s.h.spawnCtx (Config.choice s.fresh) else none) with
      | none => done s 4
      | some h => create h

/-- spawn: creates a hart from the descriptor at xa (R216, R217). -/
def execSpawn (d a : Fin 32) (s : State) : Out :=
  let va := s.getX a
  .next (if !s.h.priv then s.illegal (encode (.spawn d a))
    else if va.toNat % 128 ≠ 0 then s.trapHere (alignExc va .read)
    else s.onReply (s.h.guard .read va.toNat 128 (s.readBytes s.cur va.toNat 128 .read)) fun bs => s.spawn d (leNat bs))

/-- hstop: stops a hart of the die as if it had issued stop (R218). -/
def execHstop (d a : Fin 32) (s : State) : Out :=
  let w := (s.getX a).toNat
  let i : HartId := { die := s.cur.die, core := Fin.ofNat 192 (bitsOf w 10 3), slot := Fin.ofNat 8 w }
  let h := s.hart i
  .next (if !s.h.priv then s.illegal (encode (.hstop d a))
    else if i = s.cur ∧ i.slot ≠ 7 ∧ bitsOf w 10 3 < 192 then s.stopHere
    else if bitsOf w 10 3 < 192 ∧ i.slot ≠ 7 ∧ (h.st = .running ∨ h.st = .waiting) then
      (s.asHart i State.stopHere).write 4 d 0
    else s.write 4 d 1)

/-- The harts of a gang on a die that a suspend marks: RUNNING, WAITING or CREATING (R219). -/
def State.members (s : State) (die : Fin 8) (gang : Word) : List (Nat × Hart) :=
  s.harts.filter fun (k, h) => k / 1536 == die.val && k % 8 != 7 && h.id.gangId == gang &&
    (h.st = .running || h.st = .waiting || h.st = .creating)

/-- A suspend of the gang is under way on the die. -/
def State.suspending (s : State) (die : Fin 8) (gang : Word) : Bool := (s.die die).suspends.any (·.gang == gang)

/-- A trap that stands at a suspend is taken first (R346, R491): that of a failed write. -/
def State.beforeSuspend (s : State) (k : Nat) : State :=
  match (s.hart (hartIdOf k)).wfail with
  | some va => s.asHart (hartIdOf k) fun s => s.takePending (lostExc va)
  | none => s

/-- A suspend of a gang begins (R219, R344): every hart marked stops issuing, and its convoy in flight stops. -/
def State.beginSuspend (s : State) (die : Fin 8) (p : Suspend) : State :=
  let ms := s.members die p.gang
  let s := ms.foldl (fun s (k, _) => (s.beforeSuspend k).asHart (hartIdOf k) State.parkConvoy) s
  let mark (k : Nat) (h : Hart) : Hart :=
    if ms.any (·.1 == k) && (h.st = .running || h.st = .waiting) then h.paused else h
  let s := { s with harts := s.harts.map fun (k, h) => (k, mark k h) }
  s.setDie die { (s.die die).mapGang p.gang fun g => { g with st := .suspending } with
    suspends := (s.die die).suspends ++ [p] }

/-- The image addresses of the harts marked, from the suspend table (R219). -/
def State.readTable (s : State) (table : Nat) : List (Nat × Hart) → Reply (Map Nat)
  | [] => .ok []
  | (_, h) :: l =>
    let a := table + 8 + 8 * h.id.index.toNat
    (s.h.guard .read a 8 (s.readBytes s.cur a 8 .read)).bind fun bs =>
      (s.readTable table l).bind fun m => .ok (Map.set 0 m h.id.index.toNat (leNat bs))

/-- gsusp: begins a suspend of a gang of the die; xd := the harts marked (R219). -/
def execGsusp (d a b : Fin 32) (s : State) : Out :=
  let gang := s.getX a
  let table := s.getX b
  .next (if !s.h.priv then s.illegal (encode (.gsusp d a b))
    else if table.toNat % 8 ≠ 0 then s.trapHere (alignExc table .read)
    else
      let ms := if s.suspending s.cur.die gang then [] else s.members s.cur.die gang
      if ms = [] then s.write 4 d 0
      else s.onReply (s.readTable table.toNat ms) fun images =>
        let p : Suspend := { gang := gang, issuer := hartKey s.cur, table := some table.toNat, images := images, marked := ms.length }
        (s.beginSuspend s.cur.die p).write 4 d (BitVec.ofNat 64 ms.length))

/-- The lease in force on a stack (R220). -/
def State.leaseOf (s : State) (stack : Nat) : Option Lease :=
  (s.leases.find? fun (k, l) => k == stack && decide (s.cycle < l.ends)).map (·.2)

/-- The code qlease gives (R220), and the leases after it. -/
def State.leaseCode (s : State) (die : Fin 8) (gang xb : Word) : Nat :=
  let stack := bitsOf xb.toNat 3 0
  if bitsOf xb.toNat 7 4 ≠ 0 ∨ bitsOf xb.toNat 63 40 ≠ 0 then 3
  else if s.quarterCount stack = 0 then 2
  else match s.leaseOf stack with
    | some l => if l.gang = gang ∧ l.die = die then 0 else 1
    | none => 0
@[inherit_doc State.leaseCode] def State.lease (s : State) (die : Fin 8) (gang xb : Word) : State :=
  let stack := bitsOf xb.toNat 3 0
  let len := bitsOf xb.toNat 39 8
  if s.leaseCode die gang xb ≠ 0 then s
  else
    let others := s.leases.filter fun (k, _) => k != stack
    let ends := s.cycle + len * 65536
    { s with leases := if len = 0 then others
      else others.filter (fun p => decide (p.1 < stack)) ++ [(stack, { die := die, gang := gang, ends := ends })]
        ++ others.filter (fun p => decide (stack < p.1)) }

/-- qlease: grants, renews or ends a quarter lease; xd := the code (R220). -/
def execQlease (d a b : Fin 32) (s : State) : Out :=
  .next (if !s.h.priv then s.illegal (encode (.qlease d a b))
    else (s.lease s.cur.die (s.getX a) (s.getX b)).write 4 d (BitVec.ofNat 64 (s.leaseCode s.cur.die (s.getX a) (s.getX b))))

/-- nop: does nothing (R161). -/
def execNop (_d _a _b : Fin 32) (s : State) : Out := .next (s.retire 4)

/-- pref.r: may prefetch a line; no effect a program observes (R162). -/
def execPrefR (_d _a _b : Fin 32) (s : State) : Out := .next (s.retire 4)

/-- pref.w: may prefetch a line in a writable state; no effect a program observes (R162). -/
def execPrefW (_d _a _b : Fin 32) (s : State) : Out := .next (s.retire 4)

/-- Any other word of the HINT major does nothing and never traps (R161). -/
def execHintOther (_fn : BitVec 9) (_b _a _d : Fin 32) (s : State) : Out := .next (s.retire 4)

/-- A word that is no instruction traps ILLEGAL (R160); one of format V or P does so as a member of its convoy (R166). -/
def execIllegalInstruction (_len : Fin 3) (enc : Word) (s : State) : Out :=
  let w := enc.toNat
  let h := s.h
  .next (if !convoyClass w ∨ (h.convoy = [] ∧ !bitAt w 8) then s.illegal w
    else if h.phase ≠ .open then s.stall
    else if h.convoy ≠ [] ∧ bitAt w 8 then s.closeConvoy
    else s.takeTrap (illegalExc w) h.pc true h.convoy.length)

end Sys2Proof.Machine
end

