-- ==== Sys2Proof/Machine/RunAhead.lean ====
section
/-! DEFINITION. The general registers that instructions read and write, and which instructions issue behind a convoy in flight
(spec/06_instruction_words.md R168; spec/07_scalar_instructions.md R189; spec/16_timing_and_scheduling.md R400). -/

namespace Sys2Proof

/-- The general registers that an instruction reads (R168, R189). -/
def Instr.xReads (i : Instr) : List (Fin 32) :=
  match i with
  | .add _ a b | .sub _ a b | .sll _ a b | .slt _ a b | .sltu _ a b | .xor _ a b | .srl _ a b | .sra _ a b | .or _ a b | .and _ a b
  | .mul _ a b | .mulh _ a b | .mulhsu _ a b | .mulhu _ a b | .div _ a b | .divu _ a b | .rem _ a b | .remu _ a b | .min _ a b
  | .max _ a b | .minu _ a b | .maxu _ a b | .andn _ a b | .orn _ a b | .rol _ a b | .ror _ a b | .sh1add _ a b | .sh2add _ a b
  | .sh3add _ a b | .addw _ a b | .subw _ a b | .sllw _ a b | .srlw _ a b | .sraw _ a b | .mulw _ a b | .divw _ a b | .divuw _ a b
  | .remw _ a b | .remuw _ a b | .beq a b _ | .bne a b _ | .blt a b _ | .bge a b _ | .bltu a b _ | .bgeu a b _ | .bbs a b _ | .bbc a b _
  | .sb a b _ | .sh a b _ | .sw a b _ | .sd a b _ | .sbOrd a b _ _ | .shOrd a b _ _ | .swOrd a b _ _ | .sdOrd a b _ _
  | .amoswap _ a b _ _ | .amoadd _ a b _ _ | .amoand _ a b _ _ | .amoor _ a b _ _ | .amoxor _ a b _ _ | .amomin _ a b _ _
  | .amomax _ a b _ _ | .amominu _ a b _ _ | .amomaxu _ a b _ _ | .amofxL _ a b _ _ | .amofxD _ a b _ _ | .amofxS _ a b _ _
  | .fadd _ a b _ _ | .fsub _ a b _ _ | .fmul _ a b _ _ | .fdiv _ a b _ _ | .fmin _ a b _ | .fmax _ a b _ | .feq _ a b _ | .flt _ a b _
  | .fle _ a b _ | .barWait a b _ | .claim _ a b _ _ | .gsusp _ a b | .qlease _ a b | .vsetvl _ a b | .vsetvlK _ a b | .vcopy _ a b _
  | .vcopyT _ a b _ | .vcopyAddl _ a b _ | .vcopyAddd _ a b _ | .vcopyAdds _ a b _ | .vchsend _ a b _ | .seal _ _ a b | .unseal _ _ a b
  | .coprM _ _ a b _ | .cld _ _ a b | .cst _ _ a b => [a, b]
  | .clz _ a | .ctz _ a | .cpop _ a | .addi _ a _ | .slli _ a _ | .slti _ a _ | .sltiu _ a _ | .xori _ a _ | .srli _ a _ | .srai _ a _
  | .ori _ a _ | .andi _ a _ | .addiw _ a _ | .slliw _ a _ | .srliw _ a _ | .sraiw _ a _ | .jalr _ a _ | .lb _ a _ | .lh _ a _
  | .lw _ a _ | .ld _ a _ | .lbu _ a _ | .lhu _ a _ | .lwu _ a _ | .lbOrd _ a _ _ | .lhOrd _ a _ _ | .lwOrd _ a _ _ | .ldOrd _ a _ _
  | .lbuOrd _ a _ _ | .lhuOrd _ a _ _ | .lwuOrd _ a _ _ | .fsqrt _ a _ _ | .fclass _ a _ | .fcvtItFmt _ a _ _ _ | .fcvtFmtIt _ a _ _ _
  | .fcvtFmtSf _ a _ _ _ | .mon a | .mwait _ a | .barArrive _ a _ _ | .mts a _ | .spawn _ a | .hstop _ a | .cJr a | .cJalr a | .vrows _ a
  | .vscfg _ a _ | .vchrecv _ a _ | .kswage _ a _ | .kpool _ a _ | .ktongs _ a _ => [a]
  | .amocas d a b _ _ => [a, b, d]
  | .fmadd _ a b c _ | .fmsub _ a b c _ | .fnmsub _ a b c _ | .fnmadd _ a b c _ => [a, b, c]
  | .cLd _ a _ | .cLw _ a _ | .cBeqz a _ | .cBnez a _ => [Machine.primed a]
  | .cSd a b _ | .cSw a b _ => [Machine.primed a, Machine.primed b]
  | .cAddisp _ _ | .cLdsp _ _ => [2]
  | .cAddi d _ => [d]
  | .cMv _ b | .vmvVX _ _ _ b | .vmvXE _ _ _ b | .vmergeVxm _ _ _ b | .vlx _ _ _ _ b | .vsxO _ _ _ _ b | .vsxU _ _ _ _ b
  | .vaddVx _ _ _ _ b | .vsubVx _ _ _ _ b | .vrsubVx _ _ _ _ b | .vandVx _ _ _ _ b | .vorVx _ _ _ _ b | .vxorVx _ _ _ _ b
  | .vsllVx _ _ _ _ b | .vsrlVx _ _ _ _ b | .vsraVx _ _ _ _ b | .vmulVx _ _ _ _ b | .vmulhVx _ _ _ _ b | .vmulhuVx _ _ _ _ b
  | .vminVx _ _ _ _ b | .vmaxVx _ _ _ _ b | .vminuVx _ _ _ _ b | .vmaxuVx _ _ _ _ b | .vsaddVx _ _ _ _ b | .vsadduVx _ _ _ _ b
  | .vssubVx _ _ _ _ b | .vssubuVx _ _ _ _ b | .vaaddVx _ _ _ _ b | .vaadduVx _ _ _ _ b | .vsmulVx _ _ _ _ b | .vssrlVx _ _ _ _ b
  | .vssraVx _ _ _ _ b | .vwaddVx _ _ _ _ b | .vwadduVx _ _ _ _ b | .vwmulVx _ _ _ _ b | .vwmuluVx _ _ _ _ b | .vnclipVx _ _ _ _ b
  | .vnclipuVx _ _ _ _ b | .vfaddVx _ _ _ _ b | .vfsubVx _ _ _ _ b | .vfrsubVx _ _ _ _ b | .vfmulVx _ _ _ _ b | .vfdivVx _ _ _ _ b
  | .vfrdivVx _ _ _ _ b | .vfminVx _ _ _ _ b | .vfmaxVx _ _ _ _ b | .vfsgnjVx _ _ _ _ b | .vfsgnjnVx _ _ _ _ b | .vfsgnjxVx _ _ _ _ b
  | .vfmaccVx _ _ _ _ b | .vfnmaccVx _ _ _ _ b | .vfmsacVx _ _ _ _ b | .vfnmsacVx _ _ _ _ b | .vmseqVx _ _ _ _ b | .vmsneVx _ _ _ _ b
  | .vmsltVx _ _ _ _ b | .vmsleVx _ _ _ _ b | .vmsltuVx _ _ _ _ b | .vmsleuVx _ _ _ _ b | .vmsgtVx _ _ _ _ b | .vmsgtuVx _ _ _ _ b
  | .vmfeqVx _ _ _ _ b | .vmfneVx _ _ _ _ b | .vmfltVx _ _ _ _ b | .vmfleVx _ _ _ _ b | .vmfgtVx _ _ _ _ b | .vmfgeVx _ _ _ _ b
  | .vrgatherVx _ _ _ b | .vslideupVx _ _ _ b | .vslidedownVx _ _ _ b => [b]
  | .cAdd d b => [b, d]
  | .cSdsp b _ => [2, b]
  | .vscfgr _ a c _ => [a, c, c + 1]
  | .copr _ _ _ _ xo _ | .cmvBv _ _ _ xo | .cmvVb _ _ _ xo => [xo]
  | _ => []

/-- The general registers that an instruction writes. -/
def Instr.xWrites (i : Instr) : List (Fin 32) :=
  match i with
  | .add d _ _ | .sub d _ _ | .sll d _ _ | .slt d _ _ | .sltu d _ _ | .xor d _ _ | .srl d _ _ | .sra d _ _ | .or d _ _ | .and d _ _
  | .mul d _ _ | .mulh d _ _ | .mulhsu d _ _ | .mulhu d _ _ | .div d _ _ | .divu d _ _ | .rem d _ _ | .remu d _ _ | .min d _ _
  | .max d _ _ | .minu d _ _ | .maxu d _ _ | .andn d _ _ | .orn d _ _ | .rol d _ _ | .ror d _ _ | .sh1add d _ _ | .sh2add d _ _
  | .sh3add d _ _ | .clz d _ | .ctz d _ | .cpop d _ | .addi d _ _ | .slli d _ _ | .slti d _ _ | .sltiu d _ _ | .xori d _ _ | .srli d _ _
  | .srai d _ _ | .ori d _ _ | .andi d _ _ | .addw d _ _ | .subw d _ _ | .sllw d _ _ | .srlw d _ _ | .sraw d _ _ | .mulw d _ _
  | .divw d _ _ | .divuw d _ _ | .remw d _ _ | .remuw d _ _ | .addiw d _ _ | .slliw d _ _ | .srliw d _ _ | .sraiw d _ _ | .lui d _
  | .auipc d _ | .jal d _ | .jalr d _ _ | .lb d _ _ | .lh d _ _ | .lw d _ _ | .ld d _ _ | .lbu d _ _ | .lhu d _ _ | .lwu d _ _
  | .lbOrd d _ _ _ | .lhOrd d _ _ _ | .lwOrd d _ _ _ | .ldOrd d _ _ _ | .lbuOrd d _ _ _ | .lhuOrd d _ _ _ | .lwuOrd d _ _ _
  | .amoswap d _ _ _ _ | .amoadd d _ _ _ _ | .amoand d _ _ _ _ | .amoor d _ _ _ _ | .amoxor d _ _ _ _ | .amomin d _ _ _ _
  | .amomax d _ _ _ _ | .amominu d _ _ _ _ | .amomaxu d _ _ _ _ | .amocas d _ _ _ _ | .amofxL d _ _ _ _ | .amofxD d _ _ _ _
  | .amofxS d _ _ _ _ | .fadd d _ _ _ _ | .fsub d _ _ _ _ | .fmul d _ _ _ _ | .fdiv d _ _ _ _ | .fsqrt d _ _ _ | .fmin d _ _ _
  | .fmax d _ _ _ | .feq d _ _ _ | .flt d _ _ _ | .fle d _ _ _ | .fclass d _ _ | .fcvtItFmt d _ _ _ _ | .fcvtFmtIt d _ _ _ _
  | .fcvtFmtSf d _ _ _ _ | .fmadd d _ _ _ _ | .fmsub d _ _ _ _ | .fnmsub d _ _ _ _ | .fnmadd d _ _ _ _ | .mwait d _ | .barArrive d _ _ _
  | .claim d _ _ _ _ | .mfs d _ | .spawn d _ | .hstop d _ | .gsusp d _ _ | .qlease d _ _ | .cAddi d _ | .cLi d _ | .cMv d _ | .cAdd d _
  | .cLdsp d _ | .vsetvl d _ _ | .vsetvlK d _ _ | .vrows d _ | .vshape _ d _ | .vshapeU _ d _ | .vshapeS _ d _ | .vmvXE _ d _ _
  | .vmcpop _ d _ | .vmfirst _ d _ | .vsget _ d _ _ | .seal _ d _ _ | .unseal _ d _ _ | .mboxRead d => [d]
  | .cLd d _ _ | .cLw d _ _ | .cAddisp d _ => [Machine.primed d]
  | .cJalr _ => [1]
  | _ => []

/-- A plain load, by its address register, offset, and bytes (R187, R190, R221). -/
def Instr.loads (i : Instr) : Option (Fin 32 × Word × Nat) :=
  match i with
  | .lb _ a k | .lbu _ a k => some (a, Machine.imm11 k, 1)
  | .lh _ a k | .lhu _ a k => some (a, Machine.imm11 k, 2)
  | .lw _ a k | .lwu _ a k => some (a, Machine.imm11 k, 4)
  | .ld _ a k => some (a, Machine.imm11 k, 8)
  | .lbOrd _ a _ 0 | .lbuOrd _ a _ 0 => some (a, 0, 1)
  | .lhOrd _ a _ 0 | .lhuOrd _ a _ 0 => some (a, 0, 2)
  | .lwOrd _ a _ 0 | .lwuOrd _ a _ 0 => some (a, 0, 4)
  | .ldOrd _ a _ 0 => some (a, 0, 8)
  | .cLw _ a k => some (Machine.primed a, Machine.immScaled k 4, 4)
  | .cLd _ a k => some (Machine.primed a, Machine.immScaled k 8, 8)
  | .cLdsp _ k => some (2, Machine.immScaled k 8, 8)
  | _ => none

/-- A plain store, by its address register, offset, source register, bytes and length (R187, R190, R221). -/
def Instr.stores (i : Instr) : Option (Fin 32 × Word × Fin 32 × Nat × Nat) :=
  match i with
  | .sb a b k => some (a, Machine.imm11 k, b, 1, 4)
  | .sh a b k => some (a, Machine.imm11 k, b, 2, 4)
  | .sw a b k => some (a, Machine.imm11 k, b, 4, 4)
  | .sd a b k => some (a, Machine.imm11 k, b, 8, 4)
  | .cSw a b k => some (Machine.primed a, Machine.immScaled k 4, Machine.primed b, 4, 2)
  | .cSd a b k => some (Machine.primed a, Machine.immScaled k 8, Machine.primed b, 8, 2)
  | .cSdsp b k => some (2, Machine.immScaled k 8, b, 8, 2)
  | _ => none

/-- Status registers that a convoy may write: VL, VSTART, VXSAT, FFLAGS, BCFG, INSTRET and LATCNT (R168). -/
def convoyStatus (n : BitVec 12) : Bool := [0x010, 0x013, 0x014, 0x018, 0x021, 0x031, 0x032].contains n

/-- An instruction that can issue behind a convoy in flight, other than plain loads and stores, as far as its kind goes: what it does can be
undone should the convoy stop (R331, R344; log 82). -/
def Instr.quiet (i : Instr) : Bool :=
  match i with
  | .add _ _ _ | .sub _ _ _ | .sll _ _ _ | .slt _ _ _ | .sltu _ _ _ | .xor _ _ _ | .srl _ _ _ | .sra _ _ _ | .or _ _ _ | .and _ _ _
  | .mul _ _ _ | .mulh _ _ _ | .mulhsu _ _ _ | .mulhu _ _ _ | .div _ _ _ | .divu _ _ _ | .rem _ _ _ | .remu _ _ _ | .min _ _ _
  | .max _ _ _ | .minu _ _ _ | .maxu _ _ _ | .andn _ _ _ | .orn _ _ _ | .rol _ _ _ | .ror _ _ _ | .sh1add _ _ _ | .sh2add _ _ _
  | .sh3add _ _ _ | .addw _ _ _ | .subw _ _ _ | .sllw _ _ _ | .srlw _ _ _ | .sraw _ _ _ | .mulw _ _ _ | .divw _ _ _ | .divuw _ _ _
  | .remw _ _ _ | .remuw _ _ _ | .clz _ _ | .ctz _ _ | .cpop _ _ | .addi _ _ _ | .slti _ _ _ | .sltiu _ _ _ | .xori _ _ _ | .ori _ _ _
  | .andi _ _ _ | .slli _ _ _ | .srli _ _ _ | .srai _ _ _ | .addiw _ _ _ | .slliw _ _ _ | .srliw _ _ _ | .sraiw _ _ _ | .jalr _ _ _
  | .lui _ _ | .auipc _ _ | .jal _ _ | .cAddi _ _ | .cLi _ _ | .beq _ _ _ | .bne _ _ _ | .blt _ _ _ | .bge _ _ _ | .bltu _ _ _
  | .bgeu _ _ _ | .bbs _ _ _ | .bbc _ _ _ | .cAddisp _ _ | .cJ _ | .nop _ _ _ | .prefR _ _ _ | .prefW _ _ _ | .hintOther _ _ _ _
  | .cBeqz _ _ | .cBnez _ _ | .cMv _ _ | .cAdd _ _ | .cJr _ | .cJalr _ | .fadd _ _ _ _ _ | .fsub _ _ _ _ _ | .fmul _ _ _ _ _
  | .fdiv _ _ _ _ _ | .fsqrt _ _ _ _ | .fmin _ _ _ _ | .fmax _ _ _ _ | .feq _ _ _ _ | .flt _ _ _ _ | .fle _ _ _ _ | .fclass _ _ _
  | .fcvtItFmt _ _ _ _ _ | .fcvtFmtIt _ _ _ _ _ | .fcvtFmtSf _ _ _ _ _ | .fmadd _ _ _ _ _ | .fmsub _ _ _ _ _ | .fnmsub _ _ _ _ _
  | .fnmadd _ _ _ _ _ | .yield | .tcall | .brk | .tret | .illegalInstruction _ _ => true
  | .mfs _ n | .mts _ n => !convoyStatus n
  | _ => false

end Sys2Proof

namespace Sys2Proof.Machine

/-- The convoy in flight may still access a byte of `n` bytes at an address (R125): through a stream it consumes, whose next elements
are looked through; a member that computes its own addresses may reach any. -/
def Hart.convoyNear (h : Hart) (ms : List (Option (Fin 16))) (own : Bool) (va n : Nat) : Bool :=
  own || ms.any fun st => st.any fun st =>
    let t := h.stm[st]
    decide (t.mode ≤ 1) && (List.range h.vs.vl).any fun k =>
      overlaps va n (t.elemAddr (t.pos + k)).1 ((t.elemAddr (t.pos + k)).1 + max 1 (t.width / 8))

/-- Nothing but what a front holds, or counts time, differs between two harts. -/
def Hart.quietly (t u : Hart) : Bool :=
  decide ({ u with pc := t.pc, x := t.x, instret := t.instret, trap := t.trap, inh := t.inh, latcnt := t.latcnt, reads := t.reads,
                   faulted := t.faulted, credit := t.credit, age := t.age, yielded := t.yielded,
                   vs := { u.vs with flags := t.vs.flags } } = t)
    && t.vs.flags &&& u.vs.flags == t.vs.flags

end Sys2Proof.Machine
end

