-- ==== Sys2Proof/Machine/Lifecycle.lean ====
section
/-! DEFINITION. How harts pass from one state of R47 to the next: role changes (R26), stops (R215, R332), lane reclaiming
(R339-R342, R474), quarter leases that end (R220), gang suspends (R219, R344-R346), and the steps of a convoy that waits
(R167, R257). -/

namespace Sys2Proof.Machine

/-- Resident harts of a gang, or harts on their way in or out: those that hold a slot. -/
def State.gangHarts (s : State) (die : Fin 8) (gang : Word) : List (Nat × Hart) :=
  s.harts.filter fun (k, h) => k / 1536 == die.val && k % 8 != 7 && h.id.gangId == gang && h.st != .empty

/-- A gang whose harts have all left CREATING is RUNNING (R48). -/
def State.gangPlaced (s : State) (die : Fin 8) (gang : Word) : State :=
  if (s.gangHarts die gang).any fun p => p.2.st = .creating then s
  else s.setDie die ((s.die die).mapGang gang fun g => if g.st = .placing then { g with st := .running } else g)

/-- The checkpoint of a paired hart (R499). -/
def State.checkpointPair (s : State) (i : HartId) : State :=
  let h := s.hart i
  if h.id.paired then
    { s with pairs := (s.pairs.filter fun p => decide (p.1 < hartKey i)) ++ [(hartKey i, { hart := h, rollbacks := 0, resumeAt := none })]
        ++ s.pairs.filter fun p => decide (hartKey i < p.1) }
  else s

/-- ROLE_CHANGE_COMPLETE: a CREATING hart enters RUNNING (R26, R47), or SUSPENDING where its gang is being suspended (R219). A restored
monitor that lacks its translation asks for it first (R345). An error that stood when the hart was saved traps on its first
instruction (R271). -/
def execRoleChangeComplete (h : HartId) (s : State) : Out :=
  .next (if (s.hart h).st ≠ .creating then s
    else if s.suspending h.die (s.hart h).id.gangId then s.setHart h (s.hart h).paused
    else
      match s.rearmMiss h with
      | some va => s.request h va .read false false
      | none =>
        let s := if (s.hart h).mon.any fun m => m.sector = unarmed then s.rearm h else s
        let s := ((s.setHart h { s.hart h with st := .running }).gangPlaced h.die (s.hart h).id.gangId).checkpointPair h
        match (s.hart h).pendingError with
        | some e => s.asHart h fun s => s.takePending e
        | none => s)

/-- A gang of which no hart is left on the die or outside: its leases end (R220), and the gang of a launch is DONE (R48). -/
def State.gangStopped (s : State) (die : Fin 8) (gang : Word) : State :=
  let d := s.die die
  let rec? := d.gangs.find? fun g => g.gangId == gang
  let live := !(s.gangHarts die gang).isEmpty || d.parked.any (·.id.gangId == gang) || rec?.any fun g => !g.saved.isEmpty
  if live then s
  else
    let s := { s with leases := s.leases.filter fun (_, l) => !(l.die == die && l.gang == gang) }
    match rec? with
    | none => s
    | some g =>
      let d := s.die die
      let now := s.cycle
      s.setDie die { d.mapLaunch g.seq fun l =>
          { l with gangsDone := l.gangsDone + 1, doneAt := if l.gangsDone + 1 = l.gangs then some now else none } with
        gangs := d.gangs.filter fun x => x.gangId != gang }

/-- What the checkpoints of a pair have left in the top 4 KiB of a core's TCM; its layout is open (R499; log 109). -/
def State.leaveContext (s : State) (c : CoreId) : State :=
  { s with mem := pokeBytes s.mem (tcmLoc c 0xF000) ((List.range 4096).map (Config.pairByte (coreKey c) s.fresh)) }

/-- The slot of a hart that has ended becomes EMPTY; its quartets return to the cache role (R47). -/
def State.emptySlot (s : State) (i : HartId) : State :=
  let s := if (s.hart i).id.paired then (s.leaveContext (coreOf i)).leaveContext (coreOf (partner i)) else s
  let s := s.setHart i Hart.reset
  { s with pairs := s.pairs.filter fun p => p.1 != hartKey i }

/-- HART_STOP_COMPLETE: once its convoys, transfers and writes are done a STOPPING hart's slot becomes EMPTY (R47). An error
of a transfer or write traps on the stop instead (R271, R491). A send that a trap stopped part-way keeps its entry, so that its hart stays
STOPPING (log 111). -/
def execHartStopComplete (h : HartId) (s : State) : Out :=
  let x := s.hart h
  .next (if x.st ≠ .stopping ∨ x.convoy ≠ [] ∨ x.ilock ≠ [] ∨ x.posted ≠ [] then s
    else
      match (if x.reports then x.pendingError else none) with
      | some e => (s.setHart h { x with st := .running, reports := false }).asHart h fun s => s.takePending e
      | none =>
        let s := s.setDie h.die ((s.die h.die).mapGang x.id.gangId fun g => { g with stopped := g.stopped + 1 })
        (s.emptySlot h).gangStopped h.die x.id.gangId)

/-- The hart's closed convoy has not drained; scalar instructions behind it may issue (R168, R400). -/
def Hart.inFlight (h : Hart) : Bool := !h.convoy.isEmpty && h.phase != .open

/-- The next instruction of the hart is scalar or has K = 1, and its fetch does not wait (R342); it may stand behind a convoy in flight. -/
def State.atBoundary (s : State) (i : HartId) : Bool :=
  let h := s.hart i
  (h.convoy.isEmpty || h.inFlight) && h.fence.isNone &&
    (match s.fetch i (if h.inFlight then h.front.pc else h.pc).toNat with
     | .ok (w, _) => !(convoyClass w && !bitAt w 8)
     | .trap _ => true
     | _ => false)

/-- The warning of a pending reclaim is due: half its deadline has passed (R342). -/
def State.warnDue (s : State) (i : HartId) : Bool :=
  let h := s.hart i
  match h.reclaimAt with
  | none => false
  | some r =>
    let (warned, inh) := if h.inFlight then (h.front.warned, h.front.inh) else (r.warned, h.inh)
    !warned && h.rwarn && !inh && !h.priv && h.st = .running && decide (r.since + r.length / 2 ≤ s.cycle) &&
      decide (s.cycle < r.since + r.length) && s.atBoundary i

/-- The warning is taken behind the convoy in flight of the current hart, and is undone should the convoy stop (log 82); one that leaves the
user's handlers waits for the drain. -/
def State.trapAhead (s : State) (e : Exc) : State :=
  let t := s.setH s.h.behind
  let u := t.trapHere e
  if t.h.quietly u.h && u.setH t.h = t then
    let h := s.h.wentAhead u.h [] s.h.aheadStores
    s.setH { h with ahead := h.ahead.map fun a => { a with front := { a.front with warned := true } } }
  else s

/-- LANEDEADLINE: the warning trap, once per mark (R342). -/
def execLanedeadline (h : HartId) (s : State) : Out :=
  .next (match (s.hart h).reclaimAt with
    | none => s
    | some r =>
      if s.warnDue h then
        s.asHart h fun s =>
          let e : Exc := { cause := .lanedeadline, acc := .read, tval := BitVec.ofNat 64 (r.since + r.length - s.cycle) }
          if s.h.inFlight then s.trapAhead e else (s.setH { s.h with reclaimAt := some { r with warned := true } }).trapHere e
      else s)

/-- A hart without its pending reclaim. -/
def Hart.unmark (h : Hart) : Hart := { h with vs := { h.vs with rq := 0 }, reclaimAt := none }

/-- The dispatcher of a die runs in slot 7 of its core 0. -/
def dispatcherOf (die : Fin 8) : HartId := { die := die, core := 0, slot := 7 }

/-- A suspend that the dispatcher begins: it keeps the harts itself (R45, R50). -/
def State.dispatcherSuspend (s : State) (die : Fin 8) (gang : Word) : State :=
  if s.suspending die gang then s
  else
    let n := (s.members die gang).length
    if n = 0 then s
    else s.beginSuspend die { gang := gang, issuer := hartKey (dispatcherOf die), table := none, images := [], marked := n }

/-- RECLAIM_DEADLINE_EXPIRY: a reclaim still pending at its deadline suspends the victim's gang (R341, R343, R50); a service in that same
cycle wins (R346). -/
def execReclaimDeadlineExpiry (h : HartId) (s : State) : Out :=
  .next (match (s.hart h).reclaimAt with
    | none => s
    | some r =>
      if s.cycle < r.since + r.length then s
      else
        let s := s.setHart h (s.hart h).unmark
        if (s.hart h).st = .running ∨ (s.hart h).st = .waiting then s.dispatcherSuspend h.die (s.hart h).id.gangId else s)

/-- RESV_EXPIRY: quartets no spawn has taken in time enter the cache role (R474). -/
def execResvExpiry (c : CoreId) (s : State) : Out :=
  .next (if (s.core c).reserved.any fun r => decide (r.2 ≤ s.cycle) then
      s.setCore c { s.core c with reserved := (s.core c).reserved.filter fun r => !decide (r.2 ≤ s.cycle) }
    else s)

/-- LEASE_EXPIRY: a lease whose length has run out ends (R220). -/
def execLeaseExpiry (stack : Fin 16) (s : State) : Out :=
  .next { s with leases := s.leases.filter fun (k, l) => !(k == stack.val && decide (l.ends ≤ s.cycle)) }

/-- The traps that stand at a suspend would stop the gang (R346). -/
def Hart.failsOut (h : Hart) : Bool :=
  h.wfail.isSome && (match h.route .dataerr with | .user | .firmware => false | _ => true)

/-- The images of the suspended harts, written through the issuer's translation (R219, R347). One whose area cannot be
written is left out. -/
def State.writeImages (s : State) (p : Suspend) : List (Nat × Hart) → Reply State
  | [] => .ok s
  | (_, h) :: l =>
    match p.images.find? fun q => q.1 == h.id.index.toNat with
    | none => s.writeImages p l
    | some (_, a) =>
      match s.writeBytes (hartIdOf p.issuer) a 0xFF h.image with
      | .ok s => s.writeImages p l
      | .trap _ => s.writeImages p l
      | .miss va acc => .miss va acc
      | .wait => .wait

/-- The harts of a gang become SUSPENDED: their slots are EMPTY, and the gang of a launch returns to the queue (R45, R47). -/
def State.suspended (s : State) (die : Fin 8) (p : Suspend) (ms : List (Nat × Hart)) : State :=
  let s := ms.foldl (fun s (k, _) => s.emptySlot (hartIdOf k)) s
  let d := s.die die
  let keep := p.table.isSome || !d.gangs.any (·.gangId == p.gang)
  let saved := ms.foldl (fun m (_, h) => (m.filter fun q => decide (q.1 < h.id.index.toNat)) ++ [(h.id.index.toNat, h)]
    ++ m.filter fun q => decide (h.id.index.toNat < q.1)) []
  s.setDie die { d.mapGang p.gang fun g => { g with st := .suspended, saved := saved } with
    parked := if keep then d.parked ++ ms.map (·.2) else d.parked,
    suspends := d.suspends.filter fun q => q.gang != p.gang }

/-- A write of the hart goes to this module's own memory. -/
def State.ownMemory (s : State) (w : Posted) : Bool := w.module.isNone && s.region w.pa != .pool

/-- Two writes of a hart touch a common byte, or a common sector of another module (R125, R493). -/
def Posted.meets (p w : Posted) : Bool :=
  p.module = w.module &&
    (if w.module.isSome then overlaps (p.pa / 64) ((p.pa + p.bytes.length - 1) / 64 + 1 - p.pa / 64) (w.pa / 64) ((w.pa + w.bytes.length + 63) / 64)
     else overlaps p.pa p.bytes.length w.pa (w.pa + w.bytes.length))

/-- A write that has left its hart may perform: none before it touches its bytes (R125, kind 1), and a release follows the transfers
before it and the writes before it, those to POOL and PEER memory where its scope is the system (R126, R128). -/
def State.mayPerform (s : State) (i : HartId) (before : List Posted) (w : Posted) : Bool :=
  !before.any (·.meets w) &&
    match w.rel with
    | none => true
    | some sc => (s.hart i).ilock.all (fun e => decide (w.after ≤ e.no)) && before.all fun p => !s.ownMemory p && sc != 5

/-- A write waits for room in the journal of its die (R440). -/
def State.journalHolds (s : State) (i : HartId) (w : Posted) : Bool :=
  !s.ownMemory w && (s.launchOf i).any (·.extj) && s.journalFull i.die

/-- The writes that may perform now, by place; one that waits for room in the journal is kept (R344, R440). -/
def State.performable (s : State) (i : HartId) : List Posted → List Posted → List Posted
  | _, [] => []
  | before, w :: ws =>
    (if s.mayPerform i before w && !s.journalHolds i w then [w] else []) ++ s.performable i (before ++ [w]) ws

/-- The count of a suspend goes into word 0 of its table, through the issuer's translation (R219). -/
def State.writeCount (s : State) (p : Suspend) (n : Nat) : Reply State :=
  match p.table with
  | none => .ok s
  | some a =>
    match s.writeBytes (hartIdOf p.issuer) a 0xFF (leBytes 8 n) with
    | .trap _ => .ok s
    | r => r

/-- The end of a suspend, once every hart marked has paused and each of its writes has performed that can: one ordered behind a paused
transfer performs after the restore (R344). -/
def State.endSuspend (s : State) (die : Fin 8) (p : Suspend) : State :=
  let all := s.gangHarts die p.gang
  let ms := all.filter fun q => q.2.st = .suspending
  if all.any (fun q => q.2.st = .creating) || ms.any (fun q => !(s.performable (hartIdOf q.1) [] q.2.posted).isEmpty) then s
  else if ms.isEmpty || ms.any fun q => q.2.failsOut then
    match s.writeCount p 0 with
    | .miss va acc => s.request (hartIdOf p.issuer) va acc false false
    | .trap _ | .wait => s
    | .ok s =>
    let s := ms.foldl (fun s (k, _) => s.beforeSuspend k) s
    let stop := fun (k : Nat) (h : Hart) =>
      if ms.any (·.1 == k) then { h with st := .stopping, reports := false } else h
    let s := { s with harts := s.harts.map fun (k, h) => (k, stop k h) }
    s.setDie die { s.die die with suspends := (s.die die).suspends.filter fun q => q.gang != p.gang }
  else
    let s' := ms.foldl (fun s (k, _) => s.beforeSuspend k) s
    let ms := ms.map fun (k, _) => (k, s'.hart (hartIdOf k))
    match s'.writeImages p ms with
    | .miss va acc => s.request (hartIdOf p.issuer) va acc false false
    | .trap _ | .wait => s
    | .ok s'' =>
      match s''.writeCount p ms.length with
      | .miss va acc => s.request (hartIdOf p.issuer) va acc false false
      | .trap _ | .wait => s
      | .ok t => t.suspended die p ms

/-- GANG_SUSPEND_COMPLETE (R219, R344). -/
def execGangSuspendComplete (die : Fin 8) (gang : Word) (s : State) : Out :=
  .next (match (s.die die).suspends.find? fun p => p.gang == gang with
    | none => s
    | some p => s.endSuspend die p)

/-- The closed convoy of a hart goes on, where the hart is RUNNING or STOPPING. -/
def State.convoyEvent (s : State) (i : HartId) (ok : Phase → Bool) : State :=
  let h := s.hart i
  if (h.st = .running ∨ h.st = .stopping) ∧ h.convoy ≠ [] ∧ ok h.phase = true then s.asHart i State.advanceConvoy else s

/-- CONVOY_START: a closed convoy starts (R167). -/
def execConvoyStart (h : HartId) (s : State) : Out := .next (s.convoyEvent h fun p => p = .start)

/-- STREAM_TRIM: a started convoy that waits for stream elements is trimmed and probed (R257, R259). -/
def execStreamTrim (h : HartId) (s : State) : Out := .next (s.convoyEvent h fun p => p = .trim)

/-- CONVOY_DRAIN: a trimmed convoy runs to its drain (R167). -/
def execConvoyDrain (h : HartId) (s : State) : Out := .next (s.convoyEvent h fun p => p = .drain || p = .empty)

end Sys2Proof.Machine
end

