-- ==== Sys2Proof/Machine/Engines.lean ====
section
/-! DEFINITION. The engines that work beside the harts: load-stream fetch-ahead (R261, R458), copies (R268-R271), sends (R273),
kerb units (R314-R319), seals (R322, R324), and writes on their way to where they perform (R128, R491, R494). -/

namespace Sys2Proof.Machine

/-- A hart whose engines are not paused (R344). -/
def Hart.enginesRun (h : Hart) : Bool := h.st = .running || h.st = .waiting || h.st = .stopping

/-- Asks for the translation a transfer lacks, for its engine (R455). -/
def State.engineMiss (s : State) (i : HartId) (x : Halt) : State :=
  match x with
  | .hold (some (va, acc)) => s.request i va acc true false
  | _ => s

/-- The entry of a stream's transfer. -/
def Hart.entry? (h : Hart) (st : Fin 16) : Option Entry :=
  h.ilock.find? fun e => e.stream == st && e.kind != .seal && e.kind != .unseal

/-- The hart with the entry of a stream's transfer changed, or completed. -/
def Hart.mapEntry (h : Hart) (st : Fin 16) (f : Entry → Entry) : Hart :=
  { h with ilock := h.ilock.map fun e => if e.stream == st && e.kind != .seal && e.kind != .unseal then f e else e }
@[inherit_doc Hart.mapEntry] def Hart.endEntry (h : Hart) (st : Fin 16) : Hart := h.others st

/-- The transfer of a stream ends in an error: its entries complete, and an access that overlaps one reports the error (R271,
R319). -/
def Hart.failStream (h : Hart) (st : Fin 16) (e : Exc) : Hart :=
  let t := h.stm[st]
  (h.setSt st { t with
    state := .error, err := some { e with stream := some st },
    failed := h.ilock.filter fun e => e.stream == st && e.kind != .seal && e.kind != .unseal,
    strips := [], ready := [], job := none, held := [] }).endEntry st

/-- Where element `n` of a load stream may be read ahead: translated, readable, and behind no earlier transfer (R130, R137). -/
def State.canFetch (s : State) (i : HartId) (t : Stream) (n : Nat) : Option Target :=
  let (a, _) := t.elemAddr n
  let k := max 1 (t.width / 8)
  match s.streamPieces i t a k .read with
  | .ok ((x, m) :: ps) =>
    match (s.hart i).guard .read a k (s.readPieces i a .read ((x, m) :: ps)) with
    | .ok _ => some x
    | _ => none
  | _ => none

/-- The number of a 256-byte line of this module's memory. -/
def Target.line (x : Target) : Option Nat := match x with | .mem loc _ => some (loc / 256) | _ => none

/-- The next `k` elements of a load stream are read ahead as far as they can be; each line entered is fetched (R33, R261). -/
def State.fetchRun (s : State) (i : HartId) (t : Stream) : Nat → Nat → Option Nat → State × Nat
  | 0, n, _ => (s, n)
  | k + 1, n, last =>
    match s.canFetch i t n with
    | none => (s, n)
    | some x =>
      let s := match x with
        | .mem loc _ => if some (loc / 256) = last then s else s.readAt i (t.elemAddr n).1 (loc / 256 * 256) 256 none
        | _ => s
      s.fetchRun i t k (n + 1) x.line

/-- STREAM_FETCH_AHEAD: the engine reads a load stream's next strip, up to two strips ahead of consumption, and asks for the
translation of the page two ahead (R261, R458). -/
def execStreamFetchAhead (h : HartId) (st : Fin 16) (s : State) : Out :=
  let x := s.hart h
  let t := x.stm[st]
  let strip := max x.vs.vl (2048 / max 1 t.width)
  let next := max t.fetched t.pos
  let room := min strip (min (t.pos + 2 * strip) t.count - next)
  .next (if !x.enginesRun || t.mode != 0 || t.state != .active || room == 0 then s
    else
      let last := if next = t.pos then none else (s.canFetch h t (next - 1)).bind Target.line
      let (s, n) := s.fetchRun h t room next last
      let s := s.setHart h ((s.hart h).setSt st { s.holdAhead h t with fetched := n })
      s.prefetch h t (fun n => (t.elemAddr n).1) .read t.count (n - next) next)

/-- A source element of a copy (R267). -/
def State.copyElem (s : State) (i : HartId) (t : Stream) (n : Nat) : Reply Nat :=
  let (a, b) := t.elemAddr n
  (s.heldTarget i t a .read).bind fun x =>
    (s.readPiece i a .read (x, max 1 (t.width / 8))).bind fun bs => .ok (leNat bs / 2 ^ b % 2 ^ t.width)

/-- Destination bytes of elements `lo` to `hi - 1`. -/
def Stream.destBytes (t : Stream) (lo hi : Nat) : Nat × Nat :=
  (t.dbase.toNat + lo * t.destBits / 8, t.dbase.toNat + ceilDiv (hi * t.destBits) 8)

/-- A source element of `[lo, hi)` is written by a strip not yet written (R268). -/
def Stream.waitsForStrip (t : Stream) (lo hi : Nat) : Bool :=
  let (a, b) := t.destBytes t.written lo
  decide (t.written < lo) && (List.range (hi - lo)).any fun k => overlaps (t.elemAddr (lo + k)).1 (max 1 (t.width / 8)) a b

/-- Queues the elements `vs` read from index `lo` on: those not yet written, and for a tapped copy those not yet consumed. -/
def Stream.enqueue (t : Stream) (lo : Nat) (vs : List Nat) (full : Bool) : Stream :=
  let w := vs.drop (t.written + (t.strips.map List.length).sum - lo)
  let r := vs.drop (t.pos + (t.ready.map List.length).sum - lo)
  { t with fetched := lo + vs.length, strips := if w = [] then t.strips else t.strips ++ [w],
           ready := if t.tap && full && r != [] then t.ready ++ [r] else t.ready }

/-- The walks of a copy go on (R458): its source from element `n` on by `k`, or its destination. -/
def State.copyAhead (s : State) (i : HartId) (t : Stream) (n k : Nat) : State :=
  s.prefetch i t (fun n => (t.elemAddr n).1) .read t.count k n
@[inherit_doc State.copyAhead] def State.destAhead (s : State) (i : HartId) (t : Stream) (n k : Nat) : State :=
  s.prefetch i t (fun n => (t.destAt n).1) (if t.form.amo.isSome then .rmw else .write) t.count k n

/-- COPY_STRIP_READ: every element of the next strip is read (R268, R269). An uncorrectable error ends the copy at its element
(R271). -/
def State.readStrip (s : State) (i : HartId) (st : Fin 16) : State :=
  let h := s.hart i
  let t := h.stm[st]
  let lo := t.fetched
  let hi := min t.count ((lo / t.stripLen + 1) * t.stripLen)
  if !h.enginesRun || t.mode != 2 || t.state != .active || t.err.isSome || (h.entry? st).isNone || decide (hi ≤ lo)
      || decide (t.acc < hi) || decide (2 ≤ t.strips.length) || (t.tap && decide (2 ≤ t.ready.length)) || t.waitsForStrip lo hi then s
  else
    let (vs, halt) := runLanes (fun n => s.copyElem i t n) ((List.range (hi - lo)).map (lo + ·))
    let vs := vs.map (·.2)
    match halt with
    | some (_, .hold m) => s.engineMiss i (.hold m)
    | _ =>
      let s := s.copyAhead i t lo vs.length
      let s := (vs.zip (List.range vs.length)).foldl (fun s (_, k) =>
        let va := (t.elemAddr (lo + k)).1
        (s.addHeat i va t.heatKind).reachWords i va (max 1 (t.width / 8)) .read) s
      match halt with
      | some (_, .trap e) =>
        let t' := { t.enqueue lo vs false with err := some { e with stream := some st } }
        let h' := (s.hart i).setSt st t'
        s.setHart i (if t'.strips = [] then h'.failStream st e else h')
      | _ => s.setHart i ((s.hart i).setSt st (t.enqueue lo vs true))
@[inherit_doc State.readStrip] def execCopyStripRead (h : HartId) (st : Fin 16) (s : State) : Out := .next (s.readStrip h st)

/-- The write of element `n` of a copy, with whether an update left a marker (R267, R270). One of fewer than 8 bits reads the
byte it merges into (R122, R271). -/
def State.writeCopied (s : State) (i : HartId) (t : Stream) (n v : Nat) : Reply (State × Bool) :=
  let (a, b) := t.destAt n
  match t.form.amo with
  | some f =>
    (s.heldTarget i t a .rmw).bind fun x =>
      (s.readPiece i a .rmw (x, 16)).bind fun bs =>
        let new := (f.apply (t.width / 8) (leNat bs) v 0).getD (leNat bs)
        let s' := match x with
          | .mem loc _ => s.putBytes (s.writer i a) loc (leBytes 16 new)
          | _ => s
        .ok (s'.noteWrite i a, fxClass new != 0)
  | none =>
    let (bs, mask) := elemBytes b t.width v
    (s.heldTarget i t a .write).bind fun x =>
      s.writable i [(x, bs.length)]
        ((if 8 ≤ t.width then .ok [] else s.readPiece i a .write (x, 1)).bind fun _ =>
          .ok ((s.writePiece i a mask x bs).noteWrite i a, false))

/-- The writes of a strip in ascending order: the state, the elements left, and what stopped it (R132, R268). -/
def State.writeStripFrom (s : State) (i : HartId) (st : Fin 16) : List Nat → State × List Nat × Option Halt
  | [] => (s, [], none)
  | v :: vs =>
    let t := (s.hart i).stm[st]
    match s.writeCopied i t t.written v with
    | .ok (s, mark) =>
      let s := (s.addHeat i (t.destAt t.written).1 .unit).reachWords i (t.destAt t.written).1 (max 1 (t.destBits / 8)) .write
      let h := s.hart i
      let t := h.stm[st]
      let n := t.written + 1
      let t := { t with written := n, mark := t.mark || mark, pos := if t.tap then t.pos else n,
                        remain := if t.tap then t.remain else t.count - n }
      (s.setHart i ((h.setSt st t).mapEntry st fun e => { e with progress := n })).writeStripFrom i st vs
    | r => (s, v :: vs, some r.halt)

/-- COPY_STRIP_WRITE: the oldest strip read is written; with the last one the copy is complete (R136, R268). -/
def State.writeStrip (s : State) (i : HartId) (st : Fin 16) : State :=
  let h := s.hart i
  let t := h.stm[st]
  match t.strips with
  | [] => s
  | vs :: rest =>
    if !h.enginesRun || t.mode != 2 || t.state != .active then s
    else
      let first := t.written
      let (s, left, halt) := s.writeStripFrom i st vs
      let s := s.destAhead i t first (vs.length - left.length)
      let s := if 8 ≤ t.width then
          s.healAll i ((List.range (vs.length - left.length)).map fun k => ((t.destAt (first + k)).1, t.destBits / 8)) else s
      let h := s.hart i
      let t := h.stm[st]
      match halt with
      | some (.trap e) => s.setHart i (h.failStream st e)
      | some x => (s.setHart i (h.setSt st { t with strips := left :: rest })).engineMiss i x
      | none =>
        let h := h.setSt st { t with strips := rest }
        if t.written = t.count && !t.tap then
          s.setHart i ((h.endEntry st).setSt st ({ t with strips := [], held := [] }.settleState true))
        else
          match rest, t.err with
          | [], some e => s.setHart i (h.failStream st e)
          | _, _ => s.setHart i (h.endTap st)
@[inherit_doc State.writeStrip] def execCopyStripWrite (h : HartId) (st : Fin 16) (s : State) : Out := .next (s.writeStrip h st)

/-- Every read and write of a copy's entry has performed, though a tapped copy may have elements to be consumed. -/
def Hart.performedAll (h : Hart) (e : Entry) : Bool :=
  (e.kind == .copy || e.kind == .copyAdd) && e.progress == h.stm[e.stream].count

/-- A delivery by the send with number `no` follows the hart's earlier transfers and writes, as a release at die scope (R139); and
the earlier sends to its channel (R64). -/
def State.sendWaits (s : State) (i : HartId) (no : Nat) (bind : Word) : Bool :=
  let h := s.hart i
  let dest := fun (w : Word) => bitsOf w.toNat 12 0
  (h.ilock.any fun e => decide (e.no < no) &&
    (if e.kind == .send then dest h.stm[e.stream].bind == dest bind else !h.performedAll e)) ||
  h.posted.any fun w => decide (w.after ≤ no) && w.module.isNone && s.region w.pa != .pool

/-- CHANNEL_DELIVER: the oldest buffered element or END of a send enters its channel, where it has room and no other send
holds the channel (R64, R65, R273). -/
def State.deliver (s : State) (i : HartId) (st : Fin 16) : State :=
  let h := s.hart i
  let t := h.stm[st]
  match t.outbox with
  | [] => s
  | e :: es =>
    if !h.enginesRun || !t.sendBound || s.sendWaits i (((h.entry? st).map (·.no)).getD 0) t.bind then s
    else
      match s.receiver i t with
      | none => (s.setHart i (h.setSt st { t with outbox := [], send := .undeliverable })).sendOver i st
      | some k =>
        let j := hartIdOf k
        let d := s.hart j
        let ch : Fin 4 := Fin.ofNat 4 (bitsOf t.bind.toNat 12 11)
        let c := d.chan[ch]
        if 512 ≤ c.entries.length ∨ (c.holder.isSome && c.holder != some (h.id.index.toNat, st.val)) = true then s
        else
          let c := { c with entries := c.entries ++ [e.map fun v => (v, t.width)], holder := some (h.id.index.toNat, st.val) }
          let s := s.setHart j { d with chan := d.chan.set ch c }
          let h := s.hart i
          let t := h.stm[st]
          (s.setHart i (h.setSt st { t with outbox := es, pos := if e.isSome then t.pos + 1 else t.pos })).sendOver i st
@[inherit_doc State.deliver] def execChannelDeliver (h : HartId) (st : Fin 16) (s : State) : Out := .next (s.deliver h st)

/-- What an item of a command has given, if it has been read. -/
def KerbJob.got (j : KerbJob) (n : Nat) : Option Nat :=
  match Map.get 0 j.data n with
  | 0 => none
  | v + 1 => some v

/-- The cells of a bag as result elements (R309, R311). -/
def KerbJob.bagOut (j : KerbJob) (b : Nat) : List Nat :=
  let d := j.cmd.d 1
  (List.range d).flatMap fun c => poolOut j.cmd.out (if j.nanc.contains b then fxNanc else Map.get 0 j.data (b * d + c))

/-- Every read of the scanned range has returned. -/
def KerbJob.scanDone (j : KerbJob) : Bool := j.scanned == j.total

/-- The pairs that a predicate scan has found among the items read, by index (R312). -/
def KerbJob.found (j : KerbJob) : List (Nat × Nat) :=
  let c := j.cmd
  j.data.filterMap fun (n, v) => if selMatch j.kind c.fmt c.cmp (v - 1) c.w5 c.w6 then some (n, v - 1) else none

/-- The results whose place in the sequence is fixed (R309, R314). -/
def KerbJob.results (j : KerbJob) : List Nat :=
  let c := j.cmd
  if j.kind = 1 then
    let bags := if j.scanDone then j.w5 else if j.bound = 0 then 0 else (j.items.getD j.scanned (0, 0)).1
    (List.range bags).flatMap j.bagOut
  else
    match c.sel with
    | 0 => (List.range j.scanned).map fun n => (j.got n).getD 0
    | 1 => (j.found.filter fun p => decide (p.1 < j.scanned)).map (pairElem j.kind c.fmt)
    | _ => if j.scanDone then
        (topK j.kind c.fmt c.smallest c.k (j.data.map fun (n, v) => (n, v - 1))).map (pairElem j.kind c.fmt) else []

/-- Elements of a job that the buffer holds besides those ready: those on their way, and those whose place is not fixed yet (R314). -/
def KerbJob.waiting (j : KerbJob) : Nat :=
  let all := if j.kind = 1 then j.results.length
    else match j.cmd.sel with | 0 => j.data.length | 1 => j.found.length | _ => j.results.length
  all - j.sent

/-- Result elements of a stream in its buffer and on their way to it. -/
def Stream.buffered (t : Stream) (j : KerbJob) : Nat := t.ready.flatten.length + j.waiting

/-- The buffer has room for what a unit finds at its next item (R314): the unit at the lowest item left may take the last place. -/
def Stream.roomFor (t : Stream) (j : KerbJob) (n : Nat) : Bool :=
  decide (t.buffered j + boolN (n != j.scanned) < 4096)

/-- A row or element of the scanned range, as an event of the hart after its earlier transfers and writes (R135, R140, R316). -/
def State.scanItem (s : State) (i : HartId) (t : Stream) (j : KerbJob) (no n : Nat) : Reply (List Nat) :=
  let c := j.cmd
  let size := c.itemBytes j.kind
  let a := j.itemAddr n
  if (s.hart i).heldBefore no .read a size then .wait
  else
    (s.heldTarget i t a .read).bind fun x =>
      (s.readPiece i a .read (x, size)).bind fun bs => .ok (cut (c.elemBytes j.kind) (c.d j.kind) (leNat bs))

/-- An item read goes into what its unit holds: a score, a pattern, or a row added into its bag's cells (R310-R313). -/
def KerbJob.take (j : KerbJob) (n : Nat) (xs : List Nat) : KerbJob :=
  let c := j.cmd
  match j.kind with
  | 0 => { j with data := Map.set 0 j.data n (swageScore c.fmt xs j.aux + 1) }
  | 1 =>
    let b := (j.items.getD n (0, 0)).1
    let d := c.d 1
    let old := (List.range d).map fun k => Map.get 0 j.data (b * d + k)
    { j with data := ((addRow c.fmt old xs).zip (List.range d)).foldl (fun m (x, k) => Map.set 0 m (b * d + k) x) j.data }
  | _ => { j with data := Map.set 0 j.data n (xs.headD 0 + 1) }

/-- A unit reads on from its next item, up to `k` items: the job, whether the buffer is full, and what stopped it. -/
def State.scanRun (s : State) (i : HartId) (t : Stream) (no u : Nat) : Nat → KerbJob → KerbJob × Option (Nat × Halt)
  | 0, j => (j, none)
  | k + 1, j =>
    match j.units.find? (·.1 == u) with
    | none => (j, none)
    | some (_, n) =>
      if j.bound ≤ n then (j, none)
      else if !t.roomFor j n then ({ j with paused := true }, none)
      else
        match s.scanItem i t j no n with
        | .ok xs =>
          let j := { j.take n xs with units := j.units.map fun (v, m) => (v, if v = u then n + 1 else m) }
          s.scanRun i t no u k (s.settleJob i t j)
        | r => (j, some (n, r.halt))

/-- No older command has reads left in the unit of a module channel: a unit serves them in the order they arrive (R302). -/
def State.firstAt (s : State) (u arrival : Nat) : Bool :=
  s.harts.all fun (_, h) => !h.enginesRun || h.stm.toList.all fun t =>
    match t.job with
    | some j => decide (arrival ≤ j.arrival) || t.state != .active || !j.units.any fun v => v.1 == u && decide (v.2 < j.bound)
    | none => true

/-- The units of a command that may read on (R302, R314, R488), with their next items. -/
def State.unitsReady (s : State) (t : Stream) (j : KerbJob) : List (Nat × Nat) :=
  j.units.filter fun (u, n) => decide (n < j.bound) && (s.channel u).state == 0 && s.firstAt u j.arrival

/-- A job whose item `n` cannot be read: only what precedes it is delivered, and of SEL 2 and of a pool nothing (R319). -/
def KerbJob.cutAt (j : KerbJob) (n : Nat) : KerbJob :=
  if j.kind = 1 ∨ j.cmd.sel = 2 then j.void
  else
    { j with bound := n, data := j.data.filter fun p => decide (p.1 < n), units := j.units.map fun u => (u.1, min u.2 n) }

/-- The units of a command read on (R303, R310-R314): one of those that may, within a granule of 8 KiB (R301). Which, and how far, is
open (log 9). -/
def State.scan (s : State) (i : HartId) (st : Fin 16) : State :=
  let h := s.hart i
  let t := h.stm[st]
  match t.job with
  | none => s
  | some j =>
    let us := s.unitsReady t j
    if !h.enginesRun || t.mode != 4 || t.state != .active || j.paused || us.isEmpty then s
    else if !j.units.all (fun u => s.permits (some (64 + u.1 / 32)) (0x1000 + u.1) .r) then
      (s.setHart i (h.failStream st (accessExc j.src .read))).bump i.die 0x78
    else
      let pick := s.pick 0
      let (u, n) := us.getD (pick % us.length) (0, 0)
      let most := j.beyond n - n
      let no := ((h.entry? st).map (·.no)).getD 0
      let (j', halt) := s.scanRun i t no u (1 + pick / us.length % most) j
      let progress := if j.kind = 1 then (if j'.scanDone then j.count else 0) else j'.scanned
      let h' := (h.setSt st { t with job := some j' }).mapEntry st fun e => { e with progress := progress }
      match halt with
      | some (n, .trap e) =>
        let cut := s.settleJob i t (j'.cutAt n)
        s.setHart i (h'.setSt st { t with job := some cut, err := some { e with stream := some st },
                                          ready := if j.kind = 1 then [] else t.ready })
      | some (_, x) => (s.setHart i h').engineMiss i x
      | none => s.setHart i (if j'.scanDone && t.err.isNone then h'.endEntry st else h')

/-- KERB_UNIT_GRANULE_READ: reads of a command's scanned range return (R316). -/
def execKerbUnitGranuleRead (h : HartId) (st : Fin 16) (s : State) : Out := .next (s.scan h st)

/-- Elements that reach the buffer together: the cells of a bag, the whole of SEL 2, or one. -/
def KerbJob.chunk (j : KerbJob) : Nat :=
  if j.kind = 1 then j.cmd.d 1 * (if j.cmd.out = 0 then 2 else 1) else if j.cmd.sel = 2 then 4096 else 1

/-- KERB_UNIT_RESULT: results whose place is fixed reach the core's buffer of 4,096 elements (R314); how many is open (log 9). -/
def State.collect (s : State) (i : HartId) (st : Fin 16) : State :=
  let h := s.hart i
  let t := h.stm[st]
  match t.job with
  | none => s
  | some j =>
    if !h.enginesRun || t.mode != 4 || t.state != .active then s
    else
      let new := j.results.drop j.sent
      let parts := ceilDiv new.length (max 1 j.chunk)
      let n := (1 + s.pick 1 % max 1 parts) * j.chunk
      let new := new.take (min n (4096 - t.ready.flatten.length))
      if new = [] then s
      else s.setHart i (h.setSt st { t with ready := [t.ready.flatten ++ new], job := some { j with sent := j.sent + new.length } })
@[inherit_doc State.collect] def execKerbUnitResult (h : HartId) (st : Fin 16) (s : State) : Out := .next (s.collect h st)

/-- KERB_UNIT_RESUME: paused units go on once the consumer has freed room (R314). -/
def State.resume (s : State) (i : HartId) (st : Fin 16) : State :=
  let h := s.hart i
  let t := h.stm[st]
  match t.job with
  | some j =>
    if j.paused && (s.unitsReady t j).any fun u => t.roomFor j u.2 then
      s.setHart i (h.setSt st { t with job := some { j with paused := false } }) else s
  | none => s
@[inherit_doc State.resume] def execKerbUnitResume (h : HartId) (st : Fin 16) (s : State) : Out := .next (s.resume h st)

/-- KERB_COMPLETE: every result is in the buffer, so REMAIN is known (R314); or a command that met an error has no result left
to be consumed, and its stream is in ERROR (R319). -/
def State.kerbEnd (s : State) (i : HartId) (st : Fin 16) : State :=
  let h := s.hart i
  let t := h.stm[st]
  match t.job with
  | none => s
  | some j =>
    if !h.enginesRun || t.mode != 4 || t.state != .active then s
    else
      let sent := decide (j.results.length ≤ j.sent)
      match t.err with
      | some e => if j.scanned == j.bound && sent && t.ready.flatten.isEmpty then s.setHart i (h.failStream st e) else s
      | none =>
        if j.scanDone && sent then
          s.setHart i (h.setSt st ({ t with job := none, held := [], remain := j.results.length - t.pos }.settleState (h.quiet st)))
        else s
@[inherit_doc State.kerbEnd] def execKerbComplete (h : HartId) (st : Fin 16) (s : State) : Out := .next (s.kerbEnd h st)

/-- A command issued again after a restore, in its old place in program order (R318): its record and its checks (R307), its results
behind POS. One whose entry had completed has no earlier transfer to follow. -/
def State.reissue (s : State) (i : HartId) (st : Fin 16) : State :=
  let h := s.hart i
  let t := h.stm[st]
  let e? := h.entry? st
  let fail := s.setHart i (h.failStream st (accessExc ((e?.map (·.rdlo)).getD t.base.toNat) .read))
  match s.readBytes i t.base.toNat 64 .read with
  | .miss va acc => s.request i va acc true false
  | .wait => s
  | .trap _ => fail
  | .ok bs =>
    let c := Cmd.ofNat (leNat bs)
    let kind := bitsOf c.ctrl 3 0
    let bad := s.setHart i (h.failStream st (accessExc c.src .read))
    if 2 < kind ∨ c.legal kind = false ∨ (c.misaligned kind).isSome = true then bad
    else
      match s.kerbProbe i kind c with
      | .miss va acc => s.request i va acc true false
      | .wait => s
      | .trap _ => bad
      | .ok _ =>
        match (s.setHart i (h.endEntry st)).acceptKerb i st kind t.base c (some ((e?.map (·.no)).getD 0)) with
        | .ok s' =>
          let h' := s'.hart i
          let t' := h'.stm[st]
          s'.setHart i (h'.setSt st { t' with pos := t.pos, bufs := t.bufs, job := t'.job.map fun j => { j with sent := t.pos } })
        | _ => s

/-- KERB_ACCEPT: a command whose convoy waits at its drain is tried again (R303, R308); a command of a restored hart is issued
again (R318). -/
def execKerbAccept (h : HartId) (st : Fin 16) (s : State) : Out :=
  let x := s.hart h
  let t := x.stm[st]
  .next (if x.convoy.any (fun m => match m.op with | .kerb _ _ r _ => r == st | _ => false) then
      s.convoyEvent h fun p => p = .drain || p = .empty
    else if x.enginesRun && t.mode == 4 && t.state == .active && t.job.isNone && t.ready.flatten.isEmpty then s.reissue h st
    else s)

/-- SEAL_COMPLETE: every core and port has acknowledged the seal (R322). Writes made before it had performed at its point. -/
def execSealComplete (h : HartId) (s : State) : Out :=
  .next (s.setHart h { s.hart h with ilock := (s.hart h).ilock.eraseP fun e => e.kind == .seal })

/-- UNSEAL_COMPLETE: peer reads of the version have returned, and every core has dropped the seal (R324). -/
def execUnsealComplete (h : HartId) (s : State) : Out :=
  .next (s.setHart h { s.hart h with ilock := (s.hart h).ilock.eraseP fun e => e.kind == .unseal })

/-- LOAD_DATA_RETURN: the data of the oldest load or stream line under way arrives, `extra` cycles later than its base latency
(R33). -/
def execLoadDataReturn (h : HartId) (extra : Nat) (s : State) : Out :=
  let x := s.hart h
  .next (match x.reads with
    | [] => s
    | _ :: rs => s.setHart h { x with latcnt := x.latcnt + BitVec.ofNat 64 extra, reads := rs })

/-- A write that has left its hart performs, or goes into its die's journal (R128, R440). Bytes sealed or verified meanwhile are not
written: such a write is refused, and reported as one that failed (R323, R473; log 99). A system-scope release behind a failed write
never announces it (R491). -/
def State.performPosted (s : State) (i : HartId) (w : Posted) : State :=
  if s.journalHolds i w then s
  else
    let s := s.setHart i { s.hart i with posted := (s.hart i).posted.erase w }
    if w.rel = some 5 ∧ (s.hart i).wfail.isSome = true then s
    else if s.ownMemory w && ((List.range w.bytes.length).any fun k => s.frozen (w.pa + k)) then s.lostWrite i w.va
    else if !s.ownMemory w && (s.launchOf i).any (·.extj) then s.toJournal i w else s.performNow i w

/-- WRITE_PERFORM: a write of the hart performs; which one of those that may, the manual leaves open (R128, log 9). -/
def execWritePerform (h : HartId) (s : State) : Out :=
  .next (match s.performable h [] (s.hart h).posted with
    | [] => s
    | w :: ws => s.performPosted h ((w :: ws).getD (Config.choice s.fresh % (w :: ws).length) w))

/-- The oldest posted write of a kind gets no answer: the failure stands for the next fence or release (R491, R494). -/
def State.unanswered (s : State) (i : HartId) (p : Posted → Bool) : State :=
  let h := s.hart i
  match h.posted.find? p with
  | none => s
  | some w => (s.setHart i { h with posted := h.posted.erase w }).lostWrite i w.va

/-- POOL_TIMEOUT and PEER_TIMEOUT (R491, R494). A read without an answer is the free value of its reading (log 13). -/
def execPoolTimeout (h : HartId) (s : State) : Out :=
  .next (s.unanswered h fun w => w.module = none && s.region w.pa = .pool)
@[inherit_doc execPoolTimeout] def execPeerTimeout (h : HartId) (s : State) : Out := .next (s.unanswered h fun w => w.module.isSome)

end Sys2Proof.Machine
end

