-- ==== Sys2Proof/Machine/FjIns.lean ====
section
/-! DEFINITION. The words of the instructions that the on-device loader's code is made of (spec/17_portable_form.md R412-R417), one
definition for each, named as in Syntax: the word that `encode` gives (Laws/FjIns.lean). -/

namespace Sys2Proof.Machine.Fj

/-- The word of an instruction of 4 bytes. -/
structure Ins where
  word : Nat
deriving DecidableEq, Repr

namespace Ins

/-- add -/
def add (d a b : Fin 32) : Ins := ⟨encDxAxBx 0x17 d a b⟩
/-- sub -/
def sub (d a b : Fin 32) : Ins := ⟨encDxAxBx 0x800017 d a b⟩
/-- sll -/
def sll (d a b : Fin 32) : Ins := ⟨encDxAxBx 0x1000017 d a b⟩
/-- and -/
def and (d a b : Fin 32) : Ins := ⟨encDxAxBx 0x4800017 d a b⟩
/-- mul -/
def mul (d a b : Fin 32) : Ins := ⟨encDxAxBx 0x5000017 d a b⟩
/-- remu -/
def remu (d a b : Fin 32) : Ins := ⟨encDxAxBx 0x8800017 d a b⟩
/-- min -/
def min (d a b : Fin 32) : Ins := ⟨encDxAxBx 0x9000017 d a b⟩
/-- max -/
def max (d a b : Fin 32) : Ins := ⟨encDxAxBx 0x9800017 d a b⟩
/-- minu -/
def minu (d a b : Fin 32) : Ins := ⟨encDxAxBx 0xA000017 d a b⟩
/-- maxu -/
def maxu (d a b : Fin 32) : Ins := ⟨encDxAxBx 0xA800017 d a b⟩
/-- clz -/
def clz (d a : Fin 32) : Ins := ⟨encDxAx 0xE800017 d a⟩
/-- addi -/
def addi (d a : Fin 32) (i : BitVec 11) : Ins := ⟨encDxAxI11 0x13 d a i⟩
/-- slli -/
def slli (d a : Fin 32) (sh : BitVec 6) : Ins := ⟨encDxAxSh6 0x40013 d a sh⟩
/-- srli -/
def srli (d a : Fin 32) (sh : BitVec 6) : Ins := ⟨encDxAxSh6 0x140013 d a sh⟩
/-- srai -/
def srai (d a : Fin 32) (sh : BitVec 6) : Ins := ⟨encDxAxSh6 0x80140013 d a sh⟩
/-- ori -/
def ori (d a : Fin 32) (i : BitVec 11) : Ins := ⟨encDxAxI11 0x180013 d a i⟩
/-- auipc -/
def auipc (d : Fin 32) (i : BitVec 19) : Ins := ⟨encDxI19 0x27 d i⟩
/-- jal -/
def jal (d : Fin 32) (i : BitVec 19) : Ins := ⟨encDxI19 0x2B d i⟩
/-- jalr -/
def jalr (d a : Fin 32) (i : BitVec 11) : Ins := ⟨encDxAxI11 0x2F d a i⟩
/-- beq -/
def beq (a b : Fin 32) (i : BitVec 12) : Ins := ⟨encAxBxI12 0x33 a b i⟩
/-- bne -/
def bne (a b : Fin 32) (i : BitVec 12) : Ins := ⟨encAxBxI12 0x800033 a b i⟩
/-- bgeu -/
def bgeu (a b : Fin 32) (i : BitVec 12) : Ins := ⟨encAxBxI12 0x800037 a b i⟩
/-- ld -/
def ld (d a : Fin 32) (i : BitVec 11) : Ins := ⟨encDxAxI11 0xC0003 d a i⟩
/-- lwu -/
def lwu (d a : Fin 32) (i : BitVec 11) : Ins := ⟨encDxAxI11 0x180003 d a i⟩
/-- sb -/
def sb (a b : Fin 32) (i : BitVec 11) : Ins := ⟨encAxBxI11 0x7 a b i⟩
/-- sh -/
def sh (a b : Fin 32) (i : BitVec 11) : Ins := ⟨encAxBxI11 0x800007 a b i⟩
/-- sw -/
def sw (a b : Fin 32) (i : BitVec 11) : Ins := ⟨encAxBxI11 0x1000007 a b i⟩
/-- sd -/
def sd (a b : Fin 32) (i : BitVec 11) : Ins := ⟨encAxBxI11 0x1800007 a b i⟩
/-- fadd -/
def fadd (d a b : Fin 32) (fmt : BitVec 2) (rm : BitVec 3) : Ins := ⟨encDxAxBxFmt2Rm 0x3B d a b fmt rm⟩
/-- fmax -/
def fmax (d a b : Fin 32) (fmt : BitVec 2) : Ins := ⟨encDxAxBxFmt2 0x6000003B d a b fmt⟩
/-- fence -/
def fence (sc : BitVec 3) (ord : BitVec 2) : Ins := ⟨encScOrd 0x43 sc ord⟩
/-- mfs -/
def mfs (d : Fin 32) (n : BitVec 12) : Ins := ⟨encDxN12 0x47 d n⟩
/-- stop -/
def stop : Ins := ⟨0x4B⟩
/-- vsetvl -/
def vsetvl (d a b : Fin 32) : Ins := ⟨encDxAxBx 0x63 d a b⟩
/-- vmvVX -/
def vmvVX (k m : Bool) (d : Fin 64) (b : Fin 32) : Ins := ⟨encKMDvBx 0x67 k m d b⟩
/-- vmvVI -/
def vmvVI (k m : Bool) (d : Fin 64) (i : BitVec 6) : Ins := ⟨encKMDvI6 0x10000067 k m d i⟩
/-- vid -/
def vid (k m : Bool) (d : Fin 64) : Ins := ⟨encKMDv 0x20000067 k m d⟩
/-- vmvVV -/
def vmvVV (k m : Bool) (d a : Fin 64) : Ins := ⟨encKMDvAv 0x30000067 k m d a⟩
/-- vmvXE -/
def vmvXE (k : Bool) (d : Fin 32) (a : Fin 64) (b : Fin 32) : Ins := ⟨encKDxAvBx 0x80000067 k d a b⟩
/-- vmergeVvm -/
def vmergeVvm (k : Bool) (d a b : Fin 64) : Ins := ⟨encKDvAvBv 0x90000067 k d a b⟩
/-- vmergeVim -/
def vmergeVim (k : Bool) (d a : Fin 64) (i : BitVec 6) : Ins := ⟨encKDvAvI6 0xB0000067 k d a i⟩
/-- vmor -/
def vmor (k : Bool) (d a b : Fin 8) : Ins := ⟨encKDmAmBm 0x3000006B k d a b⟩
/-- vmcpop -/
def vmcpop (k : Bool) (d : Fin 32) (a : Fin 8) : Ins := ⟨encKDxAm 0x8000006B k d a⟩
/-- vscfgr -/
def vscfgr (k : Bool) (a c : Fin 32) (st : Fin 16) : Ins := ⟨encKAxCxSt 0x1000006F k a c st⟩
/-- vld -/
def vld (k m : Bool) (d : Fin 64) (st : Fin 16) : Ins := ⟨encKMDvSt 0xEB k m d st⟩
/-- vstO -/
def vstO (k m : Bool) (a : Fin 64) (st : Fin 16) : Ins := ⟨encKMAvSt 0x100000EB k m a st⟩
/-- vlx -/
def vlx (k m : Bool) (d a : Fin 64) (b : Fin 32) : Ins := ⟨encKMDvAvBx 0xE7 k m d a b⟩
/-- vsxO -/
def vsxO (k m : Bool) (d a : Fin 64) (b : Fin 32) : Ins := ⟨encKMDvAvBx 0x100000E7 k m d a b⟩
/-- vsxU -/
def vsxU (k m : Bool) (d a : Fin 64) (b : Fin 32) : Ins := ⟨encKMDvAvBx 0x200000E7 k m d a b⟩
/-- vaddVv -/
def vaddVv (k m : Bool) (d a b : Fin 64) : Ins := ⟨encKMDvAvBv 0x83 k m d a b⟩
/-- vaddVx -/
def vaddVx (k m : Bool) (d a : Fin 64) (b : Fin 32) : Ins := ⟨encKMDvAvBx 0x87 k m d a b⟩
/-- vsubVv -/
def vsubVv (k m : Bool) (d a b : Fin 64) : Ins := ⟨encKMDvAvBv 0x10000083 k m d a b⟩
/-- vandVv -/
def vandVv (k m : Bool) (d a b : Fin 64) : Ins := ⟨encKMDvAvBv 0x30000083 k m d a b⟩
/-- vorVv -/
def vorVv (k m : Bool) (d a b : Fin 64) : Ins := ⟨encKMDvAvBv 0x40000083 k m d a b⟩
/-- vxorVv -/
def vxorVv (k m : Bool) (d a b : Fin 64) : Ins := ⟨encKMDvAvBv 0x50000083 k m d a b⟩
/-- vsllVv -/
def vsllVv (k m : Bool) (d a b : Fin 64) : Ins := ⟨encKMDvAvBv 0x60000083 k m d a b⟩
/-- vsrlVv -/
def vsrlVv (k m : Bool) (d a b : Fin 64) : Ins := ⟨encKMDvAvBv 0x70000083 k m d a b⟩
/-- vsraVv -/
def vsraVv (k m : Bool) (d a b : Fin 64) : Ins := ⟨encKMDvAvBv 0x80000083 k m d a b⟩
/-- vmulVv -/
def vmulVv (k m : Bool) (d a b : Fin 64) : Ins := ⟨encKMDvAvBv 0x90000083 k m d a b⟩
/-- vmulhVv -/
def vmulhVv (k m : Bool) (d a b : Fin 64) : Ins := ⟨encKMDvAvBv 0xA0000083 k m d a b⟩
/-- vmulhuVv -/
def vmulhuVv (k m : Bool) (d a b : Fin 64) : Ins := ⟨encKMDvAvBv 0xB0000083 k m d a b⟩
/-- vminVv -/
def vminVv (k m : Bool) (d a b : Fin 64) : Ins := ⟨encKMDvAvBv 0xC0000083 k m d a b⟩
/-- vmaxVv -/
def vmaxVv (k m : Bool) (d a b : Fin 64) : Ins := ⟨encKMDvAvBv 0xD0000083 k m d a b⟩
/-- vminuVv -/
def vminuVv (k m : Bool) (d a b : Fin 64) : Ins := ⟨encKMDvAvBv 0xE0000083 k m d a b⟩
/-- vminuVi -/
def vminuVi (k m : Bool) (d a : Fin 64) (i : BitVec 6) : Ins := ⟨encKMDvAvI6 0xE000008F k m d a i⟩
/-- vmaxuVv -/
def vmaxuVv (k m : Bool) (d a b : Fin 64) : Ins := ⟨encKMDvAvBv 0xF0000083 k m d a b⟩
/-- vsaddVv -/
def vsaddVv (k m : Bool) (d a b : Fin 64) : Ins := ⟨encKMDvAvBv 0x93 k m d a b⟩
/-- vsadduVv -/
def vsadduVv (k m : Bool) (d a b : Fin 64) : Ins := ⟨encKMDvAvBv 0x10000093 k m d a b⟩
/-- vssubVv -/
def vssubVv (k m : Bool) (d a b : Fin 64) : Ins := ⟨encKMDvAvBv 0x20000093 k m d a b⟩
/-- vssubuVv -/
def vssubuVv (k m : Bool) (d a b : Fin 64) : Ins := ⟨encKMDvAvBv 0x30000093 k m d a b⟩
/-- vwaddVx -/
def vwaddVx (k m : Bool) (d a : Fin 64) (b : Fin 32) : Ins := ⟨encKMDvAvBx 0x90000097 k m d a b⟩
/-- vwadduVx -/
def vwadduVx (k m : Bool) (d a : Fin 64) (b : Fin 32) : Ins := ⟨encKMDvAvBx 0xA0000097 k m d a b⟩
/-- vnclipVi -/
def vnclipVi (k m : Bool) (d a : Fin 64) (i : BitVec 6) : Ins := ⟨encKMDvAvI6 0xD000009F k m d a i⟩
/-- vnclipuVi -/
def vnclipuVi (k m : Bool) (d a : Fin 64) (i : BitVec 6) : Ins := ⟨encKMDvAvI6 0xE000009F k m d a i⟩
/-- vfaddVv -/
def vfaddVv (k m : Bool) (d a b : Fin 64) : Ins := ⟨encKMDvAvBv 0xA3 k m d a b⟩
/-- vfsubVv -/
def vfsubVv (k m : Bool) (d a b : Fin 64) : Ins := ⟨encKMDvAvBv 0x100000A3 k m d a b⟩
/-- vfmulVv -/
def vfmulVv (k m : Bool) (d a b : Fin 64) : Ins := ⟨encKMDvAvBv 0x300000A3 k m d a b⟩
/-- vfdivVv -/
def vfdivVv (k m : Bool) (d a b : Fin 64) : Ins := ⟨encKMDvAvBv 0x400000A3 k m d a b⟩
/-- vfsqrt -/
def vfsqrt (k m : Bool) (d a : Fin 64) : Ins := ⟨encKMDvAv 0x600000A3 k m d a⟩
/-- vfminVv -/
def vfminVv (k m : Bool) (d a b : Fin 64) : Ins := ⟨encKMDvAvBv 0x700000A3 k m d a b⟩
/-- vfmaxVv -/
def vfmaxVv (k m : Bool) (d a b : Fin 64) : Ins := ⟨encKMDvAvBv 0x800000A3 k m d a b⟩
/-- vfmaccVv -/
def vfmaccVv (k m : Bool) (d a b : Fin 64) : Ins := ⟨encKMDvAvBv 0xB3 k m d a b⟩
/-- vfcvtFX -/
def vfcvtFX (k m : Bool) (d a : Fin 64) : Ins := ⟨encKMDvAv 0x400000B3 k m d a⟩
/-- vfcvtFXu -/
def vfcvtFXu (k m : Bool) (d a : Fin 64) : Ins := ⟨encKMDvAv 0x500000B3 k m d a⟩
/-- vfcvtXF -/
def vfcvtXF (k m : Bool) (d a : Fin 64) : Ins := ⟨encKMDvAv 0x600000B3 k m d a⟩
/-- vfcvtXuF -/
def vfcvtXuF (k m : Bool) (d a : Fin 64) : Ins := ⟨encKMDvAv 0x700000B3 k m d a⟩
/-- vfcvtFF -/
def vfcvtFF (k m : Bool) (d a : Fin 64) (i : BitVec 3) : Ins := ⟨encKMDvAvI3 0x800000BF k m d a i⟩
/-- vfexp -/
def vfexp (k m : Bool) (d a : Fin 64) : Ins := ⟨encKMDvAv 0x900000B3 k m d a⟩
/-- vfrec -/
def vfrec (k m : Bool) (d a : Fin 64) : Ins := ⟨encKMDvAv 0xA00000B3 k m d a⟩
/-- vmseqVv -/
def vmseqVv (k m : Bool) (d : Fin 8) (a b : Fin 64) : Ins := ⟨encKMDmAvBv 0xC3 k m d a b⟩
/-- vmsneVv -/
def vmsneVv (k m : Bool) (d : Fin 8) (a b : Fin 64) : Ins := ⟨encKMDmAvBv 0x100000C3 k m d a b⟩
/-- vmsneVi -/
def vmsneVi (k m : Bool) (d : Fin 8) (a : Fin 64) (i : BitVec 6) : Ins := ⟨encKMDmAvI6 0x100000CF k m d a i⟩
/-- vmsltVv -/
def vmsltVv (k m : Bool) (d : Fin 8) (a b : Fin 64) : Ins := ⟨encKMDmAvBv 0x200000C3 k m d a b⟩
/-- vmsleVv -/
def vmsleVv (k m : Bool) (d : Fin 8) (a b : Fin 64) : Ins := ⟨encKMDmAvBv 0x300000C3 k m d a b⟩
/-- vmsltuVv -/
def vmsltuVv (k m : Bool) (d : Fin 8) (a b : Fin 64) : Ins := ⟨encKMDmAvBv 0x400000C3 k m d a b⟩
/-- vmsleuVv -/
def vmsleuVv (k m : Bool) (d : Fin 8) (a b : Fin 64) : Ins := ⟨encKMDmAvBv 0x500000C3 k m d a b⟩
/-- vmfeqVv -/
def vmfeqVv (k m : Bool) (d : Fin 8) (a b : Fin 64) : Ins := ⟨encKMDmAvBv 0x800000C3 k m d a b⟩
/-- vmfltVv -/
def vmfltVv (k m : Bool) (d : Fin 8) (a b : Fin 64) : Ins := ⟨encKMDmAvBv 0xA00000C3 k m d a b⟩
/-- vmfleVv -/
def vmfleVv (k m : Bool) (d : Fin 8) (a b : Fin 64) : Ins := ⟨encKMDmAvBv 0xB00000C3 k m d a b⟩
/-- vredsum -/
def vredsum (k m : Bool) (d a : Fin 64) : Ins := ⟨encKMDvAv 0xD3 k m d a⟩
/-- vredmax -/
def vredmax (k m : Bool) (d a : Fin 64) : Ins := ⟨encKMDvAv 0x100000D3 k m d a⟩
/-- vredmin -/
def vredmin (k m : Bool) (d a : Fin 64) : Ins := ⟨encKMDvAv 0x200000D3 k m d a⟩
/-- vredmaxu -/
def vredmaxu (k m : Bool) (d a : Fin 64) : Ins := ⟨encKMDvAv 0x300000D3 k m d a⟩
/-- vredminu -/
def vredminu (k m : Bool) (d a : Fin 64) : Ins := ⟨encKMDvAv 0x400000D3 k m d a⟩
/-- vfredsum -/
def vfredsum (k m : Bool) (d a : Fin 64) : Ins := ⟨encKMDvAv 0x800000D3 k m d a⟩
/-- vfredmax -/
def vfredmax (k m : Bool) (d a : Fin 64) : Ins := ⟨encKMDvAv 0x900000D3 k m d a⟩

end Ins

end Sys2Proof.Machine.Fj
end

