-- ==== Sys2Proof/Machine/Fjarast.lean ====
section
/-! DEFINITION. The Fjarast portable form (spec/17_portable_form.md R405-R411): a module's bytes, its operations and their
types, the checks that refuse a module, and the phases of one that passes. The module's bytes run from ENTRY to the end of the
manifest's pages, and zeros behind its last operation are padding (log 85). -/

namespace Sys2Proof.Machine

/-- A type of R407: `vec` tells a vector from a scalar. -/
inductive FjType where
  | none
  | mask
  | int (vec : Bool) (w : Nat)
  | flt (vec : Bool) (f : Nat)
deriving DecidableEq, Repr

/-- The width of a floating-point format (R67, R68). -/
def fjFormatWidth (f : Nat) : Nat :=
  match f with | 1 => 64 | 2 => 32 | 3 | 4 => 16 | 5 | 6 => 8 | _ => 4

/-- The type a type byte gives; reserved values give none (R407). -/
def FjType.ofByte (b : Nat) : Option FjType :=
  let v := bitAt b 7
  let w := b % 64
  if bitAt b 6 then
    if w = 0 then some (if v then .mask else .none)
    else if w ≤ 7 then some (.flt v w) else Option.none
  else if [0, 1, 3, 7, 15, 31, 63].contains w then some (.int v (w + 1)) else Option.none

/-- The element width of a type, 0 where it has none; the format that its elements have; and whether it is a vector or mask. -/
def FjType.width (t : FjType) : Nat :=
  match t with | .int _ w => w | .flt _ f => fjFormatWidth f | _ => 0
@[inherit_doc FjType.width] def FjType.fmt (t : FjType) : Nat :=
  match t with | .flt _ f => f | _ => 0
@[inherit_doc FjType.width] def FjType.isVec (t : FjType) : Bool :=
  match t with | .int v _ | .flt v _ => v | .mask => true | .none => false

/-- A value with a width. -/
def FjType.sized (t : FjType) : Bool := t.width != 0

/-- One type, but for scalar or vector. -/
def FjType.same (a b : FjType) : Bool := a.sized && decide (a.width = b.width ∧ a.fmt = b.fmt)

/-- An operation as its bytes give it (R406): opcode, type byte, distances, the immediate as a number, and whether a LEB128 field is
out of bounds (R409 order 3). -/
structure FjOp where
  code : Nat
  ty : Nat
  dists : List Nat
  imm : Nat
  wide : Bool
deriving DecidableEq, Repr

/-- The number of operands of an opcode (R408); reserved values give none. -/
def fjArity (code : Nat) : Option Nat :=
  if code = 0x01 ∨ code = 0x02 ∨ code = 0x03 ∨ code = 0x0B then some 0
  else if code = 0x04 ∨ code = 0x05 then some 1
  else if code = 0x06 ∨ code = 0x07 ∨ code = 0x08 then some 2
  else if code = 0x09 ∨ code = 0x0A then some 3
  else if (0x10 ≤ code ∧ code ≤ 0x22) ∨ (0x28 ≤ code ∧ code ≤ 0x30) then some 2
  else if code = 0x31 ∨ code = 0x3F then some 3
  else if 0x38 ≤ code ∧ code ≤ 0x3D then some 2
  else if code = 0x3E ∨ code = 0x40 ∨ code = 0x41 ∨ (0x48 ≤ code ∧ code ≤ 0x4A) then some 1
  else if 0x50 ≤ code ∧ code ≤ 0x57 then some 1
  else none

/-- An unsigned LEB128 field: its value, whether it is over 5 bytes or not below 2^32, and the bytes behind it; none where the stream
ends inside it (R406). -/
def fjLeb : List Byte → Option (Nat × Nat × List Byte)
  | [] => none
  | b :: bs =>
    if b.toNat < 128 then some (b.toNat, 1, bs)
    else match fjLeb bs with
      | none => none
      | some (v, n, rest) => some (b.toNat - 128 + 128 * v, n + 1, rest)
@[inherit_doc fjLeb] def fjField (bs : List Byte) : Option (Nat × Bool × List Byte) :=
  (fjLeb bs).map fun (v, n, rest) => (v, decide (5 < n ∨ 2 ^ 32 ≤ v), rest)

/-- `n` LEB128 fields one after another. -/
def fjFields : Nat → List Byte → Option (List Nat × Bool × List Byte)
  | 0, bs => some ([], false, bs)
  | n + 1, bs =>
    match fjField bs with
    | none => none
    | some (v, wide, rest) => (fjFields n rest).map fun (vs, w, r) => (v :: vs, wide || w, r)

/-- `n` bytes as a little-endian number. -/
def fjBytes (n : Nat) (bs : List Byte) : Option (Nat × List Byte) :=
  if bs.length < n then none else some (leNat (bs.take n), bs.drop n)

/-- What reading an operation gives: the stream ends, the opcode is reserved, a constant has a type without a width, or an operation
and the bytes behind it. -/
inductive FjRead where
  | trunc
  | opcode
  | size
  | op (o : FjOp) (rest : List Byte)

/-- One operation (R406). -/
def fjReadOp : List Byte → FjRead
  | [] => .trunc
  | c :: bs =>
    match fjArity c.toNat, bs with
    | none, _ => .opcode
    | some _, [] => .trunc
    | some n, t :: bs =>
      match fjFields n bs with
      | none => .trunc
      | some (ds, wide, bs) =>
        let op := fun (imm : Nat) (w : Bool) => ({ code := c.toNat, ty := t.toNat, dists := ds, imm := imm, wide := wide || w } : FjOp)
        if c.toNat = 0x01 then
          match fjField bs with
          | none => .trunc
          | some (k, w, rest) => .op (op k w) rest
        else if c.toNat = 0x02 then
          match (FjType.ofByte t.toNat).map FjType.width with
          | none | some 0 => .size
          | some w => match fjBytes ((w + 7) / 8) bs with
            | none => .trunc
            | some (v, rest) => .op (op v false) rest
        else if c.toNat = 0x0B then
          match fjBytes 1 bs with
          | none => .trunc
          | some (v, rest) => .op (op v false) rest
        else .op (op 0 false) bs

/-- The operations read, and why the reading stopped: `done` with the bytes left, or the failure of the operation behind them. -/
inductive FjEnd where
  | done (rest : List Byte)
  | trunc
  | opcode
  | size

/-- At most `n` operations; `fuel` is the number of bytes. -/
def fjReadOps : (fuel n : Nat) → List Byte → List FjOp × FjEnd
  | _, 0, bs => ([], .done bs)
  | 0, _ + 1, _ => ([], .trunc)
  | fuel + 1, n + 1, bs =>
    match fjReadOp bs with
    | .trunc => ([], .trunc)
    | .opcode => ([], .opcode)
    | .size => ([], .size)
    | .op o rest => let (os, e) := fjReadOps fuel n rest; (o :: os, e)

/-- A module (R405). -/
structure FjModule where
  nparam : Nat
  domainp : Nat
  ops : List FjOp
deriving DecidableEq, Repr

/-- Opcodes without a result (R408). -/
def fjNoResult (o : FjOp) : Bool := o.ty == 0x40 || (decide (0x08 ≤ o.code) && decide (o.code ≤ 0x0B))

/-- The numbers of the operations that operation `p` takes as operands (R406). -/
def FjOp.args (o : FjOp) (p : Nat) : List Nat := o.dists.map (p - ·)

/-- Order 5 of R409: a distance of 0, beyond the list, or to an operation without a result. -/
def fjBadDist (ops : List FjOp) (p : Nat) (o : FjOp) : Bool :=
  o.dists.any fun d => d == 0 || decide (p < d) || (ops[p - d]?).any fjNoResult

/-- The widths a stream element may have, which loads and stores of R408 list. -/
def fjStreamWidth (w : Nat) : Bool := [1, 2, 4, 8, 16, 32, 64].contains w

/-- The index vector of a gather or scatter of elements of width `w` (R408, R264). -/
def fjIndexOk (w : Nat) (i : FjType) : Bool := decide (i = .int true (max w 32)) && [8, 16, 32, 64].contains w

/-- The types R408 allows: of the result, given those of the operands. A select of two scalars is a scalar. fredsum and fredmax take the
formats that vfredsum and vfredmax take (R275; log 85). -/
def fjTypeOk (o : FjOp) (t : FjType) (args : List FjType) : Bool :=
  let int := fun (t : FjType) => t.sized && t.fmt == 0
  let vecAgrees := t.isVec == args.any FjType.isVec
  let scalar := fun (a : FjType) => a.sized && !a.isVec
  match args with
  | [] =>
    if o.code = 0x01 then scalar t
    else if o.code = 0x02 then scalar t && decide (o.imm < 2 ^ t.width)
    else if o.code = 0x03 then int t && t.isVec
    else decide (t = .none ∧ o.imm ≤ 5)
  | [a] =>
    if o.code = 0x04 then scalar a && t.isVec && t.same a
    else if o.code = 0x05 then scalar a && t.isVec && fjStreamWidth t.width
    else if o.code = 0x3E then t.same a && vecAgrees && [1, 2, 3, 4].contains t.fmt
    else if o.code = 0x40 ∨ o.code = 0x41 then t.same a && vecAgrees && [2, 3, 4].contains t.fmt
    else if o.code = 0x48 ∨ o.code = 0x49 then t.sized && a.sized && vecAgrees
    else if o.code = 0x4A then t.fmt != 0 && a.fmt != 0 && vecAgrees
    else if 0x50 ≤ o.code ∧ o.code ≤ 0x54 then int a && a.isVec && scalar t && t.same a
    else if o.code = 0x55 ∨ o.code = 0x56 then a.isVec && [1, 2, 3, 4].contains a.fmt && scalar t && t.same a
    else decide (a = .mask ∧ t = .int false 64)
  | [a, b] =>
    if o.code = 0x06 then scalar a && scalar b && t.isVec && [8, 16, 32, 64].contains t.width
    else if o.code = 0x07 then scalar a && t.sized && t.isVec && fjIndexOk t.width b
    else if o.code = 0x08 then scalar a && b.sized && decide (t = .none)
    else if 0x10 ≤ o.code ∧ o.code ≤ 0x22 then int t && t.same a && t.same b && vecAgrees
    else if 0x28 ≤ o.code ∧ o.code ≤ 0x2D then int a && a.same b && (a.isVec || b.isVec) && decide (t = .mask)
    else if 0x2E ≤ o.code ∧ o.code ≤ 0x30 then a.fmt != 0 && a.same b && (a.isVec || b.isVec) && decide (t = .mask)
    else t.same a && t.same b && vecAgrees && [1, 2, 3, 4].contains t.fmt
  | [a, b, c] =>
    if o.code = 0x09 ∨ o.code = 0x0A then scalar a && c.sized && c.isVec && fjIndexOk c.width b && decide (t = .none)
    else if o.code = 0x31 then decide (a = .mask) && t.same b && t.same c && t.isVec == (b.isVec || c.isVec)
    else t.same a && t.same b && t.same c && vecAgrees && [1, 2, 3, 4].contains t.fmt
  | _ => false

/-- The type of an operation's result, where its type byte is not reserved. -/
def fjTypeAt (ops : List FjOp) (p : Nat) : FjType := ((ops[p]?).bind fun o => FjType.ofByte o.ty).getD .none

/-- Order 6 of R409. -/
def fjBadType (ops : List FjOp) (p : Nat) (o : FjOp) : Bool :=
  match FjType.ofByte o.ty with
  | none => true
  | some t => !fjTypeOk o t ((o.args p).map (fjTypeAt ops))

/-- The first operation of a list with a fault. -/
def fjFirst (ops : List FjOp) (bad : Nat → FjOp → Bool) : Option Nat :=
  ((List.range ops.length).zip ops).findSome? fun (p, o) => if bad p o then some p else none

/-- The checks of R409 in their order: the order of the first that fails and the position of the operation, or the module. A fault of
the header has position 0 (log 85). -/
def fjCheck (bs : List Byte) : Except (Nat × Nat) FjModule :=
  if bs.take 8 ≠ [0x46, 0x4A, 0x41, 0x31, 1, 0, 0, 0] then .error (1, 0)
  else
    match fjFields 3 (bs.drop 8) with
    | some ([nparam, domainp, nops], wide, rest) =>
      let (ops, stop) := fjReadOps rest.length nops rest
      let n := ops.length
      let trunc := match stop with
        | .trunc => some n
        | .done left => if left.any (· != 0) then some (nops - 1) else none
        | _ => none
      let limit :=
        if wide ∨ 4096 < nparam ∨ nops = 0 ∨ 2 ^ 20 < nops ∨ nparam ≤ domainp then some 0
        else fjFirst ops fun _ o => o.wide || (o.code == 0x01 && decide (nparam ≤ o.imm))
      let opcode := match stop with | .opcode => some n | _ => none
      let type := match fjFirst ops (fjBadType ops), stop with
        | some p, _ => some p
        | none, .size => some n
        | none, _ => none
      match trunc, limit, opcode, fjFirst ops (fjBadDist ops), type with
      | some p, _, _, _, _ => .error (2, p)
      | none, some p, _, _, _ => .error (3, p)
      | none, none, some p, _, _ => .error (4, p)
      | none, none, none, some p, _ => .error (5, p)
      | none, none, none, none, some p => .error (6, p)
      | none, none, none, none, none => .ok { nparam := nparam, domainp := domainp, ops := ops }
    | _ => .error (2, 0)

/-- An operation with what R410 says of it: its operands, its type, whether it is an operation on vectors, a reduction or count, whether
it depends on one through any chain of operands, and its phase. -/
structure FjNode where
  p : Nat
  op : FjOp
  ty : FjType
  args : List Nat
  vec : Bool
  red : Bool
  dep : Bool
  phase : Nat
deriving DecidableEq, Repr

/-- The next operation joins the list: a sync begins a phase, and so does each vector operation that depends on a reduction or on a
count (R410). -/
def fjAddNode (nodes : List FjNode) (o : FjOp) : List FjNode :=
  let p := nodes.length
  let args := o.args p
  let of := args.filterMap fun a => nodes[a]?
  let red := decide (0x50 ≤ o.code)
  let ty := (FjType.ofByte o.ty).getD .none
  let vec := !red && (ty.isVec || (o.code != 0x31 && of.any fun n => n.ty.isVec))
  let dep := of.any fun n => n.dep || n.red
  let last := (nodes.getLast?.map (·.phase)).getD 0
  nodes ++ [{ p := p, op := o, ty := ty, args := args, vec := vec, red := red, dep := dep,
              phase := if o.code = 0x0B ∨ (vec && dep) then last + 1 else last }]
@[inherit_doc fjAddNode] def FjModule.nodes (m : FjModule) : List FjNode := m.ops.foldl fjAddNode []

end Sys2Proof.Machine
end

