-- ==== Sys2Proof/Machine/FjCode.lean ====
section
/-! DEFINITION. The on-device loader's translator (spec/17_portable_form.md R412-R417, spec/18_host_and_launch.md R435): the code of
a Fjarast module for a launch. The manual says what a translation must do and leaves its words to the translator; these are the
model's (log 14). The first hart of the launch's first gang runs the module, and every other hart stops at once, so that each operation takes
effect once (R410).

Registers: x8 the working memory, x9 N, x10 the argument copy, x18 the strip base, x19 the strip's VL, x20 the bytes of one
buffer; x6 and x7 belong to vsetvl, the other temporaries are x5, x12-x17 and x28-x31. Vector values live in v8-v63 and m1-m6 from
their operation to their last use in the phase; v0-v7, m0 and m7 are temporaries. Working memory holds one word for each operation,
the stack of each fredsum, and a buffer of N elements for each value that a later phase uses or that finds no register. -/

namespace Sys2Proof.Machine.Fj

/-- An immediate of 11 bits. -/
def imm (v : Int) : BitVec 11 := BitVec.ofInt 11 v

/-- xd := v, from 10 bits at a time, highest first. -/
def liFrom (d : Fin 32) : Nat → Nat → List Ins
  | 0, v => [.addi d 0 (imm (v % 1024))]
  | n + 1, v =>
    if v < 1024 then [.addi d 0 (imm v)]
    else liFrom d n (v / 1024) ++ [.slli d d 10, .ori d d (imm (v % 1024))]
@[inherit_doc liFrom] def li (d : Fin 32) (v : Nat) : List Ins := liFrom d 6 v

/-- xd := zext or sext of its low `w` bits. -/
def narrow (signed : Bool) (d : Fin 32) (w : Nat) : List Ins :=
  let sh := BitVec.ofNat 6 (64 - w)
  if 64 ≤ w then [] else [.slli d d sh, if signed then .srai d d sh else .srli d d sh]

/-- xd := the doubleword at an offset of the hart's working memory, and its store; the address is left in x31. -/
def loadWork (d : Fin 32) (off : Nat) : List Ins := li 31 off ++ [.add 31 31 8, .ld d 31 0]
@[inherit_doc loadWork] def storeWork (a : Fin 32) (off : Nat) : List Ins := li 31 off ++ [.add 31 31 8, .sd 31 a 0]

/-- A jump of `d` bytes from its own first word; two words. -/
def far (d : Int) : List Ins := [.auipc 31 (BitVec.ofInt 19 ((d + 1024) / 2048)), .jalr 0 31 (imm (d % 2048))]

/-- Goes on at the code behind `body` where `skip` does not jump over the far jump; `skip` is one branch of 4 + 8 bytes. -/
def guarded (skip : Ins) (body : List Ins) : List Ins := skip :: far (8 + 4 * body.length) ++ body

/-- `head` and `body` again and again, until the branch `stay` behind `head` no longer jumps. -/
def loop (head : List Ins) (stay : Ins) (body : List Ins) : List Ins :=
  let inner := guarded stay (body ++ far (-(4 * (head.length + 3 + body.length))))
  head ++ inner

/-- What a piece of code needs: a configuration (SEW, FMT, FRM) and the widest operand it names; `free` needs none. -/
inductive Item where
  | free (is : List Ins)
  | at (sew fmt frm wide : Nat) (is : List Ins)

/-- The widest operand of a list of items. -/
def widest (items : List Item) : Nat :=
  items.foldl (fun m it => match it with | .free _ => m | .at _ _ _ w _ => max m w) 1

/-- VCFG (R67) with NSLOT as its code. -/
def vcfg (ns sew fmt frm : Nat) : Nat := ns + sew * 4 + fmt * 2 ^ 12 + frm * 2 ^ 16 + 2 ^ 21

/-- The code of a list of items: a vsetvl with KEEP = 0 wherever the configuration changes, with the length in x19 (R413). -/
def assemble (ns : Nat) : Option (Nat × Nat × Nat) → List Item → List Ins
  | _, [] => []
  | cfg, .free is :: rest => is ++ assemble ns cfg rest
  | cfg, .at sew fmt frm _ is :: rest =>
    (if cfg = some (sew, fmt, frm) then [] else li 6 (vcfg ns sew fmt frm) ++ [.vsetvl 7 19 6])
      ++ is ++ assemble ns (some (sew, fmt, frm)) rest

/-- The NSLOT code for operands up to `w` bits: the record's, or the largest below it whose slots hold such an element (R68). -/
def slotsFor (record w : Nat) : Nat := min record (if w ≤ 16 then 3 else if w ≤ 32 then 2 else 1)

/-- Where a vector value lives in its phase. -/
inductive Home where
  | v (r : Fin 64)
  | m (r : Fin 8)
  | memory
deriving DecidableEq, Repr

/-- What the translator works from: the module's operations and their number, where each vector value lives, and the operations
whose values have a buffer. -/
structure Plan where
  nodes : List FjNode
  domainp : Nat
  homes : List (Nat × Home)
  bufs : List Nat
  /-- The record's NSLOT, and the virtual address of working memory. -/
  nslot : Nat
  work : Nat

/-- The operations that take `p` as an operand. -/
def users (nodes : List FjNode) (p : Nat) : List FjNode := nodes.filter fun n => n.args.contains p

/-- The last operation of the phase that uses the value of a node; itself where none does. -/
def lastUse (nodes : List FjNode) (n : FjNode) : Nat :=
  (users nodes n.p).foldl (fun m u => if u.phase = n.phase then max m u.p else m) n.p

/-- A value that a later phase uses. -/
def crosses (nodes : List FjNode) (n : FjNode) : Bool := (users nodes n.p).any fun u => u.phase != n.phase

/-- Registers of a phase: those in use with their last use, and the homes given. A register is free again behind the last use. -/
structure Alloc where
  phase : Nat
  vs : List (Fin 64 × Nat)
  ms : List (Fin 8 × Nat)
  homes : List (Nat × Home)

/-- The registers that hold values. -/
def vPool : List (Fin 64) := (List.finRange 64).filter fun r => decide (8 ≤ r.val)
@[inherit_doc vPool] def mPool : List (Fin 8) := (List.finRange 8).filter fun r => decide (1 ≤ r.val ∧ r.val ≤ 6)

/-- The home of one operation's value. -/
def allocate (nodes : List FjNode) (a : Alloc) (n : FjNode) : Alloc :=
  let a := if n.phase = a.phase then a else { a with phase := n.phase, vs := [], ms := [] }
  let vs := a.vs.filter fun (_, last) => decide (n.p ≤ last)
  let ms := a.ms.filter fun (_, last) => decide (n.p ≤ last)
  let a := { a with vs := vs, ms := ms }
  if !n.vec || !n.ty.isVec then a
  else
    let last := lastUse nodes n
    if n.ty = .mask then
      match mPool.find? fun r => !ms.any (·.1 == r) with
      | some r => { a with ms := (r, last) :: ms, homes := (n.p, .m r) :: a.homes }
      | none => { a with homes := (n.p, .memory) :: a.homes }
    else
      match vPool.find? fun r => !vs.any (·.1 == r) with
      | some r => { a with vs := (r, last) :: vs, homes := (n.p, .v r) :: a.homes }
      | none => { a with homes := (n.p, .memory) :: a.homes }

/-- The homes of all vector values. -/
def homesOf (nodes : List FjNode) : List (Nat × Home) :=
  (nodes.foldl (allocate nodes) { phase := 0, vs := [], ms := [], homes := [] }).homes

/-- The home of a value. -/
def Plan.home (pl : Plan) (p : Nat) : Home := ((pl.homes.find? (·.1 == p)).map (·.2)).getD .memory

/-- The values with a buffer: those without a register, and those that a later phase uses. -/
def bufsOf (nodes : List FjNode) (homes : List (Nat × Home)) : List Nat :=
  (nodes.filter fun n => n.vec && n.ty.isVec &&
    (crosses nodes n || !homes.any fun h => h.1 == n.p && h.2 != .memory)).map (·.p)

/-- A node by its number. -/
def Plan.node (pl : Plan) (p : Nat) : Option FjNode := pl.nodes[p]?
@[inherit_doc Plan.node] def Plan.ty (pl : Plan) (p : Nat) : FjType := ((pl.node p).map (·.ty)).getD .none

/-- The fredsum operations, each with a stack: 8 bytes for the number of entries, then up to 64 entries of start, size and value
(R416). -/
def Plan.sums (pl : Plan) : List Nat := (pl.nodes.filter fun n => n.op.code == 0x55).map (·.p)
@[inherit_doc Plan.sums] def Plan.stack (pl : Plan) (p : Nat) : Nat := 8 * pl.nodes.length + 1544 * pl.sums.idxOf p

/-- Bytes of working memory in front of the buffers, a multiple of 64. -/
def Plan.fixed (pl : Plan) : Nat := (8 * pl.nodes.length + 1544 * pl.sums.length + 63) / 64 * 64

/-- Bytes of a buffer of `n` elements of up to 8 bytes, and of the working memory. -/
def bufBytes (n : Nat) : Nat := (8 * n + 63) / 64 * 64
@[inherit_doc bufBytes] def Plan.workBytes (pl : Plan) (n : Nat) : Nat := pl.fixed + pl.bufs.length * bufBytes n

/-- xd := the value of a scalar operation, as a zero-extended pattern: an argument word, a constant, or its word of working memory. -/
def Plan.scalar (pl : Plan) (d : Fin 32) (p : Nat) : List Ins :=
  match pl.node p with
  | none => []
  | some n =>
    if n.op.code = 0x01 then li 31 (8 * n.op.imm) ++ [.add 31 31 10, .ld d 31 0] ++ narrow false d n.ty.width
    else if n.op.code = 0x02 then li d n.op.imm
    else loadWork d (8 * p)

/-- The stream `st` walks the strip's elements of `w` bits from the address in x13 with the stride in x14 (R253, R254); `mode` 0 loads
and 1 stores. -/
def stream (st : Fin 16) (w mode : Nat) : List Ins :=
  [.slli 13 13 8, .srli 13 13 8] ++ li 15 (w + 256 * mode) ++ [.slli 15 15 48, .add 15 15 19, .vscfgr true 13 14 st]

/-- x13 := the address in x13 of the strip's first element in an array of `w`-bit elements without gaps; x14 := its stride. -/
def packed (w : Nat) : List Ins :=
  if w < 8 then [.srli 12 18 (BitVec.ofNat 6 (if w = 1 then 3 else if w = 2 then 2 else 1)), .add 13 13 12] ++ li 14 0
  else [.slli 12 18 (BitVec.ofNat 6 (if w = 8 then 0 else if w = 16 then 1 else if w = 32 then 2 else 3)), .add 13 13 12] ++ li 14 (w / 8)

/-- x13 := the first byte of a value's buffer. -/
def Plan.buffer (pl : Plan) (p : Nat) : List Ins :=
  li 13 (pl.bufs.idxOf p) ++ [.mul 13 13 20] ++ li 12 pl.fixed ++ [.add 13 13 12, .add 13 13 8]

/-- The strip's elements of an array at the address in x13 come into `d`, or leave from it. -/
def loadStrip (d : Fin 64) (w : Nat) : List Item := [.free (packed w ++ stream 0 w 0), .at w 0 0 w [.vld true false d 0]]
@[inherit_doc loadStrip] def storeStrip (a : Fin 64) (w : Nat) : List Item :=
  [.free (packed w ++ stream 1 w 1), .at w 0 0 w [.vstO true false a 1]]

/-- A vector operand: the register that holds it, or a temporary with the code that fills it. A scalar is broadcast (R414). -/
def Plan.operand (pl : Plan) (phase : Nat) (tmp : Fin 64) (p : Nat) : List Item × Fin 64 :=
  let w := (pl.ty p).width
  if !(pl.ty p).isVec then ([.free (pl.scalar 28 p), .at w 0 0 w [.vmvVX true false tmp 28]], tmp)
  else
    match pl.home p, (pl.node p).map (·.phase) == some phase with
    | .v r, true => ([], r)
    | _, _ => (.free (pl.buffer p) :: loadStrip tmp w, tmp)

/-- A mask operand: its register, or m7 filled from the bytes of its buffer by way of v0. -/
def Plan.maskOperand (pl : Plan) (phase p : Nat) : List Item × Fin 8 :=
  match pl.home p, (pl.node p).map (·.phase) == some phase with
  | .m r, true => ([], r)
  | _, _ => (.free (pl.buffer p) :: loadStrip 0 8 ++ [.at 8 0 0 8 [.vmsneVi true false 7 0 0]], 7)

/-- A chain of steps from `src` to `dst` by way of v4 and v5. -/
def chain : List (Fin 64 → Fin 64 → Item) → Fin 64 → Fin 64 → List Item
  | [], _, _ => []
  | [f], src, dst => [f src dst]
  | f :: fs, src, dst => let t : Fin 64 := if src = 4 then 5 else 4; f src t :: chain fs t dst

/-- Integer widening from width `w` to twice it and on, `n` times (R414). -/
def widen (signed : Bool) : Nat → Nat → List (Fin 64 → Fin 64 → Item)
  | 0, _ => []
  | n + 1, w =>
    (fun a d => .at w 0 0 (2 * w) [if signed then .vwaddVx true false d a 0 else .vwadduVx true false d a 0])
      :: widen signed n (2 * w)

/-- Integer narrowing from width `w` to half of it and on, `n` times, saturating (R414). -/
def clip (signed : Bool) : Nat → Nat → List (Fin 64 → Fin 64 → Item)
  | 0, _ => []
  | n + 1, w =>
    (fun a d => .at (w / 2) 0 0 w [if signed then .vnclipVi true false d a 0 else .vnclipuVi true false d a 0])
      :: clip signed n (w / 2)

/-- The doublings from 1 to a width. -/
def steps (w : Nat) : Nat := Nat.log2 w

/-- Integer to integer (R408): extension, saturation, or a move. -/
def intToInt (signed : Bool) (w u : Nat) : List (Fin 64 → Fin 64 → Item) :=
  if w = u then [fun a d => .at w 0 0 w [.vmvVV true false d a]]
  else if w < u then widen signed (steps u - steps w) w
  else clip signed (steps w - steps u) w

/-- An integer of 64 bits to FP64, rounded to odd, so that a narrowing behind it rounds the integer once: truncated towards zero, with
the lowest bit set where something was lost. -/
def toOdd (signed : Bool) : Fin 64 → Fin 64 → Item := fun a d =>
  .at 64 1 1 64 [if signed then .vfcvtFX true false 6 a else .vfcvtFXu true false 6 a,
    if signed then .vfcvtXF true false 7 6 else .vfcvtXuF true false 7 6,
    .vxorVv true false 7 7 a, .vminuVi true false 7 7 1, .vorVv true false d 6 7]

/-- From a format to another (R241). -/
def fmtToFmt (f g : Nat) : Fin 64 → Fin 64 → Item := fun a d =>
  .at (fjFormatWidth g) g 0 (max (fjFormatWidth f) (fjFormatWidth g)) [.vfcvtFF true false d a (BitVec.ofNat 3 f)]

/-- Integer to floating (R105): at equal widths at once, else by way of FP64, which holds the integer or its round to odd. -/
def intToFmt (signed : Bool) (w g : Nat) : List (Fin 64 → Fin 64 → Item) :=
  let cvt := fun (g : Nat) => (fun a d => Item.at (fjFormatWidth g) g 0 (fjFormatWidth g)
    [if signed then .vfcvtFX true false d a else .vfcvtFXu true false d a] : Fin 64 → Fin 64 → Item)
  if w = fjFormatWidth g then [cvt g]
  else if w = 64 then [toOdd signed, fmtToFmt 1 g]
  else widen signed (6 - steps w) w ++ [cvt 1] ++ (if g = 1 then [] else [fmtToFmt 1 g])

/-- The FP64 pattern of half an integer. -/
def halfPat (n : Int) : Nat :=
  if n = 0 then 0
  else
    let m := n.natAbs
    let l := Nat.log2 m
    (if n < 0 then 2 ^ 63 else 0) + (l + 1022) * 2 ^ 52 + (m - 2 ^ l) * 2 ^ (52 - l)

/-- FP64 values brought into the range of a `u`-bit integer before they are converted (R105): one whose rounded value is below or above it
becomes the limit of its sign, and a NaN 0; NV is raised where there is such an element, by a conversion of its own. A value that
lies half way goes to the even neighbour. -/
def toRange (signed : Bool) (u : Nat) : Fin 64 → Fin 64 → Item := fun a d =>
  let lo : Int := if signed then -2 ^ u else 0
  let hi : Int := if signed then 2 ^ u - 2 else 2 ^ (u + 1) - 2
  let put := fun (r : Fin 64) (n : Int) => li 28 (halfPat n) ++ [.vmvVX true false r 28]
  let above := put 6 (lo - 1) ++ [if lo / 2 % 2 = 0 then .vmfleVv true false 0 6 a else .vmfltVv true false 0 6 a]
  let below := put 6 (hi + 1) ++ [if hi / 2 % 2 = 0 then .vmfleVv true false 0 a 6 else .vmfltVv true false 0 a 6]
  let invalid : List Ins := [.vmergeVvm true 7 1 2, .vfcvtXF true false 7 7]
  .at 64 1 0 64
    ([.vmvVX true false 1 0] ++ li 28 0x7FF8000000000000 ++ [.vmvVX true false 2 28] ++ above ++ invalid ++ below ++ invalid
      ++ above ++ put 7 lo ++ [.vmergeVvm true 7 a 7] ++ below ++ put 6 hi ++ [.vmergeVvm true 7 7 6]
      ++ [.vmfeqVv true false 0 a a, .vmergeVvm true d 7 1])

/-- Floating to integer (R105): at equal widths at once, else by way of FP64 and of 64 bits, within the range of the result. -/
def fmtToInt (signed : Bool) (f u : Nat) : List (Fin 64 → Fin 64 → Item) :=
  let cvt := fun (g : Nat) => (fun a d => Item.at (fjFormatWidth g) g 0 (fjFormatWidth g)
    [if signed then .vfcvtXF true false d a else .vfcvtXuF true false d a] : Fin 64 → Fin 64 → Item)
  if fjFormatWidth f = u then [cvt f]
  else (if f = 1 then [] else [fmtToFmt f 1]) ++ (if u = 64 then [] else [toRange signed u]) ++ [cvt 1] ++ clip signed (6 - steps u) 64

/-- cvts, cvtu and fcvt (R408). -/
def convert (signed : Bool) (a t : FjType) : List (Fin 64 → Fin 64 → Item) :=
  match a.fmt, t.fmt with
  | 0, 0 => intToInt signed a.width t.width
  | 0, g => intToFmt signed a.width g
  | f, 0 => fmtToInt signed f t.width
  | f, g => [fmtToFmt f g]

/-- The instruction of a binary operation (R408): 0x10-0x22 and 0x38-0x3D. -/
def binary (code : Nat) (d a b : Fin 64) : Ins :=
  match code with
  | 0x10 => .vaddVv true false d a b
  | 0x11 => .vsubVv true false d a b
  | 0x12 => .vmulVv true false d a b
  | 0x13 => .vmulhVv true false d a b
  | 0x14 => .vmulhuVv true false d a b
  | 0x15 => .vandVv true false d a b
  | 0x16 => .vorVv true false d a b
  | 0x17 => .vxorVv true false d a b
  | 0x18 => .vsllVv true false d a b
  | 0x19 => .vsrlVv true false d a b
  | 0x1A => .vsraVv true false d a b
  | 0x1B => .vminVv true false d a b
  | 0x1C => .vmaxVv true false d a b
  | 0x1D => .vminuVv true false d a b
  | 0x1E => .vmaxuVv true false d a b
  | 0x1F => .vsaddVv true false d a b
  | 0x20 => .vsadduVv true false d a b
  | 0x21 => .vssubVv true false d a b
  | 0x22 => .vssubuVv true false d a b
  | 0x38 => .vfaddVv true false d a b
  | 0x39 => .vfsubVv true false d a b
  | 0x3A => .vfmulVv true false d a b
  | 0x3B => .vfdivVv true false d a b
  | 0x3C => .vfminVv true false d a b
  | _ => .vfmaxVv true false d a b

/-- The instruction of a compare: 0x28-0x30. -/
def compare (code : Nat) (d : Fin 8) (a b : Fin 64) : Ins :=
  match code with
  | 0x28 => .vmseqVv true false d a b
  | 0x29 => .vmsneVv true false d a b
  | 0x2A => .vmsltVv true false d a b
  | 0x2B => .vmsleVv true false d a b
  | 0x2C => .vmsltuVv true false d a b
  | 0x2D => .vmsleuVv true false d a b
  | 0x2E => .vmfltVv true false d a b
  | 0x2F => .vmfleVv true false d a b
  | _ => .vmfeqVv true false d a b

/-- The instruction of fsqrt, fexp or frec. -/
def unary (code : Nat) (d a : Fin 64) : Ins :=
  if code = 0x3E then .vfsqrt true false d a else if code = 0x40 then .vfexp true false d a else .vfrec true false d a

/-- The arithmetic of an operation into `d`, on vector registers: 0x04, 0x10-0x22, 0x38-0x41 and 0x48-0x4A (R408). The same code
computes a scalar operation at VL 1. -/
def Plan.arith (pl : Plan) (n : FjNode) (d : Fin 64) : List Item :=
  let op := pl.operand n.phase
  let w := n.ty.width
  let f := n.ty.fmt
  match n.args with
  | [a] =>
    let (ia, ra) := op 0 a
    if n.op.code = 0x04 then ia ++ [.at w 0 0 w [.vmvVV true false d ra]]
    else if 0x48 ≤ n.op.code then ia ++ chain (convert (n.op.code != 0x49) (pl.ty a) n.ty) ra d
    else ia ++ [.at w f 0 w [unary n.op.code d ra]]
  | [a, b] =>
    let (ia, ra) := op 0 a
    let (ib, rb) := op 1 b
    ia ++ ib ++ [.at w f 0 w [binary n.op.code d ra rb]]
  | [a, b, c] =>
    let (ia, ra) := op 0 a
    let (ib, rb) := op 1 b
    let (ic, rc) := op 2 c
    ia ++ ib ++ ic ++ [.at w f 0 w [.vmvVV true false d rc, .vfmaccVv true false d ra rb]]
  | _ => []

/-- A value leaves `r` for its buffer, where it has one. -/
def Plan.keep (pl : Plan) (n : FjNode) (r : Fin 64) : List Item :=
  if pl.bufs.contains n.p then .free (pl.buffer n.p) :: storeStrip r n.ty.width else []

/-- A mask leaves `r` for its buffer, where it has one, as one byte for each bit. -/
def Plan.keepMask (pl : Plan) (n : FjNode) (r : Fin 8) : List Item :=
  if pl.bufs.contains n.p then
    .at 8 0 0 8 [.vmor true 0 r r, .vmvVI true false 4 1, .vmergeVim true 5 4 0] :: .free (pl.buffer n.p) :: storeStrip 5 8
  else []

/-- The register an operation writes: its value's own, or a temporary. -/
def Plan.dest (pl : Plan) (n : FjNode) : Fin 64 := match pl.home n.p with | .v r => r | _ => 3
@[inherit_doc Plan.dest] def Plan.maskDest (pl : Plan) (n : FjNode) : Fin 8 := match pl.home n.p with | .m r => r | _ => 7

/-- One strip of a vector operation (R410, R414). -/
def Plan.strip (pl : Plan) (n : FjNode) : List Item :=
  let op := pl.operand n.phase
  let w := n.ty.width
  let d := pl.dest n
  let m := pl.maskDest n
  match n.op.code, n.args with
  | 0x03, _ => [.at w 0 0 w [.vid true false d, .vaddVx true false d d 18]] ++ pl.keep n d
  | 0x05, [a] => .free (pl.scalar 13 a) :: loadStrip d w ++ pl.keep n d
  | 0x06, [a, s] =>
    [.free (pl.scalar 13 a ++ pl.scalar 14 s ++ [.mul 12 14 18, .add 13 13 12] ++ stream 0 w 0), .at w 0 0 w [.vld true false d 0]]
      ++ pl.keep n d
  | 0x07, [a, i] =>
    let (ii, ri) := op 1 i
    .free (pl.scalar 16 a) :: ii ++ [.at w 0 0 (max w 32) [.vlx true false d ri 16]] ++ pl.keep n d
  | 0x08, [a, v] =>
    let (iv, rv) := op 0 v
    iv ++ .free (pl.scalar 13 a) :: storeStrip rv (pl.ty v).width
  | 0x31, [c, a, b] =>
    let (ic, rc) := pl.maskOperand n.phase c
    let (ia, ra) := op 1 a
    let (ib, rb) := op 2 b
    ic ++ .at w 0 0 w [.vmor true 0 rc rc] :: ia ++ ib ++ [.at w 0 0 w [.vmergeVvm true d ra rb]] ++ pl.keep n d
  | code, [a, b] =>
    if n.ty = .mask then
      let (ia, ra) := op 0 a
      let (ib, rb) := op 1 b
      let t := pl.ty a
      let f := if code ≤ 0x2D then 0 else t.fmt
      ia ++ ib ++ [.at t.width f 0 t.width [compare code m ra rb]] ++ pl.keepMask n m
    else pl.arith n d ++ pl.keep n d
  | code, [a, i, v] =>
    if code = 0x09 ∨ code = 0x0A then
      let (ii, ri) := op 1 i
      let (iv, rv) := op 0 v
      let w := (pl.ty v).width
      .free (pl.scalar 16 a) :: ii ++ iv
        ++ [.at w 0 0 (max w 32) [if code = 0x09 then .vsxO true false rv ri 16 else .vsxU true false rv ri 16]]
    else pl.arith n d ++ pl.keep n d
  | _, _ => pl.arith n d ++ pl.keep n d

/-- The FMT field of a scalar floating instruction (R196). -/
def scalarFmt (f : Nat) : BitVec 2 := BitVec.ofNat 2 (f - 1)

/-- The identity of a reduction (R275). -/
def identity (code : Nat) (a : FjType) : Nat :=
  let w := a.width
  if code = 0x51 then 2 ^ (w - 1)
  else if code = 0x52 then 2 ^ (w - 1) - 1
  else if code = 0x54 then 2 ^ w - 1
  else if code = 0x56 then (match a.fmt with | 1 => 0x7FF8000000000000 | 2 => 0x7FC00000 | 3 => 0x7E00 | _ => 0x7FC0)
  else 0

/-- Before the strips: a reduction holds its identity, and the stack of a fredsum is empty (R416). -/
def Plan.start (pl : Plan) (n : FjNode) : List Ins :=
  if n.op.code = 0x55 then li 28 0 ++ storeWork 28 (pl.stack n.p)
  else li 28 (identity n.op.code (pl.ty (n.args.getD 0 0))) ++ storeWork 28 (8 * n.p)

/-- x28 := the running value combined with the strip's, in x29 (R416). -/
def combine (code w : Nat) (fmt : BitVec 2) : List Ins :=
  match code with
  | 0x50 => .add 28 28 29 :: narrow false 28 w
  | 0x51 => narrow true 28 w ++ narrow true 29 w ++ .max 28 28 29 :: narrow false 28 w
  | 0x52 => narrow true 28 w ++ narrow true 29 w ++ .min 28 28 29 :: narrow false 28 w
  | 0x53 => [.maxu 28 28 29]
  | 0x54 => [.minu 28 28 29]
  | 0x56 => [.fmax 28 28 29 fmt]
  | _ => [.add 28 28 29]

/-- The instruction of a reduction: 0x50-0x56. -/
def reduce (code : Nat) (d a : Fin 64) : Ins :=
  match code with
  | 0x50 => .vredsum true false d a
  | 0x51 => .vredmax true false d a
  | 0x52 => .vredmin true false d a
  | 0x53 => .vredmaxu true false d a
  | 0x54 => .vredminu true false d a
  | 0x55 => .vfredsum true false d a
  | _ => .vfredmax true false d a

/-- A loop of near branches: each test is code and the branch that leaves the loop; `work` stands behind the last (R155). -/
def whileBody : List (List Ins × (BitVec 12 → Ins)) → List Ins → List Ins
  | [], body => body
  | (pre, leave) :: ts, body =>
    let inner := whileBody ts body
    pre ++ leave (BitVec.ofNat 12 (2 * (1 + inner.length))) :: inner
@[inherit_doc whileBody] def whileLoop (tests : List (List Ins × (BitVec 12 → Ins))) (work : List Ins) : List Ins :=
  let n := (tests.map fun t => t.1.length + 1).sum + work.length
  whileBody tests (work ++ [.jal 0 (BitVec.ofInt 19 (-(2 * n)))])

/-- x16 := the stack of a fredsum, x5 := the number of its entries, x17 := 24 bytes for each entry behind x16. -/
def openStack (stack : Nat) : List Ins :=
  li 16 stack ++ [.add 16 16 8, .ld 5 16 0, .slli 17 5 1, .add 17 17 5, .slli 17 17 3, .add 17 17 16]

/-- One strip of a fredsum: the node of start x18, size P in x13 and value x14 goes onto the stack. While the two top entries have equal
sizes and the lower starts at a multiple of twice the size, they become one (R416). The top entry lies 8 bytes behind x17. -/
def pushNode (stack : Nat) (fmt : BitVec 2) : List Ins :=
  [.addi 13 19 (imm (-1)), .clz 13 13, .addi 12 0 64, .sub 12 12 13, .addi 13 0 1, .sll 13 13 12]
    ++ openStack stack
    ++ [.sd 17 18 8, .sd 17 13 16, .sd 17 14 24, .addi 5 5 1]
    ++ whileLoop
      [([.addi 30 0 1], fun i => .bgeu 30 5 i),
       ([.ld 28 17 16, .ld 29 17 (imm (-8))], fun i => .bne 28 29 i),
       ([.slli 28 28 1, .ld 29 17 (imm (-16)), .addi 30 28 (imm (-1)), .and 30 30 29], fun i => .bne 30 0 i)]
      [.ld 29 17 0, .ld 30 17 24, .fadd 29 29 30 fmt 0, .sd 17 29 0, .sd 17 28 (imm (-8)),
       .addi 17 17 (imm (-24)), .addi 5 5 (imm (-1))]
    ++ [.sd 16 5 0]

/-- Behind the strips: the stack of a fredsum is folded from the top into its word; an empty one gives +0 (R416, R277). -/
def Plan.fold (pl : Plan) (n : FjNode) : List Ins :=
  if n.op.code = 0x55 then
    openStack (pl.stack n.p)
      ++ [.addi 28 0 0]
      ++ whileBody [([], fun i => .beq 5 0 i)]
        (.ld 28 17 0 :: whileLoop [([.addi 5 5 (imm (-1))], fun i => .beq 5 0 i)]
          [.addi 17 17 (imm (-24)), .ld 29 17 0, .fadd 28 29 28 (scalarFmt n.ty.fmt) 0])
      ++ storeWork 28 (8 * n.p)
  else []

/-- One strip of a reduction or count: its result over the strip joins the running value (R416). -/
def Plan.stripRed (pl : Plan) (n : FjNode) : List Item :=
  let a := n.args.getD 0 0
  let w := n.ty.width
  if n.op.code = 0x57 then
    let (ia, ra) := pl.maskOperand n.phase a
    ia ++ [.free ([.vmcpop true 29 ra] ++ loadWork 28 (8 * n.p) ++ combine n.op.code w 0 ++ storeWork 28 (8 * n.p))]
  else
    let (ia, ra) := pl.operand n.phase 0 a
    let red := fun (x : Fin 32) => Item.at w n.ty.fmt 0 w [reduce n.op.code 3 ra, .vmvXE true x 3 0]
    if n.op.code = 0x55 then ia ++ [red 14, .free (pushNode (pl.stack n.p) (scalarFmt n.ty.fmt))]
    else
      ia ++ [red 29, .free (narrow false 29 w ++ loadWork 28 (8 * n.p) ++ combine n.op.code w (scalarFmt n.ty.fmt) ++ storeWork 28 (8 * n.p))]

/-- A scalar operation other than an argument word, a constant or a sync: its arithmetic at VL 1, or the store of its value. -/
def Plan.scalarOp (pl : Plan) (n : FjNode) : List Item :=
  match n.op.code, n.args with
  | 0x01, _ | 0x02, _ | 0x0B, _ => []
  | 0x31, [_, a, b] => [.free (pl.scalar 28 (if Config.fjSelect n.p then a else b) ++ storeWork 28 (8 * n.p))]
  | 0x08, [a, v] =>
    let w := (pl.ty v).width
    let put := .free (pl.scalar 13 a ++ pl.scalar 28 v)
    if w < 8 then
      [put, .at w 0 0 w [.vmvVX true false 3 28], .free (li 14 0 ++ stream 1 w 1), .at w 0 0 w [.vstO true false 3 1]]
    else
      [put, .free [if w = 8 then .sb 13 28 0 else if w = 16 then .sh 13 28 0 else if w = 32 then .sw 13 28 0 else .sd 13 28 0]]
  | _, _ =>
    let w := n.ty.width
    pl.arith n 3 ++ [.at w n.ty.fmt 0 w [.vmvXE true 28 3 0], .free (narrow false 28 w ++ storeWork 28 (8 * n.p))]

/-- The code of scalar operations, in list order, with VL 1. -/
def Plan.scalars (pl : Plan) (ns : List FjNode) : List Ins :=
  let items := ns.flatMap pl.scalarOp
  if items.isEmpty then [] else .addi 19 0 1 :: assemble (slotsFor pl.nslot (widest items)) none items

/-- The strip-mined loop of a phase (R412, R413): at its head a vsetvl with KEEP = 0 at the widest width, with AVL = N - base. Where the
strip is granted again at other configurations, it is no longer than one quartet can hold: a reclaim served by such a grant then leaves it
its length (log 14). -/
def stripLoop (record : Nat) (items : List Item) : List Ins :=
  let w := widest items
  let ns := slotsFor record w
  let grant := li 6 (vcfg ns w 0 0)
  let again := items.any fun it => match it with | .free _ => false | .at sew fmt frm _ _ => sew != w || fmt != 0 || frm != 0
  let cap := Config.quartetLanes * (1024 / (8 * 2 ^ ns) / w)
  .addi 18 0 0 :: loop (.sub 5 9 18 :: grant ++ [.vsetvl 19 5 6]) (.bne 19 0 6)
    ((if again then li 12 cap ++ [.minu 19 19 12, .vsetvl 19 19 6] else []) ++ assemble ns (some (w, 0, 0)) items ++ [.add 18 18 19])

/-- The code of a phase (R410): the fence of the sync that began it (R417), its strips, and then its reductions and the scalar operations
that depend on them. -/
def Plan.phase (pl : Plan) (q : Nat) : List Ins :=
  let ns := pl.nodes.filter fun n => n.phase == q
  let vs := ns.filter fun n => n.vec || n.red
  let reds := ns.filter (·.red)
  ns.filterMap (fun n => if n.op.code = 0x0B then some (.fence (BitVec.ofNat 3 n.op.imm) 3) else none)
    ++ reds.flatMap pl.start
    ++ (if vs.isEmpty then [] else stripLoop pl.nslot (vs.flatMap fun n => if n.red then pl.stripRed n else pl.strip n))
    ++ reds.flatMap pl.fold
    ++ pl.scalars (ns.filter fun n => !n.vec && !n.red && n.dep)

/-- The start: a hart other than INDEX 0 of GINDEX 0 stops (R38, R39); x9 := N, zext of the low word of argument word DOMAINP (R406);
x20 := the bytes of a buffer; x8 := the working memory. -/
def Plan.prologue (pl : Plan) : List Ins :=
  .mfs 5 0x001 :: narrow false 5 32 ++ .mfs 12 0x000 :: .srli 12 12 16 :: narrow false 12 11
    ++ [.add 5 5 12, .beq 5 0 4, .stop]
    ++ li 31 (8 * pl.domainp) ++ [.add 31 31 10, .lwu 9 31 0]
    ++ [.slli 20 9 3, .addi 20 20 63, .srli 20 20 6, .slli 20 20 6]
    ++ li 8 pl.work

/-- The instructions of a module: the scalar operations that do not depend on a vector, the phases, and a stop. -/
def Plan.code (pl : Plan) : List Ins :=
  pl.prologue
    ++ pl.scalars (pl.nodes.filter fun n => !n.vec && !n.red && !n.dep)
    ++ (List.range ((pl.nodes.getLast?.map (·.phase)).getD 0 + 1)).flatMap pl.phase
    ++ [.stop]

/-- The plan for a module and a launch, with working memory at `work`. -/
def plan (m : FjModule) (nslot work : Nat) : Plan :=
  let nodes := m.nodes
  let homes := homesOf nodes
  { nodes := nodes, domainp := m.domainp, homes := homes, bufs := bufsOf nodes homes,
    nslot := nslot, work := work }

/-- The bytes of the code. -/
def Plan.bytes (pl : Plan) : List Byte := pl.code.flatMap fun i => leBytes 4 i.word

end Sys2Proof.Machine.Fj
end

