-- ==== Sys2Proof/Machine/Trust.lean ====
section
/-! DEFINITION. Code manifests and page checks (spec/19_translation_and_protection.md R472, R473), and the walk of a launch's
page tables that the dispatcher makes for its own accesses (R450-R452, R431). -/

namespace Sys2Proof.Machine

/-- The walk of a virtual address from the table at `root` (R450-R452): the leaf's level, place and words, where there is one. -/
def State.walkFrom (s : State) (va : Nat) : Nat → Nat → Nat → Option (Nat × Nat × Word × Word)
  | 0, _, _ => none
  | fuel + 1, level, root =>
    let a := root + 16 * bitsOf va (55 - 10 * level) (46 - 10 * level)
    let w0 := BitVec.ofNat 64 (s.peekNat a 8)
    let w1 := BitVec.ofNat 64 (s.peekNat (a + 8) 8)
    if !w0.getLsbD 0 then none
    else if w0.getLsbD 1 then (if leafMalformed level w0 w1 then none else some (level, a, w0, w1))
    else if level = 3 ∨ bitsOf w0.toNat 13 2 ≠ 0 ∨ bitsOf w0.toNat 63 48 ≠ 0 ∨ w1 ≠ 0 then none
    else s.walkFrom va fuel (level + 1) (bitsOf w0.toNat 47 14 * 16384)

/-- Addresses that are never translated (R450, R509): the alias windows of R30, the window of R444 and the launch window. -/
def outsideTables (va : Nat) : Bool :=
  decide (0x00FC000000000000 ≤ va ∧ va < 0x00FE000000000000) || decide (0x00FFFE0000000000 ≤ va)
@[inherit_doc State.walkFrom] def State.walk (s : State) (root va : Nat) :
    Option (Nat × Nat × Word × Word) :=
  if outsideTables va then none else s.walkFrom va 4 0 root

/-- The physical address behind a virtual address of a space, in memory of this module (R477); memory outside every launch's space has
none (R427, R509). -/
def State.walkPa (s : State) (root va : Nat) : Option Nat :=
  match s.walk root va with
  | some (level, _, w0, _) =>
    let pa := leafPa level w0 va
    (match leafType w0, s.region pa with
     | 0, .normal _ | 1, .quarter _ | 2, .pool => if reservedPa pa then none else some pa
     | _, _ => none)
  | none => none

/-- Every byte of a range translates in a space (R431). -/
def State.rangeMapped (s : State) (root va n : Nat) : Bool :=
  (granuleStarts va n).all fun a => decide (a < 2 ^ 56) && (s.walk root a).isSome

/-- Bytes of a launch's space that the dispatcher reads, those of other modules among them (log 13); bytes it cannot reach, or that the
access tables refuse to domain 0, read as 0 (R463; log 98). -/
def State.readSpace (s : State) (root va n : Nat) : List Byte :=
  (granuleStarts va n).flatMap fun a =>
    let m := min (65536 - a % 65536) (va + n - a)
    match s.walkPa root a, s.walk root a with
    | some pa, _ => if s.permits (s.targetOf pa) 0 .r then s.peekN pa m else List.replicate m 0
    | none, some (level, _, w0, w1) =>
      let pa := leafPa level w0 a
      if leafType w0 = 3 then (List.range m).map fun k => Config.peerByte (leafModule w1) (pa + k) s.fresh
      else if leafType w0 = 4 then (List.range m).map fun k => Config.sealedByte (leafModule w1) (leafVersion w0 w1) (pa + k)
      else List.replicate m 0
    | none, none => List.replicate m 0

/-- Bytes of a manifest (R472). -/
def manifestBytes (npage : Nat) : Nat := 64 + 32 * npage + 3309

/-- The number of bytes the manifest at an address has, as its header gives them (R431, R472). -/
def State.manifestSize (s : State) (root va : Nat) : Nat := manifestBytes (leNat (s.readSpace root (va + 24) 4))

/-- A manifest that the check of R42 accepts: its CODEBASE and digests (R472). -/
def State.checkManifest (s : State) (root va : Nat) (entry : Nat) : Option (Nat × List (List Byte)) :=
  let bs := s.readSpace root va (s.manifestSize root va)
  let f := fun (off n : Nat) => leNat ((bs.drop off).take n)
  let n := f 24 4
  let base := f 16 8
  let key := Map.get [] s.acc.keys (f 12 4)
  let body := bs.take (64 + 32 * n)
  if f 0 4 = 0x4D414E31 ∧ f 4 4 = 1 ∧ f 8 4 < 2 ∧ f 12 4 < 16 ∧ base % 65536 = 0 ∧ 1 ≤ n ∧ n ≤ 65536 ∧ f 28 36 = 0
      ∧ key ≠ [] ∧ Config.mldsaVerify key (Config.shake256 64 body) ((bs.drop (64 + 32 * n)).take 3309) = true
      ∧ base ≤ entry ∧ entry < base + 65536 * n then
    some (base, (List.range n).map fun k => (bs.drop (64 + 32 * k)).take 32)
  else none

/-- The digest a launch's manifest gives a granule (R472). -/
def Launch.digest (l : Launch) (vpn : Nat) : Option (List Byte) :=
  if l.codeBase / 65536 ≤ vpn then l.digests[vpn - l.codeBase / 65536]? else none

/-- INTEGRITY with the first byte of the page (R327, R337). -/
def integrityExc (vpn : Nat) : Exc := { cause := .integrity, acc := .read, tval := BitVec.ofNat 64 (vpn * 65536) }

/-- A fetch translation for one granule, made from an entry that covers it (R473). -/
def TlbEntry.forFetch (e : TlbEntry) (vpn : Nat) : TlbEntry :=
  { asid := e.asid, level := 3, vpn := vpn,
    w0 := BitVec.ofNat 64 (e.w0.toNat % 2 ^ 16 + leafPa e.level e.w0 (vpn * 65536) / 65536 * 65536 + e.w0.toNat / 2 ^ 48 * 2 ^ 48),
    w1 := e.w1, verified := true, unit := 0, strided := 0, indexed := 0 }

/-- The granule enters the verified set of the launch (R473). -/
def State.setVerified (s : State) (i : HartId) (seq pa : Nat) : State :=
  s.setDie i.die ((s.die i.die).mapLaunch seq fun l =>
    { l with verified := if l.verified.contains (pa / 65536) then l.verified else l.verified ++ [pa / 65536] })

/-- A fetch trap found while the granule of `va` is checked (R327, R331, R166): with no convoy the fetching instruction traps; an open
convoy is discarded, and MEMBER is the position of the member fetched, or that of the instruction behind the last member. -/
def State.trapFetch (s : State) (e : Exc) : State :=
  let h := s.h
  let behind := match s.fetch s.cur (h.pc.toNat + convoyBytes h.convoy) with | .ok _ => 1 | _ => 0
  if h.convoy = [] ∧ behind = 0 then s.trapHere e else s.takeTrap e h.pc true (h.convoy.length + behind)

/-- The first fetch of a launch from the granule of `va` (R473), for the current hart: it is digested and compared; a match installs
the fetch translation. -/
def State.verifyGranule (s : State) (va : Nat) : State :=
  let i := s.cur
  let vpn := vpnOf va
  let s := s.setH { s.h with xwait := none }
  match s.unverified i vpn with
  | none => s
  | some e =>
    if !leafU e.w0 || !leafX e.w0 then s.trapFetch (accessExc va .fetch)
    else
      match s.launchOf i with
      | none => s.trapFetch (integrityExc vpn)
      | some l =>
        let pa := leafPa e.level e.w0 (vpn * 65536)
        let install := fun (s : State) => s.installTlb i.die (e.forFetch vpn)
        match l.digest vpn with
        | none => s.trapFetch (integrityExc vpn)
        | some d =>
          match s.readBytes i (vpn * 65536) 65536 .read with
          | .trap x => s.trapFetch { x with acc := .fetch }
          | .miss va acc => s.missed va acc
          | .wait => s
          | .ok bs =>
            let s := if leafType e.w0 ≤ 2 then s.setVerified i l.seq pa else s
            if Config.shake256 32 bs = d then install s else s.trapFetch (integrityExc vpn)

/-- CODE_GRANULE_VERIFY (R473). -/
def execCodeGranuleVerify (h : HartId) (va : Nat) (s : State) : Out :=
  .next (if (s.hart h).st = .running then s.asHart h fun s => s.verifyGranule (va % 2 ^ 56) else s)

end Sys2Proof.Machine
end

