-- ==== Sys2Proof/Machine/Launches.lean ====
section
/-! DEFINITION. The launch log and the dispatchers (spec/18_host_and_launch.md R427-R438, R509; spec/02_harts_and_gangs.md
R42-R50): reading, accepting and completing records, and placing and suspending gangs. -/

namespace Sys2Proof.Machine

/-- The log header of a die and its words (R429): 0 TAIL, 64 ACCSEQ, 128 DONESEQ, 192 SAFESEQ, 256 SLICE, 320 IRQEN. -/
def headerWord (d off : Nat) : Nat := 0x1000 + d * 0x1000 + off

/-- STATE of the boot block (R428). -/
def State.bootState (s : State) : Nat := s.peekNat 8 8

/-- The launch record in a slot (R427, R430), by the byte offset of a field. -/
def State.recordField (s : State) (d seq off n : Nat) : Nat :=
  s.peekNat (0x100000 + d * 0x100000 + 256 * (seq % 4096) + off) n

/-- SPACE as a launch's harts hold it: the domain whose ROOT it names, with that root (R449). -/
def State.launchDomain (s : State) (space : Nat) : Option (Nat × Nat) :=
  if space = 0 then
    (let r := (Map.get 0 s.acc.roots 1).toNat
     if r = 0 then none else some (1, r))
  else if space % 16384 ≠ 0 then none
  else (s.acc.roots.find? fun (_, r) => r.toNat == space).map fun (d, r) => (d, r.toNat)

/-- Quartets per hart of a record's code (R40). -/
def quartetsOf (code : Nat) : Option Nat :=
  match code with
  | 0 => some 0 | 1 => some 1 | 2 => some 2 | 3 => some 4 | 4 => some 8 | _ => none

/-- Harts of one launch that a core can hold when nothing else runs (R25, R42, R44). -/
def State.coreRoom (s : State) (c : CoreId) (q : Nat) (pair : Bool) : Nat :=
  let u := (s.core c).usable &&& (if pair then (s.core { c with core := Fin.ofNat 192 (c.core.val + 1) }).usable else 0xFF)
  if q = 0 then 7 else min 7 (min 4 (freeBlocks u q).length)

/-- One gang fits an empty die (R42, R498). -/
def State.gangFits (s : State) (d : Fin 8) (harts q : Nat) (pair : Bool) : Bool :=
  decide (harts ≤ ((List.finRange 192).map fun k =>
    let c : CoreId := { die := d, core := k }
    if s.coreDown c || (pair && k.val % 2 == 1) then 0 else s.coreRoom c q pair).sum)

/-- The smallest ASID from 1 up that no live launch of the die has (R449). -/
def Die.freeAsid (d : Die) : Nat :=
  ((List.range (d.launches.length + 1)).map (· + 1) |>.find? fun a => !d.launches.any fun l => spaceAsid l.space == a).getD 0

/-- The per-launch area of a sequence number: its virtual and its physical address (R438, R509; log 23). -/
def areaVa (seq : Nat) : Nat := 0x00FD000100000000 + seq % 4096 * 2 ^ 23
@[inherit_doc areaVa] def areaPa (d seq : Nat) : Nat := d * 2 ^ 37 + 2 ^ 33 + seq % 4096 * 2 ^ 23

/-- The launch a record describes, before its code is checked. -/
def State.recordLaunch (s : State) (d : Fin 8) (seq dom root q : Nat) : Launch :=
  let f := s.recordField d.val seq
  let w := f 24 8
  { seq := seq, entry := BitVec.ofNat 64 (f 8 8), arglen := bitsOf w 31 0, harts := bitsOf w 47 32, quartets := q,
    nslot := BitVec.ofNat 2 (w / 2 ^ 52), prio := BitVec.ofNat 2 (w / 2 ^ 54), pair := bitAt w 56, extj := bitAt w 57,
    fj := bitAt w 58, gangs := f 32 4, dep := f 40 8, lease := BitVec.ofNat 64 (f 56 8),
    space := BitVec.ofNat 64 (dom + root + (s.die d).freeAsid * 2 ^ 48), report := BitVec.ofNat 64 (f 72 8), replen := f 80 4,
    codeBase := 0, digests := [], code := [], work := 0, area := areaVa seq, areaPa := areaPa d.val seq, next := 0, gangsDone := 0, doneAt := none,
    verified := [], written := [], fault := none, rerun := false }

/-- The checks of R431 in their order, as far as the status INVALID goes; `none` where all pass. The stack of a lease of length 0 is not
looked at (log 114). -/
def State.recordInvalid (s : State) (d : Fin 8) (seq : Nat) : Option Unit :=
  let f := s.recordField d.val seq
  let w := f 24 8
  let lease := f 56 8
  if f 0 8 ≠ seq then some ()
  else if bitAt w 51 ∨ bitsOf w 63 59 ≠ 0 ∨ f 36 4 ≠ 0 ∨ f 84 4 ≠ 0 ∨
      (List.range 21).any (fun k => f (88 + 8 * k) 8 != 0) = true then some ()
  else if f 8 1 % 2 = 1 ∨ seq ≤ f 40 8 ∨ f 72 8 % 8 ≠ 0 then some ()
  else if bitsOf lease 7 4 ≠ 0 ∨ bitsOf lease 63 40 ≠ 0 ∨ (bitsOf lease 39 8 ≠ 0 ∧ s.quarterCount (bitsOf lease 3 0) = 0) then some ()
  else none

/-- Check 5 of R431, for the space of a record. -/
def State.recordUnmapped (s : State) (d : Fin 8) (seq root : Nat) : Bool :=
  let f := s.recordField d.val seq
  let man := f 48 8
  !s.rangeMapped root (f 16 8) (bitsOf (f 24 8) 31 0) || !s.rangeMapped root man 64
    || !s.rangeMapped root man (s.manifestSize root man) || (f 72 8 != 0 && !s.rangeMapped root (f 72 8) (f 80 4))

/-- The pages from ENTRY's on, which hold the Fjarast module of a launch (R472), with their digests. -/
def Launch.modulePages (l : Launch) : List (Nat × List Byte) :=
  let p := l.entry.toNat / 65536 - l.codeBase / 65536
  ((List.range l.digests.length).zip l.digests).drop p |>.map fun (k, d) => (l.codeBase + 65536 * k, d)

/-- The first page of the module whose bytes do not have their digest: the loader checks the pages under R473 before it reads them. -/
def State.badPage (s : State) (root : Nat) (l : Launch) : Option Nat :=
  (l.modulePages.find? fun (va, d) => Config.shake256 32 (s.readSpace root va 65536) != d).map (·.1)

/-- The granules that checking the module verifies (R473). -/
def State.modulePages (s : State) (root : Nat) (l : Launch) : List Nat :=
  l.modulePages.filterMap fun (va, _) => (s.walkPa root va).map (· / 65536)

/-- W of R438. -/
def Launch.width (l : Launch) : Nat := max 1 (min l.gangs (1344 / max 1 l.harts))

/-- A launch with the code that the on-device loader makes of its module (R435, R412-R417), for its NSLOT; its harts start there. The
code has working memory for each hart-local area, by N of the argument copy (log 14). -/
def Launch.translated (l : Launch) (m : FjModule) (args : List Byte) (pages : List Nat) : Launch :=
  let va := 65536 * (Config.fjCode l.seq % 2 ^ 38)
  let pl := Fj.plan m l.nslot.toNat (va + 2 ^ 32)
  let n := leNat ((args.drop (8 * m.domainp)).take 4)
  { l with entry := BitVec.ofNat 64 va, code := pl.bytes, work := pl.workBytes n, verified := pages }

/-- The checks of R431, R42 and R435 on the next record, in order: what the dispatcher takes from it. -/
def State.takeRecord (s : State) (d : Fin 8) (seq : Nat) : Taken :=
  let f := s.recordField d.val seq
  let w := f 24 8
  let fail := fun (st code : Nat) (tval : Word) =>
    ({ seq := seq, status := st, code := code, tval := tval, launch := none, args := [], report := none } : Taken)
  if (s.recordInvalid d seq).isSome then fail 3 0 0
  else
    match s.launchDomain (f 64 8) with
    | none => fail 3 0 0
    | some (dom, root) =>
      if s.recordUnmapped d seq root then fail 3 0 0
      else
        let harts := bitsOf w 47 32
        if harts = 0 ∨ 1344 < harts ∨ f 32 4 = 0 then fail 3 0 0
        else
          match quartetsOf (bitsOf w 50 48) with
          | none => fail 3 0 0
          | some q =>
            if 65536 < bitsOf w 31 0 then fail 3 0 0
            else if !s.gangFits d harts q (bitAt w 56) then fail 4 0 0
            else
              match s.checkManifest root (f 48 8) (f 8 8) with
              | none => { fail 2 8 (BitVec.ofNat 64 (f 48 8)) with
                  report := if f 72 8 = 0 ∨ f 80 4 < 8 then none else s.walkPa root (f 72 8) }
              | some (base, digests) =>
                let l := { s.recordLaunch d seq dom root q with codeBase := base, digests := digests }
                let args := s.readSpace root (f 16 8) l.arglen
                if l.fj then
                  match s.badPage root l with
                  | some va => { fail 2 8 (BitVec.ofNat 64 va) with
                      report := if f 72 8 = 0 ∨ f 80 4 < 8 then none else s.walkPa root (f 72 8) }
                  | none =>
                    match fjCheck (s.readSpace root (f 8 8) (base + 65536 * digests.length - f 8 8)) with
                    | .error (order, p) => fail 5 0 (BitVec.ofNat 64 (order + p * 2 ^ 32))
                    | .ok m => { fail 0 0 0 with launch := some (l.translated m args (s.modulePages root l)), args := args }
                else { fail 0 0 0 with launch := some l, args := args }

/-- The next sequence number a dispatcher may take, where there is one (R436, R437). -/
def State.nextRecord (s : State) (d : Fin 8) : Option Nat :=
  let x := s.die d
  if s.bootState = 1 ∧ x.accseq < min (s.peekNat (headerWord d.val 0) 8) (x.doneseq + 4096) ∧ x.record.isNone = true ∧ x.halted = false
      ∧ s.permits (s.targetOf (0x100000 + d.val * 0x100000 + 256 * ((x.accseq + 1) % 4096))) 0 .r = true
  then some (x.accseq + 1) else none

/-- The launch mirror may read the record of a sequence number and write to the safe tier over the fabric (R439, R463; log 98). -/
def State.mirrors (s : State) (d : Fin 8) (seq : Nat) : Bool :=
  s.permits (s.targetOf (0x100000 + d.val * 0x100000 + 256 * (seq % 4096))) 0x1201 .r && s.permits (some 84) 0x1201 .w

/-- LAUNCH_RECORD_READ: the next record is read and checked, its argument block copied, and both mirrored (R431, R437); a mirror that is
refused is counted (R497). -/
def execLaunchRecordRead (die : Fin 8) (s : State) : Out :=
  .next (match s.nextRecord die with
    | none => s
    | some seq =>
      let t := s.takeRecord die seq
      let s := s.setDie die { s.die die with record := some t }
      if s.mirrors die seq then { s with mirror := s.mirror ++ [(die, t)] } else s.bump die 0x78)

/-- Sequence numbers that are done behind DONESEQ: DONESEQ advances over an unbroken run (R437). -/
def advanceDone : Nat → List Nat → Nat → Nat × List Nat
  | 0, done, d => (d, done)
  | n + 1, done, d => if done.contains (d + 1) then advanceDone n (done.filter (· != d + 1)) (d + 1) else (d, done)

/-- The completion of a launch: its record, then DONESEQ, and the interrupt (R432, R437). -/
def State.complete (s : State) (d : Fin 8) (seq word1 : Nat) (tval : Word) (tpc : Nat) : State :=
  let a := 0x900000 + d.val * 0x20000 + 32 * (seq % 4096)
  let s := (((s.firmwareWrite a 8 seq).firmwareWrite (a + 8) 8 word1).firmwareWrite (a + 16) 8 tval.toNat).firmwareWrite (a + 24) 8 tpc
  let x := s.die d
  let (n, rest) := advanceDone (x.doneset.length + 1) (seq :: x.doneset) x.doneseq
  let s := s.setDie d { x with doneseq := n, doneset := rest }
  if n = x.doneseq then s
  else
    let s := s.firmwareWrite (headerWord d.val 128) 8 n
    if bitAt (s.peekNat (headerWord d.val 320) 8) 0 then s.raiseVector d.val else s

/-- An accepted launch starts: its area holds the argument copy (R42, R438), and its gangs wait in the queue (R43). -/
def State.enqueue (s : State) (d : Fin 8) (l : Launch) (args : List Byte) : State :=
  let s := if s.permits (s.targetOf l.areaPa) 0 .w then (s.zero l.areaPa 65536).pokeN l.areaPa args else s
  s.setDie d { s.die d with launches := (s.die d).launches ++ [l] }

/-- The report of a launch whose manifest failed: nothing was written, so its count is 0 (R433, R434). -/
def State.reportNone (s : State) (t : Taken) : State :=
  match t.report with
  | some pa => if s.frozen pa then s else s.firmwareWrite pa 8 0
  | none => s

/-- LAUNCH_ACCEPT: ACCSEQ advances; the launch is queued, or completed at once (R42, R437). -/
def execLaunchAccept (die : Fin 8) (s : State) : Out :=
  .next (match (s.die die).record with
    | none => s
    | some t =>
      let s := ((s.reportNone t).setDie die { s.die die with record := none, accseq := t.seq }).firmwareWrite (headerWord die.val 64) 8 t.seq
      match t.launch with
      | some l => s.enqueue die l t.args
      | none => s.complete die t.seq (t.status + t.code * 2 ^ 8) t.tval 0)

/-- The launch a dependency names has completed (R43). -/
def Die.depDone (x : Die) (l : Launch) : Bool := l.dep == 0 || decide (l.dep ≤ x.doneseq) || x.doneset.contains l.dep

/-- The state of a gang (R48): one without a record waits for a dependency, or is queued, until it is placed. -/
def Die.gangState (x : Die) (seq gindex : Nat) : GangState :=
  match x.gangs.find? fun g => g.seq == seq && g.gindex == gindex with
  | some g => g.st
  | none =>
    match x.launches.find? fun l => l.seq == seq with
    | some l => if gindex < l.next then .done else if x.depDone l then .queued else .waitdep
    | none => .done

/-- The gangs that stand first for their launch: its suspended gangs, and its next unplaced gang where its dependency is done.
Each is given by priority, sequence number and gang index (R43, R45). -/
def Die.waiting (x : Die) : List (Nat × Nat × Nat) :=
  x.launches.flatMap fun l =>
    ((x.gangs.filter fun g => g.seq == l.seq && g.st = .suspended).map fun g => (l.prio.toNat, l.seq, g.gindex))
      ++ (if l.next < l.gangs && x.depDone l then [(l.prio.toNat, l.seq, l.next)] else [])

/-- The order of the queue (R43): priority, then sequence number, then gang index. -/
def queueBefore (a b : Nat × Nat × Nat) : Bool :=
  decide (b.1 < a.1) || (a.1 == b.1 && (decide (a.2.1 < b.2.1) || (a.2.1 == b.2.1 && decide (a.2.2 < b.2.2))))

/-- The head of the queue (R43). -/
def Die.head (x : Die) : Option (Nat × Nat × Nat) :=
  x.waiting.foldl (fun m g => match m with | none => some g | some h => if queueBefore g h then some g else m) none

/-- The lowest slot below 7 that is free on a core, and for a pair on its partner. -/
def State.freeSlot (s : State) (c : CoreId) (pair : Bool) : Option (Fin 8) :=
  (List.finRange 7).findSome? fun k =>
    let i : HartId := { die := c.die, core := c.core, slot := Fin.ofNat 8 k.val }
    if s.vacant i && (!pair || s.vacant (partner i)) then some i.slot else none

/-- The first quartet of the lowest free block of `q` on a core, and for a pair on both (R44, R498). -/
def State.freeBlock (s : State) (c : CoreId) (q : Nat) (pair : Bool) : Option Nat :=
  if q = 0 then some 0
  else
    let c' : CoreId := { c with core := Fin.ofNat 192 (c.core.val + 1) }
    if 4 ≤ s.parts c || (pair && decide (4 ≤ s.parts c')) then none
    else ((freeBlocks (s.cacheBits c) q).find? fun b => !pair || (freeBlocks (s.cacheBits c') q).contains b)

/-- Where R44 puts a hart of `q` quartets: slot, and first quartet. -/
def State.spot (s : State) (d : Fin 8) (q : Nat) (pair : Bool) : Option (HartId × Nat) :=
  (List.finRange 192).findSome? fun k =>
    let c : CoreId := { die := d, core := k }
    if s.coreDown c || (pair && k.val % 2 == 1) then none
    else
      match s.freeSlot c pair, s.freeBlock c q pair with
      | some slot, some b => some ({ die := d, core := k, slot := slot }, b)
      | _, _ => none

/-- QPH of GANGSIZE (R40). -/
def quartetCode (q : Nat) : Nat := match q with | 0 => 0 | 1 => 1 | 2 => 2 | 4 => 3 | _ => 4

/-- A hart of a launch as R46 creates it. Its spill region is the dispatcher's (log 18). -/
def Launch.hart (l : Launch) (gindex index : Nat) : Hart :=
  let d : Descriptor :=
    { entry := l.entry, args := BitVec.ofNat 64 l.area, arglen := BitVec.ofNat 64 l.arglen, stub := 0x00FD000000000000,
      gangId := BitVec.ofNat 64 (l.seq % 2 ^ 32 * 2 ^ 32 + gindex),
      gangSize := BitVec.ofNat 64 (l.harts + l.gangs * 2 ^ 16 + quartetCode l.quartets * 2 ^ 48),
      place := l.quartets * 2 ^ 16 + l.nslot.toNat * 2 ^ 20 + l.prio.toNat * 2 ^ 22 + boolN l.pair * 2 ^ 24 + index * 2 ^ 32,
      image := 0, spill := 0, rest := 0 }
  d.fresh l.space

/-- A saved hart that is placed again (R47, R350): its registers are in slots as far as they fit. -/
def Hart.again (h : Hart) : Hart :=
  { h with st := .creating, id := { h.id with moves := h.id.moves + 1 }, v := h.v.map fun r => r.move .slot }

/-- Harts placed one after another under R44; `none` where some hart finds no core. -/
def State.placeAll (s : State) (d : Fin 8) : List Hart → Option State
  | [] => some s
  | h :: hs =>
    match s.spot d h.vs.qcount h.id.paired with
    | none => none
    | some (i, q) => ((s.place i { h with st := .creating, vs := { h.vs with qfirst := q } }).rearm i).placeAll d hs

/-- The lease a placement asks for is held by another gang (R437). -/
def State.leaseHeld (s : State) (d : Fin 8) (l : Launch) (gang : Word) : Bool :=
  bitsOf l.lease.toNat 39 8 != 0 && s.leaseCode d gang l.lease == 1

/-- GANG_PLACE: the dispatcher tries to place the gang at the head of the queue (R43, R44, R437, R438). The slice interval begins again where
the head is kept back, by a lease (R437) and also by its area (R438; log 110). -/
def State.placeHead (s : State) (d : Fin 8) : State :=
  let x := s.die d
  match x.head with
  | none => s.setDie d { x with headSince := none }
  | some (_, seq, g) =>
    match x.launches.find? fun l => l.seq == seq with
    | none => s
    | some l =>
      let gang := BitVec.ofNat 64 (seq % 2 ^ 32 * 2 ^ 32 + g)
      let old := x.gangs.find? fun y => y.gangId == gang
      let busy := x.gangs.any fun y => y.seq == seq && y.gindex % l.width == g % l.width && y.gindex != g
      if s.bootState ≠ 1 ∨ x.halted = true ∨ s.ckPending = true ∧ s.ckDrain.isNone = true then s
      else if busy || s.leaseHeld d l gang then s.setDie d { x with headSince := none }
      else
        let hs := match old with
          | some y => y.saved.map fun (_, h) => h.again
          | none => (List.range l.harts).map fun k => l.hart g k
        match s.placeAll d hs with
        | none =>
          let since := match x.headSince with
            | some (a, b, t) => if a = seq ∧ b = g then (a, b, t) else (seq, g, s.cycle)
            | none => (seq, g, s.cycle)
          s.setDie d { x with headSince := some since }
        | some s' =>
          let s' := if bitsOf l.lease.toNat 39 8 = 0 then s' else s'.lease d gang l.lease
          let s' := match old with
            | some _ => s'
            | none => (List.range l.harts).foldl (fun s k => s.zero (l.areaPa + 65536 + (g % l.width * l.harts + k) * 4096) 4096) s'
          let y : Gang := { seq := seq, gindex := g, st := .placing, placedAt := s.cycle, saved := [],
                            stopped := (old.map (·.stopped)).getD 0 }
          let x' := (s'.die d).mapLaunch seq fun l => if old.isSome then l else { l with next := g + 1 }
          s'.setDie d { x' with headSince := none, gangs := (x'.gangs.filter fun z => z.gangId != gang) ++ [y] }
@[inherit_doc State.placeHead] def execGangPlace (die : Fin 8) (s : State) : Out := .next (s.placeHead die)

/-- The running gang that is suspended first for a waiting head of priority `prio` (R45). -/
def State.sliceVictim (s : State) (d : Fin 8) (prio slice : Nat) : Option Gang :=
  let x := s.die d
  let pr := fun (g : Gang) => ((x.launches.find? fun l => l.seq == g.seq).map fun l => l.prio.toNat).getD 0
  let may := x.gangs.filter fun g => g.st = .running &&
    (decide (pr g < prio) || (pr g == prio && decide (g.placedAt + slice ≤ s.cycle)))
  may.foldl (fun m g => match m with
    | none => some g
    | some b => if decide (pr g < pr b) || (pr g == pr b && decide (g.placedAt < b.placedAt)) then some g else m) none

/-- SLICE_EXPIRY: the head has not fitted for a slice interval, and one running gang is suspended (R45). -/
def execSliceExpiry (die : Fin 8) (s : State) : Out :=
  let x := s.die die
  let slice := s.peekNat (headerWord die.val 256) 8
  .next (match x.headSince, x.head with
    | some (a, b, t), some (prio, seq, g) =>
      if a ≠ seq ∨ b ≠ g ∨ s.cycle < t + slice ∨ x.suspends ≠ [] then s
      else
        match s.sliceVictim die prio slice with
        | none => s
        | some v => s.dispatcherSuspend die v.gangId
    | _, _ => s)

/-- STATUS of a launch whose gangs are all DONE (R433), and the second word of its completion record (R432). -/
def Launch.status (l : Launch) : Nat :=
  match l.fault with
  | none => 0
  | some (e, _, _, _) => if e.cause = .integrity then 2 else 1
@[inherit_doc Launch.status] def Launch.word1 (l : Launch) : Nat :=
  boolN l.rerun * 2 ^ 27 + (match l.fault with
    | none => 0
    | some (e, index, g, _) => l.status + e.cause.code * 2 ^ 8 + index * 2 ^ 16 + g * 2 ^ 32)

/-- An EXTJ launch completes behind the checkpoint that released its journal (R440). -/
def State.journalReleased (s : State) (d : Fin 8) (l : Launch) : Bool :=
  !l.extj || (!(s.journal.any fun j => j.die == d && j.seq == l.seq) &&
    (match l.doneAt, s.ckpt with | some t, some c => decide (t ≤ c.cycle) | _, _ => false))

/-- The report of the granules a launch wrote (R434), through its own space. -/
def State.report (s : State) (l : Launch) : State :=
  if l.fault.isNone || l.report == 0 || decide (l.replen < 8) then s
  else
    let room := l.replen / 8 - 1
    let n := min room l.written.length
    let words := (n + boolN (decide (room < l.written.length)) * 2 ^ 63) :: (l.written.take n).map (· * 65536)
    let root := spaceRoot l.space
    ((List.range words.length).zip words).foldl (fun s (k, w) =>
      match s.walkPa root (l.report.toNat + 8 * k) with
      | some pa => if s.frozen pa then s else s.firmwareWrite pa 8 w
      | none => s) s

/-- LAUNCH_COMPLETE: with every gang DONE, the report, the completion record, DONESEQ and the interrupt (R437). The launch's
verified set ends, and its translations are dropped. -/
def execLaunchComplete (die : Fin 8) (seq : Nat) (s : State) : Out :=
  .next (match (s.die die).launches.find? fun l => l.seq == seq with
    | none => s
    | some l =>
      if l.gangsDone < l.gangs ∨ s.journalReleased die l = false ∨ s.bootState ≠ 1 then s
      else
        let s := s.report l
        let s := s.dropTlb die fun e => e.asid == spaceAsid l.space
        let s := s.setDie die { s.die die with launches := (s.die die).launches.filter fun k => k.seq != seq }
        let (tval, tpc) := match l.fault with | some (e, _, _, tpc) => (e.tval, tpc) | none => (0, 0)
        s.complete die seq l.word1 tval tpc)

end Sys2Proof.Machine
end

