-- ==== Sys2Proof/Machine/Platform.lean ====
section
/-! DEFINITION. The host ports and the fabric (R425, R492, R493), boot (R470), checkpoints and recovery (R439, R440), the
governor and thermal rules (R404, R468, R497, R507), and lockstep pairs (R498-R502). -/

namespace Sys2Proof.Machine

/-- Every byte of a range may be accessed by an engine or port (R463, R477). -/
def State.portPermits (s : State) (mid pa n : Nat) (p : Perm) : Bool :=
  (pa :: granuleStarts pa n).all fun a => s.permits (s.targetOf a) mid p && decide (s.region a = s.region (a % 2 ^ 48)) &&
    s.permits (s.targetOf (min (pa + n - 1) (a / 65536 * 65536 + 65535))) mid p

/-- Master of a host port's ingress (R463). -/
def portMid (port : Fin 2) : Nat := 0x1204 + port.val

/-- The largest read request and the largest payload of one request (R424). -/
def maxRequest : Nat := 4096
@[inherit_doc maxRequest] def maxPayload : Nat := 512

/-- The answer of a request at a port or from the fabric, with its completion. -/
def State.answers (s : State) (c : Completion) (bs : Option (List Byte)) : State := { s with answer := bs, completion := c }

/-- A request that the access tables refuse completes with an error and is counted (R463, R497). -/
def State.refusesPort (s : State) : State := (s.bump 0 0x78).answers .error none

/-- Where the windows of a port begin among the addresses of host requests (R424, R425; log 94): BAR0 at 0, BAR2 behind it, and its
configuration space. -/
def barBase : Nat := 2 ^ 41
@[inherit_doc barBase] def configBase : Nat := 2 ^ 42

/-- A host read of `n` bytes (R425): its bytes, or none for an error. A request above the port's limit is not supported, nor one that lies
in no window of the port (R424). The completion leaves through the port's egress (R464). -/
def State.hostRead (s : State) (port : Fin 2) (pa n : Nat) : State :=
  if n = 0 ∨ maxRequest < n then s.answers .unsupported none
  else if configBase ≤ pa ∧ pa + n ≤ configBase + 4096 then
    s.answers .done (some ((List.range n).map fun k => Config.configByte port.val (pa - configBase + k)))
  else if barBase ≤ pa ∧ pa + n ≤ barBase + 65536 then
    s.answers .done (some ((List.range n).map fun k => s.barByte port.val (pa - barBase + k)))
  else if barBase < pa + n then s.answers .unsupported none
  else if s.targetOf pa = none ∨ s.targetOf (pa + n - 1) = none then s.answers .error none
  else if !s.portPermits (portMid port) pa n .r || !s.permits (some (80 + port.val)) (portMid port) .w then s.refusesPort
  else match s.badByte pa n with
    | some k => (s.bump (Fin.ofNat 8 ((s.bankOf (pa + k)).elim 0 fun b => b.1 / 64)) 0x48).answers .abort none
    | none => s.answers .done (some (s.peekN pa n))
@[inherit_doc State.hostRead] def execHostRead (port : Fin 2) (pa n : Nat) (s : State) : Out := .next (s.hostRead port pa n)

/-- A write that comes in through a port (R323, R425, R473): refused whole, or performed; an answer without bytes says which. -/
def State.ingressWrite (s : State) (mid : Nat) (who : Writer) (pa : Nat) (bs : List Byte) : State :=
  let n := bs.length
  if n = 0 ∨ s.targetOf pa = none ∨ s.targetOf (pa + n - 1) = none then s.answers .error none
  else if !s.portPermits mid pa n .w then s.refusesPort
  else if (List.range n).any fun k => s.frozen (pa + k) then s.answers .error none
  else
    let s := if pa < 0xB8000 then s.storeWords who (n / 8 + 2) pa bs else s.perform pa bs
    (s.healed pa n).answers .done (some [])

/-- HOST_WRITE (R425): words of the device's own are guarded (R428, R429, R480, R497). A payload above the port's limit is not supported,
nor a request that lies in no window of the port; a write to configuration space has no effect that the manual states (R424; log 94). -/
def execHostWrite (port : Fin 2) (pa : Nat) (bytes : List Byte) (s : State) : Out :=
  .next (if maxPayload < bytes.length then s.answers .unsupported none
    else if configBase ≤ pa ∧ pa + bytes.length ≤ configBase + 4096 then s.answers .done (some [])
    else if barBase ≤ pa ∧ pa + bytes.length ≤ barBase + 65536 then (s.writeBar port.val (pa - barBase) bytes).answers .done (some [])
    else if barBase < pa + bytes.length then s.answers .unsupported none
    else s.ingressWrite (portMid port) .host pa bytes)

/-- A load from another module, naturally aligned and of up to 64 bytes (R493); bytes of a bad sector give a data error (R494). -/
def State.peerLoad (s : State) (pa n : Nat) (live : Bool) : State :=
  if !([1, 2, 4, 8, 16, 32, 64].contains n && pa % n == 0) then s.answers .unsupported none
  else if s.targetOf pa = none ∨ live = false then s.answers .error none
  else if !s.portPermits 0x1206 pa n .r then s.refusesPort
  else if (s.badByte pa n).isSome then s.answers .abort none
  else s.answers .done (some (s.peekN pa n))

/-- The memory type of a location, as what its region accepts (R477, R490). -/
def State.typeOf (s : State) (pa : Nat) : MemTy :=
  match s.region pa with | .quarter _ => .quarter | .pool => .pool | _ => .normal

/-- An atomic of another module on an operand of `n` bytes, indivisible here (R493, R494): its answer is the old operand, or for an FX128
add the class of the new cell (R192). -/
def State.peerAtomic (s : State) (pa n : Nat) (f : AmoOp) (x c : Nat) : State :=
  let size := f.cell n
  if !([1, 2, 4, 8].contains n && pa % size == 0 && f.accepted n (.mem pa (s.typeOf pa))) then s.answers .unsupported none
  else if s.targetOf pa = none then s.answers .error none
  else if !s.portPermits 0x1206 pa size .a then s.refusesPort
  else if (List.range size).any fun k => s.frozen (pa + k) then s.answers .error none
  else if (s.badByte pa size).isSome then s.answers .abort none
  else
    let old := s.peekNat pa size
    let new := f.apply n old x c
    let t := match new with
      | some v => s.putBytes .other pa (leBytes size v)
      | none => s
    t.answers .done (some (if size = n then leBytes n old else leBytes 8 (fxClass (new.getD old))))

/-- PEER_REQUEST: another module's request is checked as fabric ingress and served (R493, R494). One that names a sealed version is
served if it is a load and a live seal of that version covers its bytes (R325). -/
def execPeerRequest (pa n : Nat) (op : PeerOp) (version : Option Nat) (s : State) : Out :=
  .next (match op, version with
    | .load, none => s.peerLoad pa n true
    | .load, some v => s.peerLoad pa n (s.seals.any fun l => l.version == v && decide (l.base ≤ pa ∧ pa + n ≤ l.base + l.len))
    | .store bs, none => s.ingressWrite 0x1206 .other pa bs
    | .atomic f x c, none => s.peerAtomic pa n f x c
    | .store _, some _ | .atomic _ _ _, some _ => s.answers .error none)

/-- FLIT_RETRANSMIT (R492, R497). -/
def execFlitRetransmit (_port : Fin 18) (s : State) : Out := .next (s.bump 0 0x80)

/-- PORT_RETRAIN_FAIL: the port leaves the route set (R492, R497). -/
def execPortRetrainFail (port : Fin 18) (s : State) : Out :=
  .next (if s.portsDown.contains port.val then s else { (s.bump 0 0x88) with portsDown := s.portsDown ++ [port.val] })

/-- A Lamplighter as firmware starts it (R446, R470). It rests: what its firmware does comes in as rows (log 25, 26). -/
def lamplighter (d : Fin 8) : Hart :=
  { Hart.reset with st := .waiting, pc := evenPc (BitVec.ofNat 56 (Config.firmwareEntry d.val)), priv := true,
                    vs := { Hart.reset.vs with cfg := { VCfg.reset with ill := true } } }

/-- Slot 7 of every core of a die with its Lamplighter, and every other slot EMPTY. -/
def State.startLamplighters (s : State) (d : Fin 8) : State :=
  (List.finRange 192).foldl (fun s k => s.setHart { die := d, core := k, slot := 7 } (lamplighter d)) s

/-- MAPOUT of a module core as repair leaves it (R504): a quartet with a retired column is mapped out. -/
def repaired (d k : Nat) : Nat :=
  let w := Config.mapout d k
  let retired := fun q => Config.retired d k q % 8192
  let usable := ((List.range 8).map fun q => boolN (bitAt w q && retired q == 0) * 2 ^ q).sum
  w / 2 ^ 16 % 2 ^ 32 * 2 ^ 16 + usable + ((List.range 8).map retired).sum * 2 ^ 48

/-- A module core after repair (R504). -/
def State.repairCore (s : State) (d : Fin 8) (k : Fin 192) : State :=
  let w := repaired d.val k.val
  (s.setCore { die := d, core := k } { Core.reset with usable := BitVec.ofNat 8 w }).pokeNat
    (fleetBlock d.val + 0x400 + 8 * k.val) 8 w

/-- Repair of a die (R504): its cores, and the mapped-out banks of its channels. -/
def State.repair (s : State) (d : Fin 8) : State :=
  let s := (List.finRange 192).foldl (fun s k => s.repairCore d k) s
  (List.range 64).foldl (fun s k =>
    let out := Config.bankout (64 * d.val + k) % 2 ^ 32
    ({ s with bankout := Map.set 0 s.bankout (64 * d.val + k) out }).pokeNat (fleetBlock d.val + 0xA00 + 4 * k) 4 out) s

/-- QCFG of a die (R480). -/
def State.qcfg (s : State) (d : Nat) : Nat :=
  s.quarterCount (2 * d) + s.quarterCount (2 * d + 1) * 2 ^ 5 + s.mDie d * 2 ^ 10 + s.mStack (2 * d) * 2 ^ 16
    + s.mStack (2 * d + 1) * 2 ^ 22

/-- The capability records of R422: ID and payload. -/
def State.capabilities (s : State) : List (Nat × List Byte) :=
  let quarters := ((List.range 16).map fun st => boolN (s.quarterCount st != 0) * 2 ^ st).sum
  [(0x10, leBytes 8 quarters)] ++ (if s.bootEpoch = 65535 then [] else [(0x11, [])])
    ++ [(0x12, leBytes 8 0x3F), (0x13, leBytes 8 0xA520601F0FAF0F2F), (0x14, []), (0x20, []), (0x21, []), (0x22, []), (0x30, [])]

/-- The capability list as bytes, from its virtual address on (R421). -/
def capBytes : Nat → List (Nat × List Byte) → List Byte
  | _, [] => []
  | va, (id, bs) :: l =>
    let size := 16 + bs.length
    leBytes 8 (if l = [] then 0 else va + size) ++ leBytes 4 id ++ leBytes 2 0x100 ++ leBytes 2 size ++ bs ++ capBytes (va + size) l

/-- Firmware writes the capability list of a die (R421, R470). -/
def State.writeCaps (s : State) (d : Fin 8) : State := s.pokeN (capPa d.val) (capBytes (capVa d.val) s.capabilities)

/-- Words of a die that firmware sets at boot: SLICE, at its default (log 115), PCAPREQ, CLKMHZ, QCFG, the capability list (R422, R429,
R480, R497). -/
def State.bootDie (s : State) (d : Fin 8) : State :=
  let s := s.setDie d { Die.reset with capbase := BitVec.ofNat 56 (capVa d.val) }
  let s := (((s.pokeNat (headerWord d.val 256) 8 2000000).pokeNat (fleetBlock d.val + 8) 8 540).pokeNat (fleetBlock d.val + 0x28) 8 2000)
  let s := s.pokeNat (controlBlock d.val) 8 (s.qcfg d.val)
  (s.writeCaps d).startLamplighters d

/-- The dies whose ROM finds the firmware image good (R470 step 1). -/
def bootable : List (Fin 8) := (List.finRange 8).filter fun d => Config.firmwareVerifies d.val

/-- The module before any die boots: every die whose firmware does not verify has halted, and CYCLE counts from 0 (R209, R470 step 1). -/
def State.powered (s : State) : State :=
  { State.reset with
    agenda := s.agenda, focus := s.focus, fresh := s.fresh, stalled := s.stalled, cur := s.cur, acc := s.acc,
    mem := s.mem.filter fun (a, _) => decide ((bootable = [] ∨ 2 ^ 24 ≤ a) ∧ a < 2 ^ 48), poison := s.poison, booted := true,
    bootEpoch := s.bootEpoch,
    quarters := (List.range 16).foldl (fun m st =>
      if (bootable.map (·.val)).contains (st / 2) then Map.set 0 m st ([0, 4, 8, 16].getD (Config.bootQuarters st).val 0) else m) [],
    dies := (List.finRange 8).foldl (fun m d =>
      if bootable.contains d then m else Map.set Die.reset m d.val { Die.reset with halted := true }) [] }

/-- COLD_BOOT (R470): every die whose firmware verifies is repaired, set up and started; with the first of them the epoch advances and
the fixed regions are zeroed; the access tables are those of the stored updates (R466). On a die that fails, no later step runs. T0 of
each bank set is the cycle of the boot, 0 (R485). -/
def State.coldBoot (s : State) : State :=
  let epoch := min (s.bootEpoch + 1) 65535
  if bootable = [] then s.powered
  else
    let t := bootable.foldl (fun t d => t.repair d) { s.powered with bootEpoch := epoch }
    let t := bootable.foldl (fun t d => t.bootDie d) t
    let t := (t.pokeNat 0 8 0x534B5258424F4F54).pokeNat 16 8 epoch
    if bootable.length = 8 then t.pokeNat 8 8 1 else t
@[inherit_doc State.coldBoot] def execColdBoot (s : State) : Out := .next s.coldBoot

/-- PCAP_APPLY: firmware copies PCAPREQ into LIMITS.PCAP, limited to PFUSE (R469, R497). -/
def execPcapApply (die : Fin 8) (s : State) : Out :=
  .next (s.setDie die { s.die die with pcap := BitVec.ofNat 16 (min (s.peekNat (fleetBlock die.val + 8) 8) 540) })

/-- The clock a temperature allows (R507). -/
def thermalClock (t : Nat) : Nat := if t ≤ 95 then 2000 else if 105 ≤ t then 1000 else 2000 - (t - 95) * 100

/-- The clock of a die (R404, R468, R507): the lowest that a window's use, the power cap and the temperatures ask for. The use's is rounded
down to a whole MHz (log 24). -/
def State.clock (s : State) (d : Fin 8) (laneSteps crucible : Nat) : Nat :=
  let steps := 192 * 65536 * 4096
  let cru := 192 * 4096
  let m := min (laneSteps * cru) (crucible * steps)
  let use := (2000 * (100 * steps * cru) - 2000 * 12 * m) / (100 * steps * cru)
  let f := fleetBlock d.val
  min (min use (Config.capClock (s.die d).pcap.toNat laneSteps crucible))
    (min (thermalClock (s.peekNat (f + 0x18) 8)) (thermalClock (s.peekNat (f + 0x20) 8)))

/-- The picoseconds that an emergency has lasted at a cycle, while the die's clock has stayed as it is (R209, R507). -/
def Die.emergencyTime (x : Die) (now : Nat) : Option Nat :=
  x.emergency.map fun (since, before) => before + (now - since) * 1000000 / max 1 x.clkMHz

/-- Sets the clock of a die, and shows it (R497). -/
def State.setClock (s : State) (d : Fin 8) (mhz : Nat) : State :=
  let x := s.die d
  (s.setDie d { x with clkMHz := mhz, emergency := (x.emergencyTime s.cycle).map fun t => (s.cycle, t) }).pokeNat (fleetBlock d.val + 0x28) 8 mhz

/-- GOVERNOR_WINDOW: a window of 4,096 cycles has ended (R404, R468); cycles below 2,000 MHz are counted, and the power the governor
holds is at most the cap (R497, R506). -/
def execGovernorWindow (die : Fin 8) (laneSteps crucible : Nat) (s : State) : Out :=
  let f := fleetBlock die.val
  let slow := if (s.die die).clkMHz < 2000 then 4096 else 0
  let s := s.pokeNat (f + 0x30) 8 (min (s.peekNat (f + 0x30) 8 + slow) (2 ^ 64 - 1))
  let s := s.pokeNat (f + 0x10) 8 (min (Config.power die.val s.fresh) (s.die die).pcap.toNat)
  let s := (dieChannels die.val).foldl (fun s ch =>
    if (s.channel ch).resting && (s.channel ch).state = 0 && Config.rests ch s.fresh then s.deviceRequest ch 1 false else s) s
  .next (s.setClock die (s.clock die laneSteps crucible))

/-- The die halts with MCLOG KIND 2 (R503, R507). -/
def State.thermalHalt (s : State) (d : Fin 8) : State :=
  if (s.die d).halted then s else (s.mclog d 2 0 0).setDie d { (s.mclog d 2 0 0).die d with halted := true, emergency := none }

/-- The temperature of the stacks begins, continues or ends a thermal emergency (R507): with one, the die's channels enter SREF as a
forced request makes them (R488). -/
def State.setEmergency (s : State) (d : Fin 8) (on : Bool) : State :=
  let x := s.die d
  if !on then s.setDie d { x with emergency := none }
  else if x.emergency.isSome then s
  else (dieChannels d.val).foldl (fun s ch => s.deviceRequest ch 2 true) (s.setDie d { x with emergency := some (s.cycle, 0) })

/-- THERMAL_EMERGENCY: new temperatures of a die (R507): above 105 degrees in the stacks its channels enter SREF, above 110 on
the die it halts. -/
def execThermalEmergency (die : Fin 8) (tempC tempM : Nat) (s : State) : Out :=
  let f := fleetBlock die.val
  let s := (s.pokeNat (f + 0x18) 8 tempC).pokeNat (f + 0x20) 8 tempM
  let s := (s.setClock die (min (s.die die).clkMHz (min (thermalClock tempC) (thermalClock tempM)))).setEmergency die (decide (105 < tempM))
  .next (if 110 < tempC then s.thermalHalt die else s)

/-- THERMAL_EMERGENCY_EXPIRY: an emergency has lasted 1 s by the die's clock as it was, and the die halts (R209, R507). -/
def execThermalEmergencyExpiry (die : Fin 8) (s : State) : Out :=
  .next (if ((s.die die).emergencyTime s.cycle).any fun t => decide (10 ^ 12 ≤ t) then s.thermalHalt die else s)

/-- The harts that launches have on a die, and whether some gang is not yet outside its slots. -/
def State.gangsOut (s : State) : Bool :=
  s.dies.all fun (_, d) => d.suspends.isEmpty && d.gangs.all fun g => g.st = .suspended

/-- The point of a checkpoint is due: one was asked for, the journal is full (R440), or INTERVAL has passed since the last (R505).
1 ms is 2,000,000 cycles. -/
def State.pointDue (s : State) : Bool :=
  let i := s.peekNat (fleetBlock 0) 4
  let last := ((s.ckpt.map (·.cycle)).getD 0)
  s.booted && s.bootState == 1 && s.ckDrain.isNone &&
    (s.ckPending || (List.finRange 8).any s.journalFull || (i != 0 && decide (last + i * 2000000 ≤ s.cycle)))

/-- CHECKPOINT_POINT: running gangs are suspended; once all are, the point is recorded and the drain begins (R439). The gangs
then return through the queue. -/
def State.checkpointPoint (s : State) : State :=
  if !s.pointDue then s
  else if !s.gangsOut then
    let s := { s with ckPending := true }
    s.dies.foldl (fun s (k, d) => d.gangs.foldl (fun s g =>
      if g.st = .running ∨ g.st = .placing then s.dispatcherSuspend (Fin.ofNat 8 k) g.gangId else s) s) s
  else
    let w := s.peekNat (fleetBlock 0) 4
    let s := ({ s with ckPending := false }).pokeNat (fleetBlock 0) 8 (w + 2 ^ 33)
    { s with ckDrain := some { mem := s.mem, seals := s.seals, harts := s.harts, dies := s.dies,
                               journal := s.journal, cycle := s.cycle } }
@[inherit_doc State.checkpointPoint] def execCheckpointPoint (s : State) : Out := .next s.checkpointPoint

/-- A journaled write is released: it performs, where the tables let the journal write there, or for an atomic make one (R440, R463). -/
def State.release (s : State) (j : JournalEntry) : State :=
  let w := j.write
  let target := match w.module with | some _ => some 84 | none => s.targetOf w.pa
  if !s.permits target 0x1202 (if w.amo.isSome then .a else .w) then s.bump j.die 0x78
  else
    match w.module with
    | some _ => s
    | none => s.perform w.pa (s.newBytes w)

/-- The drain engine may read all memory of the module and write to the safe tier over the fabric (R439, R463; log 98). -/
def State.drains (s : State) : Bool :=
  s.permits (some 84) 0x1200 .w && (s.acc.windows.all fun p => s.permits (some p.1) 0x1200 .r) &&
    (List.range 16).all fun st => s.quarterCount st == 0 || s.permits (some (64 + st)) 0x1200 .r

/-- CHECKPOINT_DRAIN_COMPLETE: CKSEQ, CKCYCLE and SAFESEQ are set, the mirror is cut at the point, and the journal of the point
is released in order (R439, R440). A drain that the access tables refuse is counted and ends without a checkpoint (log 98). -/
def State.drainComplete (s : State) : State :=
  match s.ckDrain with
  | none => s
  | some c =>
    if !s.drains then (({ s with ckDrain := none }).pokeNat (fleetBlock 0) 8 (s.peekNat (fleetBlock 0) 8 % 2 ^ 33)).bump 0 0x78 else
    let s := { s with ckDrain := none, ckpt := some c, journal := s.journal.drop c.journal.length,
                      mirror := s.mirror.filter fun (d, t) => decide ((Map.get Die.reset c.dies d.val).accseq < t.seq) }
    let s := (s.pokeNat 32 8 (s.peekNat 32 8 + 1)).pokeNat 40 8 c.cycle
    let s := c.dies.foldl (fun s (k, d) => s.pokeNat (headerWord k 192) 8 d.doneseq) s
    let s := s.pokeNat (fleetBlock 0) 8 (s.peekNat (fleetBlock 0) 8 % 2 ^ 33)
    c.journal.foldl (fun s j => s.release j) s
@[inherit_doc State.drainComplete] def execCheckpointDrainComplete (s : State) : Out := .next s.drainComplete

/-- Words that keep their value across a recovery: the boot block, TAIL is set anew, the memory control and fleet blocks (R428,
R497). -/
def keptWord (a : Nat) : Bool := decide (a < 0x1000) || decide (0xA0000 ≤ a ∧ a < 0xB8000)

/-- A launch of the mirror as recovery queues it again (R439). -/
def Launch.anew (l : Launch) : Launch :=
  { l with next := 0, gangsDone := 0, doneAt := none, verified := [], written := [], fault := none, rerun := true }

/-- One record of the mirror, accepted after the point (R439). -/
def State.remirror (s : State) (p : Fin 8 × Taken) : State :=
  let (d, t) := p
  let x := s.die d
  if t.seq ≤ x.accseq then s
  else
    let s := s.setDie d { x with accseq := t.seq }
    match t.launch with
    | some l => s.enqueue d { l.anew with space := BitVec.ofNat 64 (l.space.toNat % 2 ^ 48 + (s.die d).freeAsid * 2 ^ 48) } t.args
    | none => (s.reportNone t).complete d t.seq (t.status + t.code * 2 ^ 8 + 2 ^ 27) t.tval 0

/-- A die as a recovery leaves it: its launches and gangs are those of the point. -/
def Die.recovered (x point : Die) : Die :=
  { Die.reset with
    capbase := x.capbase, pcap := x.pcap, clkMHz := x.clkMHz, arming := x.arming,
    launches := point.launches.map fun l => { l with verified := [] },
    gangs := point.gangs, parked := point.parked, accseq := point.accseq, doneseq := point.doneseq, doneset := point.doneset }

/-- POOL memory lies outside the device: a recovery leaves it as it is (R440, R441). -/
def poolLoc (a : Nat) : Bool := decide (2 ^ 47 ≤ a ∧ a < 2 ^ 48)

/-- The reset of a recovery (R439): STATE := 2, and nothing of what ran is left. CKCTL keeps its INTERVAL, with no drain and no request
(R505); an update that has been applied is still answered (R465). -/
def State.beginRecovery (s : State) : State :=
  let t : State := { s with
    harts := [], leases := [], journal := [], ckDrain := none, ckPending := false, pairs := [],
    upd := s.upd.map fun u => { u with inFlight := [], posted := [] },
    cores := s.cores.map fun (k, c) => (k, { Core.reset with usable := c.usable }),
    dies := s.dies.map fun (k, x) => (k, x.recovered Die.reset) }
  (t.pokeNat 8 8 2).pokeNat (fleetBlock 0) 8 (s.peekNat (fleetBlock 0) 4)

/-- Memory as a recovery restores it (R439): that of the checkpoint, but for the words that keep their value, and POOL. -/
def State.restoredMemory (s : State) (point : List Host.Cell) : List Host.Cell :=
  let kept := s.mem.filter fun (a, _) => keptWord a
  let back := fun (lo hi : Nat) => point.filter fun (a, _) => !keptWord a && decide (lo ≤ a ∧ a < hi)
  (kept.filter fun (a, _) => decide (a < 0x1000)) ++ back 0x1000 0xA0000 ++ (kept.filter fun (a, _) => decide (0x1000 ≤ a))
    ++ back 0xB8000 (2 ^ 47) ++ (s.mem.filter fun (a, _) => poolLoc a) ++ point.filter fun (a, _) => decide (2 ^ 48 ≤ a)

/-- The words of a die's log header after a recovery (R429, R439): TAIL and ACCSEQ, DONESEQ, SAFESEQ of the checkpoint restored,
and SLICE. -/
def State.recoverHeader (s : State) (point : Die) (d : Fin 8) : State :=
  let x := s.die d
  let slice := s.peekNat (headerWord d.val 256) 8
  ((((s.pokeNat (headerWord d.val 0) 8 x.accseq).pokeNat (headerWord d.val 64) 8 x.accseq).pokeNat (headerWord d.val 128) 8 x.doneseq).pokeNat
    (headerWord d.val 192) 8 point.doneseq).pokeNat (headerWord d.val 256) 8 (if slice = 0 then 2000000 else slice)

/-- The restore of a recovery (R439): the last completed checkpoint, and every launch of the mirror behind it; the device then holds
for GO. Where no checkpoint has completed, the point is the boot. A die whose firmware does not verify stays halted (R470). -/
def State.endRecovery (s : State) : State :=
  let (mem, seals, dies) := match s.ckpt with
    | some c => (c.mem, c.seals, c.dies)
    | none => ([], [], [])
  let point := fun (d : Fin 8) => Map.get Die.reset dies d.val
  let t : State := { s with
    mem := s.restoredMemory mem, seals := seals, mirror := [],
    dies := (List.finRange 8).foldl (fun m d => Map.set Die.reset m d.val
      (if Config.firmwareVerifies d.val then (s.die d).recovered (point d) else { Die.reset with halted := true })) [] }
  let t := if s.ckpt.isSome then t else bootable.foldl (fun t d => t.writeCaps d) t
  let t := bootable.foldl (fun t d => t.startLamplighters d) t
  let t := s.mirror.foldl (fun t p => t.remirror p) t
  let t := { t with mirror := s.mirror }
  let t := (List.finRange 8).foldl (fun t d => t.recoverHeader (point d) d) t
  let t := ((t.pokeNat 24 8 (s.peekNat 24 8 + 1)).pokeNat 64 8 0).pokeNat 8 8 3
  t.raiseVector 8

/-- RECOVERY (R439): a booted module is reset, with STATE 2, and from STATE 2 it is restored. -/
def State.recover (s : State) : State :=
  if !s.booted then s else if s.bootState = 2 then s.endRecovery else s.beginRecovery
@[inherit_doc State.recover] def execRecovery (s : State) : Out := .next s.recover

/-- LOCKSTEP_MISMATCH: a pair rolls back (R500, R501). -/
def execLockstepMismatch (h : HartId) (s : State) : Out := .next (s.rollBack h)

/-- ROLLBACK_RESUME: the pair goes on 64 cycles after its rollback (R500). -/
def execRollbackResume (h : HartId) (s : State) : Out :=
  .next { s with pairs := s.pairs.map fun q =>
    if q.1 == hartKey h && q.2.resumeAt.any (fun t => decide (t ≤ s.cycle)) then (q.1, { q.2 with resumeAt := none }) else q }

end Sys2Proof.Machine
end

