-- ==== Sys2Proof/Machine/ScalarFloat.lean ====
section
/-! DEFINITION. Scalar floating point (spec/07_scalar_instructions.md R196-R199). -/

namespace Sys2Proof.Machine

/-- xd := the zero-extended result of an operation on xa and xb with its flags (R196, R199). -/
def State.float2 (s : State) (d a b : Fin 32) (f : Fmt) (r : Rnd) (op : Fmt → Rnd → Word → Word → Nat × Flags) : State :=
  let (p, fl) := op f r (s.getX a) (s.getX b)
  s.writeFloat d (floatWord p) fl
@[inherit_doc State.float2] def State.float1 (s : State) (d a : Fin 32) (op : Word → Nat × Flags) : State :=
  let (p, fl) := op (s.getX a)
  s.writeFloat d (floatWord p) fl

/-- xd := a fused operation on xa, xb and xc, rounded by FRM.RM (R198). -/
def State.float3 (s : State) (d a b c : Fin 32) (f : Fmt) (op : Fmt → Rnd → FVal → FVal → FVal → Nat × Flags) : State :=
  let (p, fl) := op f (s.h.rnd 7) (f.ofWord (s.getX a)) (f.ofWord (s.getX b)) (f.ofWord (s.getX c))
  s.writeFloat d (floatWord p) fl

/-- The IT codes (R197): 0 l, 1 lu, 2 w, 3 wu. -/
def intSigned (ty : BitVec 5) : Bool := !ty.getLsbD 0
@[inherit_doc intSigned] def intWidth (ty : BitVec 5) : Nat := if ty.getLsbD 1 then 32 else 64

/-- An integer result as it is written: a w result sign-extended, a wu result zero-extended (R197). -/
def intWord (ty : BitVec 5) (p : Nat) : Nat := if ty = 2 then pat 64 (sext p 32) else p

/-- The integer source of a conversion (R197). -/
def intOf (ty : BitVec 5) (a : Word) : Int :=
  if intSigned ty then sext a.toNat (intWidth ty) else zext a.toNat (intWidth ty)

/-- The value of a source in format SF, read from the low bits of xa (R197). -/
def sourceValue (ty : BitVec 5) (a : Word) : FVal :=
  match Fmt.ofCode ty.toNat with
  | some f => f.ofWord a
  | none => .nan false

/-- fadd: xd := xa + xb, rounded once by RM to FMT (R197). -/
def execFadd (d a b : Fin 32) (fmt : BitVec 2) (rm : BitVec 3) (s : State) : Out :=
  .next (s.float2 d a b (Fmt.ofScalar fmt) (s.h.rnd rm) (fun f r a b => f.sum r (f.ofWord a) (f.ofWord b)))

/-- fsub: xd := xa - xb, rounded once by RM to FMT (R197). -/
def execFsub (d a b : Fin 32) (fmt : BitVec 2) (rm : BitVec 3) (s : State) : Out :=
  .next (s.float2 d a b (Fmt.ofScalar fmt) (s.h.rnd rm) (fun f r a b => f.sum r (f.ofWord a) (f.ofWord b).neg))

/-- fmul: xd := xa x xb, rounded once by RM to FMT (R197). -/
def execFmul (d a b : Fin 32) (fmt : BitVec 2) (rm : BitVec 3) (s : State) : Out :=
  .next (s.float2 d a b (Fmt.ofScalar fmt) (s.h.rnd rm) (fun f r a b => f.product r (f.ofWord a) (f.ofWord b)))

/-- fdiv: xd := xa / xb, rounded once by RM to FMT (R197). -/
def execFdiv (d a b : Fin 32) (fmt : BitVec 2) (rm : BitVec 3) (s : State) : Out :=
  .next (s.float2 d a b (Fmt.ofScalar fmt) (s.h.rnd rm) (fun f r a b => f.quotient r (f.ofWord a) (f.ofWord b)))

/-- fsqrt: xd := the square root of xa, rounded once (R197). -/
def execFsqrt (d a : Fin 32) (fmt : BitVec 2) (rm : BitVec 3) (s : State) : Out :=
  .next (s.float1 d a (fun a => (Fmt.ofScalar fmt).root (s.h.rnd rm) ((Fmt.ofScalar fmt).ofWord a)))

/-- fmin: xd := minimumNumber of xa and xb (R197). -/
def execFmin (d a b : Fin 32) (fmt : BitVec 2) (s : State) : Out :=
  .next (s.float2 d a b (Fmt.ofScalar fmt) .rne (fun f _ a b => f.minimum a.toNat b.toNat))

/-- fmax: xd := maximumNumber of xa and xb (R197). -/
def execFmax (d a b : Fin 32) (fmt : BitVec 2) (s : State) : Out :=
  .next (s.float2 d a b (Fmt.ofScalar fmt) .rne (fun f _ a b => f.maximum a.toNat b.toNat))

/-- feq: xd := 1 if equal, else 0; NV only for a signalling NaN (R197). -/
def execFeq (d a b : Fin 32) (fmt : BitVec 2) (s : State) : Out :=
  .next (s.float2 d a b (Fmt.ofScalar fmt) .rne fun f _ a b =>
    let x := f.ofWord a
    let y := f.ofWord b
    (boolN (x.eq y), Flags.nvIf (x.signals || y.signals)))

/-- flt: xd := 1 if xa < xb, else 0; NV for any NaN (R197). -/
def execFlt (d a b : Fin 32) (fmt : BitVec 2) (s : State) : Out :=
  .next (s.float2 d a b (Fmt.ofScalar fmt) .rne fun f _ a b =>
    let x := f.ofWord a
    let y := f.ofWord b
    (boolN (x.lt y), Flags.nvIf (x.isNaN || y.isNaN)))

/-- fle: xd := 1 if xa <= xb, else 0; NV for any NaN (R197). -/
def execFle (d a b : Fin 32) (fmt : BitVec 2) (s : State) : Out :=
  .next (s.float2 d a b (Fmt.ofScalar fmt) .rne fun f _ a b =>
    let x := f.ofWord a
    let y := f.ofWord b
    (boolN (x.lt y || x.eq y), Flags.nvIf (x.isNaN || y.isNaN)))

/-- fclass: xd := the class bit of xa (R197). -/
def execFclass (d a : Fin 32) (fmt : BitVec 2) (s : State) : Out :=
  .next (s.write 4 d (floatWord ((Fmt.ofScalar fmt).classify (s.getX a).toNat)))

/-- fcvt.it.fmt: xd := the integer of type IT that xa converts to (R105, R197). -/
def execFcvtItFmt (d a : Fin 32) (ty : BitVec 5) (fmt : BitVec 2) (rm : BitVec 3) (s : State) : Out :=
  .next (s.float1 d a fun a =>
    let r := toInteger (s.h.rnd rm) (intSigned ty) (intWidth ty) ((Fmt.ofScalar fmt).ofWord a)
    (intWord ty r.1, r.2))

/-- fcvt.fmt.it: xd := the integer xa of type IT converted to FMT (R105, R197). -/
def execFcvtFmtIt (d a : Fin 32) (ty : BitVec 5) (fmt : BitVec 2) (rm : BitVec 3) (s : State) : Out :=
  .next (s.float1 d a (fun a => (Fmt.ofScalar fmt).roundInt (s.h.rnd rm) (intOf ty a) 0))

/-- fcvt.fmt.sf: xd := xa converted from source format SF to FMT (R197). -/
def execFcvtFmtSf (d a : Fin 32) (ty : BitVec 5) (fmt : BitVec 2) (rm : BitVec 3) (s : State) : Out :=
  .next (s.float1 d a (fun a => (Fmt.ofScalar fmt).convert (s.h.rnd rm) (sourceValue ty a)))

/-- fmadd: xd := xa x xb + xc, rounded once by FRM.RM to FMT (R198). -/
def execFmadd (d a b c : Fin 32) (fmt : BitVec 2) (s : State) : Out :=
  .next (s.float3 d a b c (Fmt.ofScalar fmt) (fun f r x y z => f.fused r x y z))

/-- fmsub: xd := xa x xb - xc, rounded once by FRM.RM to FMT (R198). -/
def execFmsub (d a b c : Fin 32) (fmt : BitVec 2) (s : State) : Out :=
  .next (s.float3 d a b c (Fmt.ofScalar fmt) (fun f r x y z => f.fused r x y z.neg))

/-- fnmsub: xd := -(xa x xb) + xc, rounded once by FRM.RM to FMT (R198). -/
def execFnmsub (d a b c : Fin 32) (fmt : BitVec 2) (s : State) : Out :=
  .next (s.float3 d a b c (Fmt.ofScalar fmt) (fun f r x y z => f.fused r x.neg y z))

/-- fnmadd: xd := -(xa x xb) - xc, rounded once by FRM.RM to FMT (R198). -/
def execFnmadd (d a b c : Fin 32) (fmt : BitVec 2) (s : State) : Out :=
  .next (s.float3 d a b c (Fmt.ofScalar fmt) (fun f r x y z => f.fused r x.neg y z.neg))

end Sys2Proof.Machine
end

