-- ==== Sys2Proof/Machine/Sync.lean ====
section
/-! DEFINITION. Major SYNC (spec/07_scalar_instructions.md R200-R205): fences (R129), the monitor pair (R58), barriers (R60,
R61), claim (R56) and yield (R53), with the events that end their waits (R59, R61, R129). -/

namespace Sys2Proof.Machine

/-- An earlier read of a transfer has not returned. -/
def Hart.readsPending (h : Hart) : Bool :=
  h.ilock.any fun e =>
    match e.kind with
    | .copy | .copyAdd => decide (h.stm[e.stream].fetched < h.stm[e.stream].count)
    | .kerb | .tongs => true
    | _ => false

/-- A fence has still to wait (R129). -/
def State.fenceWaits (s : State) (i : HartId) (ord : BitVec 2) (sc : BitVec 3) : Bool :=
  if ord = 0 then !(s.hart i).ilock.isEmpty
  else (isAcquire ord && (s.hart i).readsPending) || (isRelease ord && s.releaseWaits i sc)

/-- An error of the hart's transfers or posted writes that its next fence reports (R271, R491). -/
def Hart.fails (h : Hart) : Bool := h.wfail.isSome || h.firstError.isSome

/-- A fence retires: a failed write or transfer is reported first (R271, R491), an acquire discards fetched-ahead strips
(R130). -/
def State.fenceDone (s : State) (ord : BitVec 2) : State :=
  match s.h.wfail, s.h.firstError with
  | some w, _ => s.takeWfail w
  | none, some e => s.trapHere e
  | none, none => ((s.setH { s.h with fence := none }).acquire (isAcquire ord)).retire 4

/-- fence: orders earlier events before later ones; it retires once its condition holds (R129, R201). -/
def execFence (sc : BitVec 3) (ord : BitVec 2) (s : State) : Out :=
  .next (if !s.h.fails && s.fenceWaits s.cur ord sc then s.setH { s.h with fence := some (ord, sc) }
         else s.fenceDone ord)

/-- FENCE_RETIRE: a fence that waits retires once its condition holds (R129). -/
def execFenceRetire (h : HartId) (s : State) : Out :=
  match (s.hart h).fence with
  | some (ord, sc) =>
    if (s.hart h).st = .running ∧ ((s.hart h).fails ∨ s.fenceWaits h ord sc = false) then
      .next { ({ s with cur := h } : State).fenceDone ord with cur := s.cur }
    else .next s
  | none => .next s

/-- A memory type whose words a monitor or a barrier wait can watch (R202, R203). -/
def Target.watchable (t : Target) : Option Nat :=
  match t with
  | .mem loc ty => if ty = .pool then none else some loc
  | _ => none

/-- mon: arms the monitor on the aligned doubleword at xa, translated and checked as a load (R58, R202). -/
def execMon (a : Fin 32) (s : State) : Out :=
  let va := s.getX a
  .next (if va.toNat % 8 ≠ 0 then s.trapHere (alignExc va .read)
         else s.onReply (s.translate s.cur va.toNat .read) fun t =>
           match t.watchable with
           | none => s.trapHere (accessExc (va.toNat % 2 ^ 56) .read)
           | some loc => (s.setH { s.h with mon := some { va := va, sector := loc / 64, hit := false, rearm := false } }).retire 4)

/-- mwait returns a reason: the monitor is disarmed; WRITE and REARM discard fetched-ahead strips (R58, R130). -/
def Hart.endMwait (h : Hart) (d : Fin 32) (reason : Word) : Hart :=
  let h := { h with st := .running, wait := none, mon := none }
  let h := if reason = 0 ∨ reason = 2 then h.discardAhead else h
  (h.setX d reason).retire 4

/-- mwait: returns at once where a reason holds, else the hart waits (R58). -/
def execMwait (d a : Fin 32) (s : State) : Out :=
  .next (s.setH (match s.h.mon with
    | none => s.h.endMwait d 3
    | some m =>
      if m.hit then s.h.endMwait d 0
      else if m.rearm then s.h.endMwait d 2
      else { s.h with st := .waiting, wait := some (.mwait d s.cycle (s.getX a)) }))

/-- MONITOR_WAKE: a write to the watched sector wakes the waiting hart with WRITE (R58, R59). -/
def execMonitorWake (h : HartId) (s : State) : Out :=
  match (s.hart h).wait, (s.hart h).mon with
  | some (.mwait d _ _), some m => .next (if m.hit then s.setHart h ((s.hart h).endMwait d 0) else s)
  | _, _ => .next s

/-- The wait's timeout has passed (R58). -/
def State.timedOut (s : State) (since : Nat) (timeout : Word) : Bool :=
  timeout != 0 && decide (since + timeout.toNat ≤ s.cycle)

/-- MWAIT_TIMEOUT: the timeout passes; a write in the same cycle is reported instead (R58). -/
def execMwaitTimeout (h : HartId) (s : State) : Out :=
  match (s.hart h).wait with
  | some (.mwait d since timeout) =>
    .next (if s.timedOut since timeout then
             s.setHart h ((s.hart h).endMwait d (if (s.hart h).mon.any (·.hit) then 0 else 1))
           else s)
  | _ => .next s

/-- bar.arrive: one arrival at the barrier word (R60); xd := the generation before it. POOL memory does not carry it
(R490). Its ordering is release or acq_rel, as bit 27 of the word says (R200). -/
def execBarArrive (d a : Fin 32) (sc : BitVec 3) (o : BitVec 1) (s : State) : Out :=
  .next (s.amo .arrive d a 0 0 sc (2 + o.setWidth 2) fun old _ => BitVec.ofNat 64 (old / 2 ^ 48))

/-- A barrier wait retires: its read is an acquire (R61, R130). -/
def Hart.endBarrier (h : Hart) : Hart := ({ h with st := .running, wait := none }).discardAhead.retire 4

/-- bar.wait: retires at once where the generation differs from xb[15:0], else the hart waits (R61, R203). -/
def execBarWait (a b : Fin 32) (_sc : BitVec 3) (s : State) : Out :=
  let va := s.getX a
  let gen := (s.getX b).setWidth 16
  .next (if va.toNat % 8 ≠ 0 then s.trapHere (alignExc va .read)
         else s.onReply (s.h.guard .read va.toNat 8 (s.translate s.cur va.toNat .read)) fun t =>
           match t.watchable with
           | none => s.trapHere (accessExc (va.toNat % 2 ^ 56) .read)
           | some loc => s.onReply (s.readPiece s.cur va.toNat .read (t, 8)) fun bs =>
               if leNat bs / 2 ^ 48 ≠ gen.toNat then s.setH s.h.endBarrier
               else s.setH { s.h with st := .waiting, wait := some (.barrier va loc gen false) })

/-- BARRIER_WAKE: a write has left another generation, and the waiting bar.wait retires (R61, R141). -/
def execBarrierWake (h : HartId) (s : State) : Out :=
  match (s.hart h).wait with
  | some (.barrier _ _ _ true) => .next (s.setHart h (s.hart h).endBarrier)
  | _ => .next s

/-- The operand count of a claim, capped (R56). -/
def claimWant (cap n : Nat) : Nat := if n = 0 then cap else min n cap

/-- claim: takes up to xb elements from the claim object at xa (R56, R204). -/
def execClaim (d a b : Fin 32) (sc : BitVec 3) (ord : BitVec 2) (s : State) : Out :=
  let va := s.getX a
  let size := 16
  .next (if !s.h.scalarOnly && s.h.vs.cfg.ill then s.illegal (encode (.claim d a b sc ord))
    else if va.toNat % size ≠ 0 then s.trapHere (alignExc va .rmw)
    else if isRelease ord && sc == 5 && s.h.wfail.isSome then s.takeWfail (s.h.wfail.getD 0)
    else if isRelease ord && s.releaseWaits s.cur sc then s.stall
    else s.onReply (s.h.guard .rmw va.toNat size (s.translate s.cur va.toNat .rmw)) fun t =>
      match t.watchable with
      | none => s.trapHere (accessExc (va.toNat % 2 ^ 56) .rmw)
      | some loc =>
        if s.h.postedOver none loc size then s.stall
        else s.onReply (s.readPiece s.cur va.toNat .rmw (t, size)) fun bs =>
          let old := leNat (bs.take 8)
          let limit := leNat (bs.drop 8)
          let cap := if s.h.scalarOnly then 65536 else s.h.vlmax
          let g := if limit ≤ old then 0 else min (claimWant cap (s.getX b).toNat) (limit - old)
          let s := if limit ≤ old then s else (s.putBytes (s.writer s.cur va.toNat) loc (leBytes 8 (old + g))).noteWrite s.cur va.toNat
          let s := s.setH { s.h with vs := { s.h.vs with vl := g, vstart := 0 } }
          (s.acquire (isAcquire ord)).write 4 d (BitVec.ofNat 64 old))

/-- yield: ends the hart's turn (R53, R205). -/
def execYield (s : State) : Out :=
  .next ((s.setH { s.h with credit := 0, age := 0, yielded := true }).retire 4)

end Sys2Proof.Machine
end

