-- ==== Sys2Proof/Machine/VecCmp.lean ====
section
/-! DEFINITION. Compares (spec/08_vector_arithmetic.md R243, R244).
Each instruction joins its convoy (R163). -/

namespace Sys2Proof.Machine

/-- vmseq.vv: compares equal into a mask, vector operand (R243). -/
def execVmseqVv (k : Bool) (m : Bool) (d : Fin 8) (a : Fin 64) (b : Fin 64) (s : State) : Out :=
  .next (s.vecWord k m (encKMDmAvBv 0xC3 k m d a b) (.cmp .eq d a (.v b)))

/-- vmseq.vx: compares equal, scalar operand (R243). -/
def execVmseqVx (k : Bool) (m : Bool) (d : Fin 8) (a : Fin 64) (b : Fin 32) (s : State) : Out :=
  .next (s.vecWord k m (encKMDmAvBx 0xC7 k m d a b) (.cmp .eq d a (.x b)))

/-- vmseq.vs: compares equal, stream operand (R243). -/
def execVmseqVs (k : Bool) (m : Bool) (d : Fin 8) (a : Fin 64) (st : Fin 16) (s : State) : Out :=
  .next (s.vecWord k m (encKMDmAvSt 0xCB k m d a st) (.cmp .eq d a (.st st)))

/-- vmseq.vi: compares equal, immediate operand (R243). -/
def execVmseqVi (k : Bool) (m : Bool) (d : Fin 8) (a : Fin 64) (i : BitVec 6) (s : State) : Out :=
  .next (s.vecWord k m (encKMDmAvI6 0xCF k m d a i) (.cmp .eq d a (.imm i)))

/-- vmsne.vv: compares not equal, vector operand (R243). -/
def execVmsneVv (k : Bool) (m : Bool) (d : Fin 8) (a : Fin 64) (b : Fin 64) (s : State) : Out :=
  .next (s.vecWord k m (encKMDmAvBv 0x100000C3 k m d a b) (.cmp .ne d a (.v b)))

/-- vmsne.vx: compares not equal, scalar operand (R243). -/
def execVmsneVx (k : Bool) (m : Bool) (d : Fin 8) (a : Fin 64) (b : Fin 32) (s : State) : Out :=
  .next (s.vecWord k m (encKMDmAvBx 0x100000C7 k m d a b) (.cmp .ne d a (.x b)))

/-- vmsne.vs: compares not equal, stream operand (R243). -/
def execVmsneVs (k : Bool) (m : Bool) (d : Fin 8) (a : Fin 64) (st : Fin 16) (s : State) : Out :=
  .next (s.vecWord k m (encKMDmAvSt 0x100000CB k m d a st) (.cmp .ne d a (.st st)))

/-- vmsne.vi: compares not equal, immediate operand (R243). -/
def execVmsneVi (k : Bool) (m : Bool) (d : Fin 8) (a : Fin 64) (i : BitVec 6) (s : State) : Out :=
  .next (s.vecWord k m (encKMDmAvI6 0x100000CF k m d a i) (.cmp .ne d a (.imm i)))

/-- vmslt.vv: signed less-than, vector operand (R243). -/
def execVmsltVv (k : Bool) (m : Bool) (d : Fin 8) (a : Fin 64) (b : Fin 64) (s : State) : Out :=
  .next (s.vecWord k m (encKMDmAvBv 0x200000C3 k m d a b) (.cmp .lt d a (.v b)))

/-- vmslt.vx: signed less-than, scalar operand (R243). -/
def execVmsltVx (k : Bool) (m : Bool) (d : Fin 8) (a : Fin 64) (b : Fin 32) (s : State) : Out :=
  .next (s.vecWord k m (encKMDmAvBx 0x200000C7 k m d a b) (.cmp .lt d a (.x b)))

/-- vmslt.vs: signed less-than, stream operand (R243). -/
def execVmsltVs (k : Bool) (m : Bool) (d : Fin 8) (a : Fin 64) (st : Fin 16) (s : State) : Out :=
  .next (s.vecWord k m (encKMDmAvSt 0x200000CB k m d a st) (.cmp .lt d a (.st st)))

/-- vmslt.vi: signed less-than, immediate operand (R243). -/
def execVmsltVi (k : Bool) (m : Bool) (d : Fin 8) (a : Fin 64) (i : BitVec 6) (s : State) : Out :=
  .next (s.vecWord k m (encKMDmAvI6 0x200000CF k m d a i) (.cmp .lt d a (.imm i)))

/-- vmsle.vv: signed less-or-equal, vector operand (R243). -/
def execVmsleVv (k : Bool) (m : Bool) (d : Fin 8) (a : Fin 64) (b : Fin 64) (s : State) : Out :=
  .next (s.vecWord k m (encKMDmAvBv 0x300000C3 k m d a b) (.cmp .le d a (.v b)))

/-- vmsle.vx: signed less-or-equal, scalar operand (R243). -/
def execVmsleVx (k : Bool) (m : Bool) (d : Fin 8) (a : Fin 64) (b : Fin 32) (s : State) : Out :=
  .next (s.vecWord k m (encKMDmAvBx 0x300000C7 k m d a b) (.cmp .le d a (.x b)))

/-- vmsle.vs: signed less-or-equal, stream operand (R243). -/
def execVmsleVs (k : Bool) (m : Bool) (d : Fin 8) (a : Fin 64) (st : Fin 16) (s : State) : Out :=
  .next (s.vecWord k m (encKMDmAvSt 0x300000CB k m d a st) (.cmp .le d a (.st st)))

/-- vmsle.vi: signed less-or-equal, immediate operand (R243). -/
def execVmsleVi (k : Bool) (m : Bool) (d : Fin 8) (a : Fin 64) (i : BitVec 6) (s : State) : Out :=
  .next (s.vecWord k m (encKMDmAvI6 0x300000CF k m d a i) (.cmp .le d a (.imm i)))

/-- vmsltu.vv: unsigned less-than, vector operand (R243). -/
def execVmsltuVv (k : Bool) (m : Bool) (d : Fin 8) (a : Fin 64) (b : Fin 64) (s : State) : Out :=
  .next (s.vecWord k m (encKMDmAvBv 0x400000C3 k m d a b) (.cmp .ltu d a (.v b)))

/-- vmsltu.vx: unsigned less-than, scalar operand (R243). -/
def execVmsltuVx (k : Bool) (m : Bool) (d : Fin 8) (a : Fin 64) (b : Fin 32) (s : State) : Out :=
  .next (s.vecWord k m (encKMDmAvBx 0x400000C7 k m d a b) (.cmp .ltu d a (.x b)))

/-- vmsltu.vs: unsigned less-than, stream operand (R243). -/
def execVmsltuVs (k : Bool) (m : Bool) (d : Fin 8) (a : Fin 64) (st : Fin 16) (s : State) : Out :=
  .next (s.vecWord k m (encKMDmAvSt 0x400000CB k m d a st) (.cmp .ltu d a (.st st)))

/-- vmsltu.vi: unsigned less-than, immediate operand (R243). -/
def execVmsltuVi (k : Bool) (m : Bool) (d : Fin 8) (a : Fin 64) (i : BitVec 6) (s : State) : Out :=
  .next (s.vecWord k m (encKMDmAvI6 0x400000CF k m d a i) (.cmp .ltu d a (.imm i)))

/-- vmsleu.vv: unsigned less-or-equal, vector operand (R243). -/
def execVmsleuVv (k : Bool) (m : Bool) (d : Fin 8) (a : Fin 64) (b : Fin 64) (s : State) : Out :=
  .next (s.vecWord k m (encKMDmAvBv 0x500000C3 k m d a b) (.cmp .leu d a (.v b)))

/-- vmsleu.vx: unsigned less-or-equal, scalar operand (R243). -/
def execVmsleuVx (k : Bool) (m : Bool) (d : Fin 8) (a : Fin 64) (b : Fin 32) (s : State) : Out :=
  .next (s.vecWord k m (encKMDmAvBx 0x500000C7 k m d a b) (.cmp .leu d a (.x b)))

/-- vmsleu.vs: unsigned less-or-equal, stream operand (R243). -/
def execVmsleuVs (k : Bool) (m : Bool) (d : Fin 8) (a : Fin 64) (st : Fin 16) (s : State) : Out :=
  .next (s.vecWord k m (encKMDmAvSt 0x500000CB k m d a st) (.cmp .leu d a (.st st)))

/-- vmsleu.vi: unsigned less-or-equal, immediate operand (R243). -/
def execVmsleuVi (k : Bool) (m : Bool) (d : Fin 8) (a : Fin 64) (i : BitVec 6) (s : State) : Out :=
  .next (s.vecWord k m (encKMDmAvI6 0x500000CF k m d a i) (.cmp .leu d a (.imm i)))

/-- vmsgt.vv: signed greater-than, vector operand (R243). -/
def execVmsgtVv (k : Bool) (m : Bool) (d : Fin 8) (a : Fin 64) (b : Fin 64) (s : State) : Out :=
  .next (s.vecWord k m (encKMDmAvBv 0x600000C3 k m d a b) (.cmp .gt d a (.v b)))

/-- vmsgt.vx: signed greater-than, scalar operand (R243). -/
def execVmsgtVx (k : Bool) (m : Bool) (d : Fin 8) (a : Fin 64) (b : Fin 32) (s : State) : Out :=
  .next (s.vecWord k m (encKMDmAvBx 0x600000C7 k m d a b) (.cmp .gt d a (.x b)))

/-- vmsgt.vs: signed greater-than, stream operand (R243). -/
def execVmsgtVs (k : Bool) (m : Bool) (d : Fin 8) (a : Fin 64) (st : Fin 16) (s : State) : Out :=
  .next (s.vecWord k m (encKMDmAvSt 0x600000CB k m d a st) (.cmp .gt d a (.st st)))

/-- vmsgt.vi: signed greater-than, immediate operand (R243). -/
def execVmsgtVi (k : Bool) (m : Bool) (d : Fin 8) (a : Fin 64) (i : BitVec 6) (s : State) : Out :=
  .next (s.vecWord k m (encKMDmAvI6 0x600000CF k m d a i) (.cmp .gt d a (.imm i)))

/-- vmsgtu.vv: unsigned greater-than, vector operand (R243). -/
def execVmsgtuVv (k : Bool) (m : Bool) (d : Fin 8) (a : Fin 64) (b : Fin 64) (s : State) : Out :=
  .next (s.vecWord k m (encKMDmAvBv 0x700000C3 k m d a b) (.cmp .gtu d a (.v b)))

/-- vmsgtu.vx: unsigned greater-than, scalar operand (R243). -/
def execVmsgtuVx (k : Bool) (m : Bool) (d : Fin 8) (a : Fin 64) (b : Fin 32) (s : State) : Out :=
  .next (s.vecWord k m (encKMDmAvBx 0x700000C7 k m d a b) (.cmp .gtu d a (.x b)))

/-- vmsgtu.vs: unsigned greater-than, stream operand (R243). -/
def execVmsgtuVs (k : Bool) (m : Bool) (d : Fin 8) (a : Fin 64) (st : Fin 16) (s : State) : Out :=
  .next (s.vecWord k m (encKMDmAvSt 0x700000CB k m d a st) (.cmp .gtu d a (.st st)))

/-- vmsgtu.vi: unsigned greater-than, immediate operand (R243). -/
def execVmsgtuVi (k : Bool) (m : Bool) (d : Fin 8) (a : Fin 64) (i : BitVec 6) (s : State) : Out :=
  .next (s.vecWord k m (encKMDmAvI6 0x700000CF k m d a i) (.cmp .gtu d a (.imm i)))

/-- vmfeq.vv: floating equal, vector operand (R243). -/
def execVmfeqVv (k : Bool) (m : Bool) (d : Fin 8) (a : Fin 64) (b : Fin 64) (s : State) : Out :=
  .next (s.vecWord k m (encKMDmAvBv 0x800000C3 k m d a b) (.cmp .feq d a (.v b)))

/-- vmfeq.vx: floating equal, scalar operand (R243). -/
def execVmfeqVx (k : Bool) (m : Bool) (d : Fin 8) (a : Fin 64) (b : Fin 32) (s : State) : Out :=
  .next (s.vecWord k m (encKMDmAvBx 0x800000C7 k m d a b) (.cmp .feq d a (.x b)))

/-- vmfeq.vs: floating equal, stream operand (R243). -/
def execVmfeqVs (k : Bool) (m : Bool) (d : Fin 8) (a : Fin 64) (st : Fin 16) (s : State) : Out :=
  .next (s.vecWord k m (encKMDmAvSt 0x800000CB k m d a st) (.cmp .feq d a (.st st)))

/-- vmfne.vv: floating not equal, vector operand (R243). -/
def execVmfneVv (k : Bool) (m : Bool) (d : Fin 8) (a : Fin 64) (b : Fin 64) (s : State) : Out :=
  .next (s.vecWord k m (encKMDmAvBv 0x900000C3 k m d a b) (.cmp .fne d a (.v b)))

/-- vmfne.vx: floating not equal, scalar operand (R243). -/
def execVmfneVx (k : Bool) (m : Bool) (d : Fin 8) (a : Fin 64) (b : Fin 32) (s : State) : Out :=
  .next (s.vecWord k m (encKMDmAvBx 0x900000C7 k m d a b) (.cmp .fne d a (.x b)))

/-- vmfne.vs: floating not equal, stream operand (R243). -/
def execVmfneVs (k : Bool) (m : Bool) (d : Fin 8) (a : Fin 64) (st : Fin 16) (s : State) : Out :=
  .next (s.vecWord k m (encKMDmAvSt 0x900000CB k m d a st) (.cmp .fne d a (.st st)))

/-- vmflt.vv: floating less-than, vector operand (R243). -/
def execVmfltVv (k : Bool) (m : Bool) (d : Fin 8) (a : Fin 64) (b : Fin 64) (s : State) : Out :=
  .next (s.vecWord k m (encKMDmAvBv 0xA00000C3 k m d a b) (.cmp .flt d a (.v b)))

/-- vmflt.vx: floating less-than, scalar operand (R243). -/
def execVmfltVx (k : Bool) (m : Bool) (d : Fin 8) (a : Fin 64) (b : Fin 32) (s : State) : Out :=
  .next (s.vecWord k m (encKMDmAvBx 0xA00000C7 k m d a b) (.cmp .flt d a (.x b)))

/-- vmflt.vs: floating less-than, stream operand (R243). -/
def execVmfltVs (k : Bool) (m : Bool) (d : Fin 8) (a : Fin 64) (st : Fin 16) (s : State) : Out :=
  .next (s.vecWord k m (encKMDmAvSt 0xA00000CB k m d a st) (.cmp .flt d a (.st st)))

/-- vmfle.vv: floating less-or-equal, vector operand (R243). -/
def execVmfleVv (k : Bool) (m : Bool) (d : Fin 8) (a : Fin 64) (b : Fin 64) (s : State) : Out :=
  .next (s.vecWord k m (encKMDmAvBv 0xB00000C3 k m d a b) (.cmp .fle d a (.v b)))

/-- vmfle.vx: floating less-or-equal, scalar operand (R243). -/
def execVmfleVx (k : Bool) (m : Bool) (d : Fin 8) (a : Fin 64) (b : Fin 32) (s : State) : Out :=
  .next (s.vecWord k m (encKMDmAvBx 0xB00000C7 k m d a b) (.cmp .fle d a (.x b)))

/-- vmfle.vs: floating less-or-equal, stream operand (R243). -/
def execVmfleVs (k : Bool) (m : Bool) (d : Fin 8) (a : Fin 64) (st : Fin 16) (s : State) : Out :=
  .next (s.vecWord k m (encKMDmAvSt 0xB00000CB k m d a st) (.cmp .fle d a (.st st)))

/-- vmfgt.vv: floating greater-than, vector operand (R243). -/
def execVmfgtVv (k : Bool) (m : Bool) (d : Fin 8) (a : Fin 64) (b : Fin 64) (s : State) : Out :=
  .next (s.vecWord k m (encKMDmAvBv 0xC00000C3 k m d a b) (.cmp .fgt d a (.v b)))

/-- vmfgt.vx: floating greater-than, scalar operand (R243). -/
def execVmfgtVx (k : Bool) (m : Bool) (d : Fin 8) (a : Fin 64) (b : Fin 32) (s : State) : Out :=
  .next (s.vecWord k m (encKMDmAvBx 0xC00000C7 k m d a b) (.cmp .fgt d a (.x b)))

/-- vmfgt.vs: floating greater-than, stream operand (R243). -/
def execVmfgtVs (k : Bool) (m : Bool) (d : Fin 8) (a : Fin 64) (st : Fin 16) (s : State) : Out :=
  .next (s.vecWord k m (encKMDmAvSt 0xC00000CB k m d a st) (.cmp .fgt d a (.st st)))

/-- vmfge.vv: floating greater-or-equal, vector operand (R243). -/
def execVmfgeVv (k : Bool) (m : Bool) (d : Fin 8) (a : Fin 64) (b : Fin 64) (s : State) : Out :=
  .next (s.vecWord k m (encKMDmAvBv 0xD00000C3 k m d a b) (.cmp .fge d a (.v b)))

/-- vmfge.vx: floating greater-or-equal, scalar operand (R243). -/
def execVmfgeVx (k : Bool) (m : Bool) (d : Fin 8) (a : Fin 64) (b : Fin 32) (s : State) : Out :=
  .next (s.vecWord k m (encKMDmAvBx 0xD00000C7 k m d a b) (.cmp .fge d a (.x b)))

/-- vmfge.vs: floating greater-or-equal, stream operand (R243). -/
def execVmfgeVs (k : Bool) (m : Bool) (d : Fin 8) (a : Fin 64) (st : Fin 16) (s : State) : Out :=
  .next (s.vecWord k m (encKMDmAvSt 0xD00000CB k m d a st) (.cmp .fge d a (.st st)))

end Sys2Proof.Machine
end

