-- ==== Sys2Proof/Machine/VecCross.lean ====
section
/-! DEFINITION. The Crossroads (spec/09_vector_memory_and_motion.md R275-R277).
Each instruction joins its convoy (R163). -/

namespace Sys2Proof.Machine

/-- vredsum: sums the active elements of each row into element 0 (R275). -/
def execVredsum (k : Bool) (m : Bool) (d : Fin 64) (a : Fin 64) (s : State) : Out :=
  .next (s.vecWord k m (encKMDvAv 0xD3 k m d a) (.xr .redsum d a (.imm 0)))

/-- vredmax: signed maximum reduction (R275). -/
def execVredmax (k : Bool) (m : Bool) (d : Fin 64) (a : Fin 64) (s : State) : Out :=
  .next (s.vecWord k m (encKMDvAv 0x100000D3 k m d a) (.xr .redmax d a (.imm 0)))

/-- vredmin: signed minimum reduction (R275). -/
def execVredmin (k : Bool) (m : Bool) (d : Fin 64) (a : Fin 64) (s : State) : Out :=
  .next (s.vecWord k m (encKMDvAv 0x200000D3 k m d a) (.xr .redmin d a (.imm 0)))

/-- vredmaxu: unsigned maximum reduction (R275). -/
def execVredmaxu (k : Bool) (m : Bool) (d : Fin 64) (a : Fin 64) (s : State) : Out :=
  .next (s.vecWord k m (encKMDvAv 0x300000D3 k m d a) (.xr .redmaxu d a (.imm 0)))

/-- vredminu: unsigned minimum reduction (R275). -/
def execVredminu (k : Bool) (m : Bool) (d : Fin 64) (a : Fin 64) (s : State) : Out :=
  .next (s.vecWord k m (encKMDvAv 0x400000D3 k m d a) (.xr .redminu d a (.imm 0)))

/-- vredand: and reduction (R275). -/
def execVredand (k : Bool) (m : Bool) (d : Fin 64) (a : Fin 64) (s : State) : Out :=
  .next (s.vecWord k m (encKMDvAv 0x500000D3 k m d a) (.xr .redand d a (.imm 0)))

/-- vredor: or reduction (R275). -/
def execVredor (k : Bool) (m : Bool) (d : Fin 64) (a : Fin 64) (s : State) : Out :=
  .next (s.vecWord k m (encKMDvAv 0x600000D3 k m d a) (.xr .redor d a (.imm 0)))

/-- viota: writes the count of set m0 bits below each position (R275). -/
def execViota (k : Bool) (d : Fin 64) (s : State) : Out :=
  .next (s.vecWord k false (encKDv 0x700000D3 k d) (.xr .iota d 0 (.imm 0)))

/-- vfredsum: floating sum reduction in a fixed tree (R277). -/
def execVfredsum (k : Bool) (m : Bool) (d : Fin 64) (a : Fin 64) (s : State) : Out :=
  .next (s.vecWord k m (encKMDvAv 0x800000D3 k m d a) (.xr .fredsum d a (.imm 0)))

/-- vfredmax: floating maximumNumber reduction (R275). -/
def execVfredmax (k : Bool) (m : Bool) (d : Fin 64) (a : Fin 64) (s : State) : Out :=
  .next (s.vecWord k m (encKMDvAv 0x900000D3 k m d a) (.xr .fredmax d a (.imm 0)))

/-- vrgather.vv: permutes elements by a vector of indices (R275). -/
def execVrgatherVv (k : Bool) (d : Fin 64) (a : Fin 64) (b : Fin 64) (s : State) : Out :=
  .next (s.vecWord k false (encKDvAvBv 0xA00000D3 k d a b) (.xr .gather d a (.v b)))

/-- vrgather.vx: broadcasts the element at a scalar index (R275). -/
def execVrgatherVx (k : Bool) (d : Fin 64) (a : Fin 64) (b : Fin 32) (s : State) : Out :=
  .next (s.vecWord k false (encKDvAvBx 0xA00000D7 k d a b) (.xr .gather d a (.x b)))

/-- vslideup.vx: slides elements up by a scalar amount (R275). -/
def execVslideupVx (k : Bool) (d : Fin 64) (a : Fin 64) (b : Fin 32) (s : State) : Out :=
  .next (s.vecWord k false (encKDvAvBx 0xB00000D7 k d a b) (.xr .slideup d a (.x b)))

/-- vslideup.vi: slides elements up by an immediate amount (R275). -/
def execVslideupVi (k : Bool) (d : Fin 64) (a : Fin 64) (i : BitVec 6) (s : State) : Out :=
  .next (s.vecWord k false (encKDvAvI6 0xB00000DF k d a i) (.xr .slideup d a (.imm i)))

/-- vslidedown.vx: slides elements down by a scalar amount (R275). -/
def execVslidedownVx (k : Bool) (d : Fin 64) (a : Fin 64) (b : Fin 32) (s : State) : Out :=
  .next (s.vecWord k false (encKDvAvBx 0xC00000D7 k d a b) (.xr .slidedown d a (.x b)))

/-- vslidedown.vi: slides elements down by an immediate amount (R275). -/
def execVslidedownVi (k : Bool) (d : Fin 64) (a : Fin 64) (i : BitVec 6) (s : State) : Out :=
  .next (s.vecWord k false (encKDvAvI6 0xC00000DF k d a i) (.xr .slidedown d a (.imm i)))

/-- vcompress: packs the elements selected by m0 from element 0 (R275). -/
def execVcompress (k : Bool) (d : Fin 64) (a : Fin 64) (s : State) : Out :=
  .next (s.vecWord k false (encKDvAv 0xD00000D3 k d a) (.xr .compress d a (.imm 0)))

/-- vexpand: spreads packed elements to the positions set in m0 (R275). -/
def execVexpand (k : Bool) (d : Fin 64) (a : Fin 64) (s : State) : Out :=
  .next (s.vecWord k false (encKDvAv 0xE00000D3 k d a) (.xr .expand d a (.imm 0)))

/-- vscanadd: inclusive prefix sum of the active elements (R275). -/
def execVscanadd (k : Bool) (m : Bool) (d : Fin 64) (a : Fin 64) (s : State) : Out :=
  .next (s.vecWord k m (encKMDvAv 0xF00000D3 k m d a) (.xr .scanadd d a (.imm 0)))

end Sys2Proof.Machine
end

