-- ==== Sys2Proof/Machine/VecFloat.lean ====
section
/-! DEFINITION. Floating-point arithmetic, VFA and VFB (spec/08_vector_arithmetic.md R239-R242).
Each instruction joins its convoy (R163). -/

namespace Sys2Proof.Machine

/-- vfadd.vv: vector floating add, vector operand (R239). -/
def execVfaddVv (k : Bool) (m : Bool) (d : Fin 64) (a : Fin 64) (b : Fin 64) (s : State) : Out :=
  .next (s.vecWord k m (encKMDvAvBv 0xA3 k m d a b) (.ew .fadd d a (.v b)))

/-- vfadd.vx: vector floating add, scalar operand (R239). -/
def execVfaddVx (k : Bool) (m : Bool) (d : Fin 64) (a : Fin 64) (b : Fin 32) (s : State) : Out :=
  .next (s.vecWord k m (encKMDvAvBx 0xA7 k m d a b) (.ew .fadd d a (.x b)))

/-- vfadd.vs: vector floating add, stream operand (R239). -/
def execVfaddVs (k : Bool) (m : Bool) (d : Fin 64) (a : Fin 64) (st : Fin 16) (s : State) : Out :=
  .next (s.vecWord k m (encKMDvAvSt 0xAB k m d a st) (.ew .fadd d a (.st st)))

/-- vfsub.vv: vector floating subtract, vector operand (R239). -/
def execVfsubVv (k : Bool) (m : Bool) (d : Fin 64) (a : Fin 64) (b : Fin 64) (s : State) : Out :=
  .next (s.vecWord k m (encKMDvAvBv 0x100000A3 k m d a b) (.ew .fsub d a (.v b)))

/-- vfsub.vx: vector floating subtract, scalar operand (R239). -/
def execVfsubVx (k : Bool) (m : Bool) (d : Fin 64) (a : Fin 64) (b : Fin 32) (s : State) : Out :=
  .next (s.vecWord k m (encKMDvAvBx 0x100000A7 k m d a b) (.ew .fsub d a (.x b)))

/-- vfsub.vs: vector floating subtract, stream operand (R239). -/
def execVfsubVs (k : Bool) (m : Bool) (d : Fin 64) (a : Fin 64) (st : Fin 16) (s : State) : Out :=
  .next (s.vecWord k m (encKMDvAvSt 0x100000AB k m d a st) (.ew .fsub d a (.st st)))

/-- vfrsub.vv: vector floating reverse subtract, vector operand (R239). -/
def execVfrsubVv (k : Bool) (m : Bool) (d : Fin 64) (a : Fin 64) (b : Fin 64) (s : State) : Out :=
  .next (s.vecWord k m (encKMDvAvBv 0x200000A3 k m d a b) (.ew .frsub d a (.v b)))

/-- vfrsub.vx: vector floating reverse subtract, scalar operand (R239). -/
def execVfrsubVx (k : Bool) (m : Bool) (d : Fin 64) (a : Fin 64) (b : Fin 32) (s : State) : Out :=
  .next (s.vecWord k m (encKMDvAvBx 0x200000A7 k m d a b) (.ew .frsub d a (.x b)))

/-- vfrsub.vs: vector floating reverse subtract, stream operand (R239). -/
def execVfrsubVs (k : Bool) (m : Bool) (d : Fin 64) (a : Fin 64) (st : Fin 16) (s : State) : Out :=
  .next (s.vecWord k m (encKMDvAvSt 0x200000AB k m d a st) (.ew .frsub d a (.st st)))

/-- vfmul.vv: vector floating multiply, vector operand (R239). -/
def execVfmulVv (k : Bool) (m : Bool) (d : Fin 64) (a : Fin 64) (b : Fin 64) (s : State) : Out :=
  .next (s.vecWord k m (encKMDvAvBv 0x300000A3 k m d a b) (.ew .fmul d a (.v b)))

/-- vfmul.vx: vector floating multiply, scalar operand (R239). -/
def execVfmulVx (k : Bool) (m : Bool) (d : Fin 64) (a : Fin 64) (b : Fin 32) (s : State) : Out :=
  .next (s.vecWord k m (encKMDvAvBx 0x300000A7 k m d a b) (.ew .fmul d a (.x b)))

/-- vfmul.vs: vector floating multiply, stream operand (R239). -/
def execVfmulVs (k : Bool) (m : Bool) (d : Fin 64) (a : Fin 64) (st : Fin 16) (s : State) : Out :=
  .next (s.vecWord k m (encKMDvAvSt 0x300000AB k m d a st) (.ew .fmul d a (.st st)))

/-- vfdiv.vv: vector floating divide, vector operand (R239). -/
def execVfdivVv (k : Bool) (m : Bool) (d : Fin 64) (a : Fin 64) (b : Fin 64) (s : State) : Out :=
  .next (s.vecWord k m (encKMDvAvBv 0x400000A3 k m d a b) (.ew .fdiv d a (.v b)))

/-- vfdiv.vx: vector floating divide, scalar operand (R239). -/
def execVfdivVx (k : Bool) (m : Bool) (d : Fin 64) (a : Fin 64) (b : Fin 32) (s : State) : Out :=
  .next (s.vecWord k m (encKMDvAvBx 0x400000A7 k m d a b) (.ew .fdiv d a (.x b)))

/-- vfdiv.vs: vector floating divide, stream operand (R239). -/
def execVfdivVs (k : Bool) (m : Bool) (d : Fin 64) (a : Fin 64) (st : Fin 16) (s : State) : Out :=
  .next (s.vecWord k m (encKMDvAvSt 0x400000AB k m d a st) (.ew .fdiv d a (.st st)))

/-- vfrdiv.vv: vector floating reverse divide, vector operand (R239). -/
def execVfrdivVv (k : Bool) (m : Bool) (d : Fin 64) (a : Fin 64) (b : Fin 64) (s : State) : Out :=
  .next (s.vecWord k m (encKMDvAvBv 0x500000A3 k m d a b) (.ew .frdiv d a (.v b)))

/-- vfrdiv.vx: vector floating reverse divide, scalar operand (R239). -/
def execVfrdivVx (k : Bool) (m : Bool) (d : Fin 64) (a : Fin 64) (b : Fin 32) (s : State) : Out :=
  .next (s.vecWord k m (encKMDvAvBx 0x500000A7 k m d a b) (.ew .frdiv d a (.x b)))

/-- vfrdiv.vs: vector floating reverse divide, stream operand (R239). -/
def execVfrdivVs (k : Bool) (m : Bool) (d : Fin 64) (a : Fin 64) (st : Fin 16) (s : State) : Out :=
  .next (s.vecWord k m (encKMDvAvSt 0x500000AB k m d a st) (.ew .frdiv d a (.st st)))

/-- vfsqrt: vector floating square root (R239). -/
def execVfsqrt (k : Bool) (m : Bool) (d : Fin 64) (a : Fin 64) (s : State) : Out :=
  .next (s.vecWord k m (encKMDvAv 0x600000A3 k m d a) (.ew .fsqrt d a (.imm 0)))

/-- vfmin.vv: vector minimumNumber, vector operand (R239). -/
def execVfminVv (k : Bool) (m : Bool) (d : Fin 64) (a : Fin 64) (b : Fin 64) (s : State) : Out :=
  .next (s.vecWord k m (encKMDvAvBv 0x700000A3 k m d a b) (.ew .fmin d a (.v b)))

/-- vfmin.vx: vector minimumNumber, scalar operand (R239). -/
def execVfminVx (k : Bool) (m : Bool) (d : Fin 64) (a : Fin 64) (b : Fin 32) (s : State) : Out :=
  .next (s.vecWord k m (encKMDvAvBx 0x700000A7 k m d a b) (.ew .fmin d a (.x b)))

/-- vfmin.vs: vector minimumNumber, stream operand (R239). -/
def execVfminVs (k : Bool) (m : Bool) (d : Fin 64) (a : Fin 64) (st : Fin 16) (s : State) : Out :=
  .next (s.vecWord k m (encKMDvAvSt 0x700000AB k m d a st) (.ew .fmin d a (.st st)))

/-- vfmax.vv: vector maximumNumber, vector operand (R239). -/
def execVfmaxVv (k : Bool) (m : Bool) (d : Fin 64) (a : Fin 64) (b : Fin 64) (s : State) : Out :=
  .next (s.vecWord k m (encKMDvAvBv 0x800000A3 k m d a b) (.ew .fmax d a (.v b)))

/-- vfmax.vx: vector maximumNumber, scalar operand (R239). -/
def execVfmaxVx (k : Bool) (m : Bool) (d : Fin 64) (a : Fin 64) (b : Fin 32) (s : State) : Out :=
  .next (s.vecWord k m (encKMDvAvBx 0x800000A7 k m d a b) (.ew .fmax d a (.x b)))

/-- vfmax.vs: vector maximumNumber, stream operand (R239). -/
def execVfmaxVs (k : Bool) (m : Bool) (d : Fin 64) (a : Fin 64) (st : Fin 16) (s : State) : Out :=
  .next (s.vecWord k m (encKMDvAvSt 0x800000AB k m d a st) (.ew .fmax d a (.st st)))

/-- vfsgnj.vv: sign injection, vector operand (R239). -/
def execVfsgnjVv (k : Bool) (m : Bool) (d : Fin 64) (a : Fin 64) (b : Fin 64) (s : State) : Out :=
  .next (s.vecWord k m (encKMDvAvBv 0x900000A3 k m d a b) (.ew .fsgnj d a (.v b)))

/-- vfsgnj.vx: sign injection, scalar operand (R239). -/
def execVfsgnjVx (k : Bool) (m : Bool) (d : Fin 64) (a : Fin 64) (b : Fin 32) (s : State) : Out :=
  .next (s.vecWord k m (encKMDvAvBx 0x900000A7 k m d a b) (.ew .fsgnj d a (.x b)))

/-- vfsgnj.vs: sign injection, stream operand (R239). -/
def execVfsgnjVs (k : Bool) (m : Bool) (d : Fin 64) (a : Fin 64) (st : Fin 16) (s : State) : Out :=
  .next (s.vecWord k m (encKMDvAvSt 0x900000AB k m d a st) (.ew .fsgnj d a (.st st)))

/-- vfsgnjn.vv: negated sign injection, vector operand (R239). -/
def execVfsgnjnVv (k : Bool) (m : Bool) (d : Fin 64) (a : Fin 64) (b : Fin 64) (s : State) : Out :=
  .next (s.vecWord k m (encKMDvAvBv 0xA00000A3 k m d a b) (.ew .fsgnjn d a (.v b)))

/-- vfsgnjn.vx: negated sign injection, scalar operand (R239). -/
def execVfsgnjnVx (k : Bool) (m : Bool) (d : Fin 64) (a : Fin 64) (b : Fin 32) (s : State) : Out :=
  .next (s.vecWord k m (encKMDvAvBx 0xA00000A7 k m d a b) (.ew .fsgnjn d a (.x b)))

/-- vfsgnjn.vs: negated sign injection, stream operand (R239). -/
def execVfsgnjnVs (k : Bool) (m : Bool) (d : Fin 64) (a : Fin 64) (st : Fin 16) (s : State) : Out :=
  .next (s.vecWord k m (encKMDvAvSt 0xA00000AB k m d a st) (.ew .fsgnjn d a (.st st)))

/-- vfsgnjx.vv: xor sign injection, vector operand (R239). -/
def execVfsgnjxVv (k : Bool) (m : Bool) (d : Fin 64) (a : Fin 64) (b : Fin 64) (s : State) : Out :=
  .next (s.vecWord k m (encKMDvAvBv 0xB00000A3 k m d a b) (.ew .fsgnjx d a (.v b)))

/-- vfsgnjx.vx: xor sign injection, scalar operand (R239). -/
def execVfsgnjxVx (k : Bool) (m : Bool) (d : Fin 64) (a : Fin 64) (b : Fin 32) (s : State) : Out :=
  .next (s.vecWord k m (encKMDvAvBx 0xB00000A7 k m d a b) (.ew .fsgnjx d a (.x b)))

/-- vfsgnjx.vs: xor sign injection, stream operand (R239). -/
def execVfsgnjxVs (k : Bool) (m : Bool) (d : Fin 64) (a : Fin 64) (st : Fin 16) (s : State) : Out :=
  .next (s.vecWord k m (encKMDvAvSt 0xB00000AB k m d a st) (.ew .fsgnjx d a (.st st)))

/-- vfclass: writes the one-hot class of each element (R239). -/
def execVfclass (k : Bool) (m : Bool) (d : Fin 64) (a : Fin 64) (s : State) : Out :=
  .next (s.vecWord k m (encKMDvAv 0xC00000A3 k m d a) (.ew .fclass d a (.imm 0)))

/-- vfmacc.vv: fused a × b + d, vector operand (R240). -/
def execVfmaccVv (k : Bool) (m : Bool) (d : Fin 64) (a : Fin 64) (b : Fin 64) (s : State) : Out :=
  .next (s.vecWord k m (encKMDvAvBv 0xB3 k m d a b) (.ew .fmacc d a (.v b)))

/-- vfmacc.vx: fused a × b + d, scalar operand (R240). -/
def execVfmaccVx (k : Bool) (m : Bool) (d : Fin 64) (a : Fin 64) (b : Fin 32) (s : State) : Out :=
  .next (s.vecWord k m (encKMDvAvBx 0xB7 k m d a b) (.ew .fmacc d a (.x b)))

/-- vfmacc.vs: fused a × b + d, stream operand (R240). -/
def execVfmaccVs (k : Bool) (m : Bool) (d : Fin 64) (a : Fin 64) (st : Fin 16) (s : State) : Out :=
  .next (s.vecWord k m (encKMDvAvSt 0xBB k m d a st) (.ew .fmacc d a (.st st)))

/-- vfnmacc.vv: fused −(a × b) − d, vector operand (R240). -/
def execVfnmaccVv (k : Bool) (m : Bool) (d : Fin 64) (a : Fin 64) (b : Fin 64) (s : State) : Out :=
  .next (s.vecWord k m (encKMDvAvBv 0x100000B3 k m d a b) (.ew .fnmacc d a (.v b)))

/-- vfnmacc.vx: fused −(a × b) − d, scalar operand (R240). -/
def execVfnmaccVx (k : Bool) (m : Bool) (d : Fin 64) (a : Fin 64) (b : Fin 32) (s : State) : Out :=
  .next (s.vecWord k m (encKMDvAvBx 0x100000B7 k m d a b) (.ew .fnmacc d a (.x b)))

/-- vfnmacc.vs: fused −(a × b) − d, stream operand (R240). -/
def execVfnmaccVs (k : Bool) (m : Bool) (d : Fin 64) (a : Fin 64) (st : Fin 16) (s : State) : Out :=
  .next (s.vecWord k m (encKMDvAvSt 0x100000BB k m d a st) (.ew .fnmacc d a (.st st)))

/-- vfmsac.vv: fused a × b − d, vector operand (R240). -/
def execVfmsacVv (k : Bool) (m : Bool) (d : Fin 64) (a : Fin 64) (b : Fin 64) (s : State) : Out :=
  .next (s.vecWord k m (encKMDvAvBv 0x200000B3 k m d a b) (.ew .fmsac d a (.v b)))

/-- vfmsac.vx: fused a × b − d, scalar operand (R240). -/
def execVfmsacVx (k : Bool) (m : Bool) (d : Fin 64) (a : Fin 64) (b : Fin 32) (s : State) : Out :=
  .next (s.vecWord k m (encKMDvAvBx 0x200000B7 k m d a b) (.ew .fmsac d a (.x b)))

/-- vfmsac.vs: fused a × b − d, stream operand (R240). -/
def execVfmsacVs (k : Bool) (m : Bool) (d : Fin 64) (a : Fin 64) (st : Fin 16) (s : State) : Out :=
  .next (s.vecWord k m (encKMDvAvSt 0x200000BB k m d a st) (.ew .fmsac d a (.st st)))

/-- vfnmsac.vv: fused −(a × b) + d, vector operand (R240). -/
def execVfnmsacVv (k : Bool) (m : Bool) (d : Fin 64) (a : Fin 64) (b : Fin 64) (s : State) : Out :=
  .next (s.vecWord k m (encKMDvAvBv 0x300000B3 k m d a b) (.ew .fnmsac d a (.v b)))

/-- vfnmsac.vx: fused −(a × b) + d, scalar operand (R240). -/
def execVfnmsacVx (k : Bool) (m : Bool) (d : Fin 64) (a : Fin 64) (b : Fin 32) (s : State) : Out :=
  .next (s.vecWord k m (encKMDvAvBx 0x300000B7 k m d a b) (.ew .fnmsac d a (.x b)))

/-- vfnmsac.vs: fused −(a × b) + d, stream operand (R240). -/
def execVfnmsacVs (k : Bool) (m : Bool) (d : Fin 64) (a : Fin 64) (st : Fin 16) (s : State) : Out :=
  .next (s.vecWord k m (encKMDvAvSt 0x300000BB k m d a st) (.ew .fnmsac d a (.st st)))

/-- vfcvt.f.x: converts signed integers to FMT (R240). -/
def execVfcvtFX (k : Bool) (m : Bool) (d : Fin 64) (a : Fin 64) (s : State) : Out :=
  .next (s.vecWord k m (encKMDvAv 0x400000B3 k m d a) (.ew .cvtFX d a (.imm 0)))

/-- vfcvt.f.xu: converts unsigned integers to FMT (R240). -/
def execVfcvtFXu (k : Bool) (m : Bool) (d : Fin 64) (a : Fin 64) (s : State) : Out :=
  .next (s.vecWord k m (encKMDvAv 0x500000B3 k m d a) (.ew .cvtFXu d a (.imm 0)))

/-- vfcvt.x.f: converts FMT to signed integers (R240). -/
def execVfcvtXF (k : Bool) (m : Bool) (d : Fin 64) (a : Fin 64) (s : State) : Out :=
  .next (s.vecWord k m (encKMDvAv 0x600000B3 k m d a) (.ew .cvtXF d a (.imm 0)))

/-- vfcvt.xu.f: converts FMT to unsigned integers (R240). -/
def execVfcvtXuF (k : Bool) (m : Bool) (d : Fin 64) (a : Fin 64) (s : State) : Out :=
  .next (s.vecWord k m (encKMDvAv 0x700000B3 k m d a) (.ew .cvtXuF d a (.imm 0)))

/-- vfcvt.f.f: converts from a named source format into FMT (R241). -/
def execVfcvtFF (k : Bool) (m : Bool) (d : Fin 64) (a : Fin 64) (i : BitVec 3) (s : State) : Out :=
  .next (s.vecWord k m (encKMDvAvI3 0x800000BF k m d a i) (.ew (.cvtFF i) d a (.imm 0)))

/-- vfexp: approximate exponential to the bit algorithm of R116 (R242). -/
def execVfexp (k : Bool) (m : Bool) (d : Fin 64) (a : Fin 64) (s : State) : Out :=
  .next (s.vecWord k m (encKMDvAv 0x900000B3 k m d a) (.ew .fexp d a (.imm 0)))

/-- vfrec: approximate reciprocal to the bit algorithm of R115 (R242). -/
def execVfrec (k : Bool) (m : Bool) (d : Fin 64) (a : Fin 64) (s : State) : Out :=
  .next (s.vecWord k m (encKMDvAv 0xA00000B3 k m d a) (.ew .frec d a (.imm 0)))

end Sys2Proof.Machine
end

