-- ==== Sys2Proof/Machine/VecInt.lean ====
section
/-! DEFINITION. Integer and fixed-point arithmetic, VIA and VIB (spec/08_vector_arithmetic.md R236-R238).
Each instruction joins its convoy (R163). -/

namespace Sys2Proof.Machine

/-- vadd.vv: vector wrapping add, vector operand (R236). -/
def execVaddVv (k : Bool) (m : Bool) (d : Fin 64) (a : Fin 64) (b : Fin 64) (s : State) : Out :=
  .next (s.vecWord k m (encKMDvAvBv 0x83 k m d a b) (.ew .add d a (.v b)))

/-- vadd.vx: vector wrapping add, scalar operand (R236). -/
def execVaddVx (k : Bool) (m : Bool) (d : Fin 64) (a : Fin 64) (b : Fin 32) (s : State) : Out :=
  .next (s.vecWord k m (encKMDvAvBx 0x87 k m d a b) (.ew .add d a (.x b)))

/-- vadd.vs: vector wrapping add, stream operand (R236). -/
def execVaddVs (k : Bool) (m : Bool) (d : Fin 64) (a : Fin 64) (st : Fin 16) (s : State) : Out :=
  .next (s.vecWord k m (encKMDvAvSt 0x8B k m d a st) (.ew .add d a (.st st)))

/-- vadd.vi: vector wrapping add, immediate operand (R236). -/
def execVaddVi (k : Bool) (m : Bool) (d : Fin 64) (a : Fin 64) (i : BitVec 6) (s : State) : Out :=
  .next (s.vecWord k m (encKMDvAvI6 0x8F k m d a i) (.ew .add d a (.imm i)))

/-- vsub.vv: vector subtract, vector operand (R236). -/
def execVsubVv (k : Bool) (m : Bool) (d : Fin 64) (a : Fin 64) (b : Fin 64) (s : State) : Out :=
  .next (s.vecWord k m (encKMDvAvBv 0x10000083 k m d a b) (.ew .sub d a (.v b)))

/-- vsub.vx: vector subtract, scalar operand (R236). -/
def execVsubVx (k : Bool) (m : Bool) (d : Fin 64) (a : Fin 64) (b : Fin 32) (s : State) : Out :=
  .next (s.vecWord k m (encKMDvAvBx 0x10000087 k m d a b) (.ew .sub d a (.x b)))

/-- vsub.vs: vector subtract, stream operand (R236). -/
def execVsubVs (k : Bool) (m : Bool) (d : Fin 64) (a : Fin 64) (st : Fin 16) (s : State) : Out :=
  .next (s.vecWord k m (encKMDvAvSt 0x1000008B k m d a st) (.ew .sub d a (.st st)))

/-- vsub.vi: vector subtract, immediate operand (R236). -/
def execVsubVi (k : Bool) (m : Bool) (d : Fin 64) (a : Fin 64) (i : BitVec 6) (s : State) : Out :=
  .next (s.vecWord k m (encKMDvAvI6 0x1000008F k m d a i) (.ew .sub d a (.imm i)))

/-- vrsub.vv: vector reverse subtract, vector operand (R236). -/
def execVrsubVv (k : Bool) (m : Bool) (d : Fin 64) (a : Fin 64) (b : Fin 64) (s : State) : Out :=
  .next (s.vecWord k m (encKMDvAvBv 0x20000083 k m d a b) (.ew .rsub d a (.v b)))

/-- vrsub.vx: vector reverse subtract, scalar operand (R236). -/
def execVrsubVx (k : Bool) (m : Bool) (d : Fin 64) (a : Fin 64) (b : Fin 32) (s : State) : Out :=
  .next (s.vecWord k m (encKMDvAvBx 0x20000087 k m d a b) (.ew .rsub d a (.x b)))

/-- vrsub.vs: vector reverse subtract, stream operand (R236). -/
def execVrsubVs (k : Bool) (m : Bool) (d : Fin 64) (a : Fin 64) (st : Fin 16) (s : State) : Out :=
  .next (s.vecWord k m (encKMDvAvSt 0x2000008B k m d a st) (.ew .rsub d a (.st st)))

/-- vrsub.vi: vector reverse subtract, immediate operand (R236). -/
def execVrsubVi (k : Bool) (m : Bool) (d : Fin 64) (a : Fin 64) (i : BitVec 6) (s : State) : Out :=
  .next (s.vecWord k m (encKMDvAvI6 0x2000008F k m d a i) (.ew .rsub d a (.imm i)))

/-- vand.vv: vector and, vector operand (R236). -/
def execVandVv (k : Bool) (m : Bool) (d : Fin 64) (a : Fin 64) (b : Fin 64) (s : State) : Out :=
  .next (s.vecWord k m (encKMDvAvBv 0x30000083 k m d a b) (.ew .and d a (.v b)))

/-- vand.vx: vector and, scalar operand (R236). -/
def execVandVx (k : Bool) (m : Bool) (d : Fin 64) (a : Fin 64) (b : Fin 32) (s : State) : Out :=
  .next (s.vecWord k m (encKMDvAvBx 0x30000087 k m d a b) (.ew .and d a (.x b)))

/-- vand.vs: vector and, stream operand (R236). -/
def execVandVs (k : Bool) (m : Bool) (d : Fin 64) (a : Fin 64) (st : Fin 16) (s : State) : Out :=
  .next (s.vecWord k m (encKMDvAvSt 0x3000008B k m d a st) (.ew .and d a (.st st)))

/-- vand.vi: vector and, immediate operand (R236). -/
def execVandVi (k : Bool) (m : Bool) (d : Fin 64) (a : Fin 64) (i : BitVec 6) (s : State) : Out :=
  .next (s.vecWord k m (encKMDvAvI6 0x3000008F k m d a i) (.ew .and d a (.imm i)))

/-- vor.vv: vector or, vector operand (R236). -/
def execVorVv (k : Bool) (m : Bool) (d : Fin 64) (a : Fin 64) (b : Fin 64) (s : State) : Out :=
  .next (s.vecWord k m (encKMDvAvBv 0x40000083 k m d a b) (.ew .or d a (.v b)))

/-- vor.vx: vector or, scalar operand (R236). -/
def execVorVx (k : Bool) (m : Bool) (d : Fin 64) (a : Fin 64) (b : Fin 32) (s : State) : Out :=
  .next (s.vecWord k m (encKMDvAvBx 0x40000087 k m d a b) (.ew .or d a (.x b)))

/-- vor.vs: vector or, stream operand (R236). -/
def execVorVs (k : Bool) (m : Bool) (d : Fin 64) (a : Fin 64) (st : Fin 16) (s : State) : Out :=
  .next (s.vecWord k m (encKMDvAvSt 0x4000008B k m d a st) (.ew .or d a (.st st)))

/-- vor.vi: vector or, immediate operand (R236). -/
def execVorVi (k : Bool) (m : Bool) (d : Fin 64) (a : Fin 64) (i : BitVec 6) (s : State) : Out :=
  .next (s.vecWord k m (encKMDvAvI6 0x4000008F k m d a i) (.ew .or d a (.imm i)))

/-- vxor.vv: vector exclusive-or, vector operand (R236). -/
def execVxorVv (k : Bool) (m : Bool) (d : Fin 64) (a : Fin 64) (b : Fin 64) (s : State) : Out :=
  .next (s.vecWord k m (encKMDvAvBv 0x50000083 k m d a b) (.ew .xor d a (.v b)))

/-- vxor.vx: vector exclusive-or, scalar operand (R236). -/
def execVxorVx (k : Bool) (m : Bool) (d : Fin 64) (a : Fin 64) (b : Fin 32) (s : State) : Out :=
  .next (s.vecWord k m (encKMDvAvBx 0x50000087 k m d a b) (.ew .xor d a (.x b)))

/-- vxor.vs: vector exclusive-or, stream operand (R236). -/
def execVxorVs (k : Bool) (m : Bool) (d : Fin 64) (a : Fin 64) (st : Fin 16) (s : State) : Out :=
  .next (s.vecWord k m (encKMDvAvSt 0x5000008B k m d a st) (.ew .xor d a (.st st)))

/-- vxor.vi: vector exclusive-or, immediate operand (R236). -/
def execVxorVi (k : Bool) (m : Bool) (d : Fin 64) (a : Fin 64) (i : BitVec 6) (s : State) : Out :=
  .next (s.vecWord k m (encKMDvAvI6 0x5000008F k m d a i) (.ew .xor d a (.imm i)))

/-- vsll.vv: vector shift left, vector amount (R236). -/
def execVsllVv (k : Bool) (m : Bool) (d : Fin 64) (a : Fin 64) (b : Fin 64) (s : State) : Out :=
  .next (s.vecWord k m (encKMDvAvBv 0x60000083 k m d a b) (.ew .sll d a (.v b)))

/-- vsll.vx: vector shift left, scalar amount (R236). -/
def execVsllVx (k : Bool) (m : Bool) (d : Fin 64) (a : Fin 64) (b : Fin 32) (s : State) : Out :=
  .next (s.vecWord k m (encKMDvAvBx 0x60000087 k m d a b) (.ew .sll d a (.x b)))

/-- vsll.vs: vector shift left, stream amount (R236). -/
def execVsllVs (k : Bool) (m : Bool) (d : Fin 64) (a : Fin 64) (st : Fin 16) (s : State) : Out :=
  .next (s.vecWord k m (encKMDvAvSt 0x6000008B k m d a st) (.ew .sll d a (.st st)))

/-- vsll.vi: vector shift left, immediate amount (R236). -/
def execVsllVi (k : Bool) (m : Bool) (d : Fin 64) (a : Fin 64) (i : BitVec 6) (s : State) : Out :=
  .next (s.vecWord k m (encKMDvAvI6 0x6000008F k m d a i) (.ew .sll d a (.imm i)))

/-- vsrl.vv: vector logical shift right, vector amount (R236). -/
def execVsrlVv (k : Bool) (m : Bool) (d : Fin 64) (a : Fin 64) (b : Fin 64) (s : State) : Out :=
  .next (s.vecWord k m (encKMDvAvBv 0x70000083 k m d a b) (.ew .srl d a (.v b)))

/-- vsrl.vx: vector logical shift right, scalar amount (R236). -/
def execVsrlVx (k : Bool) (m : Bool) (d : Fin 64) (a : Fin 64) (b : Fin 32) (s : State) : Out :=
  .next (s.vecWord k m (encKMDvAvBx 0x70000087 k m d a b) (.ew .srl d a (.x b)))

/-- vsrl.vs: vector logical shift right, stream amount (R236). -/
def execVsrlVs (k : Bool) (m : Bool) (d : Fin 64) (a : Fin 64) (st : Fin 16) (s : State) : Out :=
  .next (s.vecWord k m (encKMDvAvSt 0x7000008B k m d a st) (.ew .srl d a (.st st)))

/-- vsrl.vi: vector logical shift right, immediate amount (R236). -/
def execVsrlVi (k : Bool) (m : Bool) (d : Fin 64) (a : Fin 64) (i : BitVec 6) (s : State) : Out :=
  .next (s.vecWord k m (encKMDvAvI6 0x7000008F k m d a i) (.ew .srl d a (.imm i)))

/-- vsra.vv: vector arithmetic shift right, vector amount (R236). -/
def execVsraVv (k : Bool) (m : Bool) (d : Fin 64) (a : Fin 64) (b : Fin 64) (s : State) : Out :=
  .next (s.vecWord k m (encKMDvAvBv 0x80000083 k m d a b) (.ew .sra d a (.v b)))

/-- vsra.vx: vector arithmetic shift right, scalar amount (R236). -/
def execVsraVx (k : Bool) (m : Bool) (d : Fin 64) (a : Fin 64) (b : Fin 32) (s : State) : Out :=
  .next (s.vecWord k m (encKMDvAvBx 0x80000087 k m d a b) (.ew .sra d a (.x b)))

/-- vsra.vs: vector arithmetic shift right, stream amount (R236). -/
def execVsraVs (k : Bool) (m : Bool) (d : Fin 64) (a : Fin 64) (st : Fin 16) (s : State) : Out :=
  .next (s.vecWord k m (encKMDvAvSt 0x8000008B k m d a st) (.ew .sra d a (.st st)))

/-- vsra.vi: vector arithmetic shift right, immediate amount (R236). -/
def execVsraVi (k : Bool) (m : Bool) (d : Fin 64) (a : Fin 64) (i : BitVec 6) (s : State) : Out :=
  .next (s.vecWord k m (encKMDvAvI6 0x8000008F k m d a i) (.ew .sra d a (.imm i)))

/-- vmul.vv: vector multiply low, vector operand (R236). -/
def execVmulVv (k : Bool) (m : Bool) (d : Fin 64) (a : Fin 64) (b : Fin 64) (s : State) : Out :=
  .next (s.vecWord k m (encKMDvAvBv 0x90000083 k m d a b) (.ew .mul d a (.v b)))

/-- vmul.vx: vector multiply low, scalar operand (R236). -/
def execVmulVx (k : Bool) (m : Bool) (d : Fin 64) (a : Fin 64) (b : Fin 32) (s : State) : Out :=
  .next (s.vecWord k m (encKMDvAvBx 0x90000087 k m d a b) (.ew .mul d a (.x b)))

/-- vmul.vs: vector multiply low, stream operand (R236). -/
def execVmulVs (k : Bool) (m : Bool) (d : Fin 64) (a : Fin 64) (st : Fin 16) (s : State) : Out :=
  .next (s.vecWord k m (encKMDvAvSt 0x9000008B k m d a st) (.ew .mul d a (.st st)))

/-- vmul.vi: vector multiply low, immediate operand (R236). -/
def execVmulVi (k : Bool) (m : Bool) (d : Fin 64) (a : Fin 64) (i : BitVec 6) (s : State) : Out :=
  .next (s.vecWord k m (encKMDvAvI6 0x9000008F k m d a i) (.ew .mul d a (.imm i)))

/-- vmulh.vv: vector signed multiply high, vector operand (R236). -/
def execVmulhVv (k : Bool) (m : Bool) (d : Fin 64) (a : Fin 64) (b : Fin 64) (s : State) : Out :=
  .next (s.vecWord k m (encKMDvAvBv 0xA0000083 k m d a b) (.ew .mulh d a (.v b)))

/-- vmulh.vx: vector signed multiply high, scalar operand (R236). -/
def execVmulhVx (k : Bool) (m : Bool) (d : Fin 64) (a : Fin 64) (b : Fin 32) (s : State) : Out :=
  .next (s.vecWord k m (encKMDvAvBx 0xA0000087 k m d a b) (.ew .mulh d a (.x b)))

/-- vmulh.vs: vector signed multiply high, stream operand (R236). -/
def execVmulhVs (k : Bool) (m : Bool) (d : Fin 64) (a : Fin 64) (st : Fin 16) (s : State) : Out :=
  .next (s.vecWord k m (encKMDvAvSt 0xA000008B k m d a st) (.ew .mulh d a (.st st)))

/-- vmulh.vi: vector signed multiply high, immediate operand (R236). -/
def execVmulhVi (k : Bool) (m : Bool) (d : Fin 64) (a : Fin 64) (i : BitVec 6) (s : State) : Out :=
  .next (s.vecWord k m (encKMDvAvI6 0xA000008F k m d a i) (.ew .mulh d a (.imm i)))

/-- vmulhu.vv: vector unsigned multiply high, vector operand (R236). -/
def execVmulhuVv (k : Bool) (m : Bool) (d : Fin 64) (a : Fin 64) (b : Fin 64) (s : State) : Out :=
  .next (s.vecWord k m (encKMDvAvBv 0xB0000083 k m d a b) (.ew .mulhu d a (.v b)))

/-- vmulhu.vx: vector unsigned multiply high, scalar operand (R236). -/
def execVmulhuVx (k : Bool) (m : Bool) (d : Fin 64) (a : Fin 64) (b : Fin 32) (s : State) : Out :=
  .next (s.vecWord k m (encKMDvAvBx 0xB0000087 k m d a b) (.ew .mulhu d a (.x b)))

/-- vmulhu.vs: vector unsigned multiply high, stream operand (R236). -/
def execVmulhuVs (k : Bool) (m : Bool) (d : Fin 64) (a : Fin 64) (st : Fin 16) (s : State) : Out :=
  .next (s.vecWord k m (encKMDvAvSt 0xB000008B k m d a st) (.ew .mulhu d a (.st st)))

/-- vmulhu.vi: vector unsigned multiply high, immediate operand (R236). -/
def execVmulhuVi (k : Bool) (m : Bool) (d : Fin 64) (a : Fin 64) (i : BitVec 6) (s : State) : Out :=
  .next (s.vecWord k m (encKMDvAvI6 0xB000008F k m d a i) (.ew .mulhu d a (.imm i)))

/-- vmin.vv: vector signed minimum, vector operand (R236). -/
def execVminVv (k : Bool) (m : Bool) (d : Fin 64) (a : Fin 64) (b : Fin 64) (s : State) : Out :=
  .next (s.vecWord k m (encKMDvAvBv 0xC0000083 k m d a b) (.ew .min d a (.v b)))

/-- vmin.vx: vector signed minimum, scalar operand (R236). -/
def execVminVx (k : Bool) (m : Bool) (d : Fin 64) (a : Fin 64) (b : Fin 32) (s : State) : Out :=
  .next (s.vecWord k m (encKMDvAvBx 0xC0000087 k m d a b) (.ew .min d a (.x b)))

/-- vmin.vs: vector signed minimum, stream operand (R236). -/
def execVminVs (k : Bool) (m : Bool) (d : Fin 64) (a : Fin 64) (st : Fin 16) (s : State) : Out :=
  .next (s.vecWord k m (encKMDvAvSt 0xC000008B k m d a st) (.ew .min d a (.st st)))

/-- vmin.vi: vector signed minimum, immediate operand (R236). -/
def execVminVi (k : Bool) (m : Bool) (d : Fin 64) (a : Fin 64) (i : BitVec 6) (s : State) : Out :=
  .next (s.vecWord k m (encKMDvAvI6 0xC000008F k m d a i) (.ew .min d a (.imm i)))

/-- vmax.vv: vector signed maximum, vector operand (R236). -/
def execVmaxVv (k : Bool) (m : Bool) (d : Fin 64) (a : Fin 64) (b : Fin 64) (s : State) : Out :=
  .next (s.vecWord k m (encKMDvAvBv 0xD0000083 k m d a b) (.ew .max d a (.v b)))

/-- vmax.vx: vector signed maximum, scalar operand (R236). -/
def execVmaxVx (k : Bool) (m : Bool) (d : Fin 64) (a : Fin 64) (b : Fin 32) (s : State) : Out :=
  .next (s.vecWord k m (encKMDvAvBx 0xD0000087 k m d a b) (.ew .max d a (.x b)))

/-- vmax.vs: vector signed maximum, stream operand (R236). -/
def execVmaxVs (k : Bool) (m : Bool) (d : Fin 64) (a : Fin 64) (st : Fin 16) (s : State) : Out :=
  .next (s.vecWord k m (encKMDvAvSt 0xD000008B k m d a st) (.ew .max d a (.st st)))

/-- vmax.vi: vector signed maximum, immediate operand (R236). -/
def execVmaxVi (k : Bool) (m : Bool) (d : Fin 64) (a : Fin 64) (i : BitVec 6) (s : State) : Out :=
  .next (s.vecWord k m (encKMDvAvI6 0xD000008F k m d a i) (.ew .max d a (.imm i)))

/-- vminu.vv: vector unsigned minimum, vector operand (R236). -/
def execVminuVv (k : Bool) (m : Bool) (d : Fin 64) (a : Fin 64) (b : Fin 64) (s : State) : Out :=
  .next (s.vecWord k m (encKMDvAvBv 0xE0000083 k m d a b) (.ew .minu d a (.v b)))

/-- vminu.vx: vector unsigned minimum, scalar operand (R236). -/
def execVminuVx (k : Bool) (m : Bool) (d : Fin 64) (a : Fin 64) (b : Fin 32) (s : State) : Out :=
  .next (s.vecWord k m (encKMDvAvBx 0xE0000087 k m d a b) (.ew .minu d a (.x b)))

/-- vminu.vs: vector unsigned minimum, stream operand (R236). -/
def execVminuVs (k : Bool) (m : Bool) (d : Fin 64) (a : Fin 64) (st : Fin 16) (s : State) : Out :=
  .next (s.vecWord k m (encKMDvAvSt 0xE000008B k m d a st) (.ew .minu d a (.st st)))

/-- vminu.vi: vector unsigned minimum, immediate operand (R236). -/
def execVminuVi (k : Bool) (m : Bool) (d : Fin 64) (a : Fin 64) (i : BitVec 6) (s : State) : Out :=
  .next (s.vecWord k m (encKMDvAvI6 0xE000008F k m d a i) (.ew .minu d a (.imm i)))

/-- vmaxu.vv: vector unsigned maximum, vector operand (R236). -/
def execVmaxuVv (k : Bool) (m : Bool) (d : Fin 64) (a : Fin 64) (b : Fin 64) (s : State) : Out :=
  .next (s.vecWord k m (encKMDvAvBv 0xF0000083 k m d a b) (.ew .maxu d a (.v b)))

/-- vmaxu.vx: vector unsigned maximum, scalar operand (R236). -/
def execVmaxuVx (k : Bool) (m : Bool) (d : Fin 64) (a : Fin 64) (b : Fin 32) (s : State) : Out :=
  .next (s.vecWord k m (encKMDvAvBx 0xF0000087 k m d a b) (.ew .maxu d a (.x b)))

/-- vmaxu.vs: vector unsigned maximum, stream operand (R236). -/
def execVmaxuVs (k : Bool) (m : Bool) (d : Fin 64) (a : Fin 64) (st : Fin 16) (s : State) : Out :=
  .next (s.vecWord k m (encKMDvAvSt 0xF000008B k m d a st) (.ew .maxu d a (.st st)))

/-- vmaxu.vi: vector unsigned maximum, immediate operand (R236). -/
def execVmaxuVi (k : Bool) (m : Bool) (d : Fin 64) (a : Fin 64) (i : BitVec 6) (s : State) : Out :=
  .next (s.vecWord k m (encKMDvAvI6 0xF000008F k m d a i) (.ew .maxu d a (.imm i)))

/-- vsadd.vv: signed saturating add, vector operand (R237). -/
def execVsaddVv (k : Bool) (m : Bool) (d : Fin 64) (a : Fin 64) (b : Fin 64) (s : State) : Out :=
  .next (s.vecWord k m (encKMDvAvBv 0x93 k m d a b) (.ew .sadd d a (.v b)))

/-- vsadd.vx: signed saturating add, scalar operand (R237). -/
def execVsaddVx (k : Bool) (m : Bool) (d : Fin 64) (a : Fin 64) (b : Fin 32) (s : State) : Out :=
  .next (s.vecWord k m (encKMDvAvBx 0x97 k m d a b) (.ew .sadd d a (.x b)))

/-- vsadd.vs: signed saturating add, stream operand (R237). -/
def execVsaddVs (k : Bool) (m : Bool) (d : Fin 64) (a : Fin 64) (st : Fin 16) (s : State) : Out :=
  .next (s.vecWord k m (encKMDvAvSt 0x9B k m d a st) (.ew .sadd d a (.st st)))

/-- vsadd.vi: signed saturating add, immediate operand (R237). -/
def execVsaddVi (k : Bool) (m : Bool) (d : Fin 64) (a : Fin 64) (i : BitVec 6) (s : State) : Out :=
  .next (s.vecWord k m (encKMDvAvI6 0x9F k m d a i) (.ew .sadd d a (.imm i)))

/-- vsaddu.vv: unsigned saturating add, vector operand (R237). -/
def execVsadduVv (k : Bool) (m : Bool) (d : Fin 64) (a : Fin 64) (b : Fin 64) (s : State) : Out :=
  .next (s.vecWord k m (encKMDvAvBv 0x10000093 k m d a b) (.ew .saddu d a (.v b)))

/-- vsaddu.vx: unsigned saturating add, scalar operand (R237). -/
def execVsadduVx (k : Bool) (m : Bool) (d : Fin 64) (a : Fin 64) (b : Fin 32) (s : State) : Out :=
  .next (s.vecWord k m (encKMDvAvBx 0x10000097 k m d a b) (.ew .saddu d a (.x b)))

/-- vsaddu.vs: unsigned saturating add, stream operand (R237). -/
def execVsadduVs (k : Bool) (m : Bool) (d : Fin 64) (a : Fin 64) (st : Fin 16) (s : State) : Out :=
  .next (s.vecWord k m (encKMDvAvSt 0x1000009B k m d a st) (.ew .saddu d a (.st st)))

/-- vsaddu.vi: unsigned saturating add, immediate operand (R237). -/
def execVsadduVi (k : Bool) (m : Bool) (d : Fin 64) (a : Fin 64) (i : BitVec 6) (s : State) : Out :=
  .next (s.vecWord k m (encKMDvAvI6 0x1000009F k m d a i) (.ew .saddu d a (.imm i)))

/-- vssub.vv: signed saturating subtract, vector operand (R237). -/
def execVssubVv (k : Bool) (m : Bool) (d : Fin 64) (a : Fin 64) (b : Fin 64) (s : State) : Out :=
  .next (s.vecWord k m (encKMDvAvBv 0x20000093 k m d a b) (.ew .ssub d a (.v b)))

/-- vssub.vx: signed saturating subtract, scalar operand (R237). -/
def execVssubVx (k : Bool) (m : Bool) (d : Fin 64) (a : Fin 64) (b : Fin 32) (s : State) : Out :=
  .next (s.vecWord k m (encKMDvAvBx 0x20000097 k m d a b) (.ew .ssub d a (.x b)))

/-- vssub.vs: signed saturating subtract, stream operand (R237). -/
def execVssubVs (k : Bool) (m : Bool) (d : Fin 64) (a : Fin 64) (st : Fin 16) (s : State) : Out :=
  .next (s.vecWord k m (encKMDvAvSt 0x2000009B k m d a st) (.ew .ssub d a (.st st)))

/-- vssub.vi: signed saturating subtract, immediate operand (R237). -/
def execVssubVi (k : Bool) (m : Bool) (d : Fin 64) (a : Fin 64) (i : BitVec 6) (s : State) : Out :=
  .next (s.vecWord k m (encKMDvAvI6 0x2000009F k m d a i) (.ew .ssub d a (.imm i)))

/-- vssubu.vv: unsigned saturating subtract, vector operand (R237). -/
def execVssubuVv (k : Bool) (m : Bool) (d : Fin 64) (a : Fin 64) (b : Fin 64) (s : State) : Out :=
  .next (s.vecWord k m (encKMDvAvBv 0x30000093 k m d a b) (.ew .ssubu d a (.v b)))

/-- vssubu.vx: unsigned saturating subtract, scalar operand (R237). -/
def execVssubuVx (k : Bool) (m : Bool) (d : Fin 64) (a : Fin 64) (b : Fin 32) (s : State) : Out :=
  .next (s.vecWord k m (encKMDvAvBx 0x30000097 k m d a b) (.ew .ssubu d a (.x b)))

/-- vssubu.vs: unsigned saturating subtract, stream operand (R237). -/
def execVssubuVs (k : Bool) (m : Bool) (d : Fin 64) (a : Fin 64) (st : Fin 16) (s : State) : Out :=
  .next (s.vecWord k m (encKMDvAvSt 0x3000009B k m d a st) (.ew .ssubu d a (.st st)))

/-- vssubu.vi: unsigned saturating subtract, immediate operand (R237). -/
def execVssubuVi (k : Bool) (m : Bool) (d : Fin 64) (a : Fin 64) (i : BitVec 6) (s : State) : Out :=
  .next (s.vecWord k m (encKMDvAvI6 0x3000009F k m d a i) (.ew .ssubu d a (.imm i)))

/-- vaadd.vv: signed averaging add, vector operand (R237). -/
def execVaaddVv (k : Bool) (m : Bool) (d : Fin 64) (a : Fin 64) (b : Fin 64) (s : State) : Out :=
  .next (s.vecWord k m (encKMDvAvBv 0x40000093 k m d a b) (.ew .aadd d a (.v b)))

/-- vaadd.vx: signed averaging add, scalar operand (R237). -/
def execVaaddVx (k : Bool) (m : Bool) (d : Fin 64) (a : Fin 64) (b : Fin 32) (s : State) : Out :=
  .next (s.vecWord k m (encKMDvAvBx 0x40000097 k m d a b) (.ew .aadd d a (.x b)))

/-- vaadd.vs: signed averaging add, stream operand (R237). -/
def execVaaddVs (k : Bool) (m : Bool) (d : Fin 64) (a : Fin 64) (st : Fin 16) (s : State) : Out :=
  .next (s.vecWord k m (encKMDvAvSt 0x4000009B k m d a st) (.ew .aadd d a (.st st)))

/-- vaadd.vi: signed averaging add, immediate operand (R237). -/
def execVaaddVi (k : Bool) (m : Bool) (d : Fin 64) (a : Fin 64) (i : BitVec 6) (s : State) : Out :=
  .next (s.vecWord k m (encKMDvAvI6 0x4000009F k m d a i) (.ew .aadd d a (.imm i)))

/-- vaaddu.vv: unsigned averaging add, vector operand (R237). -/
def execVaadduVv (k : Bool) (m : Bool) (d : Fin 64) (a : Fin 64) (b : Fin 64) (s : State) : Out :=
  .next (s.vecWord k m (encKMDvAvBv 0x50000093 k m d a b) (.ew .aaddu d a (.v b)))

/-- vaaddu.vx: unsigned averaging add, scalar operand (R237). -/
def execVaadduVx (k : Bool) (m : Bool) (d : Fin 64) (a : Fin 64) (b : Fin 32) (s : State) : Out :=
  .next (s.vecWord k m (encKMDvAvBx 0x50000097 k m d a b) (.ew .aaddu d a (.x b)))

/-- vaaddu.vs: unsigned averaging add, stream operand (R237). -/
def execVaadduVs (k : Bool) (m : Bool) (d : Fin 64) (a : Fin 64) (st : Fin 16) (s : State) : Out :=
  .next (s.vecWord k m (encKMDvAvSt 0x5000009B k m d a st) (.ew .aaddu d a (.st st)))

/-- vaaddu.vi: unsigned averaging add, immediate operand (R237). -/
def execVaadduVi (k : Bool) (m : Bool) (d : Fin 64) (a : Fin 64) (i : BitVec 6) (s : State) : Out :=
  .next (s.vecWord k m (encKMDvAvI6 0x5000009F k m d a i) (.ew .aaddu d a (.imm i)))

/-- vsmul.vv: signed fractional saturating multiply, vector operand (R237). -/
def execVsmulVv (k : Bool) (m : Bool) (d : Fin 64) (a : Fin 64) (b : Fin 64) (s : State) : Out :=
  .next (s.vecWord k m (encKMDvAvBv 0x60000093 k m d a b) (.ew .smul d a (.v b)))

/-- vsmul.vx: signed fractional saturating multiply, scalar operand (R237). -/
def execVsmulVx (k : Bool) (m : Bool) (d : Fin 64) (a : Fin 64) (b : Fin 32) (s : State) : Out :=
  .next (s.vecWord k m (encKMDvAvBx 0x60000097 k m d a b) (.ew .smul d a (.x b)))

/-- vsmul.vs: signed fractional saturating multiply, stream operand (R237). -/
def execVsmulVs (k : Bool) (m : Bool) (d : Fin 64) (a : Fin 64) (st : Fin 16) (s : State) : Out :=
  .next (s.vecWord k m (encKMDvAvSt 0x6000009B k m d a st) (.ew .smul d a (.st st)))

/-- vsmul.vi: signed fractional saturating multiply, immediate operand (R237). -/
def execVsmulVi (k : Bool) (m : Bool) (d : Fin 64) (a : Fin 64) (i : BitVec 6) (s : State) : Out :=
  .next (s.vecWord k m (encKMDvAvI6 0x6000009F k m d a i) (.ew .smul d a (.imm i)))

/-- vssrl.vv: logical scaling shift right with rounding, vector operand (R237). -/
def execVssrlVv (k : Bool) (m : Bool) (d : Fin 64) (a : Fin 64) (b : Fin 64) (s : State) : Out :=
  .next (s.vecWord k m (encKMDvAvBv 0x70000093 k m d a b) (.ew .ssrl d a (.v b)))

/-- vssrl.vx: logical scaling shift right, scalar operand (R237). -/
def execVssrlVx (k : Bool) (m : Bool) (d : Fin 64) (a : Fin 64) (b : Fin 32) (s : State) : Out :=
  .next (s.vecWord k m (encKMDvAvBx 0x70000097 k m d a b) (.ew .ssrl d a (.x b)))

/-- vssrl.vs: logical scaling shift right, stream operand (R237). -/
def execVssrlVs (k : Bool) (m : Bool) (d : Fin 64) (a : Fin 64) (st : Fin 16) (s : State) : Out :=
  .next (s.vecWord k m (encKMDvAvSt 0x7000009B k m d a st) (.ew .ssrl d a (.st st)))

/-- vssrl.vi: logical scaling shift right, immediate operand (R237). -/
def execVssrlVi (k : Bool) (m : Bool) (d : Fin 64) (a : Fin 64) (i : BitVec 6) (s : State) : Out :=
  .next (s.vecWord k m (encKMDvAvI6 0x7000009F k m d a i) (.ew .ssrl d a (.imm i)))

/-- vssra.vv: arithmetic scaling shift right with rounding, vector operand (R237). -/
def execVssraVv (k : Bool) (m : Bool) (d : Fin 64) (a : Fin 64) (b : Fin 64) (s : State) : Out :=
  .next (s.vecWord k m (encKMDvAvBv 0x80000093 k m d a b) (.ew .ssra d a (.v b)))

/-- vssra.vx: arithmetic scaling shift right, scalar operand (R237). -/
def execVssraVx (k : Bool) (m : Bool) (d : Fin 64) (a : Fin 64) (b : Fin 32) (s : State) : Out :=
  .next (s.vecWord k m (encKMDvAvBx 0x80000097 k m d a b) (.ew .ssra d a (.x b)))

/-- vssra.vs: arithmetic scaling shift right, stream operand (R237). -/
def execVssraVs (k : Bool) (m : Bool) (d : Fin 64) (a : Fin 64) (st : Fin 16) (s : State) : Out :=
  .next (s.vecWord k m (encKMDvAvSt 0x8000009B k m d a st) (.ew .ssra d a (.st st)))

/-- vssra.vi: arithmetic scaling shift right, immediate operand (R237). -/
def execVssraVi (k : Bool) (m : Bool) (d : Fin 64) (a : Fin 64) (i : BitVec 6) (s : State) : Out :=
  .next (s.vecWord k m (encKMDvAvI6 0x8000009F k m d a i) (.ew .ssra d a (.imm i)))

/-- vwadd.vv: signed widening add, vector operand (R237). -/
def execVwaddVv (k : Bool) (m : Bool) (d : Fin 64) (a : Fin 64) (b : Fin 64) (s : State) : Out :=
  .next (s.vecWord k m (encKMDvAvBv 0x90000093 k m d a b) (.ew .wadd d a (.v b)))

/-- vwadd.vx: signed widening add, scalar operand (R237). -/
def execVwaddVx (k : Bool) (m : Bool) (d : Fin 64) (a : Fin 64) (b : Fin 32) (s : State) : Out :=
  .next (s.vecWord k m (encKMDvAvBx 0x90000097 k m d a b) (.ew .wadd d a (.x b)))

/-- vwadd.vs: signed widening add, stream operand (R237). -/
def execVwaddVs (k : Bool) (m : Bool) (d : Fin 64) (a : Fin 64) (st : Fin 16) (s : State) : Out :=
  .next (s.vecWord k m (encKMDvAvSt 0x9000009B k m d a st) (.ew .wadd d a (.st st)))

/-- vwadd.vi: signed widening add, immediate operand (R237). -/
def execVwaddVi (k : Bool) (m : Bool) (d : Fin 64) (a : Fin 64) (i : BitVec 6) (s : State) : Out :=
  .next (s.vecWord k m (encKMDvAvI6 0x9000009F k m d a i) (.ew .wadd d a (.imm i)))

/-- vwaddu.vv: unsigned widening add, vector operand (R237). -/
def execVwadduVv (k : Bool) (m : Bool) (d : Fin 64) (a : Fin 64) (b : Fin 64) (s : State) : Out :=
  .next (s.vecWord k m (encKMDvAvBv 0xA0000093 k m d a b) (.ew .waddu d a (.v b)))

/-- vwaddu.vx: unsigned widening add, scalar operand (R237). -/
def execVwadduVx (k : Bool) (m : Bool) (d : Fin 64) (a : Fin 64) (b : Fin 32) (s : State) : Out :=
  .next (s.vecWord k m (encKMDvAvBx 0xA0000097 k m d a b) (.ew .waddu d a (.x b)))

/-- vwaddu.vs: unsigned widening add, stream operand (R237). -/
def execVwadduVs (k : Bool) (m : Bool) (d : Fin 64) (a : Fin 64) (st : Fin 16) (s : State) : Out :=
  .next (s.vecWord k m (encKMDvAvSt 0xA000009B k m d a st) (.ew .waddu d a (.st st)))

/-- vwaddu.vi: unsigned widening add, immediate operand (R237). -/
def execVwadduVi (k : Bool) (m : Bool) (d : Fin 64) (a : Fin 64) (i : BitVec 6) (s : State) : Out :=
  .next (s.vecWord k m (encKMDvAvI6 0xA000009F k m d a i) (.ew .waddu d a (.imm i)))

/-- vwmul.vv: signed widening multiply, vector operand (R237). -/
def execVwmulVv (k : Bool) (m : Bool) (d : Fin 64) (a : Fin 64) (b : Fin 64) (s : State) : Out :=
  .next (s.vecWord k m (encKMDvAvBv 0xB0000093 k m d a b) (.ew .wmul d a (.v b)))

/-- vwmul.vx: signed widening multiply, scalar operand (R237). -/
def execVwmulVx (k : Bool) (m : Bool) (d : Fin 64) (a : Fin 64) (b : Fin 32) (s : State) : Out :=
  .next (s.vecWord k m (encKMDvAvBx 0xB0000097 k m d a b) (.ew .wmul d a (.x b)))

/-- vwmul.vs: signed widening multiply, stream operand (R237). -/
def execVwmulVs (k : Bool) (m : Bool) (d : Fin 64) (a : Fin 64) (st : Fin 16) (s : State) : Out :=
  .next (s.vecWord k m (encKMDvAvSt 0xB000009B k m d a st) (.ew .wmul d a (.st st)))

/-- vwmul.vi: signed widening multiply, immediate operand (R237). -/
def execVwmulVi (k : Bool) (m : Bool) (d : Fin 64) (a : Fin 64) (i : BitVec 6) (s : State) : Out :=
  .next (s.vecWord k m (encKMDvAvI6 0xB000009F k m d a i) (.ew .wmul d a (.imm i)))

/-- vwmulu.vv: unsigned widening multiply, vector operand (R237). -/
def execVwmuluVv (k : Bool) (m : Bool) (d : Fin 64) (a : Fin 64) (b : Fin 64) (s : State) : Out :=
  .next (s.vecWord k m (encKMDvAvBv 0xC0000093 k m d a b) (.ew .wmulu d a (.v b)))

/-- vwmulu.vx: unsigned widening multiply, scalar operand (R237). -/
def execVwmuluVx (k : Bool) (m : Bool) (d : Fin 64) (a : Fin 64) (b : Fin 32) (s : State) : Out :=
  .next (s.vecWord k m (encKMDvAvBx 0xC0000097 k m d a b) (.ew .wmulu d a (.x b)))

/-- vwmulu.vs: unsigned widening multiply, stream operand (R237). -/
def execVwmuluVs (k : Bool) (m : Bool) (d : Fin 64) (a : Fin 64) (st : Fin 16) (s : State) : Out :=
  .next (s.vecWord k m (encKMDvAvSt 0xC000009B k m d a st) (.ew .wmulu d a (.st st)))

/-- vwmulu.vi: unsigned widening multiply, immediate operand (R237). -/
def execVwmuluVi (k : Bool) (m : Bool) (d : Fin 64) (a : Fin 64) (i : BitVec 6) (s : State) : Out :=
  .next (s.vecWord k m (encKMDvAvI6 0xC000009F k m d a i) (.ew .wmulu d a (.imm i)))

/-- vnclip.vv: signed narrowing clip, vector shift (R237). -/
def execVnclipVv (k : Bool) (m : Bool) (d : Fin 64) (a : Fin 64) (b : Fin 64) (s : State) : Out :=
  .next (s.vecWord k m (encKMDvAvBv 0xD0000093 k m d a b) (.ew .nclip d a (.v b)))

/-- vnclip.vx: signed narrowing clip, scalar shift (R237). -/
def execVnclipVx (k : Bool) (m : Bool) (d : Fin 64) (a : Fin 64) (b : Fin 32) (s : State) : Out :=
  .next (s.vecWord k m (encKMDvAvBx 0xD0000097 k m d a b) (.ew .nclip d a (.x b)))

/-- vnclip.vs: signed narrowing clip, stream shift (R237). -/
def execVnclipVs (k : Bool) (m : Bool) (d : Fin 64) (a : Fin 64) (st : Fin 16) (s : State) : Out :=
  .next (s.vecWord k m (encKMDvAvSt 0xD000009B k m d a st) (.ew .nclip d a (.st st)))

/-- vnclip.vi: signed narrowing clip, immediate shift (R237). -/
def execVnclipVi (k : Bool) (m : Bool) (d : Fin 64) (a : Fin 64) (i : BitVec 6) (s : State) : Out :=
  .next (s.vecWord k m (encKMDvAvI6 0xD000009F k m d a i) (.ew .nclip d a (.imm i)))

/-- vnclipu.vv: unsigned narrowing clip, vector shift (R237). -/
def execVnclipuVv (k : Bool) (m : Bool) (d : Fin 64) (a : Fin 64) (b : Fin 64) (s : State) : Out :=
  .next (s.vecWord k m (encKMDvAvBv 0xE0000093 k m d a b) (.ew .nclipu d a (.v b)))

/-- vnclipu.vx: unsigned narrowing clip, scalar shift (R237). -/
def execVnclipuVx (k : Bool) (m : Bool) (d : Fin 64) (a : Fin 64) (b : Fin 32) (s : State) : Out :=
  .next (s.vecWord k m (encKMDvAvBx 0xE0000097 k m d a b) (.ew .nclipu d a (.x b)))

/-- vnclipu.vs: unsigned narrowing clip, stream shift (R237). -/
def execVnclipuVs (k : Bool) (m : Bool) (d : Fin 64) (a : Fin 64) (st : Fin 16) (s : State) : Out :=
  .next (s.vecWord k m (encKMDvAvSt 0xE000009B k m d a st) (.ew .nclipu d a (.st st)))

/-- vnclipu.vi: unsigned narrowing clip, immediate shift (R237). -/
def execVnclipuVi (k : Bool) (m : Bool) (d : Fin 64) (a : Fin 64) (i : BitVec 6) (s : State) : Out :=
  .next (s.vecWord k m (encKMDvAvI6 0xE000009F k m d a i) (.ew .nclipu d a (.imm i)))

end Sys2Proof.Machine
end

