-- ==== Sys2Proof/Machine/VecMatrix.lean ====
section
/-! DEFINITION. Matrix instructions and the Crucible (spec/10_matrix_and_crucible.md R281-R300).
Each instruction joins its convoy (R163). -/

namespace Sys2Proof.Machine

/-- vmm: array matrix accumulation of eight narrow A values by a B group into FX64 (R282). -/
def execVmm (k : Bool) (m : Bool) (d : Fin 64) (a : Fin 64) (b : Fin 64) (ta : BitVec 3) (tb : BitVec 3) (s : State) : Out :=
  .next (s.vecWide k m (encPKMDvAvBvTaTb 0x77 k m d a b ta tb) (.vmm d a b ta tb))

/-- copr: adds one TLEN × TLEN outer product of vector operands into a block (R289). -/
def execCopr (k : Bool) (c : Fin 8) (a : Fin 64) (b : Fin 64) (xo : Fin 32) (fmt : BitVec 3) (s : State) : Out :=
  .next (s.vecWide k false (encPKCmAvBvXoxFmt3 0x10000077 k c a b xo fmt) (.copr c a b xo fmt))

/-- copr.m: adds an outer product of operands read from memory into a block (R289). -/
def execCoprM (k : Bool) (c : Fin 8) (a : Fin 32) (b : Fin 32) (fmt : BitVec 3) (s : State) : Out :=
  .next (s.vecWide k false (encPKCmAxBxFmt3 0x20000077 k c a b fmt) (.coprM c a b fmt))

/-- cmv.bv: moves rows from a vector register into a block (R291). -/
def execCmvBv (k : Bool) (c : Fin 8) (a : Fin 64) (xo : Fin 32) (s : State) : Out :=
  .next (s.vecWide k false (encPKCmAvXox 0x30000077 k c a xo) (.cmvBv c a xo))

/-- cmv.vb: moves rows from a block into a vector register (R291). -/
def execCmvVb (k : Bool) (d : Fin 64) (c : Fin 8) (xo : Fin 32) (s : State) : Out :=
  .next (s.vecWide k false (encPKDvCmXox 0x40000077 k d c xo) (.cmvVb d c xo))

/-- cld: loads a block from strided memory rows (R292). -/
def execCld (k : Bool) (c : Fin 8) (a : Fin 32) (b : Fin 32) (s : State) : Out :=
  .next (s.vecWide k false (encPKCmAxBx 0x50000077 k c a b) (.cld c a b))

/-- cst: stores a block to strided memory rows (R292). -/
def execCst (k : Bool) (c : Fin 8) (a : Fin 32) (b : Fin 32) (s : State) : Out :=
  .next (s.vecWide k false (encPKCmAxBx 0x60000077 k c a b) (.cst c a b))

/-- czero: zeroes a block and clears its NZ bits (R293). -/
def execCzero (k : Bool) (c : Fin 8) (s : State) : Out :=
  .next (s.vecWide k false (encPKCm 0x70000077 k c) (.czero c))

/-- ccvt: converts FX64 to FP32 or BF16 with MX scales, or computes scales and converts to E4M3 or E2M1 (R300). -/
def execCcvt (k : Bool) (m : Bool) (d : Fin 64) (a : Fin 64) (vs : Fin 64) (ta : BitVec 3) (tb : BitVec 3) (out : BitVec 2) (s : State) : Out :=
  .next (s.vecWide k m (encPKMDvAvVsvTaTbOut2 0x80000077 k m d a vs ta tb out) (.ccvt d a vs ta tb out))

end Sys2Proof.Machine
end

