-- ==== Sys2Proof/Machine/VecMem.lean ====
section
/-! DEFINITION. Loads, stores, gathers, scatters and vector atomics (spec/09_vector_memory_and_motion.md R262-R266).
Each instruction joins its convoy (R163). -/

namespace Sys2Proof.Machine

/-- vld: loads elements from a stream into a register (R263). -/
def execVld (k : Bool) (m : Bool) (d : Fin 64) (st : Fin 16) (s : State) : Out :=
  .next (s.vecWord k m (encKMDvSt 0xEB k m d st) (.load d st))

/-- vst.o: ordered store of a register to a store stream (R263). -/
def execVstO (k : Bool) (m : Bool) (a : Fin 64) (st : Fin 16) (s : State) : Out :=
  .next (s.vecWord k m (encKMAvSt 0x100000EB k m a st) (.store true a st))

/-- vst.u: unordered store of a register to a store stream (R263). -/
def execVstU (k : Bool) (m : Bool) (a : Fin 64) (st : Fin 16) (s : State) : Out :=
  .next (s.vecWord k m (encKMAvSt 0x200000EB k m a st) (.store false a st))

/-- vlx: gathers elements at xb plus scaled indices (R264). -/
def execVlx (k : Bool) (m : Bool) (d : Fin 64) (a : Fin 64) (b : Fin 32) (s : State) : Out :=
  .next (s.vecWord k m (encKMDvAvBx 0xE7 k m d a b) (.gather d a b))

/-- vsx.o: ordered scatter (R264). -/
def execVsxO (k : Bool) (m : Bool) (d : Fin 64) (a : Fin 64) (b : Fin 32) (s : State) : Out :=
  .next (s.vecWord k m (encKMDvAvBx 0x100000E7 k m d a b) (.scatter true d a b))

/-- vsx.u: unordered scatter (R264). -/
def execVsxU (k : Bool) (m : Bool) (d : Fin 64) (a : Fin 64) (b : Fin 32) (s : State) : Out :=
  .next (s.vecWord k m (encKMDvAvBx 0x200000E7 k m d a b) (.scatter false d a b))

/-- vamoswap: vector atomic swap per active element (R266). -/
def execVamoswap (k : Bool) (m : Bool) (d : Fin 64) (a : Fin 64) (sc : BitVec 3) (ord : BitVec 2) (un : Bool) (s : State) : Out :=
  .next (s.vecWord k m (encKMDvAvScOrdUn 0xEF k m d a sc ord un) (.amo .swap d a ord un))

/-- vamoadd: vector atomic add (R266). -/
def execVamoadd (k : Bool) (m : Bool) (d : Fin 64) (a : Fin 64) (sc : BitVec 3) (ord : BitVec 2) (un : Bool) (s : State) : Out :=
  .next (s.vecWord k m (encKMDvAvScOrdUn 0x100000EF k m d a sc ord un) (.amo .add d a ord un))

/-- vamoand: vector atomic and (R266). -/
def execVamoand (k : Bool) (m : Bool) (d : Fin 64) (a : Fin 64) (sc : BitVec 3) (ord : BitVec 2) (un : Bool) (s : State) : Out :=
  .next (s.vecWord k m (encKMDvAvScOrdUn 0x200000EF k m d a sc ord un) (.amo .and d a ord un))

/-- vamoor: vector atomic or (R266). -/
def execVamoor (k : Bool) (m : Bool) (d : Fin 64) (a : Fin 64) (sc : BitVec 3) (ord : BitVec 2) (un : Bool) (s : State) : Out :=
  .next (s.vecWord k m (encKMDvAvScOrdUn 0x300000EF k m d a sc ord un) (.amo .or d a ord un))

/-- vamoxor: vector atomic exclusive-or (R266). -/
def execVamoxor (k : Bool) (m : Bool) (d : Fin 64) (a : Fin 64) (sc : BitVec 3) (ord : BitVec 2) (un : Bool) (s : State) : Out :=
  .next (s.vecWord k m (encKMDvAvScOrdUn 0x400000EF k m d a sc ord un) (.amo .xor d a ord un))

/-- vamomin: vector atomic signed minimum (R266). -/
def execVamomin (k : Bool) (m : Bool) (d : Fin 64) (a : Fin 64) (sc : BitVec 3) (ord : BitVec 2) (un : Bool) (s : State) : Out :=
  .next (s.vecWord k m (encKMDvAvScOrdUn 0x500000EF k m d a sc ord un) (.amo .min d a ord un))

/-- vamomax: vector atomic signed maximum (R266). -/
def execVamomax (k : Bool) (m : Bool) (d : Fin 64) (a : Fin 64) (sc : BitVec 3) (ord : BitVec 2) (un : Bool) (s : State) : Out :=
  .next (s.vecWord k m (encKMDvAvScOrdUn 0x600000EF k m d a sc ord un) (.amo .max d a ord un))

/-- vamominu: vector atomic unsigned minimum (R266). -/
def execVamominu (k : Bool) (m : Bool) (d : Fin 64) (a : Fin 64) (sc : BitVec 3) (ord : BitVec 2) (un : Bool) (s : State) : Out :=
  .next (s.vecWord k m (encKMDvAvScOrdUn 0x700000EF k m d a sc ord un) (.amo .minu d a ord un))

/-- vamomaxu: vector atomic unsigned maximum (R266). -/
def execVamomaxu (k : Bool) (m : Bool) (d : Fin 64) (a : Fin 64) (sc : BitVec 3) (ord : BitVec 2) (un : Bool) (s : State) : Out :=
  .next (s.vecWord k m (encKMDvAvScOrdUn 0x800000EF k m d a sc ord un) (.amo .maxu d a ord un))

/-- vamofx.l: vector FX128 add of INT64 inputs (R266). -/
def execVamofxL (k : Bool) (m : Bool) (d : Fin 64) (a : Fin 64) (sc : BitVec 3) (ord : BitVec 2) (un : Bool) (s : State) : Out :=
  .next (s.vecWord k m (encKMDvAvScOrdUn 0x900000EF k m d a sc ord un) (.amo .fxL d a ord un))

/-- vamofx.d: vector FX128 add of FP64 inputs (R266). -/
def execVamofxD (k : Bool) (m : Bool) (d : Fin 64) (a : Fin 64) (sc : BitVec 3) (ord : BitVec 2) (un : Bool) (s : State) : Out :=
  .next (s.vecWord k m (encKMDvAvScOrdUn 0xA00000EF k m d a sc ord un) (.amo .fxD d a ord un))

/-- vamofx.s: vector FX128 add of FP32 inputs (R266). -/
def execVamofxS (k : Bool) (m : Bool) (d : Fin 64) (a : Fin 64) (sc : BitVec 3) (ord : BitVec 2) (un : Bool) (s : State) : Out :=
  .next (s.vecWord k m (encKMDvAvScOrdUn 0xB00000EF k m d a sc ord un) (.amo .fxS d a ord un))

end Sys2Proof.Machine
end

