-- ==== Sys2Proof/Machine/VecMisc.lean ====
section
/-! DEFINITION. VMISC and VMASK: splats, moves, shapes, merges and mask logic (spec/08_vector_arithmetic.md R233-R235, R245-R247).
Each instruction joins its convoy (R163). -/

namespace Sys2Proof.Machine

/-- vmv.v.x: splats a scalar into a vector register (R233). -/
def execVmvVX (k : Bool) (m : Bool) (d : Fin 64) (b : Fin 32) (s : State) : Out :=
  .next (s.vecWord k m (encKMDvBx 0x67 k m d b) (.ew .splat d 0 (.x b)))

/-- vmv.v.i: splats an immediate into a vector register (R233). -/
def execVmvVI (k : Bool) (m : Bool) (d : Fin 64) (i : BitVec 6) (s : State) : Out :=
  .next (s.vecWord k m (encKMDvI6 0x10000067 k m d i) (.ew .splat d 0 (.imm i)))

/-- vid: writes the element index, with shape A(0, 1) (R233). -/
def execVid (k : Bool) (m : Bool) (d : Fin 64) (s : State) : Out :=
  .next (s.vecWord k m (encKMDv 0x20000067 k m d) (.ew .index d 0 (.imm 0)))

/-- vmv.v.v: copies a vector register (R233). -/
def execVmvVV (k : Bool) (m : Bool) (d : Fin 64) (a : Fin 64) (s : State) : Out :=
  .next (s.vecWord k m (encKMDvAv 0x30000067 k m d a) (.ew .move d a (.imm 0)))

/-- vshape: returns a register's shape tag word (R88). -/
def execVshape (k : Bool) (d : Fin 32) (a : Fin 64) (s : State) : Out :=
  .next (s.vecWord k false (encKDxAv 0x40000067 k d a) (.shape d a))

/-- vshape.u: returns a register's u or base scalar (R88). -/
def execVshapeU (k : Bool) (d : Fin 32) (a : Fin 64) (s : State) : Out :=
  .next (s.vecWord k false (encKDxAv 0x50000067 k d a) (.shapeU d a))

/-- vshape.s: returns a register's step scalar (R88). -/
def execVshapeS (k : Bool) (d : Fin 32) (a : Fin 64) (s : State) : Out :=
  .next (s.vecWord k false (encKDxAv 0x60000067 k d a) (.shapeS d a))

/-- vmat: materializes a U or A register, or refills a spilled one (R87). -/
def execVmat (k : Bool) (a : Fin 64) (s : State) : Out :=
  .next (s.vecWord k false (encKAv 0x70000067 k a) (.mat a))

/-- vmv.x.e: reads one tile element into xd (R234). -/
def execVmvXE (k : Bool) (d : Fin 32) (a : Fin 64) (b : Fin 32) (s : State) : Out :=
  .next (s.vecWord k false (encKDxAvBx 0x80000067 k d a b) (.elem d a b))

/-- vmerge.vvm: selects between two vectors by m0 (R235). -/
def execVmergeVvm (k : Bool) (d : Fin 64) (a : Fin 64) (b : Fin 64) (s : State) : Out :=
  .next (s.vecWord k false (encKDvAvBv 0x90000067 k d a b) (.ew .merge d a (.v b)))

/-- vmerge.vxm: selects between a vector and a scalar by m0 (R235). -/
def execVmergeVxm (k : Bool) (d : Fin 64) (a : Fin 64) (b : Fin 32) (s : State) : Out :=
  .next (s.vecWord k false (encKDvAvBx 0xA0000067 k d a b) (.ew .merge d a (.x b)))

/-- vmerge.vim: selects between a vector and an immediate by m0 (R235). -/
def execVmergeVim (k : Bool) (d : Fin 64) (a : Fin 64) (i : BitVec 6) (s : State) : Out :=
  .next (s.vecWord k false (encKDvAvI6 0xB0000067 k d a i) (.ew .merge d a (.imm i)))

/-- vmand: mask and (R245). -/
def execVmand (k : Bool) (d : Fin 8) (a : Fin 8) (b : Fin 8) (s : State) : Out :=
  .next (s.vecWord k false (encKDmAmBm 0x6B k d a b) (.mask .and d a b))

/-- vmnand: mask nand (R245). -/
def execVmnand (k : Bool) (d : Fin 8) (a : Fin 8) (b : Fin 8) (s : State) : Out :=
  .next (s.vecWord k false (encKDmAmBm 0x1000006B k d a b) (.mask .nand d a b))

/-- vmandn: mask and-not (R245). -/
def execVmandn (k : Bool) (d : Fin 8) (a : Fin 8) (b : Fin 8) (s : State) : Out :=
  .next (s.vecWord k false (encKDmAmBm 0x2000006B k d a b) (.mask .andn d a b))

/-- vmor: mask or (R245). -/
def execVmor (k : Bool) (d : Fin 8) (a : Fin 8) (b : Fin 8) (s : State) : Out :=
  .next (s.vecWord k false (encKDmAmBm 0x3000006B k d a b) (.mask .or d a b))

/-- vmnor: mask nor (R245). -/
def execVmnor (k : Bool) (d : Fin 8) (a : Fin 8) (b : Fin 8) (s : State) : Out :=
  .next (s.vecWord k false (encKDmAmBm 0x4000006B k d a b) (.mask .nor d a b))

/-- vmorn: mask or-not (R245). -/
def execVmorn (k : Bool) (d : Fin 8) (a : Fin 8) (b : Fin 8) (s : State) : Out :=
  .next (s.vecWord k false (encKDmAmBm 0x5000006B k d a b) (.mask .orn d a b))

/-- vmxor: mask exclusive-or (R245). -/
def execVmxor (k : Bool) (d : Fin 8) (a : Fin 8) (b : Fin 8) (s : State) : Out :=
  .next (s.vecWord k false (encKDmAmBm 0x6000006B k d a b) (.mask .xor d a b))

/-- vmxnor: mask exclusive-nor (R245). -/
def execVmxnor (k : Bool) (d : Fin 8) (a : Fin 8) (b : Fin 8) (s : State) : Out :=
  .next (s.vecWord k false (encKDmAmBm 0x7000006B k d a b) (.mask .xnor d a b))

/-- vmcpop: counts set mask bits below VL into xd (R247). -/
def execVmcpop (k : Bool) (d : Fin 32) (a : Fin 8) (s : State) : Out :=
  .next (s.vecWord k false (encKDxAm 0x8000006B k d a) (.mcpop d a))

/-- vmfirst: returns the lowest set mask bit below VL (R247). -/
def execVmfirst (k : Bool) (d : Fin 32) (a : Fin 8) (s : State) : Out :=
  .next (s.vecWord k false (encKDxAm 0x9000006B k d a) (.mfirst d a))

/-- vmset: sets a mask to all ones (R245). -/
def execVmset (k : Bool) (d : Fin 8) (s : State) : Out :=
  .next (s.vecWord k false (encKDm 0xA000006B k d) (.mask .set d 0 0))

/-- vmclr: clears a mask (R245). -/
def execVmclr (k : Bool) (d : Fin 8) (s : State) : Out :=
  .next (s.vecWord k false (encKDm 0xB000006B k d) (.mask .clr d 0 0))

end Sys2Proof.Machine
end

