-- ==== Sys2Proof/Machine/VecStream.lean ====
section
/-! DEFINITION. Streams, channels, kerb commands and seals (spec/09_vector_memory_and_motion.md R254-R256, R267-R273;
spec/11_memory_side_engines.md R304-R324).
Each instruction joins its convoy (R163). -/

namespace Sys2Proof.Machine

/-- vscfg: configures a load or store stream from a 64-byte shape record (R254). -/
def execVscfg (k : Bool) (a : Fin 32) (st : Fin 16) (s : State) : Out :=
  .next (s.vecWord k false (encKAxSt 0x6F k a st) (.scfg a st))

/-- vscfgr: configures a one-dimensional stream from registers (R254). -/
def execVscfgr (k : Bool) (a : Fin 32) (c : Fin 32) (st : Fin 16) (s : State) : Out :=
  .next (s.vecWord k false (encKAxCxSt 0x1000006F k a c st) (.scfgr a c st))

/-- vcopy: declares an untapped copy stream to DBASE (R267). -/
def execVcopy (k : Bool) (a : Fin 32) (b : Fin 32) (st : Fin 16) (s : State) : Out :=
  .next (s.vecWord k false (encKAxBxSt 0x2000006F k a b st) (.copy .plain a b st))

/-- vcopy.t: declares a tapped copy stream that can also be consumed (R269). -/
def execVcopyT (k : Bool) (a : Fin 32) (b : Fin 32) (st : Fin 16) (s : State) : Out :=
  .next (s.vecWord k false (encKAxBxSt 0x3000006F k a b st) (.copy .tap a b st))

/-- vcopy.addl: declares a destination-add copy of INT64 inputs into FX128 cells (R270). -/
def execVcopyAddl (k : Bool) (a : Fin 32) (b : Fin 32) (st : Fin 16) (s : State) : Out :=
  .next (s.vecWord k false (encKAxBxSt 0x4000006F k a b st) (.copy .addl a b st))

/-- vcopy.addd: declares a destination-add copy of FP64 inputs (R270). -/
def execVcopyAddd (k : Bool) (a : Fin 32) (b : Fin 32) (st : Fin 16) (s : State) : Out :=
  .next (s.vecWord k false (encKAxBxSt 0x5000006F k a b st) (.copy .addd a b st))

/-- vcopy.adds: declares a destination-add copy of FP32 inputs (R270). -/
def execVcopyAdds (k : Bool) (a : Fin 32) (b : Fin 32) (st : Fin 16) (s : State) : Out :=
  .next (s.vecWord k false (encKAxBxSt 0x6000006F k a b st) (.copy .adds a b st))

/-- vchsend: binds a stream register to send to a channel address (R272). -/
def execVchsend (k : Bool) (a : Fin 32) (b : Fin 32) (st : Fin 16) (s : State) : Out :=
  .next (s.vecWord k false (encKAxBxSt 0x7000006F k a b st) (.chsend a b st))

/-- vchrecv: binds a stream register to one of the hart's receive channels (R272). -/
def execVchrecv (k : Bool) (a : Fin 32) (st : Fin 16) (s : State) : Out :=
  .next (s.vecWord k false (encKAxSt 0x8000006F k a st) (.chrecv a st))

/-- vsend: sends tile elements of a vector group over a bound channel (R273). -/
def execVsend (k : Bool) (a : Fin 64) (st : Fin 16) (s : State) : Out :=
  .next (s.vecWord k false (encKAvSt 0x9000006F k a st) (.send a false st))

/-- vsend.eom: sends tile elements, then an END word (R273). -/
def execVsendEom (k : Bool) (a : Fin 64) (st : Fin 16) (s : State) : Out :=
  .next (s.vecWord k false (encKAvSt 0xA000006F k a st) (.send a true st))

/-- veom: sends an END word alone (R273). -/
def execVeom (k : Bool) (st : Fin 16) (s : State) : Out :=
  .next (s.vecWord k false (encKSt 0xB000006F k st) (.eom st))

/-- vsget: reads one field of a stream register into xd (R255). -/
def execVsget (k : Bool) (d : Fin 32) (st : Fin 16) (i : BitVec 6) (s : State) : Out :=
  .next (s.vecWord k false (encKDxStI6 0xC000006F k d st i) (.sget d st i))

/-- vsidle: waits for the stream's entry, then returns it to IDLE or reports its DATAERR (R256). -/
def execVsidle (k : Bool) (st : Fin 16) (s : State) : Out :=
  .next (s.vecWord k false (encKSt 0xD000006F k st) (.sidle st))

/-- kswage: issues a near-memory dot-product command over quarter rows (R310). -/
def execKswage (k : Bool) (a : Fin 32) (st : Fin 16) (s : State) : Out :=
  .next (s.vecWord k false (encKAxSt 0x73 k a st) (.kerb 0 a st 0))

/-- kpool: issues an indexed-reduce pool command into FX128 cells (R311). -/
def execKpool (k : Bool) (a : Fin 32) (st : Fin 16) (s : State) : Out :=
  .next (s.vecWord k false (encKAxSt 0x10000073 k a st) (.kerb 1 a st 0))

/-- ktongs: issues a Tongs predicate or top-k scan (R312). -/
def execKtongs (k : Bool) (a : Fin 32) (st : Fin 16) (s : State) : Out :=
  .next (s.vecWord k false (encKAxSt 0x20000073 k a st) (.kerb 2 a st 0))

/-- seal: seals a buffer as an immutable version (R322). -/
def execSeal (k : Bool) (d : Fin 32) (a : Fin 32) (b : Fin 32) (s : State) : Out :=
  .next (s.vecWord k false (encKDxAxBx 0x40000073 k d a b) (.seal d a b))

/-- unseal: ends a live seal of a given version (R324). -/
def execUnseal (k : Bool) (d : Fin 32) (a : Fin 32) (b : Fin 32) (s : State) : Out :=
  .next (s.vecWord k false (encKDxAxBx 0x50000073 k d a b) (.unseal d a b))

end Sys2Proof.Machine
end

