-- ==== Sys2Proof/Machine/Dispatch.lean ====
section
/-! DEFINITION. The meaning of every instruction and event: one arm per constructor of Instr, each one call. -/

namespace Sys2Proof.Machine

/-- One instruction of the current hart, or one event of the machine. -/
def exec (i : Instr) (s : State) : Host.Outcome State Fault Refusal :=
  match i with
  | .add d a b => Sys2Proof.Machine.execAdd d a b s
  | .sub d a b => Sys2Proof.Machine.execSub d a b s
  | .sll d a b => Sys2Proof.Machine.execSll d a b s
  | .slt d a b => Sys2Proof.Machine.execSlt d a b s
  | .sltu d a b => Sys2Proof.Machine.execSltu d a b s
  | .xor d a b => Sys2Proof.Machine.execXor d a b s
  | .srl d a b => Sys2Proof.Machine.execSrl d a b s
  | .sra d a b => Sys2Proof.Machine.execSra d a b s
  | .or d a b => Sys2Proof.Machine.execOr d a b s
  | .and d a b => Sys2Proof.Machine.execAnd d a b s
  | .mul d a b => Sys2Proof.Machine.execMul d a b s
  | .mulh d a b => Sys2Proof.Machine.execMulh d a b s
  | .mulhsu d a b => Sys2Proof.Machine.execMulhsu d a b s
  | .mulhu d a b => Sys2Proof.Machine.execMulhu d a b s
  | .div d a b => Sys2Proof.Machine.execDiv d a b s
  | .divu d a b => Sys2Proof.Machine.execDivu d a b s
  | .rem d a b => Sys2Proof.Machine.execRem d a b s
  | .remu d a b => Sys2Proof.Machine.execRemu d a b s
  | .min d a b => Sys2Proof.Machine.execMin d a b s
  | .max d a b => Sys2Proof.Machine.execMax d a b s
  | .minu d a b => Sys2Proof.Machine.execMinu d a b s
  | .maxu d a b => Sys2Proof.Machine.execMaxu d a b s
  | .andn d a b => Sys2Proof.Machine.execAndn d a b s
  | .orn d a b => Sys2Proof.Machine.execOrn d a b s
  | .rol d a b => Sys2Proof.Machine.execRol d a b s
  | .ror d a b => Sys2Proof.Machine.execRor d a b s
  | .sh1add d a b => Sys2Proof.Machine.execSh1add d a b s
  | .sh2add d a b => Sys2Proof.Machine.execSh2add d a b s
  | .sh3add d a b => Sys2Proof.Machine.execSh3add d a b s
  | .clz d a => Sys2Proof.Machine.execClz d a s
  | .ctz d a => Sys2Proof.Machine.execCtz d a s
  | .cpop d a => Sys2Proof.Machine.execCpop d a s
  | .addi d a imm => Sys2Proof.Machine.execAddi d a imm s
  | .slli d a sh => Sys2Proof.Machine.execSlli d a sh s
  | .slti d a imm => Sys2Proof.Machine.execSlti d a imm s
  | .sltiu d a imm => Sys2Proof.Machine.execSltiu d a imm s
  | .xori d a imm => Sys2Proof.Machine.execXori d a imm s
  | .srli d a sh => Sys2Proof.Machine.execSrli d a sh s
  | .srai d a sh => Sys2Proof.Machine.execSrai d a sh s
  | .ori d a imm => Sys2Proof.Machine.execOri d a imm s
  | .andi d a imm => Sys2Proof.Machine.execAndi d a imm s
  | .addw d a b => Sys2Proof.Machine.execAddw d a b s
  | .subw d a b => Sys2Proof.Machine.execSubw d a b s
  | .sllw d a b => Sys2Proof.Machine.execSllw d a b s
  | .srlw d a b => Sys2Proof.Machine.execSrlw d a b s
  | .sraw d a b => Sys2Proof.Machine.execSraw d a b s
  | .mulw d a b => Sys2Proof.Machine.execMulw d a b s
  | .divw d a b => Sys2Proof.Machine.execDivw d a b s
  | .divuw d a b => Sys2Proof.Machine.execDivuw d a b s
  | .remw d a b => Sys2Proof.Machine.execRemw d a b s
  | .remuw d a b => Sys2Proof.Machine.execRemuw d a b s
  | .addiw d a imm => Sys2Proof.Machine.execAddiw d a imm s
  | .slliw d a sh => Sys2Proof.Machine.execSlliw d a sh s
  | .srliw d a sh => Sys2Proof.Machine.execSrliw d a sh s
  | .sraiw d a sh => Sys2Proof.Machine.execSraiw d a sh s
  | .lui d imm => Sys2Proof.Machine.execLui d imm s
  | .auipc d imm => Sys2Proof.Machine.execAuipc d imm s
  | .jal d imm => Sys2Proof.Machine.execJal d imm s
  | .jalr d a imm => Sys2Proof.Machine.execJalr d a imm s
  | .beq a b imm => Sys2Proof.Machine.execBeq a b imm s
  | .bne a b imm => Sys2Proof.Machine.execBne a b imm s
  | .blt a b imm => Sys2Proof.Machine.execBlt a b imm s
  | .bge a b imm => Sys2Proof.Machine.execBge a b imm s
  | .bltu a b imm => Sys2Proof.Machine.execBltu a b imm s
  | .bgeu a b imm => Sys2Proof.Machine.execBgeu a b imm s
  | .bbs a b imm => Sys2Proof.Machine.execBbs a b imm s
  | .bbc a b imm => Sys2Proof.Machine.execBbc a b imm s
  | .lb d a imm => Sys2Proof.Machine.execLb d a imm s
  | .lh d a imm => Sys2Proof.Machine.execLh d a imm s
  | .lw d a imm => Sys2Proof.Machine.execLw d a imm s
  | .ld d a imm => Sys2Proof.Machine.execLd d a imm s
  | .lbu d a imm => Sys2Proof.Machine.execLbu d a imm s
  | .lhu d a imm => Sys2Proof.Machine.execLhu d a imm s
  | .lwu d a imm => Sys2Proof.Machine.execLwu d a imm s
  | .sb a b imm => Sys2Proof.Machine.execSb a b imm s
  | .sh a b imm => Sys2Proof.Machine.execSh a b imm s
  | .sw a b imm => Sys2Proof.Machine.execSw a b imm s
  | .sd a b imm => Sys2Proof.Machine.execSd a b imm s
  | .lbOrd d a sc ord => Sys2Proof.Machine.execLbOrd d a sc ord s
  | .lhOrd d a sc ord => Sys2Proof.Machine.execLhOrd d a sc ord s
  | .lwOrd d a sc ord => Sys2Proof.Machine.execLwOrd d a sc ord s
  | .ldOrd d a sc ord => Sys2Proof.Machine.execLdOrd d a sc ord s
  | .lbuOrd d a sc ord => Sys2Proof.Machine.execLbuOrd d a sc ord s
  | .lhuOrd d a sc ord => Sys2Proof.Machine.execLhuOrd d a sc ord s
  | .lwuOrd d a sc ord => Sys2Proof.Machine.execLwuOrd d a sc ord s
  | .sbOrd a b sc ord => Sys2Proof.Machine.execSbOrd a b sc ord s
  | .shOrd a b sc ord => Sys2Proof.Machine.execShOrd a b sc ord s
  | .swOrd a b sc ord => Sys2Proof.Machine.execSwOrd a b sc ord s
  | .sdOrd a b sc ord => Sys2Proof.Machine.execSdOrd a b sc ord s
  | .amoswap d a b sc ord => Sys2Proof.Machine.execAmoswap d a b sc ord s
  | .amoadd d a b sc ord => Sys2Proof.Machine.execAmoadd d a b sc ord s
  | .amoand d a b sc ord => Sys2Proof.Machine.execAmoand d a b sc ord s
  | .amoor d a b sc ord => Sys2Proof.Machine.execAmoor d a b sc ord s
  | .amoxor d a b sc ord => Sys2Proof.Machine.execAmoxor d a b sc ord s
  | .amomin d a b sc ord => Sys2Proof.Machine.execAmomin d a b sc ord s
  | .amomax d a b sc ord => Sys2Proof.Machine.execAmomax d a b sc ord s
  | .amominu d a b sc ord => Sys2Proof.Machine.execAmominu d a b sc ord s
  | .amomaxu d a b sc ord => Sys2Proof.Machine.execAmomaxu d a b sc ord s
  | .amocas d a b sc ord => Sys2Proof.Machine.execAmocas d a b sc ord s
  | .amofxL d a b sc ord => Sys2Proof.Machine.execAmofxL d a b sc ord s
  | .amofxD d a b sc ord => Sys2Proof.Machine.execAmofxD d a b sc ord s
  | .amofxS d a b sc ord => Sys2Proof.Machine.execAmofxS d a b sc ord s
  | .fadd d a b fmt rm => Sys2Proof.Machine.execFadd d a b fmt rm s
  | .fsub d a b fmt rm => Sys2Proof.Machine.execFsub d a b fmt rm s
  | .fmul d a b fmt rm => Sys2Proof.Machine.execFmul d a b fmt rm s
  | .fdiv d a b fmt rm => Sys2Proof.Machine.execFdiv d a b fmt rm s
  | .fsqrt d a fmt rm => Sys2Proof.Machine.execFsqrt d a fmt rm s
  | .fmin d a b fmt => Sys2Proof.Machine.execFmin d a b fmt s
  | .fmax d a b fmt => Sys2Proof.Machine.execFmax d a b fmt s
  | .feq d a b fmt => Sys2Proof.Machine.execFeq d a b fmt s
  | .flt d a b fmt => Sys2Proof.Machine.execFlt d a b fmt s
  | .fle d a b fmt => Sys2Proof.Machine.execFle d a b fmt s
  | .fclass d a fmt => Sys2Proof.Machine.execFclass d a fmt s
  | .fcvtItFmt d a ty fmt rm => Sys2Proof.Machine.execFcvtItFmt d a ty fmt rm s
  | .fcvtFmtIt d a ty fmt rm => Sys2Proof.Machine.execFcvtFmtIt d a ty fmt rm s
  | .fcvtFmtSf d a ty fmt rm => Sys2Proof.Machine.execFcvtFmtSf d a ty fmt rm s
  | .fmadd d a b c fmt => Sys2Proof.Machine.execFmadd d a b c fmt s
  | .fmsub d a b c fmt => Sys2Proof.Machine.execFmsub d a b c fmt s
  | .fnmsub d a b c fmt => Sys2Proof.Machine.execFnmsub d a b c fmt s
  | .fnmadd d a b c fmt => Sys2Proof.Machine.execFnmadd d a b c fmt s
  | .fence sc ord => Sys2Proof.Machine.execFence sc ord s
  | .mon a => Sys2Proof.Machine.execMon a s
  | .mwait d a => Sys2Proof.Machine.execMwait d a s
  | .barArrive d a sc ord => Sys2Proof.Machine.execBarArrive d a sc ord s
  | .barWait a b sc => Sys2Proof.Machine.execBarWait a b sc s
  | .claim d a b sc ord => Sys2Proof.Machine.execClaim d a b sc ord s
  | .yield => Sys2Proof.Machine.execYield s
  | .mfs d n => Sys2Proof.Machine.execMfs d n s
  | .mts a n => Sys2Proof.Machine.execMts a n s
  | .tcall => Sys2Proof.Machine.execTcall s
  | .brk => Sys2Proof.Machine.execBrk s
  | .tret => Sys2Proof.Machine.execTret s
  | .stop => Sys2Proof.Machine.execStop s
  | .spawn d a => Sys2Proof.Machine.execSpawn d a s
  | .hstop d a => Sys2Proof.Machine.execHstop d a s
  | .gsusp d a b => Sys2Proof.Machine.execGsusp d a b s
  | .qlease d a b => Sys2Proof.Machine.execQlease d a b s
  | .nop d a b => Sys2Proof.Machine.execNop d a b s
  | .prefR d a b => Sys2Proof.Machine.execPrefR d a b s
  | .prefW d a b => Sys2Proof.Machine.execPrefW d a b s
  | .cLd d a imm => Sys2Proof.Machine.execCLd d a imm s
  | .cLw d a imm => Sys2Proof.Machine.execCLw d a imm s
  | .cSd a b imm => Sys2Proof.Machine.execCSd a b imm s
  | .cSw a b imm => Sys2Proof.Machine.execCSw a b imm s
  | .cAddisp d imm => Sys2Proof.Machine.execCAddisp d imm s
  | .cAddi d imm => Sys2Proof.Machine.execCAddi d imm s
  | .cLi d imm => Sys2Proof.Machine.execCLi d imm s
  | .cJ imm => Sys2Proof.Machine.execCJ imm s
  | .cBeqz a imm => Sys2Proof.Machine.execCBeqz a imm s
  | .cBnez a imm => Sys2Proof.Machine.execCBnez a imm s
  | .cMv d b => Sys2Proof.Machine.execCMv d b s
  | .cAdd d b => Sys2Proof.Machine.execCAdd d b s
  | .cJr a => Sys2Proof.Machine.execCJr a s
  | .cJalr a => Sys2Proof.Machine.execCJalr a s
  | .cLdsp d imm => Sys2Proof.Machine.execCLdsp d imm s
  | .cSdsp b imm => Sys2Proof.Machine.execCSdsp b imm s
  | .vsetvl d a b => Sys2Proof.Machine.execVsetvl d a b s
  | .vsetvlK d a b => Sys2Proof.Machine.execVsetvlK d a b s
  | .vrows d a => Sys2Proof.Machine.execVrows d a s
  | .vmvVX k m d b => Sys2Proof.Machine.execVmvVX k m d b s
  | .vmvVI k m d imm => Sys2Proof.Machine.execVmvVI k m d imm s
  | .vid k m d => Sys2Proof.Machine.execVid k m d s
  | .vmvVV k m d a => Sys2Proof.Machine.execVmvVV k m d a s
  | .vshape k d a => Sys2Proof.Machine.execVshape k d a s
  | .vshapeU k d a => Sys2Proof.Machine.execVshapeU k d a s
  | .vshapeS k d a => Sys2Proof.Machine.execVshapeS k d a s
  | .vmat k a => Sys2Proof.Machine.execVmat k a s
  | .vmvXE k d a b => Sys2Proof.Machine.execVmvXE k d a b s
  | .vmergeVvm k d a b => Sys2Proof.Machine.execVmergeVvm k d a b s
  | .vmergeVxm k d a b => Sys2Proof.Machine.execVmergeVxm k d a b s
  | .vmergeVim k d a imm => Sys2Proof.Machine.execVmergeVim k d a imm s
  | .vmand k d a b => Sys2Proof.Machine.execVmand k d a b s
  | .vmnand k d a b => Sys2Proof.Machine.execVmnand k d a b s
  | .vmandn k d a b => Sys2Proof.Machine.execVmandn k d a b s
  | .vmor k d a b => Sys2Proof.Machine.execVmor k d a b s
  | .vmnor k d a b => Sys2Proof.Machine.execVmnor k d a b s
  | .vmorn k d a b => Sys2Proof.Machine.execVmorn k d a b s
  | .vmxor k d a b => Sys2Proof.Machine.execVmxor k d a b s
  | .vmxnor k d a b => Sys2Proof.Machine.execVmxnor k d a b s
  | .vmcpop k d a => Sys2Proof.Machine.execVmcpop k d a s
  | .vmfirst k d a => Sys2Proof.Machine.execVmfirst k d a s
  | .vmset k d => Sys2Proof.Machine.execVmset k d s
  | .vmclr k d => Sys2Proof.Machine.execVmclr k d s
  | .vscfg k a st => Sys2Proof.Machine.execVscfg k a st s
  | .vscfgr k a c st => Sys2Proof.Machine.execVscfgr k a c st s
  | .vcopy k a b st => Sys2Proof.Machine.execVcopy k a b st s
  | .vcopyT k a b st => Sys2Proof.Machine.execVcopyT k a b st s
  | .vcopyAddl k a b st => Sys2Proof.Machine.execVcopyAddl k a b st s
  | .vcopyAddd k a b st => Sys2Proof.Machine.execVcopyAddd k a b st s
  | .vcopyAdds k a b st => Sys2Proof.Machine.execVcopyAdds k a b st s
  | .vchsend k a b st => Sys2Proof.Machine.execVchsend k a b st s
  | .vchrecv k a st => Sys2Proof.Machine.execVchrecv k a st s
  | .vsend k a st => Sys2Proof.Machine.execVsend k a st s
  | .vsendEom k a st => Sys2Proof.Machine.execVsendEom k a st s
  | .veom k st => Sys2Proof.Machine.execVeom k st s
  | .vsget k d st imm => Sys2Proof.Machine.execVsget k d st imm s
  | .vsidle k st => Sys2Proof.Machine.execVsidle k st s
  | .kswage k a st => Sys2Proof.Machine.execKswage k a st s
  | .kpool k a st => Sys2Proof.Machine.execKpool k a st s
  | .ktongs k a st => Sys2Proof.Machine.execKtongs k a st s
  | .seal k d a b => Sys2Proof.Machine.execSeal k d a b s
  | .unseal k d a b => Sys2Proof.Machine.execUnseal k d a b s
  | .vld k m d st => Sys2Proof.Machine.execVld k m d st s
  | .vstO k m a st => Sys2Proof.Machine.execVstO k m a st s
  | .vstU k m a st => Sys2Proof.Machine.execVstU k m a st s
  | .vlx k m d a b => Sys2Proof.Machine.execVlx k m d a b s
  | .vsxO k m d a b => Sys2Proof.Machine.execVsxO k m d a b s
  | .vsxU k m d a b => Sys2Proof.Machine.execVsxU k m d a b s
  | .vamoswap k m d a sc ord un => Sys2Proof.Machine.execVamoswap k m d a sc ord un s
  | .vamoadd k m d a sc ord un => Sys2Proof.Machine.execVamoadd k m d a sc ord un s
  | .vamoand k m d a sc ord un => Sys2Proof.Machine.execVamoand k m d a sc ord un s
  | .vamoor k m d a sc ord un => Sys2Proof.Machine.execVamoor k m d a sc ord un s
  | .vamoxor k m d a sc ord un => Sys2Proof.Machine.execVamoxor k m d a sc ord un s
  | .vamomin k m d a sc ord un => Sys2Proof.Machine.execVamomin k m d a sc ord un s
  | .vamomax k m d a sc ord un => Sys2Proof.Machine.execVamomax k m d a sc ord un s
  | .vamominu k m d a sc ord un => Sys2Proof.Machine.execVamominu k m d a sc ord un s
  | .vamomaxu k m d a sc ord un => Sys2Proof.Machine.execVamomaxu k m d a sc ord un s
  | .vamofxL k m d a sc ord un => Sys2Proof.Machine.execVamofxL k m d a sc ord un s
  | .vamofxD k m d a sc ord un => Sys2Proof.Machine.execVamofxD k m d a sc ord un s
  | .vamofxS k m d a sc ord un => Sys2Proof.Machine.execVamofxS k m d a sc ord un s
  | .vaddVv k m d a b => Sys2Proof.Machine.execVaddVv k m d a b s
  | .vaddVx k m d a b => Sys2Proof.Machine.execVaddVx k m d a b s
  | .vaddVs k m d a st => Sys2Proof.Machine.execVaddVs k m d a st s
  | .vaddVi k m d a imm => Sys2Proof.Machine.execVaddVi k m d a imm s
  | .vsubVv k m d a b => Sys2Proof.Machine.execVsubVv k m d a b s
  | .vsubVx k m d a b => Sys2Proof.Machine.execVsubVx k m d a b s
  | .vsubVs k m d a st => Sys2Proof.Machine.execVsubVs k m d a st s
  | .vsubVi k m d a imm => Sys2Proof.Machine.execVsubVi k m d a imm s
  | .vrsubVv k m d a b => Sys2Proof.Machine.execVrsubVv k m d a b s
  | .vrsubVx k m d a b => Sys2Proof.Machine.execVrsubVx k m d a b s
  | .vrsubVs k m d a st => Sys2Proof.Machine.execVrsubVs k m d a st s
  | .vrsubVi k m d a imm => Sys2Proof.Machine.execVrsubVi k m d a imm s
  | .vandVv k m d a b => Sys2Proof.Machine.execVandVv k m d a b s
  | .vandVx k m d a b => Sys2Proof.Machine.execVandVx k m d a b s
  | .vandVs k m d a st => Sys2Proof.Machine.execVandVs k m d a st s
  | .vandVi k m d a imm => Sys2Proof.Machine.execVandVi k m d a imm s
  | .vorVv k m d a b => Sys2Proof.Machine.execVorVv k m d a b s
  | .vorVx k m d a b => Sys2Proof.Machine.execVorVx k m d a b s
  | .vorVs k m d a st => Sys2Proof.Machine.execVorVs k m d a st s
  | .vorVi k m d a imm => Sys2Proof.Machine.execVorVi k m d a imm s
  | .vxorVv k m d a b => Sys2Proof.Machine.execVxorVv k m d a b s
  | .vxorVx k m d a b => Sys2Proof.Machine.execVxorVx k m d a b s
  | .vxorVs k m d a st => Sys2Proof.Machine.execVxorVs k m d a st s
  | .vxorVi k m d a imm => Sys2Proof.Machine.execVxorVi k m d a imm s
  | .vsllVv k m d a b => Sys2Proof.Machine.execVsllVv k m d a b s
  | .vsllVx k m d a b => Sys2Proof.Machine.execVsllVx k m d a b s
  | .vsllVs k m d a st => Sys2Proof.Machine.execVsllVs k m d a st s
  | .vsllVi k m d a imm => Sys2Proof.Machine.execVsllVi k m d a imm s
  | .vsrlVv k m d a b => Sys2Proof.Machine.execVsrlVv k m d a b s
  | .vsrlVx k m d a b => Sys2Proof.Machine.execVsrlVx k m d a b s
  | .vsrlVs k m d a st => Sys2Proof.Machine.execVsrlVs k m d a st s
  | .vsrlVi k m d a imm => Sys2Proof.Machine.execVsrlVi k m d a imm s
  | .vsraVv k m d a b => Sys2Proof.Machine.execVsraVv k m d a b s
  | .vsraVx k m d a b => Sys2Proof.Machine.execVsraVx k m d a b s
  | .vsraVs k m d a st => Sys2Proof.Machine.execVsraVs k m d a st s
  | .vsraVi k m d a imm => Sys2Proof.Machine.execVsraVi k m d a imm s
  | .vmulVv k m d a b => Sys2Proof.Machine.execVmulVv k m d a b s
  | .vmulVx k m d a b => Sys2Proof.Machine.execVmulVx k m d a b s
  | .vmulVs k m d a st => Sys2Proof.Machine.execVmulVs k m d a st s
  | .vmulVi k m d a imm => Sys2Proof.Machine.execVmulVi k m d a imm s
  | .vmulhVv k m d a b => Sys2Proof.Machine.execVmulhVv k m d a b s
  | .vmulhVx k m d a b => Sys2Proof.Machine.execVmulhVx k m d a b s
  | .vmulhVs k m d a st => Sys2Proof.Machine.execVmulhVs k m d a st s
  | .vmulhVi k m d a imm => Sys2Proof.Machine.execVmulhVi k m d a imm s
  | .vmulhuVv k m d a b => Sys2Proof.Machine.execVmulhuVv k m d a b s
  | .vmulhuVx k m d a b => Sys2Proof.Machine.execVmulhuVx k m d a b s
  | .vmulhuVs k m d a st => Sys2Proof.Machine.execVmulhuVs k m d a st s
  | .vmulhuVi k m d a imm => Sys2Proof.Machine.execVmulhuVi k m d a imm s
  | .vminVv k m d a b => Sys2Proof.Machine.execVminVv k m d a b s
  | .vminVx k m d a b => Sys2Proof.Machine.execVminVx k m d a b s
  | .vminVs k m d a st => Sys2Proof.Machine.execVminVs k m d a st s
  | .vminVi k m d a imm => Sys2Proof.Machine.execVminVi k m d a imm s
  | .vmaxVv k m d a b => Sys2Proof.Machine.execVmaxVv k m d a b s
  | .vmaxVx k m d a b => Sys2Proof.Machine.execVmaxVx k m d a b s
  | .vmaxVs k m d a st => Sys2Proof.Machine.execVmaxVs k m d a st s
  | .vmaxVi k m d a imm => Sys2Proof.Machine.execVmaxVi k m d a imm s
  | .vminuVv k m d a b => Sys2Proof.Machine.execVminuVv k m d a b s
  | .vminuVx k m d a b => Sys2Proof.Machine.execVminuVx k m d a b s
  | .vminuVs k m d a st => Sys2Proof.Machine.execVminuVs k m d a st s
  | .vminuVi k m d a imm => Sys2Proof.Machine.execVminuVi k m d a imm s
  | .vmaxuVv k m d a b => Sys2Proof.Machine.execVmaxuVv k m d a b s
  | .vmaxuVx k m d a b => Sys2Proof.Machine.execVmaxuVx k m d a b s
  | .vmaxuVs k m d a st => Sys2Proof.Machine.execVmaxuVs k m d a st s
  | .vmaxuVi k m d a imm => Sys2Proof.Machine.execVmaxuVi k m d a imm s
  | .vsaddVv k m d a b => Sys2Proof.Machine.execVsaddVv k m d a b s
  | .vsaddVx k m d a b => Sys2Proof.Machine.execVsaddVx k m d a b s
  | .vsaddVs k m d a st => Sys2Proof.Machine.execVsaddVs k m d a st s
  | .vsaddVi k m d a imm => Sys2Proof.Machine.execVsaddVi k m d a imm s
  | .vsadduVv k m d a b => Sys2Proof.Machine.execVsadduVv k m d a b s
  | .vsadduVx k m d a b => Sys2Proof.Machine.execVsadduVx k m d a b s
  | .vsadduVs k m d a st => Sys2Proof.Machine.execVsadduVs k m d a st s
  | .vsadduVi k m d a imm => Sys2Proof.Machine.execVsadduVi k m d a imm s
  | .vssubVv k m d a b => Sys2Proof.Machine.execVssubVv k m d a b s
  | .vssubVx k m d a b => Sys2Proof.Machine.execVssubVx k m d a b s
  | .vssubVs k m d a st => Sys2Proof.Machine.execVssubVs k m d a st s
  | .vssubVi k m d a imm => Sys2Proof.Machine.execVssubVi k m d a imm s
  | .vssubuVv k m d a b => Sys2Proof.Machine.execVssubuVv k m d a b s
  | .vssubuVx k m d a b => Sys2Proof.Machine.execVssubuVx k m d a b s
  | .vssubuVs k m d a st => Sys2Proof.Machine.execVssubuVs k m d a st s
  | .vssubuVi k m d a imm => Sys2Proof.Machine.execVssubuVi k m d a imm s
  | .vaaddVv k m d a b => Sys2Proof.Machine.execVaaddVv k m d a b s
  | .vaaddVx k m d a b => Sys2Proof.Machine.execVaaddVx k m d a b s
  | .vaaddVs k m d a st => Sys2Proof.Machine.execVaaddVs k m d a st s
  | .vaaddVi k m d a imm => Sys2Proof.Machine.execVaaddVi k m d a imm s
  | .vaadduVv k m d a b => Sys2Proof.Machine.execVaadduVv k m d a b s
  | .vaadduVx k m d a b => Sys2Proof.Machine.execVaadduVx k m d a b s
  | .vaadduVs k m d a st => Sys2Proof.Machine.execVaadduVs k m d a st s
  | .vaadduVi k m d a imm => Sys2Proof.Machine.execVaadduVi k m d a imm s
  | .vsmulVv k m d a b => Sys2Proof.Machine.execVsmulVv k m d a b s
  | .vsmulVx k m d a b => Sys2Proof.Machine.execVsmulVx k m d a b s
  | .vsmulVs k m d a st => Sys2Proof.Machine.execVsmulVs k m d a st s
  | .vsmulVi k m d a imm => Sys2Proof.Machine.execVsmulVi k m d a imm s
  | .vssrlVv k m d a b => Sys2Proof.Machine.execVssrlVv k m d a b s
  | .vssrlVx k m d a b => Sys2Proof.Machine.execVssrlVx k m d a b s
  | .vssrlVs k m d a st => Sys2Proof.Machine.execVssrlVs k m d a st s
  | .vssrlVi k m d a imm => Sys2Proof.Machine.execVssrlVi k m d a imm s
  | .vssraVv k m d a b => Sys2Proof.Machine.execVssraVv k m d a b s
  | .vssraVx k m d a b => Sys2Proof.Machine.execVssraVx k m d a b s
  | .vssraVs k m d a st => Sys2Proof.Machine.execVssraVs k m d a st s
  | .vssraVi k m d a imm => Sys2Proof.Machine.execVssraVi k m d a imm s
  | .vwaddVv k m d a b => Sys2Proof.Machine.execVwaddVv k m d a b s
  | .vwaddVx k m d a b => Sys2Proof.Machine.execVwaddVx k m d a b s
  | .vwaddVs k m d a st => Sys2Proof.Machine.execVwaddVs k m d a st s
  | .vwaddVi k m d a imm => Sys2Proof.Machine.execVwaddVi k m d a imm s
  | .vwadduVv k m d a b => Sys2Proof.Machine.execVwadduVv k m d a b s
  | .vwadduVx k m d a b => Sys2Proof.Machine.execVwadduVx k m d a b s
  | .vwadduVs k m d a st => Sys2Proof.Machine.execVwadduVs k m d a st s
  | .vwadduVi k m d a imm => Sys2Proof.Machine.execVwadduVi k m d a imm s
  | .vwmulVv k m d a b => Sys2Proof.Machine.execVwmulVv k m d a b s
  | .vwmulVx k m d a b => Sys2Proof.Machine.execVwmulVx k m d a b s
  | .vwmulVs k m d a st => Sys2Proof.Machine.execVwmulVs k m d a st s
  | .vwmulVi k m d a imm => Sys2Proof.Machine.execVwmulVi k m d a imm s
  | .vwmuluVv k m d a b => Sys2Proof.Machine.execVwmuluVv k m d a b s
  | .vwmuluVx k m d a b => Sys2Proof.Machine.execVwmuluVx k m d a b s
  | .vwmuluVs k m d a st => Sys2Proof.Machine.execVwmuluVs k m d a st s
  | .vwmuluVi k m d a imm => Sys2Proof.Machine.execVwmuluVi k m d a imm s
  | .vnclipVv k m d a b => Sys2Proof.Machine.execVnclipVv k m d a b s
  | .vnclipVx k m d a b => Sys2Proof.Machine.execVnclipVx k m d a b s
  | .vnclipVs k m d a st => Sys2Proof.Machine.execVnclipVs k m d a st s
  | .vnclipVi k m d a imm => Sys2Proof.Machine.execVnclipVi k m d a imm s
  | .vnclipuVv k m d a b => Sys2Proof.Machine.execVnclipuVv k m d a b s
  | .vnclipuVx k m d a b => Sys2Proof.Machine.execVnclipuVx k m d a b s
  | .vnclipuVs k m d a st => Sys2Proof.Machine.execVnclipuVs k m d a st s
  | .vnclipuVi k m d a imm => Sys2Proof.Machine.execVnclipuVi k m d a imm s
  | .vfaddVv k m d a b => Sys2Proof.Machine.execVfaddVv k m d a b s
  | .vfaddVx k m d a b => Sys2Proof.Machine.execVfaddVx k m d a b s
  | .vfaddVs k m d a st => Sys2Proof.Machine.execVfaddVs k m d a st s
  | .vfsubVv k m d a b => Sys2Proof.Machine.execVfsubVv k m d a b s
  | .vfsubVx k m d a b => Sys2Proof.Machine.execVfsubVx k m d a b s
  | .vfsubVs k m d a st => Sys2Proof.Machine.execVfsubVs k m d a st s
  | .vfrsubVv k m d a b => Sys2Proof.Machine.execVfrsubVv k m d a b s
  | .vfrsubVx k m d a b => Sys2Proof.Machine.execVfrsubVx k m d a b s
  | .vfrsubVs k m d a st => Sys2Proof.Machine.execVfrsubVs k m d a st s
  | .vfmulVv k m d a b => Sys2Proof.Machine.execVfmulVv k m d a b s
  | .vfmulVx k m d a b => Sys2Proof.Machine.execVfmulVx k m d a b s
  | .vfmulVs k m d a st => Sys2Proof.Machine.execVfmulVs k m d a st s
  | .vfdivVv k m d a b => Sys2Proof.Machine.execVfdivVv k m d a b s
  | .vfdivVx k m d a b => Sys2Proof.Machine.execVfdivVx k m d a b s
  | .vfdivVs k m d a st => Sys2Proof.Machine.execVfdivVs k m d a st s
  | .vfrdivVv k m d a b => Sys2Proof.Machine.execVfrdivVv k m d a b s
  | .vfrdivVx k m d a b => Sys2Proof.Machine.execVfrdivVx k m d a b s
  | .vfrdivVs k m d a st => Sys2Proof.Machine.execVfrdivVs k m d a st s
  | .vfsqrt k m d a => Sys2Proof.Machine.execVfsqrt k m d a s
  | .vfminVv k m d a b => Sys2Proof.Machine.execVfminVv k m d a b s
  | .vfminVx k m d a b => Sys2Proof.Machine.execVfminVx k m d a b s
  | .vfminVs k m d a st => Sys2Proof.Machine.execVfminVs k m d a st s
  | .vfmaxVv k m d a b => Sys2Proof.Machine.execVfmaxVv k m d a b s
  | .vfmaxVx k m d a b => Sys2Proof.Machine.execVfmaxVx k m d a b s
  | .vfmaxVs k m d a st => Sys2Proof.Machine.execVfmaxVs k m d a st s
  | .vfsgnjVv k m d a b => Sys2Proof.Machine.execVfsgnjVv k m d a b s
  | .vfsgnjVx k m d a b => Sys2Proof.Machine.execVfsgnjVx k m d a b s
  | .vfsgnjVs k m d a st => Sys2Proof.Machine.execVfsgnjVs k m d a st s
  | .vfsgnjnVv k m d a b => Sys2Proof.Machine.execVfsgnjnVv k m d a b s
  | .vfsgnjnVx k m d a b => Sys2Proof.Machine.execVfsgnjnVx k m d a b s
  | .vfsgnjnVs k m d a st => Sys2Proof.Machine.execVfsgnjnVs k m d a st s
  | .vfsgnjxVv k m d a b => Sys2Proof.Machine.execVfsgnjxVv k m d a b s
  | .vfsgnjxVx k m d a b => Sys2Proof.Machine.execVfsgnjxVx k m d a b s
  | .vfsgnjxVs k m d a st => Sys2Proof.Machine.execVfsgnjxVs k m d a st s
  | .vfclass k m d a => Sys2Proof.Machine.execVfclass k m d a s
  | .vfmaccVv k m d a b => Sys2Proof.Machine.execVfmaccVv k m d a b s
  | .vfmaccVx k m d a b => Sys2Proof.Machine.execVfmaccVx k m d a b s
  | .vfmaccVs k m d a st => Sys2Proof.Machine.execVfmaccVs k m d a st s
  | .vfnmaccVv k m d a b => Sys2Proof.Machine.execVfnmaccVv k m d a b s
  | .vfnmaccVx k m d a b => Sys2Proof.Machine.execVfnmaccVx k m d a b s
  | .vfnmaccVs k m d a st => Sys2Proof.Machine.execVfnmaccVs k m d a st s
  | .vfmsacVv k m d a b => Sys2Proof.Machine.execVfmsacVv k m d a b s
  | .vfmsacVx k m d a b => Sys2Proof.Machine.execVfmsacVx k m d a b s
  | .vfmsacVs k m d a st => Sys2Proof.Machine.execVfmsacVs k m d a st s
  | .vfnmsacVv k m d a b => Sys2Proof.Machine.execVfnmsacVv k m d a b s
  | .vfnmsacVx k m d a b => Sys2Proof.Machine.execVfnmsacVx k m d a b s
  | .vfnmsacVs k m d a st => Sys2Proof.Machine.execVfnmsacVs k m d a st s
  | .vfcvtFX k m d a => Sys2Proof.Machine.execVfcvtFX k m d a s
  | .vfcvtFXu k m d a => Sys2Proof.Machine.execVfcvtFXu k m d a s
  | .vfcvtXF k m d a => Sys2Proof.Machine.execVfcvtXF k m d a s
  | .vfcvtXuF k m d a => Sys2Proof.Machine.execVfcvtXuF k m d a s
  | .vfcvtFF k m d a imm => Sys2Proof.Machine.execVfcvtFF k m d a imm s
  | .vfexp k m d a => Sys2Proof.Machine.execVfexp k m d a s
  | .vfrec k m d a => Sys2Proof.Machine.execVfrec k m d a s
  | .vmseqVv k m d a b => Sys2Proof.Machine.execVmseqVv k m d a b s
  | .vmseqVx k m d a b => Sys2Proof.Machine.execVmseqVx k m d a b s
  | .vmseqVs k m d a st => Sys2Proof.Machine.execVmseqVs k m d a st s
  | .vmseqVi k m d a imm => Sys2Proof.Machine.execVmseqVi k m d a imm s
  | .vmsneVv k m d a b => Sys2Proof.Machine.execVmsneVv k m d a b s
  | .vmsneVx k m d a b => Sys2Proof.Machine.execVmsneVx k m d a b s
  | .vmsneVs k m d a st => Sys2Proof.Machine.execVmsneVs k m d a st s
  | .vmsneVi k m d a imm => Sys2Proof.Machine.execVmsneVi k m d a imm s
  | .vmsltVv k m d a b => Sys2Proof.Machine.execVmsltVv k m d a b s
  | .vmsltVx k m d a b => Sys2Proof.Machine.execVmsltVx k m d a b s
  | .vmsltVs k m d a st => Sys2Proof.Machine.execVmsltVs k m d a st s
  | .vmsltVi k m d a imm => Sys2Proof.Machine.execVmsltVi k m d a imm s
  | .vmsleVv k m d a b => Sys2Proof.Machine.execVmsleVv k m d a b s
  | .vmsleVx k m d a b => Sys2Proof.Machine.execVmsleVx k m d a b s
  | .vmsleVs k m d a st => Sys2Proof.Machine.execVmsleVs k m d a st s
  | .vmsleVi k m d a imm => Sys2Proof.Machine.execVmsleVi k m d a imm s
  | .vmsltuVv k m d a b => Sys2Proof.Machine.execVmsltuVv k m d a b s
  | .vmsltuVx k m d a b => Sys2Proof.Machine.execVmsltuVx k m d a b s
  | .vmsltuVs k m d a st => Sys2Proof.Machine.execVmsltuVs k m d a st s
  | .vmsltuVi k m d a imm => Sys2Proof.Machine.execVmsltuVi k m d a imm s
  | .vmsleuVv k m d a b => Sys2Proof.Machine.execVmsleuVv k m d a b s
  | .vmsleuVx k m d a b => Sys2Proof.Machine.execVmsleuVx k m d a b s
  | .vmsleuVs k m d a st => Sys2Proof.Machine.execVmsleuVs k m d a st s
  | .vmsleuVi k m d a imm => Sys2Proof.Machine.execVmsleuVi k m d a imm s
  | .vmsgtVv k m d a b => Sys2Proof.Machine.execVmsgtVv k m d a b s
  | .vmsgtVx k m d a b => Sys2Proof.Machine.execVmsgtVx k m d a b s
  | .vmsgtVs k m d a st => Sys2Proof.Machine.execVmsgtVs k m d a st s
  | .vmsgtVi k m d a imm => Sys2Proof.Machine.execVmsgtVi k m d a imm s
  | .vmsgtuVv k m d a b => Sys2Proof.Machine.execVmsgtuVv k m d a b s
  | .vmsgtuVx k m d a b => Sys2Proof.Machine.execVmsgtuVx k m d a b s
  | .vmsgtuVs k m d a st => Sys2Proof.Machine.execVmsgtuVs k m d a st s
  | .vmsgtuVi k m d a imm => Sys2Proof.Machine.execVmsgtuVi k m d a imm s
  | .vmfeqVv k m d a b => Sys2Proof.Machine.execVmfeqVv k m d a b s
  | .vmfeqVx k m d a b => Sys2Proof.Machine.execVmfeqVx k m d a b s
  | .vmfeqVs k m d a st => Sys2Proof.Machine.execVmfeqVs k m d a st s
  | .vmfneVv k m d a b => Sys2Proof.Machine.execVmfneVv k m d a b s
  | .vmfneVx k m d a b => Sys2Proof.Machine.execVmfneVx k m d a b s
  | .vmfneVs k m d a st => Sys2Proof.Machine.execVmfneVs k m d a st s
  | .vmfltVv k m d a b => Sys2Proof.Machine.execVmfltVv k m d a b s
  | .vmfltVx k m d a b => Sys2Proof.Machine.execVmfltVx k m d a b s
  | .vmfltVs k m d a st => Sys2Proof.Machine.execVmfltVs k m d a st s
  | .vmfleVv k m d a b => Sys2Proof.Machine.execVmfleVv k m d a b s
  | .vmfleVx k m d a b => Sys2Proof.Machine.execVmfleVx k m d a b s
  | .vmfleVs k m d a st => Sys2Proof.Machine.execVmfleVs k m d a st s
  | .vmfgtVv k m d a b => Sys2Proof.Machine.execVmfgtVv k m d a b s
  | .vmfgtVx k m d a b => Sys2Proof.Machine.execVmfgtVx k m d a b s
  | .vmfgtVs k m d a st => Sys2Proof.Machine.execVmfgtVs k m d a st s
  | .vmfgeVv k m d a b => Sys2Proof.Machine.execVmfgeVv k m d a b s
  | .vmfgeVx k m d a b => Sys2Proof.Machine.execVmfgeVx k m d a b s
  | .vmfgeVs k m d a st => Sys2Proof.Machine.execVmfgeVs k m d a st s
  | .vredsum k m d a => Sys2Proof.Machine.execVredsum k m d a s
  | .vredmax k m d a => Sys2Proof.Machine.execVredmax k m d a s
  | .vredmin k m d a => Sys2Proof.Machine.execVredmin k m d a s
  | .vredmaxu k m d a => Sys2Proof.Machine.execVredmaxu k m d a s
  | .vredminu k m d a => Sys2Proof.Machine.execVredminu k m d a s
  | .vredand k m d a => Sys2Proof.Machine.execVredand k m d a s
  | .vredor k m d a => Sys2Proof.Machine.execVredor k m d a s
  | .viota k d => Sys2Proof.Machine.execViota k d s
  | .vfredsum k m d a => Sys2Proof.Machine.execVfredsum k m d a s
  | .vfredmax k m d a => Sys2Proof.Machine.execVfredmax k m d a s
  | .vrgatherVv k d a b => Sys2Proof.Machine.execVrgatherVv k d a b s
  | .vrgatherVx k d a b => Sys2Proof.Machine.execVrgatherVx k d a b s
  | .vslideupVx k d a b => Sys2Proof.Machine.execVslideupVx k d a b s
  | .vslideupVi k d a imm => Sys2Proof.Machine.execVslideupVi k d a imm s
  | .vslidedownVx k d a b => Sys2Proof.Machine.execVslidedownVx k d a b s
  | .vslidedownVi k d a imm => Sys2Proof.Machine.execVslidedownVi k d a imm s
  | .vcompress k d a => Sys2Proof.Machine.execVcompress k d a s
  | .vexpand k d a => Sys2Proof.Machine.execVexpand k d a s
  | .vscanadd k m d a => Sys2Proof.Machine.execVscanadd k m d a s
  | .vmm k m d a b ta tb => Sys2Proof.Machine.execVmm k m d a b ta tb s
  | .copr k c a b xo fmt => Sys2Proof.Machine.execCopr k c a b xo fmt s
  | .coprM k c a b fmt => Sys2Proof.Machine.execCoprM k c a b fmt s
  | .cmvBv k c a xo => Sys2Proof.Machine.execCmvBv k c a xo s
  | .cmvVb k d c xo => Sys2Proof.Machine.execCmvVb k d c xo s
  | .cld k c a b => Sys2Proof.Machine.execCld k c a b s
  | .cst k c a b => Sys2Proof.Machine.execCst k c a b s
  | .czero k c => Sys2Proof.Machine.execCzero k c s
  | .ccvt k m d a vs ta tb out => Sys2Proof.Machine.execCcvt k m d a vs ta tb out s
  | .bcfgWrite v => Sys2Proof.Machine.execBcfgWrite v s
  | .reclaimWrite v => Sys2Proof.Machine.execReclaimWrite v s
  | .mboxRead d => Sys2Proof.Machine.execMboxRead d s
  | .tlbwcWrite v => Sys2Proof.Machine.execTlbwcWrite v s
  | .tlbinvWrite v => Sys2Proof.Machine.execTlbinvWrite v s
  | .tlbinvComplete die => Sys2Proof.Machine.execTlbinvComplete die s
  | .heatFlush v => Sys2Proof.Machine.execHeatFlush v s
  | .heatFlushComplete die => Sys2Proof.Machine.execHeatFlushComplete die s
  | .codeGranuleVerify h va => Sys2Proof.Machine.execCodeGranuleVerify h va s
  | .convoyStart h => Sys2Proof.Machine.execConvoyStart h s
  | .streamTrim h => Sys2Proof.Machine.execStreamTrim h s
  | .convoyDrain h => Sys2Proof.Machine.execConvoyDrain h s
  | .lanedeadline h => Sys2Proof.Machine.execLanedeadline h s
  | .reclaimDeadlineExpiry h => Sys2Proof.Machine.execReclaimDeadlineExpiry h s
  | .resvExpiry c => Sys2Proof.Machine.execResvExpiry c s
  | .loadDataReturn h extra => Sys2Proof.Machine.execLoadDataReturn h extra s
  | .writePerform h => Sys2Proof.Machine.execWritePerform h s
  | .fenceRetire h => Sys2Proof.Machine.execFenceRetire h s
  | .monitorWake h => Sys2Proof.Machine.execMonitorWake h s
  | .mwaitTimeout h => Sys2Proof.Machine.execMwaitTimeout h s
  | .barrierWake h => Sys2Proof.Machine.execBarrierWake h s
  | .roleChangeComplete h => Sys2Proof.Machine.execRoleChangeComplete h s
  | .hartStopComplete h => Sys2Proof.Machine.execHartStopComplete h s
  | .gangPlace die => Sys2Proof.Machine.execGangPlace die s
  | .sliceExpiry die => Sys2Proof.Machine.execSliceExpiry die s
  | .gangSuspendComplete die gang => Sys2Proof.Machine.execGangSuspendComplete die gang s
  | .leaseExpiry stack => Sys2Proof.Machine.execLeaseExpiry stack s
  | .streamFetchAhead h st => Sys2Proof.Machine.execStreamFetchAhead h st s
  | .copyStripRead h st => Sys2Proof.Machine.execCopyStripRead h st s
  | .copyStripWrite h st => Sys2Proof.Machine.execCopyStripWrite h st s
  | .channelDeliver h st => Sys2Proof.Machine.execChannelDeliver h st s
  | .kerbAccept h st => Sys2Proof.Machine.execKerbAccept h st s
  | .kerbUnitResult h st => Sys2Proof.Machine.execKerbUnitResult h st s
  | .kerbUnitResume h st => Sys2Proof.Machine.execKerbUnitResume h st s
  | .kerbComplete h st => Sys2Proof.Machine.execKerbComplete h st s
  | .sealComplete h => Sys2Proof.Machine.execSealComplete h s
  | .unsealComplete h => Sys2Proof.Machine.execUnsealComplete h s
  | .hostRead port pa n => Sys2Proof.Machine.execHostRead port pa n s
  | .hostWrite port pa bytes => Sys2Proof.Machine.execHostWrite port pa bytes s
  | .tailWrite die v => Sys2Proof.Machine.execTailWrite die v s
  | .launchRecordRead die => Sys2Proof.Machine.execLaunchRecordRead die s
  | .launchAccept die => Sys2Proof.Machine.execLaunchAccept die s
  | .launchComplete die seq => Sys2Proof.Machine.execLaunchComplete die seq s
  | .goWrite => Sys2Proof.Machine.execGoWrite s
  | .recovery => Sys2Proof.Machine.execRecovery s
  | .ckctlInterval ms => Sys2Proof.Machine.execCkctlInterval ms s
  | .ckctlNow => Sys2Proof.Machine.execCkctlNow s
  | .checkpointPoint => Sys2Proof.Machine.execCheckpointPoint s
  | .checkpointDrainComplete => Sys2Proof.Machine.execCheckpointDrainComplete s
  | .pcapreqWrite die v => Sys2Proof.Machine.execPcapreqWrite die v s
  | .pcapApply die => Sys2Proof.Machine.execPcapApply die s
  | .updreqWrite v => Sys2Proof.Machine.execUpdreqWrite v s
  | .updateResult => Sys2Proof.Machine.execUpdateResult s
  | .attreqWrite v => Sys2Proof.Machine.execAttreqWrite v s
  | .coldBoot => Sys2Proof.Machine.execColdBoot s
  | .governorWindow die laneSteps crucible => Sys2Proof.Machine.execGovernorWindow die laneSteps crucible s
  | .thermalEmergency die tempC tempM => Sys2Proof.Machine.execThermalEmergency die tempC tempM s
  | .memoryRequestArrive h pa => Sys2Proof.Machine.execMemoryRequestArrive h pa s
  | .memoryRequestServe ch bank => Sys2Proof.Machine.execMemoryRequestServe ch bank s
  | .refreshDue ch bank => Sys2Proof.Machine.execRefreshDue ch bank s
  | .refreshEnd ch bank => Sys2Proof.Machine.execRefreshEnd ch bank s
  | .bankSetIdle ch set => Sys2Proof.Machine.execBankSetIdle ch set s
  | .refctlTrace die on => Sys2Proof.Machine.execRefctlTrace die on s
  | .refctlArm die => Sys2Proof.Machine.execRefctlArm die s
  | .refctlArmComplete die => Sys2Proof.Machine.execRefctlArmComplete die s
  | .channelReqPdown ch force => Sys2Proof.Machine.execChannelReqPdown ch force s
  | .channelReqSref ch force => Sys2Proof.Machine.execChannelReqSref ch force s
  | .channelReqActive ch => Sys2Proof.Machine.execChannelReqActive ch s
  | .channelDeferredEntry ch => Sys2Proof.Machine.execChannelDeferredEntry ch s
  | .patrolScrub pa corrected => Sys2Proof.Machine.execPatrolScrub pa corrected s
  | .poolTimeout h => Sys2Proof.Machine.execPoolTimeout h s
  | .peerTimeout h => Sys2Proof.Machine.execPeerTimeout h s
  | .peerRequest pa n op version => Sys2Proof.Machine.execPeerRequest pa n op version s
  | .flitRetransmit port => Sys2Proof.Machine.execFlitRetransmit port s
  | .portRetrainFail port => Sys2Proof.Machine.execPortRetrainFail port s
  | .lockstepMismatch h => Sys2Proof.Machine.execLockstepMismatch h s
  | .rollbackResume h => Sys2Proof.Machine.execRollbackResume h s
  | .illegalInstruction len enc => Sys2Proof.Machine.execIllegalInstruction len enc s
  | .hintOther fn b a d => Sys2Proof.Machine.execHintOther fn b a d s
  | .relayComplete h => Sys2Proof.Machine.execRelayComplete h s
  | .kerbUnitGranuleRead h st => Sys2Proof.Machine.execKerbUnitGranuleRead h st s
  | .channelStateChangeComplete ch => Sys2Proof.Machine.execChannelStateChangeComplete ch s
  | .bankAccessEnd ch bank => Sys2Proof.Machine.execBankAccessEnd ch bank s
  | .thermalEmergencyExpiry die => Sys2Proof.Machine.execThermalEmergencyExpiry die s

end Sys2Proof.Machine
end

