-- ==== Sys2Proof/Machine/Schedule.lean ====
section
/-! DEFINITION. What a step takes up where the agenda leaves it open: which event is due, and which hart the barrel of the core in
focus picks (spec/02_harts_and_gangs.md R47, R51-R53). How long each event takes is left out (log 5). -/

namespace Sys2Proof.Machine

/-- The meaning of a row as a step applies it. -/
abbrev Row := State → Out

/-- The row would change the machine. -/
def State.changes (s : State) (r : Row) : Bool :=
  match r s with
  | .next t => decide (t ≠ s)
  | _ => true

/-- The first row of a list that would change the machine. -/
def State.firstOf (s : State) : List Row → Option Row
  | [] => none
  | r :: rs => if s.changes r then some r else s.firstOf rs

/-- A row offered where a condition holds. -/
def offer (c : Bool) (r : Row) : List Row := if c then [r] else []

/-- A pair that waits after a rollback (R500). -/
def State.heldPair (s : State) (i : HartId) : Bool := s.pairs.any fun p => p.1 == hartKey i && p.2.resumeAt.isSome

/-- The hart waits for a translation that has been asked for (R455). -/
def State.waitsMiss (s : State) (i : HartId) : Bool :=
  match (s.hart i).xwait with
  | some (v, _) => s.requested i.die (spaceAsid (s.hart i).space) v
  | none => false

/-- Nothing keeps the hart from going on (R47). -/
def State.mayGo (s : State) (i : HartId) : Bool :=
  !s.stalled.contains (hartKey i) && !s.heldPair i && !s.waitsMiss i && !(s.die i.die).halted

/-- The next instruction of the hart is a vsetvl without KEEP, which serves a pending reclaim: in the cycle of the deadline it comes first
(R340, R346). -/
def State.servesNow (s : State) (i : HartId) : Bool :=
  let h := s.hart i
  h.st = .running && h.convoy.isEmpty && h.fence.isNone && s.mayGo i &&
    (match s.fetch i h.pc.toNat with
     | .ok (w, _) => w % 2 ^ 8 == 0x63 && w / 2 ^ 23 % 2 ^ 9 == 0
     | _ => false)

/-- Events of one hart that take the place of its issue, in the order a step tries them. -/
def State.hartRows (s : State) (i : HartId) : List Row :=
  let h := s.hart i
  let closed := !h.convoy.isEmpty && (h.st = .running || h.st = .stopping) && s.mayGo i
  if h.st = .empty ∨ (s.die i.die).halted ∨ s.heldPair i then []
  else
    offer (h.st = .waiting && h.mon.any (·.hit)) (execMonitorWake i) ++ offer (h.st = .waiting) (execBarrierWake i)
      ++ offer (h.st = .waiting) (execMwaitTimeout i) ++ offer h.fence.isSome (execFenceRetire i)
      ++ offer (h.st = .creating) (execRoleChangeComplete i) ++ offer h.relay (execRelayComplete i)
      ++ offer (h.reclaimAt.any fun r => s.cycle != r.since + r.length || !s.servesNow i) (execReclaimDeadlineExpiry i)
      ++ offer (s.warnDue i) (execLanedeadline i) ++ offer (h.st = .stopping) (execHartStopComplete i)
      ++ offer (closed && h.phase = .start) (execConvoyStart i) ++ offer (closed && h.phase = .trim) (execStreamTrim i)
      ++ offer (closed && !s.paced && (h.phase = .drain || h.phase = .empty)) (execConvoyDrain i)

/-- Events of the engines that work for one hart (R55): its reads that reach their controllers (R484), its streams in ascending order,
copies after them. -/
def State.engineRows (s : State) (i : HartId) : List Row :=
  let h := s.hart i
  if (s.die i.die).halted then []
  else if !h.enginesRun then offer (h.st = .suspending && !h.posted.isEmpty) (execWritePerform i)
  else
    ((h.reads.filter fun r => !r.queued && decide (r.arrives ≤ s.cycle)).map fun r => execMemoryRequestArrive i r.pa)
      ++ ((List.finRange 16).flatMap fun st =>
      let t := h.stm[st]
      offer (t.mode == 0 && t.state = .active) (execStreamFetchAhead i st)
        ++ offer (!t.outbox.isEmpty) (execChannelDeliver i st)
        ++ (if t.mode == 4 && t.state = .active then
              [execKerbUnitResult i st, execKerbUnitResume i st, execKerbComplete i st, execKerbUnitGranuleRead i st]
                ++ offer t.job.isNone (execKerbAccept i st)
            else []))
      ++ ((List.finRange 16).flatMap fun st =>
        let t := h.stm[st]
        if t.mode == 2 && t.state = .active then [execCopyStripWrite i st, execCopyStripRead i st] else [])
      ++ offer (!h.posted.isEmpty) (execWritePerform i)
      ++ offer (h.ilock.any (·.kind == .seal)) (execSealComplete i) ++ offer (h.ilock.any (·.kind == .unseal)) (execUnsealComplete i)

/-- Events of a die: its dispatcher, its firmware and its own registers. -/
def State.dieRows (s : State) (d : Fin 8) : List Row :=
  let x := s.die d
  if x.halted then []
  else
    offer x.record.isSome (execLaunchAccept d) ++ offer (s.nextRecord d).isSome (execLaunchRecordRead d)
      ++ (x.launches.filter fun l => l.gangs ≤ l.gangsDone).map (fun l => execLaunchComplete d l.seq)
      ++ x.suspends.map (fun p => execGangSuspendComplete d p.gang) ++ offer x.head.isSome (execGangPlace d)
      ++ offer x.headSince.isSome (execSliceExpiry d) ++ offer (x.tlbinv.getLsbD 0) (execTlbinvComplete d)
      ++ offer (x.heat.getLsbD 1) (execHeatFlushComplete d) ++ offer x.arming (execRefctlArmComplete d)
      ++ offer x.emergency.isSome (execThermalEmergencyExpiry d)
      ++ offer (min (s.peekNat (fleetBlock d.val + 8) 8) 540 != x.pcap.toNat) (execPcapApply d)

/-- Events of a module channel that follow from what it has begun, and the refreshes that are due (R483-R488). -/
def State.channelRows (s : State) (c : Fin 512) : List Row :=
  offer (bitAt (s.channel c.val).power 5) (execChannelDeferredEntry c)
    ++ match s.nextEvent c.val with
      | none => []
      | some (_, .arrive k pa) => [execMemoryRequestArrive (hartIdOf k) pa]
      | some (_, .endAccess b) => [execBankAccessEnd c (Fin.ofNat 32 b)]
      | some (_, .endRefresh b) => [execRefreshEnd c (Fin.ofNat 32 b)]
      | some (_, .changed) => [execChannelStateChangeComplete c]
      | some (_, .due b) => [execRefreshDue c (Fin.ofNat 32 b)]
      | some (_, .pay g) => [execBankSetIdle c (Fin.ofNat 8 g)]
      | some (_, .serve b) => [execMemoryRequestServe c (Fin.ofNat 32 b)]

/-- Sets A, and D for a write, in a leaf the walker answers with (R451): kept by firmware (log 26). -/
def marked (acc : Acc) (w0 : Word) : Word :=
  w0 ||| (if (acc = .write || acc = .rmw) && leafW w0 then 0x300 else 0x100)

/-- The walk that a resting Lamplighter makes for the oldest request of its core: MBOX is read, the tables are walked, and TLBWC
is written (R450-R457; log 26). -/
def State.serveMiss (s : State) (c : CoreId) : State :=
  s.asHart { die := c.die, core := c.core, slot := 7 } fun s =>
    match (s.core c).mbox with
    | [] => s
    | r :: _ =>
      let s := s.takeRequest
      match s.walk (spaceRoot r.space) (r.vpn * 65536) with
      | none => s.answer457 (BitVec.ofNat 64 r.tag)
      | some (level, a, w0, w1) =>
        let w := marked r.acc w0
        let s := if w = w0 then s else s.pokeNat a 8 w.toNat
        (s.setCore c { s.core c with tlbw0 := w, tlbw1 := w1 }).answer457 (BitVec.ofNat 64 (r.tag + level * 2 ^ 8))

/-- The walk as a row. -/
def execWalk (c : CoreId) (s : State) : Out := .next (s.serveMiss c)

/-- The core with number `k`. -/
def coreIdOf (k : Nat) : CoreId := { die := Fin.ofNat 8 (k / 192), core := Fin.ofNat 192 k }

/-- The Lamplighter of a core rests as boot left it, and serves requests as the manual says. -/
def State.walkerRests (s : State) (c : CoreId) : Bool :=
  let h := s.hart { die := c.die, core := c.core, slot := 7 }
  (h.st = .waiting && h.wait.isNone) || h.st = .empty

/-- Events of a core. -/
def State.coreRows (s : State) (c : CoreId) : List Row :=
  let x := s.core c
  offer (!x.mbox.isEmpty && s.walkerRests c) (execWalk c) ++ offer (!x.reserved.isEmpty) (execResvExpiry c)

/-- A recovery is due: one has begun, or a die that booted has halted with an entry in its machine-check log (R439, R503). -/
def State.recovers (s : State) : Bool :=
  s.booted && (s.bootState == 2 || (List.finRange 8).any fun d => (s.die d).halted && bootable.contains d)

/-- Events of the module as a whole. -/
def State.moduleRows (s : State) : List Row :=
  offer s.recovers execRecovery ++ offer s.upd.isSome execUpdateResult ++ offer s.ckDrain.isSome execCheckpointDrainComplete
    ++ offer s.pointDue execCheckpointPoint
    ++ s.leases.map (fun (k, _) => execLeaseExpiry (Fin.ofNat 16 k))
    ++ (s.pairs.filter (·.2.resumeAt.isSome)).map (fun (k, _) => execRollbackResume (hartIdOf k))

/-- The harts of a core in the order its stream engine serves them, by slot after the one served last (R55). -/
def State.rotationOf (s : State) (k : Nat) : List Nat :=
  let hs := (s.harts.filter fun p => p.1 / 8 == k).map (·.1)
  let last := 8 * k + (s.core (coreIdOf k)).streamLast
  (hs.filter fun h => decide (last < h)) ++ hs.filter fun h => decide (h ≤ last)

/-- The harts in the order the engines serve them: core by core, after the core served last (R55; log 1). -/
def State.rotation (s : State) : List Nat :=
  let ks := (s.harts.map fun p => p.1 / 8).eraseDups
  ((ks.filter fun k => decide (s.served < k)) ++ ks.filter fun k => decide (k ≤ s.served)).flatMap s.rotationOf

/-- The hart whose engine event a step takes up is the one its core's stream engine served last (R55). -/
def State.serves (s : State) (k : Nat) : State :=
  let c := coreIdOf (k / 8)
  { s.setCore c { s.core c with streamLast := k % 8 } with served := k / 8 }

/-- The first hart with an engine event that would change the machine, with that row. -/
def State.engineRow (s : State) : List Nat → Option (Nat × Row)
  | [] => none
  | k :: ks =>
    match s.firstOf (s.engineRows (hartIdOf k)) with
    | some r => some (k, r)
    | none => s.engineRow ks

/-- The event that a step not given to the barrel takes up. The hart an engine serves is kept for R55. -/
def State.otherRow (s : State) : Option Row :=
  match s.firstOf (s.moduleRows ++ (s.cores.flatMap fun (k, _) => s.coreRows (coreIdOf k))
      ++ (s.dies.flatMap fun (k, _) => s.dieRows (Fin.ofNat 8 k)) ++ (s.chans.flatMap fun (k, _) => s.channelRows (Fin.ofNat 512 k))) with
  | some r => some r
  | none => (s.engineRow s.rotation).map fun (k, r) => fun t => r (t.serves k)

/-- The occupied slots of a core. -/
def State.slotsOf (s : State) (c : CoreId) : List HartId :=
  (s.harts.filter fun p => p.1 / 8 == coreKey c && p.2.st != .empty).map fun p => hartIdOf p.1

/-- The event of the core in focus that comes before its issue slot. -/
def State.coreRow (s : State) : Option Row := s.firstOf ((s.slotsOf s.focus).flatMap s.hartRows)

/-- What stands in `stalled` for a hart whose next instruction behind its convoy in flight cannot issue. -/
def frontKey (i : HartId) : Nat := hartKey i + 12288

/-- A hart that can take the issue slot (R47, R51, R53), as far as that shows before its instruction is tried. -/
def State.ready (s : State) (i : HartId) : Bool :=
  let h := s.hart i
  h.st = .running && h.fence.isNone && !h.yielded &&
    (if h.inFlight then !s.stalled.contains (frontKey i) && !s.heldPair i && !(s.die i.die).halted else s.mayGo i)

/-- The weight of a slot (R51). -/
def Hart.weight (h : Hart) (slot : Fin 8) : Nat := if slot = 7 then 8 else 2 ^ h.id.prioCur.toNat

/-- The ready hart with the largest age of at least 7, ties to the lowest slot (R51). -/
def State.forced (s : State) : List HartId → Option HartId → Option HartId
  | [], best => best
  | i :: is, best =>
    let a := (s.hart i).age
    let better := match best with | some b => decide ((s.hart b).age < a) | none => true
    s.forced is (if decide (7 ≤ a) && better then some i else best)

/-- The first of a list with credit (R51). -/
def State.credited (s : State) (is : List HartId) : Option HartId := is.find? fun i => decide (0 < (s.hart i).credit)

/-- The slots in the order last + 1, last + 2, … (R51). -/
def rotateAfter (last : Nat) (is : List HartId) : List HartId :=
  (is.filter fun i => decide (last < i.slot.val)) ++ is.filter fun i => decide (i.slot.val ≤ last)

/-- Each occupied slot of the core, changed. -/
def State.eachSlot (s : State) (is : List HartId) (f : HartId → Hart → Hart) : State :=
  is.foldl (fun s i => s.setHart i (f i (s.hart i))) s

/-- THE BARREL: the hart of the core in focus that gets the issue slot, with credits, ages and `last` as R51 leaves them. A hart
that yielded is ready again in the slot after (R53). -/
def State.barrel (s : State) : Option HartId × State :=
  let all := s.slotsOf s.focus
  let is := all.filter s.ready
  let core := s.core s.focus
  let order := rotateAfter core.last is
  let reload := (s.forced is none).isNone && (s.credited order).isNone
  let s1 := if reload then s.eachSlot all fun i h => { h with credit := h.weight i.slot } else s
  let got := match s.forced is none with
    | some i => some i
    | none => s1.credited order
  let s2 := s1.eachSlot all fun i h =>
    if got = some i then { h with credit := h.credit - 1, age := 0 }
    else { h with age := if is.contains i then h.age + 1 else 0, yielded := false }
  match got with
  | some i => (some i, s2.setCore s.focus { core with last := i.slot.val })
  | none => (none, s2)

/-- Writes of a hart that leave a pair, and its returns from a wait (R499): an instruction after which the pair is
checkpointed. -/
def checkpoints (i : Instr) : Bool :=
  match i with
  | .sb _ _ _ | .sh _ _ _ | .sw _ _ _ | .sd _ _ _ | .cSw _ _ _ | .cSd _ _ _ | .cSdsp _ _
  | .sbOrd _ _ _ _ | .shOrd _ _ _ _ | .swOrd _ _ _ _ | .sdOrd _ _ _ _
  | .amoswap _ _ _ _ _ | .amoadd _ _ _ _ _ | .amoand _ _ _ _ _ | .amoor _ _ _ _ _ | .amoxor _ _ _ _ _ | .amomin _ _ _ _ _
  | .amomax _ _ _ _ _ | .amominu _ _ _ _ _ | .amomaxu _ _ _ _ _ | .amocas _ _ _ _ _ | .amofxL _ _ _ _ _
  | .amofxD _ _ _ _ _ | .amofxS _ _ _ _ _ | .barArrive _ _ _ _ | .claim _ _ _ _ _ | .mwait _ _ | .barWait _ _ _ => true
  | _ => false

/-- A convoy of a hart has done what is not undone, and has not drained: it has stopped past its start or waits past it, or has issued a
transfer (R499, R500; log 109). -/
def Hart.didPart (h h' : Hart) : Bool :=
  (h'.convoy.isEmpty && (h'.vs.vstart != h.vs.vstart || h'.transfers != h.transfers)) || h'.waited.upto != h.waited.upto

/-- The checkpoint of a paired hart that a step leaves (R499), `s` being the state before it: at a convoy's drain, at a return
from a wait, and after an instruction that asks for it, unless it trapped or waits; and where a convoy has done a part, or quartets have
been given away (log 109). -/
def State.pairStep (s : State) (i : HartId) (always : Bool) (t : State) : State :=
  let h := s.hart i
  let h' := t.hart i
  let runs := always || !h.convoy.isEmpty
  if h.id.paired && !t.heldPair i && ((h'.st = .running && h'.inh == h.inh && h'.inf == h.inf && h'.pc != h.pc && h'.convoy.isEmpty
      && (runs || h.wait.isSome)) || (runs && h'.st != .empty && h.didPart h') || (h'.st = .running && h'.vs.qcount != h.vs.qcount)) then
    t.checkpointPair i
  else t

/-- A core with a hart that can take a step of its own, now or after an event of its own. -/
def State.liveCores (s : State) : List Nat :=
  (s.harts.filter fun p => !(s.die (hartIdOf p.1).die).halted
    && (p.2.st = .running || p.2.st = .creating || p.2.st = .stopping || (p.2.st = .waiting && p.2.wait.isSome))).map fun p => p.1 / 8

/-- The core whose issue slot comes next: the cores that have work take turns (log 1). -/
def State.nextFocus (s : State) : CoreId :=
  let ks := s.liveCores
  match ks.find? fun k => decide (coreKey s.focus < k) with
  | some k => coreIdOf k
  | none => (ks.head?.map coreIdOf).getD s.focus

/-- What every step adds: a cycle passes, in which the scratchpad banks serve, the counter of free choices advances, harts that stalled
are tried again once something else has happened (log 4), and the focus moves on. -/
def State.finish (s t : State) : State :=
  { t.bankCycle with cycle := t.cycle + 1, fresh := t.fresh + 1, stalled := if t.stalled = s.stalled then [] else t.stalled,
                     focus := t.nextFocus }

/-- The outcome of a row within a step. -/
def State.finished (s : State) (o : Out) (f : State → State) : Out :=
  match o with
  | .next t => .next (s.finish (f t))
  | .fault e => .fault e
  | .refused r => .refused r

/-- Each paired hart is checkpointed where an event made it due (R499). -/
def State.pairSteps (s t : State) : State := s.pairs.foldl (fun t p => s.pairStep (hartIdOf p.1) false t) t

/-- What the hart picked does in its issue slot. -/
inductive Issue where
  /-- It runs an instruction; the open convoy is not touched where the word does not close it. -/
  | run (enc size : Nat)
  /-- Its open convoy closes, because the next word does not join it (R164). -/
  | close
  /-- Its first fetch from a granule is checked (R473). -/
  | verify (va : Nat)
  /-- The fetch waits, or traps. -/
  | miss (va : Nat)
  | trap (e : Exc)
  | wait
deriving DecidableEq, Repr

/-- What the current hart's next issue is (R152, R163, R164, R455, R473). -/
def State.issue (s : State) : Issue :=
  let h := s.h
  let checks := fun (v : Nat) => !h.priv && (s.unverified s.cur v).isSome
  let pc := h.pc.toNat + convoyBytes h.convoy
  let waiting := match h.xwait with
    | some (v, .fetch) => (s.awaited s.cur pc).filter fun va => vpnOf va == v && checks v
    | _ => none
  match waiting with
  | some va => .verify va
  | none =>
    match s.fetch s.cur pc with
    | .ok (w, n) => if h.convoy ≠ [] ∧ joins w = false then .close else .run w n
    | .miss va _ => if checks (vpnOf va) then .verify (partAt pc va) else .miss va
    | .trap e => .trap e
    | .wait => .wait

/-- The length code of an undecodable word. -/
def lengthCode (n : Nat) : Fin 3 := if n = 2 then 0 else if n = 4 then 1 else 2

end Sys2Proof.Machine
end

