-- ==== Sys2Proof/Machine/Turn.lean ====
section
/-! DEFINITION. One step as a whole: a turn of the agenda, or an event that is due, or the issue slot of the core in focus with
the instruction its hart fetches (spec/02_harts_and_gangs.md R47, R51; spec/06_instruction_words.md R152, R160; log 1). A
definition is marked noncomputable only because decoding is. -/

namespace Sys2Proof.Machine

/-- The instruction that the bits of a fetched word stand for; a word that stands for none is ILLEGAL_INSTRUCTION (R160). -/
noncomputable def decoded (w n : Nat) : Instr :=
  match decodeBits w with
  | .ok i => i
  | .error _ => .illegalInstruction (lengthCode n) (BitVec.ofNat 64 w)

/-- What the hart picked does in its issue slot. -/
noncomputable def State.issued (s : State) : Out :=
  match s.issue with
  | .run w n => exec (decoded w n) s
  | .close => .next s.closeConvoy
  | .verify va => execCodeGranuleVerify s.cur va s
  | .miss va => .next (s.missed va .fetch)
  | .trap e => .next (if s.h.convoy = [] then s.trapHere e else s.takeTrap e s.h.pc true s.h.convoy.length)
  | .wait => .next s.stall

/-- What is added to it for a paired hart (R499). -/
noncomputable def State.issuePairs (s : State) : State → State :=
  match s.issue with
  | .run w n => fun t => s.pairSteps (s.pairStep s.cur (checkpoints (decoded w n) || convoyClass w) t)
  | .close => s.pairSteps
  | _ => id

/-- The issue slot of the current hart, with no convoy in flight. -/
noncomputable def State.runIssue (s : State) : Out := s.finished s.issued s.issuePairs

/-- The next instruction behind the convoy in flight cannot issue before its drain. -/
def State.stallBehind (s : State) : State := { s with stalled := frontKey s.cur :: s.stalled }

/-- A scalar access behind the convoy of the current hart touches no byte that the convoy, or a store behind it, may still access
(R125). -/
def State.clearOf (s : State) (va n : Nat) : Bool :=
  let h := s.h
  let sts := h.infos.map fun i => if i.consumes then i.st else none
  !h.convoyNear sts (h.convoy.any fun m => m.op.reaches) (va % 2 ^ 56) n
    && !h.aheadStores.any fun p => overlaps (va % 2 ^ 56) n (p.2.1.toNat % 2 ^ 56) (p.2.1.toNat % 2 ^ 56 + p.2.2.length)

/-- The current hart's next scalar instruction behind its convoy in flight (R168, R400): it issues where it reads no register that the
convoy is still to write, its access touches nothing that the convoy may still access, and what it does can be undone (log 82). A store
performs at the drain. -/
noncomputable def State.runBehind (s : State) : State :=
  let h := s.h
  let t := s.setH h.behind
  match t.fetch t.cur t.h.pc.toNat with
  | .ok (w, n) =>
    let i := decoded w n
    let owed := fun r => !h.front.wrote.contains r && h.convoy.any fun m => m.op.xdest = some r
    if i.xReads.any owed || t.awaitsLoad t.cur i.xReads then s.stallBehind
    else
      match i.stores with
      | some (a, k, b, m, len) =>
        let va := t.getX a + k
        let bs := leBytes m (t.getX b).toNat
        (match t.scalarWrite va bs none false with
         | .ok _ =>
           if s.clearOf va.toNat m then s.setH (h.wentAhead (t.h.retire len) [] (h.aheadStores ++ [(h.front, va, bs)])) else s.stallBehind
         | _ => s.stallBehind)
      | none =>
        let free := match i.loads with
          | some (a, k, m) => s.clearOf (t.getX a + k).toNat m
          | none => i.quiet
        if !free then s.stallBehind
        else
          match exec i t with
          | .next u =>
            if t.h.quietly u.h && u.setH t.h = { t with cores := u.cores, scratch := u.scratch } then
              u.setH (h.wentAhead u.h i.xWrites h.aheadStores)
            else s.stallBehind
          | _ => s.stallBehind
  | _ => s.stallBehind

/-- The hart that the barrel would pick cannot issue after all: the state in which it is found not ready (R47). -/
noncomputable def State.notReady (s : State) : Option State :=
  if s.h.inFlight then (if s.runBehind.stalled = s.stalled then none else some s.stallBehind)
  else
    match s.issue with
    | .miss va => some (s.missed va .fetch)
    | .wait => some s.stall
    | .run w n =>
      if s.awaitsLoad s.cur (decoded w n).xReads then some s.stall
      else match s.issued with
      | .next u => if u.stalled = s.stalled then none else if u = s.stall then some u else none
      | _ => none
    | _ => none

/-- A step that no hart and no event takes: time passes. -/
def State.idle (s t : State) : Out := .next (s.finish t)

/-- An issue slot that no hart takes: an event does, or time passes. -/
def State.nobody (s t : State) : Out :=
  match t.otherRow with
  | some r => t.finished (r t) t.pairSteps
  | none => s.idle t

/-- The harts of the core in focus whose next instructions cannot issue are not ready in this slot (R47, R51). -/
noncomputable def State.tried (s : State) : State :=
  (s.slotsOf s.focus).foldl (fun q i => if q.ready i then (State.notReady { q with cur := i }).getD q else q) s

/-- The issue slot of the core in focus: the hart that the barrel picks takes it (R51); where no hart is ready an event does. -/
noncomputable def State.offerSlot (s : State) : Out :=
  match s.tried.barrel with
  | (some i, t) =>
    let t : State := { t with cur := i, stalled := s.stalled }
    if t.h.inFlight then t.finished (.next t.runBehind) id else t.runIssue
  | (none, t) => s.nobody t

/-- One step with no turn of the agenda left: boot (R470), the events of the core in focus, the events of engines and dies in
every other cycle and where nobody issues, and else the issue slot. -/
noncomputable def State.runSlot (s : State) : Out :=
  if !s.booted then s.finished (execColdBoot s) id
  else
    match s.coreRow with
    | some r => s.finished (r s) s.pairSteps
    | none =>
      match (if s.cycle % 2 = 1 then s.otherRow else none) with
      | some r => s.finished (r s) s.pairSteps
      | none =>
        s.offerSlot

/-- One step of the machine. -/
noncomputable def State.runStep (s : State) : Out :=
  match s.agenda with
  | [] => s.runSlot
  | .event b e :: l =>
    let t := { s with agenda := l, cur := b }
    if e.isEvent then t.finished (exec e t) t.pairSteps else .next (t.finish t)
  | .pace on :: l => .next { s with agenda := l, paced := on, stalled := [] }
  | .core c :: l => { s with agenda := l, focus := c }.runSlot
  | .wait n :: l => .next (({ s with agenda := l, stalled := [] } : State).bankCycles n)

/-- A USER hart with a partition of 8 quartets, about to fetch at 0x1_0000 in space 1 of domain 1 (log 1). -/
def loadedHart : Hart :=
  { Hart.reset with st := .running, pc := 0x10000, space := BitVec.ofNat 64 (2 ^ 48 + 16384 + 1),
                    vs := { Hart.reset.vs with qcount := 8 } }

/-- Where the bytes of a loaded program lie, and the leaf that maps them: NORMAL, V, LEAF, W, X, U, A and D (R451). -/
def loadedPa : Nat := 0x1000000
@[inherit_doc loadedPa] def loadedLeaf (verified : Bool) : TlbEntry :=
  { asid := 1, level := 3, vpn := 1, w0 := BitVec.ofNat 64 (loadedPa + 0x3E3), w1 := 0, verified := verified, unit := 0, strided := 0,
    indexed := 0 }

/-- The module with a program of 8 bytes loaded, whose hart takes the next step: booted, nothing on the agenda, one hart in slot 0
of core 0 of die 0 with its translations, and domain 1 permitted in window 0 (log 1). -/
def State.loadBytes (s : State) (bs : List Byte) : State :=
  let d : Fin 8 := 0
  let s := { s with
    booted := true, agenda := [], focus := { die := 0, core := 0 }, cur := { die := 0, core := 0, slot := 0 }, cycle := s.cycle / 2 * 2,
    stalled := [], harts := [(0, loadedHart)], mem := pokeBytes s.mem loadedPa bs,
    acc := { s.acc with perm := Map.set (permDefault 0 1) s.acc.perm 1 15 } }
  s.setDie d { s.die d with halted := false, tlb := [loadedLeaf true, loadedLeaf false] }

end Sys2Proof.Machine
end

