-- ==== Sys2Proof/Machine/Step.lean ====
section
/-! DEFINITION. The step function, and the state in which it runs a given instruction next. -/

namespace Sys2Proof.Machine

/-- ONE STEP of the module. It is marked noncomputable only because decoding is. -/
noncomputable def step (s : State) : Host.Outcome State Fault Refusal := s.runStep

/-- The state in which the next step fetches and runs the instruction whose bits are `w`: it stands for the load of a program
that a host launch makes (log 1). -/
def State.withFetchWord (s : State) (nbits w : Nat) : State := s.loadBytes (natToBytes 8 (w % 2 ^ nbits))

end Sys2Proof.Machine
end

