-- ==== Sys2Proof/Safety.lean ====
section
/-! DEFINITION. What counts as a safe run, and the invariants of the state that claims are stated with. -/

namespace Sys2Proof.Machine

/-- `t` is reached from `s` by steps that all answer a next state. -/
inductive Reaches (s : State) : State → Prop where
  | here : Reaches s s
  | step {t u : State} : Reaches s t → step t = .next u → Reaches s u

/-- A run from `s` is safe: no step of it ends in a fault or a refusal. -/
def Safe (s : State) : Prop := ∀ t, Reaches s t → ∃ u, step t = .next u

/-- The keys of a map strictly rise, from `lo` up. -/
def Map.risesFrom {α : Type} : Nat → Map α → Prop
  | _, [] => True
  | lo, (k, _) :: t => lo ≤ k ∧ Map.risesFrom (k + 1) t

/-- The keys of a map strictly rise: each is listed at most once, so that what is written for a key is what is read. -/
def Map.rises {α : Type} (m : Map α) : Prop := Map.risesFrom 0 m

/-- Memory, and the memory kept by a checkpoint being taken and by the last one completed, is in canonical form (log 2). -/
def State.memoryOk (s : State) : Prop :=
  Memory.wf s.mem = true ∧ (∀ c, s.ckpt = some c → Memory.wf c.mem = true) ∧ (∀ c, s.ckDrain = some c → Memory.wf c.mem = true)

/-- The maps of harts, cores, dies, channels, leases, scratchpad banks, rewritten sectors and BAR2 list each key once, in the state and in
the checkpoints it keeps, and so do the maps within a channel. -/
def State.mapsOk (s : State) : Prop :=
  Map.rises s.harts ∧ Map.rises s.cores ∧ Map.rises s.dies ∧ Map.rises s.chans ∧ Map.rises s.leases
    ∧ Map.rises s.scratch ∧ Map.rises s.rewritten ∧ Map.rises s.bar2
    ∧ (∀ c, s.ckpt = some c → Map.rises c.dies) ∧ (∀ c, s.ckDrain = some c → Map.rises c.dies)
    ∧ (∀ p ∈ s.chans, Map.rises p.2.banks ∧ Map.rises p.2.t0 ∧ Map.rises p.2.lastArrival ∧ Map.rises p.2.armed ∧ Map.rises p.2.forced)

/- VOCABULARY of the statements. -/

/-- INSTRET after an instruction that retires: one more, unless a firmware handler runs (R210, R352). -/
def State.counted (s : State) : Word := if s.h.inf then s.h.instret else s.h.instret + 1

/-- The state in which the current hart has written `v` to x`d`, where a write to x0 is discarded (R180), and has gone on by `n`
bytes. Nothing else differs. -/
def State.wrote (s : State) (n : Nat) (d : Fin 32) (v : Word) : State :=
  s.setHart s.cur { s.h with
    x := if d = 0 then s.h.x else s.h.x.set d v, pc := s.h.pc + BitVec.ofNat 56 n, instret := s.counted }

/-- The state in which the current hart has written `v` to x`d` and goes on at `pc`. Nothing else differs. -/
def State.wentTo (s : State) (d : Fin 32) (v : Word) (pc : BitVec 56) : State :=
  s.setHart s.cur { s.h with x := if d = 0 then s.h.x else s.h.x.set d v, pc := pc, instret := s.counted }

/-- Nothing that is in flight or damaged touches the accesses of the current hart: no incomplete transfer, no error of a stream or
of a write waiting to be reported, no write of its own that has yet to perform or that its launch journals, and no sector with an
uncorrectable error. -/
structure State.Quiet (s : State) : Prop where
  transfers : s.h.ilock = []
  errors : ∀ st : Fin 16, s.h.stm[st].err = none
  writes : s.h.posted = []
  journal : s.journal = []
  failed : s.h.wfail = none
  sectors : s.poison = []

/-- The access of `n` bytes at `va` by the current hart is translated and permitted, piece by piece, to memory of this module other
than a POOL: NORMAL, QUARTER or LOCAL memory (R117). -/
structure State.Reaches (s : State) (va : Word) (n : Nat) (acc : Acc) (ps : List (Target × Nat)) : Prop where
  pieces : s.pieces s.cur va.toNat n acc = .ok ps
  here : ∀ p ∈ ps, ∃ loc ty, p.1 = .mem loc ty ∧ ty ≠ .pool

/-- The bytes of memory an access reads, in address order. -/
def State.bytesOf (s : State) : List (Target × Nat) → List Byte
  | [] => []
  | (.mem loc _, n) :: ps => s.peekN loc n ++ s.bytesOf ps
  | _ :: ps => s.bytesOf ps

/-- Memory as a function, after an access has written the bytes `bs` to its pieces. -/
def bytesAfter (m : Nat → Byte) : List (Target × Nat) → List Byte → Nat → Byte
  | [], _ => m
  | (.mem loc _, n) :: ps, bs => bytesAfter (fun a => if loc ≤ a ∧ a < loc + n then bs.getD (a - loc) 0 else m a) ps (bs.drop n)
  | (_, n) :: ps, bs => bytesAfter m ps (bs.drop n)

/-- The access writes ordinary memory: none of its bytes lies in the words that the device itself reads or guards (R428, R465,
R480, R497). -/
def ordinary (ps : List (Target × Nat)) : Prop := ∀ p ∈ ps, ∀ loc ty, p.1 = .mem loc ty → 0xB8000 ≤ loc

/-- Of every core, only what its TLB holds may have changed, and that of the current hart's core alone (R454). -/
def State.onlyTlb (s t : State) : Prop :=
  ∀ c, t.core c = { s.core c with tlb := (t.core c).tlb } ∧ (c ≠ coreOf s.cur → (t.core c).tlb = (s.core c).tlb)

/-- Besides the current hart, only memory, what watches the writes, the record of the granules a launch has written (R434), and who waits
at the scratchpad banks (R32) may have changed: of every other hart the monitor and the barrier wait, of every die that record. -/
def State.onlyBytes (s t : State) : Prop :=
  t = { s with harts := t.harts, mem := t.mem, pairs := t.pairs, dies := t.dies, cores := t.cores, scratch := t.scratch }
    ∧ (∀ i, i ≠ s.cur → t.hart i = { s.hart i with mon := (t.hart i).mon, wait := (t.hart i).wait })
    ∧ ∀ d, t.die d = { s.die d with launches := (t.die d).launches }
        ∧ (t.die d).launches.map (fun l => { l with written := [] }) = (s.die d).launches.map (fun l => { l with written := [] })

/-- As `onlyBytes`, and no core but for the current one's TLB (R454). -/
def State.onlyMemory (s t : State) : Prop := s.onlyBytes t ∧ s.onlyTlb t

/-- Besides the current hart, only who waits at the scratchpad banks (R32) and the current core's TLB (R454) may have changed. -/
def State.onlyAccess (s t : State) : Prop := t = { s.setHart s.cur t.h with cores := t.cores, scratch := t.scratch } ∧ s.onlyTlb t

/-- What a store leaves alone: every register and every field of the current hart other than its PC, INSTRET and the monitor and
barrier wait that the write may wake, and what `onlyMemory` says of the rest. -/
def State.storedOnly (s t : State) (n : Nat) : Prop :=
  t.h = { s.h with pc := s.h.pc + BitVec.ofNat 56 n, instret := s.counted, mon := t.h.mon, wait := t.h.wait }
    ∧ s.onlyMemory t

/-- What an atomic leaves alone: as `storedOnly`, but for xd and, with an acquire part, the strips its streams had fetched ahead
(R130). -/
def State.exchangedOnly (s t : State) (d : Fin 32) (v : Word) (acquires : Bool) : Prop :=
  t.h = { (if acquires then s.h.discardAhead else s.h) with
          x := if d = 0 then s.h.x else s.h.x.set d v, pc := s.h.pc + 4, instret := s.counted, mon := t.h.mon, wait := t.h.wait }
    ∧ s.onlyMemory t

/-- The maps and the memory of the state are as every step keeps them. -/
def State.Sound (s : State) : Prop := s.mapsOk ∧ s.memoryOk

/-- The current hart has raised the flags `fl` (R103). Nothing else differs. -/
def State.flagged (s : State) (fl : Flags) : State :=
  s.setHart s.cur { s.h with vs := { s.h.vs with flags := s.h.vs.flags ||| fl } }

/-- A scalar floating instruction with the result `r`: its flags accrue; where one of them is enabled the instruction traps ARITH with
the flags raised and xd is not written, else xd receives the zero-extended pattern (R103, R180, R196). -/
def State.floats (s : State) (d : Fin 32) (r : Nat × Flags) : State :=
  if r.2 &&& s.h.vs.en = 0 then (s.flagged r.2).wrote 4 d (BitVec.ofNat 64 r.1)
  else (s.flagged r.2).takeTrap { cause := .arith, acc := .read, tval := r.2.setWidth 64 } s.h.pc false 0

/-- What a convoy-class instruction brings to its convoy: its K bit, its mk bit (false where it has none), and its operation with
its operands (R154, R163, R226). -/
def brings : Instr → Option (Bool × Bool × MOp)
  | .vaddVv k m d a b => some (k, m, .ew .add d a (.v b))
  | .vaddVx k m d a b => some (k, m, .ew .add d a (.x b))
  | .vaddVs k m d a st => some (k, m, .ew .add d a (.st st))
  | .vaddVi k m d a i => some (k, m, .ew .add d a (.imm i))
  | .vsubVv k m d a b => some (k, m, .ew .sub d a (.v b))
  | .vsubVx k m d a b => some (k, m, .ew .sub d a (.x b))
  | .vsubVs k m d a st => some (k, m, .ew .sub d a (.st st))
  | .vsubVi k m d a i => some (k, m, .ew .sub d a (.imm i))
  | .vrsubVv k m d a b => some (k, m, .ew .rsub d a (.v b))
  | .vrsubVx k m d a b => some (k, m, .ew .rsub d a (.x b))
  | .vrsubVs k m d a st => some (k, m, .ew .rsub d a (.st st))
  | .vrsubVi k m d a i => some (k, m, .ew .rsub d a (.imm i))
  | .vandVv k m d a b => some (k, m, .ew .and d a (.v b))
  | .vandVx k m d a b => some (k, m, .ew .and d a (.x b))
  | .vandVs k m d a st => some (k, m, .ew .and d a (.st st))
  | .vandVi k m d a i => some (k, m, .ew .and d a (.imm i))
  | .vorVv k m d a b => some (k, m, .ew .or d a (.v b))
  | .vorVx k m d a b => some (k, m, .ew .or d a (.x b))
  | .vorVs k m d a st => some (k, m, .ew .or d a (.st st))
  | .vorVi k m d a i => some (k, m, .ew .or d a (.imm i))
  | .vxorVv k m d a b => some (k, m, .ew .xor d a (.v b))
  | .vxorVx k m d a b => some (k, m, .ew .xor d a (.x b))
  | .vxorVs k m d a st => some (k, m, .ew .xor d a (.st st))
  | .vxorVi k m d a i => some (k, m, .ew .xor d a (.imm i))
  | .vsllVv k m d a b => some (k, m, .ew .sll d a (.v b))
  | .vsllVx k m d a b => some (k, m, .ew .sll d a (.x b))
  | .vsllVs k m d a st => some (k, m, .ew .sll d a (.st st))
  | .vsllVi k m d a i => some (k, m, .ew .sll d a (.imm i))
  | .vsrlVv k m d a b => some (k, m, .ew .srl d a (.v b))
  | .vsrlVx k m d a b => some (k, m, .ew .srl d a (.x b))
  | .vsrlVs k m d a st => some (k, m, .ew .srl d a (.st st))
  | .vsrlVi k m d a i => some (k, m, .ew .srl d a (.imm i))
  | .vsraVv k m d a b => some (k, m, .ew .sra d a (.v b))
  | .vsraVx k m d a b => some (k, m, .ew .sra d a (.x b))
  | .vsraVs k m d a st => some (k, m, .ew .sra d a (.st st))
  | .vsraVi k m d a i => some (k, m, .ew .sra d a (.imm i))
  | .vmulVv k m d a b => some (k, m, .ew .mul d a (.v b))
  | .vmulVx k m d a b => some (k, m, .ew .mul d a (.x b))
  | .vmulVs k m d a st => some (k, m, .ew .mul d a (.st st))
  | .vmulVi k m d a i => some (k, m, .ew .mul d a (.imm i))
  | .vmulhVv k m d a b => some (k, m, .ew .mulh d a (.v b))
  | .vmulhVx k m d a b => some (k, m, .ew .mulh d a (.x b))
  | .vmulhVs k m d a st => some (k, m, .ew .mulh d a (.st st))
  | .vmulhVi k m d a i => some (k, m, .ew .mulh d a (.imm i))
  | .vmulhuVv k m d a b => some (k, m, .ew .mulhu d a (.v b))
  | .vmulhuVx k m d a b => some (k, m, .ew .mulhu d a (.x b))
  | .vmulhuVs k m d a st => some (k, m, .ew .mulhu d a (.st st))
  | .vmulhuVi k m d a i => some (k, m, .ew .mulhu d a (.imm i))
  | .vminVv k m d a b => some (k, m, .ew .min d a (.v b))
  | .vminVx k m d a b => some (k, m, .ew .min d a (.x b))
  | .vminVs k m d a st => some (k, m, .ew .min d a (.st st))
  | .vminVi k m d a i => some (k, m, .ew .min d a (.imm i))
  | .vmaxVv k m d a b => some (k, m, .ew .max d a (.v b))
  | .vmaxVx k m d a b => some (k, m, .ew .max d a (.x b))
  | .vmaxVs k m d a st => some (k, m, .ew .max d a (.st st))
  | .vmaxVi k m d a i => some (k, m, .ew .max d a (.imm i))
  | .vminuVv k m d a b => some (k, m, .ew .minu d a (.v b))
  | .vminuVx k m d a b => some (k, m, .ew .minu d a (.x b))
  | .vminuVs k m d a st => some (k, m, .ew .minu d a (.st st))
  | .vminuVi k m d a i => some (k, m, .ew .minu d a (.imm i))
  | .vmaxuVv k m d a b => some (k, m, .ew .maxu d a (.v b))
  | .vmaxuVx k m d a b => some (k, m, .ew .maxu d a (.x b))
  | .vmaxuVs k m d a st => some (k, m, .ew .maxu d a (.st st))
  | .vmaxuVi k m d a i => some (k, m, .ew .maxu d a (.imm i))
  | .vsaddVv k m d a b => some (k, m, .ew .sadd d a (.v b))
  | .vsaddVx k m d a b => some (k, m, .ew .sadd d a (.x b))
  | .vsaddVs k m d a st => some (k, m, .ew .sadd d a (.st st))
  | .vsaddVi k m d a i => some (k, m, .ew .sadd d a (.imm i))
  | .vsadduVv k m d a b => some (k, m, .ew .saddu d a (.v b))
  | .vsadduVx k m d a b => some (k, m, .ew .saddu d a (.x b))
  | .vsadduVs k m d a st => some (k, m, .ew .saddu d a (.st st))
  | .vsadduVi k m d a i => some (k, m, .ew .saddu d a (.imm i))
  | .vssubVv k m d a b => some (k, m, .ew .ssub d a (.v b))
  | .vssubVx k m d a b => some (k, m, .ew .ssub d a (.x b))
  | .vssubVs k m d a st => some (k, m, .ew .ssub d a (.st st))
  | .vssubVi k m d a i => some (k, m, .ew .ssub d a (.imm i))
  | .vssubuVv k m d a b => some (k, m, .ew .ssubu d a (.v b))
  | .vssubuVx k m d a b => some (k, m, .ew .ssubu d a (.x b))
  | .vssubuVs k m d a st => some (k, m, .ew .ssubu d a (.st st))
  | .vssubuVi k m d a i => some (k, m, .ew .ssubu d a (.imm i))
  | .vaaddVv k m d a b => some (k, m, .ew .aadd d a (.v b))
  | .vaaddVx k m d a b => some (k, m, .ew .aadd d a (.x b))
  | .vaaddVs k m d a st => some (k, m, .ew .aadd d a (.st st))
  | .vaaddVi k m d a i => some (k, m, .ew .aadd d a (.imm i))
  | .vaadduVv k m d a b => some (k, m, .ew .aaddu d a (.v b))
  | .vaadduVx k m d a b => some (k, m, .ew .aaddu d a (.x b))
  | .vaadduVs k m d a st => some (k, m, .ew .aaddu d a (.st st))
  | .vaadduVi k m d a i => some (k, m, .ew .aaddu d a (.imm i))
  | .vsmulVv k m d a b => some (k, m, .ew .smul d a (.v b))
  | .vsmulVx k m d a b => some (k, m, .ew .smul d a (.x b))
  | .vsmulVs k m d a st => some (k, m, .ew .smul d a (.st st))
  | .vsmulVi k m d a i => some (k, m, .ew .smul d a (.imm i))
  | .vssrlVv k m d a b => some (k, m, .ew .ssrl d a (.v b))
  | .vssrlVx k m d a b => some (k, m, .ew .ssrl d a (.x b))
  | .vssrlVs k m d a st => some (k, m, .ew .ssrl d a (.st st))
  | .vssrlVi k m d a i => some (k, m, .ew .ssrl d a (.imm i))
  | .vssraVv k m d a b => some (k, m, .ew .ssra d a (.v b))
  | .vssraVx k m d a b => some (k, m, .ew .ssra d a (.x b))
  | .vssraVs k m d a st => some (k, m, .ew .ssra d a (.st st))
  | .vssraVi k m d a i => some (k, m, .ew .ssra d a (.imm i))
  | .vwaddVv k m d a b => some (k, m, .ew .wadd d a (.v b))
  | .vwaddVx k m d a b => some (k, m, .ew .wadd d a (.x b))
  | .vwaddVs k m d a st => some (k, m, .ew .wadd d a (.st st))
  | .vwaddVi k m d a i => some (k, m, .ew .wadd d a (.imm i))
  | .vwadduVv k m d a b => some (k, m, .ew .waddu d a (.v b))
  | .vwadduVx k m d a b => some (k, m, .ew .waddu d a (.x b))
  | .vwadduVs k m d a st => some (k, m, .ew .waddu d a (.st st))
  | .vwadduVi k m d a i => some (k, m, .ew .waddu d a (.imm i))
  | .vwmulVv k m d a b => some (k, m, .ew .wmul d a (.v b))
  | .vwmulVx k m d a b => some (k, m, .ew .wmul d a (.x b))
  | .vwmulVs k m d a st => some (k, m, .ew .wmul d a (.st st))
  | .vwmulVi k m d a i => some (k, m, .ew .wmul d a (.imm i))
  | .vwmuluVv k m d a b => some (k, m, .ew .wmulu d a (.v b))
  | .vwmuluVx k m d a b => some (k, m, .ew .wmulu d a (.x b))
  | .vwmuluVs k m d a st => some (k, m, .ew .wmulu d a (.st st))
  | .vwmuluVi k m d a i => some (k, m, .ew .wmulu d a (.imm i))
  | .vnclipVv k m d a b => some (k, m, .ew .nclip d a (.v b))
  | .vnclipVx k m d a b => some (k, m, .ew .nclip d a (.x b))
  | .vnclipVs k m d a st => some (k, m, .ew .nclip d a (.st st))
  | .vnclipVi k m d a i => some (k, m, .ew .nclip d a (.imm i))
  | .vnclipuVv k m d a b => some (k, m, .ew .nclipu d a (.v b))
  | .vnclipuVx k m d a b => some (k, m, .ew .nclipu d a (.x b))
  | .vnclipuVs k m d a st => some (k, m, .ew .nclipu d a (.st st))
  | .vnclipuVi k m d a i => some (k, m, .ew .nclipu d a (.imm i))
  | .vfaddVv k m d a b => some (k, m, .ew .fadd d a (.v b))
  | .vfaddVx k m d a b => some (k, m, .ew .fadd d a (.x b))
  | .vfaddVs k m d a st => some (k, m, .ew .fadd d a (.st st))
  | .vfsubVv k m d a b => some (k, m, .ew .fsub d a (.v b))
  | .vfsubVx k m d a b => some (k, m, .ew .fsub d a (.x b))
  | .vfsubVs k m d a st => some (k, m, .ew .fsub d a (.st st))
  | .vfrsubVv k m d a b => some (k, m, .ew .frsub d a (.v b))
  | .vfrsubVx k m d a b => some (k, m, .ew .frsub d a (.x b))
  | .vfrsubVs k m d a st => some (k, m, .ew .frsub d a (.st st))
  | .vfmulVv k m d a b => some (k, m, .ew .fmul d a (.v b))
  | .vfmulVx k m d a b => some (k, m, .ew .fmul d a (.x b))
  | .vfmulVs k m d a st => some (k, m, .ew .fmul d a (.st st))
  | .vfdivVv k m d a b => some (k, m, .ew .fdiv d a (.v b))
  | .vfdivVx k m d a b => some (k, m, .ew .fdiv d a (.x b))
  | .vfdivVs k m d a st => some (k, m, .ew .fdiv d a (.st st))
  | .vfrdivVv k m d a b => some (k, m, .ew .frdiv d a (.v b))
  | .vfrdivVx k m d a b => some (k, m, .ew .frdiv d a (.x b))
  | .vfrdivVs k m d a st => some (k, m, .ew .frdiv d a (.st st))
  | .vfsqrt k m d a => some (k, m, .ew .fsqrt d a (.imm 0))
  | .vfminVv k m d a b => some (k, m, .ew .fmin d a (.v b))
  | .vfminVx k m d a b => some (k, m, .ew .fmin d a (.x b))
  | .vfminVs k m d a st => some (k, m, .ew .fmin d a (.st st))
  | .vfmaxVv k m d a b => some (k, m, .ew .fmax d a (.v b))
  | .vfmaxVx k m d a b => some (k, m, .ew .fmax d a (.x b))
  | .vfmaxVs k m d a st => some (k, m, .ew .fmax d a (.st st))
  | .vfsgnjVv k m d a b => some (k, m, .ew .fsgnj d a (.v b))
  | .vfsgnjVx k m d a b => some (k, m, .ew .fsgnj d a (.x b))
  | .vfsgnjVs k m d a st => some (k, m, .ew .fsgnj d a (.st st))
  | .vfsgnjnVv k m d a b => some (k, m, .ew .fsgnjn d a (.v b))
  | .vfsgnjnVx k m d a b => some (k, m, .ew .fsgnjn d a (.x b))
  | .vfsgnjnVs k m d a st => some (k, m, .ew .fsgnjn d a (.st st))
  | .vfsgnjxVv k m d a b => some (k, m, .ew .fsgnjx d a (.v b))
  | .vfsgnjxVx k m d a b => some (k, m, .ew .fsgnjx d a (.x b))
  | .vfsgnjxVs k m d a st => some (k, m, .ew .fsgnjx d a (.st st))
  | .vfclass k m d a => some (k, m, .ew .fclass d a (.imm 0))
  | .vfmaccVv k m d a b => some (k, m, .ew .fmacc d a (.v b))
  | .vfmaccVx k m d a b => some (k, m, .ew .fmacc d a (.x b))
  | .vfmaccVs k m d a st => some (k, m, .ew .fmacc d a (.st st))
  | .vfnmaccVv k m d a b => some (k, m, .ew .fnmacc d a (.v b))
  | .vfnmaccVx k m d a b => some (k, m, .ew .fnmacc d a (.x b))
  | .vfnmaccVs k m d a st => some (k, m, .ew .fnmacc d a (.st st))
  | .vfmsacVv k m d a b => some (k, m, .ew .fmsac d a (.v b))
  | .vfmsacVx k m d a b => some (k, m, .ew .fmsac d a (.x b))
  | .vfmsacVs k m d a st => some (k, m, .ew .fmsac d a (.st st))
  | .vfnmsacVv k m d a b => some (k, m, .ew .fnmsac d a (.v b))
  | .vfnmsacVx k m d a b => some (k, m, .ew .fnmsac d a (.x b))
  | .vfnmsacVs k m d a st => some (k, m, .ew .fnmsac d a (.st st))
  | .vfcvtFX k m d a => some (k, m, .ew .cvtFX d a (.imm 0))
  | .vfcvtFXu k m d a => some (k, m, .ew .cvtFXu d a (.imm 0))
  | .vfcvtXF k m d a => some (k, m, .ew .cvtXF d a (.imm 0))
  | .vfcvtXuF k m d a => some (k, m, .ew .cvtXuF d a (.imm 0))
  | .vfcvtFF k m d a i => some (k, m, .ew (.cvtFF i) d a (.imm 0))
  | .vfexp k m d a => some (k, m, .ew .fexp d a (.imm 0))
  | .vfrec k m d a => some (k, m, .ew .frec d a (.imm 0))
  | .vmseqVv k m d a b => some (k, m, .cmp .eq d a (.v b))
  | .vmseqVx k m d a b => some (k, m, .cmp .eq d a (.x b))
  | .vmseqVs k m d a st => some (k, m, .cmp .eq d a (.st st))
  | .vmseqVi k m d a i => some (k, m, .cmp .eq d a (.imm i))
  | .vmsneVv k m d a b => some (k, m, .cmp .ne d a (.v b))
  | .vmsneVx k m d a b => some (k, m, .cmp .ne d a (.x b))
  | .vmsneVs k m d a st => some (k, m, .cmp .ne d a (.st st))
  | .vmsneVi k m d a i => some (k, m, .cmp .ne d a (.imm i))
  | .vmsltVv k m d a b => some (k, m, .cmp .lt d a (.v b))
  | .vmsltVx k m d a b => some (k, m, .cmp .lt d a (.x b))
  | .vmsltVs k m d a st => some (k, m, .cmp .lt d a (.st st))
  | .vmsltVi k m d a i => some (k, m, .cmp .lt d a (.imm i))
  | .vmsleVv k m d a b => some (k, m, .cmp .le d a (.v b))
  | .vmsleVx k m d a b => some (k, m, .cmp .le d a (.x b))
  | .vmsleVs k m d a st => some (k, m, .cmp .le d a (.st st))
  | .vmsleVi k m d a i => some (k, m, .cmp .le d a (.imm i))
  | .vmsltuVv k m d a b => some (k, m, .cmp .ltu d a (.v b))
  | .vmsltuVx k m d a b => some (k, m, .cmp .ltu d a (.x b))
  | .vmsltuVs k m d a st => some (k, m, .cmp .ltu d a (.st st))
  | .vmsltuVi k m d a i => some (k, m, .cmp .ltu d a (.imm i))
  | .vmsleuVv k m d a b => some (k, m, .cmp .leu d a (.v b))
  | .vmsleuVx k m d a b => some (k, m, .cmp .leu d a (.x b))
  | .vmsleuVs k m d a st => some (k, m, .cmp .leu d a (.st st))
  | .vmsleuVi k m d a i => some (k, m, .cmp .leu d a (.imm i))
  | .vmsgtVv k m d a b => some (k, m, .cmp .gt d a (.v b))
  | .vmsgtVx k m d a b => some (k, m, .cmp .gt d a (.x b))
  | .vmsgtVs k m d a st => some (k, m, .cmp .gt d a (.st st))
  | .vmsgtVi k m d a i => some (k, m, .cmp .gt d a (.imm i))
  | .vmsgtuVv k m d a b => some (k, m, .cmp .gtu d a (.v b))
  | .vmsgtuVx k m d a b => some (k, m, .cmp .gtu d a (.x b))
  | .vmsgtuVs k m d a st => some (k, m, .cmp .gtu d a (.st st))
  | .vmsgtuVi k m d a i => some (k, m, .cmp .gtu d a (.imm i))
  | .vmfeqVv k m d a b => some (k, m, .cmp .feq d a (.v b))
  | .vmfeqVx k m d a b => some (k, m, .cmp .feq d a (.x b))
  | .vmfeqVs k m d a st => some (k, m, .cmp .feq d a (.st st))
  | .vmfneVv k m d a b => some (k, m, .cmp .fne d a (.v b))
  | .vmfneVx k m d a b => some (k, m, .cmp .fne d a (.x b))
  | .vmfneVs k m d a st => some (k, m, .cmp .fne d a (.st st))
  | .vmfltVv k m d a b => some (k, m, .cmp .flt d a (.v b))
  | .vmfltVx k m d a b => some (k, m, .cmp .flt d a (.x b))
  | .vmfltVs k m d a st => some (k, m, .cmp .flt d a (.st st))
  | .vmfleVv k m d a b => some (k, m, .cmp .fle d a (.v b))
  | .vmfleVx k m d a b => some (k, m, .cmp .fle d a (.x b))
  | .vmfleVs k m d a st => some (k, m, .cmp .fle d a (.st st))
  | .vmfgtVv k m d a b => some (k, m, .cmp .fgt d a (.v b))
  | .vmfgtVx k m d a b => some (k, m, .cmp .fgt d a (.x b))
  | .vmfgtVs k m d a st => some (k, m, .cmp .fgt d a (.st st))
  | .vmfgeVv k m d a b => some (k, m, .cmp .fge d a (.v b))
  | .vmfgeVx k m d a b => some (k, m, .cmp .fge d a (.x b))
  | .vmfgeVs k m d a st => some (k, m, .cmp .fge d a (.st st))
  | .vmvVX k m d b => some (k, m, .ew .splat d 0 (.x b))
  | .vmvVI k m d i => some (k, m, .ew .splat d 0 (.imm i))
  | .vid k m d => some (k, m, .ew .index d 0 (.imm 0))
  | .vmvVV k m d a => some (k, m, .ew .move d a (.imm 0))
  | .vshape k d a => some (k, false, .shape d a)
  | .vshapeU k d a => some (k, false, .shapeU d a)
  | .vshapeS k d a => some (k, false, .shapeS d a)
  | .vmat k a => some (k, false, .mat a)
  | .vmvXE k d a b => some (k, false, .elem d a b)
  | .vmergeVvm k d a b => some (k, false, .ew .merge d a (.v b))
  | .vmergeVxm k d a b => some (k, false, .ew .merge d a (.x b))
  | .vmergeVim k d a i => some (k, false, .ew .merge d a (.imm i))
  | .vmand k d a b => some (k, false, .mask .and d a b)
  | .vmnand k d a b => some (k, false, .mask .nand d a b)
  | .vmandn k d a b => some (k, false, .mask .andn d a b)
  | .vmor k d a b => some (k, false, .mask .or d a b)
  | .vmnor k d a b => some (k, false, .mask .nor d a b)
  | .vmorn k d a b => some (k, false, .mask .orn d a b)
  | .vmxor k d a b => some (k, false, .mask .xor d a b)
  | .vmxnor k d a b => some (k, false, .mask .xnor d a b)
  | .vmcpop k d a => some (k, false, .mcpop d a)
  | .vmfirst k d a => some (k, false, .mfirst d a)
  | .vmset k d => some (k, false, .mask .set d 0 0)
  | .vmclr k d => some (k, false, .mask .clr d 0 0)
  | .vld k m d st => some (k, m, .load d st)
  | .vstO k m a st => some (k, m, .store true a st)
  | .vstU k m a st => some (k, m, .store false a st)
  | .vlx k m d a b => some (k, m, .gather d a b)
  | .vsxO k m d a b => some (k, m, .scatter true d a b)
  | .vsxU k m d a b => some (k, m, .scatter false d a b)
  | .vamoswap k m d a sc ord un => some (k, m, .amo .swap d a ord un)
  | .vamoadd k m d a sc ord un => some (k, m, .amo .add d a ord un)
  | .vamoand k m d a sc ord un => some (k, m, .amo .and d a ord un)
  | .vamoor k m d a sc ord un => some (k, m, .amo .or d a ord un)
  | .vamoxor k m d a sc ord un => some (k, m, .amo .xor d a ord un)
  | .vamomin k m d a sc ord un => some (k, m, .amo .min d a ord un)
  | .vamomax k m d a sc ord un => some (k, m, .amo .max d a ord un)
  | .vamominu k m d a sc ord un => some (k, m, .amo .minu d a ord un)
  | .vamomaxu k m d a sc ord un => some (k, m, .amo .maxu d a ord un)
  | .vamofxL k m d a sc ord un => some (k, m, .amo .fxL d a ord un)
  | .vamofxD k m d a sc ord un => some (k, m, .amo .fxD d a ord un)
  | .vamofxS k m d a sc ord un => some (k, m, .amo .fxS d a ord un)
  | .vscfg k a st => some (k, false, .scfg a st)
  | .vscfgr k a c st => some (k, false, .scfgr a c st)
  | .vcopy k a b st => some (k, false, .copy .plain a b st)
  | .vcopyT k a b st => some (k, false, .copy .tap a b st)
  | .vcopyAddl k a b st => some (k, false, .copy .addl a b st)
  | .vcopyAddd k a b st => some (k, false, .copy .addd a b st)
  | .vcopyAdds k a b st => some (k, false, .copy .adds a b st)
  | .vchsend k a b st => some (k, false, .chsend a b st)
  | .vchrecv k a st => some (k, false, .chrecv a st)
  | .vsend k a st => some (k, false, .send a false st)
  | .vsendEom k a st => some (k, false, .send a true st)
  | .veom k st => some (k, false, .eom st)
  | .vsget k d st i => some (k, false, .sget d st i)
  | .vsidle k st => some (k, false, .sidle st)
  | .kswage k a st => some (k, false, .kerb 0 a st 0)
  | .kpool k a st => some (k, false, .kerb 1 a st 0)
  | .ktongs k a st => some (k, false, .kerb 2 a st 0)
  | .seal k d a b => some (k, false, .seal d a b)
  | .unseal k d a b => some (k, false, .unseal d a b)
  | .vredsum k m d a => some (k, m, .xr .redsum d a (.imm 0))
  | .vredmax k m d a => some (k, m, .xr .redmax d a (.imm 0))
  | .vredmin k m d a => some (k, m, .xr .redmin d a (.imm 0))
  | .vredmaxu k m d a => some (k, m, .xr .redmaxu d a (.imm 0))
  | .vredminu k m d a => some (k, m, .xr .redminu d a (.imm 0))
  | .vredand k m d a => some (k, m, .xr .redand d a (.imm 0))
  | .vredor k m d a => some (k, m, .xr .redor d a (.imm 0))
  | .viota k d => some (k, false, .xr .iota d 0 (.imm 0))
  | .vfredsum k m d a => some (k, m, .xr .fredsum d a (.imm 0))
  | .vfredmax k m d a => some (k, m, .xr .fredmax d a (.imm 0))
  | .vrgatherVv k d a b => some (k, false, .xr .gather d a (.v b))
  | .vrgatherVx k d a b => some (k, false, .xr .gather d a (.x b))
  | .vslideupVx k d a b => some (k, false, .xr .slideup d a (.x b))
  | .vslideupVi k d a i => some (k, false, .xr .slideup d a (.imm i))
  | .vslidedownVx k d a b => some (k, false, .xr .slidedown d a (.x b))
  | .vslidedownVi k d a i => some (k, false, .xr .slidedown d a (.imm i))
  | .vcompress k d a => some (k, false, .xr .compress d a (.imm 0))
  | .vexpand k d a => some (k, false, .xr .expand d a (.imm 0))
  | .vscanadd k m d a => some (k, m, .xr .scanadd d a (.imm 0))
  | .vmm k m d a b ta tb => some (k, m, .vmm d a b ta tb)
  | .copr k c a b xo fmt => some (k, false, .copr c a b xo fmt)
  | .coprM k c a b fmt => some (k, false, .coprM c a b fmt)
  | .cmvBv k c a xo => some (k, false, .cmvBv c a xo)
  | .cmvVb k d c xo => some (k, false, .cmvVb d c xo)
  | .cld k c a b => some (k, false, .cld c a b)
  | .cst k c a b => some (k, false, .cst c a b)
  | .czero k c => some (k, false, .czero c)
  | .ccvt k m d a vs ta tb out => some (k, m, .ccvt d a vs ta tb out)
  | _ => none

/-- An instruction as a member of a convoy (R163). -/
def memberOf (i : Instr) (masked : Bool) (op : MOp) : Member :=
  { enc := encode i, size := i.size, masked := masked, op := op, acted := false }

/-- The current hart can run `i`, with K = 1, as a convoy of one member: no convoy is in hand, nothing is kept for the restart of one
here (log 97), and none of its convoys waits for a Crucible (R55); the member passes the checks of R166; and it closes its convoy, or the
next word does not join (R163, R164). -/
structure State.Single (s : State) (i : Instr) (masked : Bool) (op : MOp) : Prop where
  opened : s.h.phase = .open
  first : s.h.convoy = []
  started : s.h.waited = Waited.reset
  restarts : s.h.keptHere = none
  grants : ∀ c ∈ s.crucibleCores, s.cur.slot.val ∉ (s.core c).crucWait
  relayed : s.h.relay = false
  paced : s.paced = false
  behind : s.h.ahead = none
  legal : (memberOf i masked op).illegal s.h s.cur.slot = false
  pair : op.badPair = false
  ends : (op.info s.h masked).closes = true ∨ ∃ w n, s.fetch s.cur (s.h.pc.toNat + i.size) = .ok (w, n) ∧ joins w = false

/-- The current hart can run `i` as a convoy of one member, and no element of a register, mask or block, and no sector, holds an
uncorrectable error. -/
structure State.Alone (s : State) (i : Instr) (masked : Bool) (op : MOp) : Prop extends State.Single s i masked op where
  sectors : s.poison = []
  registers : ∀ k, (s.h.getV k).bad = []
  masks : ∀ k, (s.h.getM k).bad = []
  blocks : ∀ b : Fin 8, s.h.blkBad[b] = []

/-- No error of a stream that the member names waits to be reported (R271, R319). -/
def State.Clean (s : State) (st : Fin 16) : Prop := s.h.stm[st].unreported = false

/-- The positions of the tile end here: the convoy processes those from VSTART up (R84, R228). -/
def State.tileEnd (s : State) : Nat := max s.h.vs.vstart (s.h.vs.rows * s.h.vs.vl)

/-- Position `e` of row `j` is processed: at or above VSTART, and unmasked or with m0[e] = 1 (R74, R228). -/
def State.on (s : State) (masked : Bool) (j e : Nat) : Bool :=
  decide (s.h.vs.vstart ≤ j * s.h.vs.vl + e) && (!masked || (s.h.getM 0).bit e)

/-- The state in which a load or store stream of the current hart holds the translations of the pages before it (R94, R458). -/
def State.reaching (s : State) (st : Fin 16) : State :=
  if s.h.stm[st].mode ≤ 1 then s.setHart s.cur (s.h.setSt st (s.holdAhead s.cur s.h.stm[st])) else s

/-- No address of the walk of a load or store stream lacks its translation, so that its engine asks for none ahead (R458). -/
def State.Walks (s : State) (st : Fin 16) : Prop :=
  s.h.stm[st].mode ≤ 1 → ∀ n < s.h.stm[st].count, ∀ va acc,
    s.translate s.cur (s.h.stm[st].elemAddr n).1 (if s.h.stm[st].mode = 0 then .read else .write) ≠ .miss va acc

/-- A stream gives the values `y` to positions 0 to VL - 1 of a row, none of them late or failing (R229, R257): no error of it waits to
be reported, the trim takes nothing away, its walk is translated, and heat recording is off (R460). -/
structure State.Feeds (s : State) (st : Fin 16) (y : Nat → Nat) : Prop where
  clean : s.Clean st
  walks : s.Walks st
  untrimmed : s.h.vs.vstart < s.h.vs.vl → s.h.trim [st] (s.h.vs.vl - s.h.vs.vstart) = some (s.h.vs.vl - s.h.vs.vstart)
  heat : (s.die s.cur.die).heat.getLsbD 0 = false
  values : ∀ e < s.h.vs.vl, ∀ q ∈ [s, s.reaching st], q.takeElem (s.h.ctx s.tileEnd) st e = .ok (y e)

/-- op3 has the value `y j e` at position `e` of row `j`, at width `w` (R226, R229). -/
def State.Gives (s : State) (b : Src) (w : Nat) (zeroExtends : Bool) (y : Nat → Nat → Nat) : Prop :=
  match b with
  | .v r => ∀ j e, y j e = s.h.elem (r.val + j) w e
  | .x r => ∀ j e, y j e = (s.getX r).toNat % 2 ^ w
  | .imm i => ∀ j e, y j e = (if zeroExtends then i.toNat else (i.signExtend 64).toNat) % 2 ^ w
  | .st st => s.Feeds st (y 0) ∧ ∀ j e, y j e = y 0 e

/-- The hart with the stream among its operands advanced over the positions of row 0 that the convoy processed (R258, R260), and
holding its translations (R94). -/
def State.fed (s : State) (b : Src) : Hart :=
  match b with
  | .st st =>
    let h := (s.reaching st).h
    if s.h.vs.vl ≤ s.h.vs.vstart then h
    else h.consume st (min s.tileEnd s.h.vs.vl - s.h.vs.vstart) (decide (s.h.vs.vl ≤ s.tileEnd))
  | _ => s.h

/-- Two registers hold the same image (R79, R80): width, extent and every element. -/
def VReg.sameImage (r q : VReg) : Prop := q.ew = r.ew ∧ q.extent = r.extent ∧ ∀ i, q.own i = r.own i

/-- A convoy of the one member `i` has drained (R167, R335). The current hart is `h` but for its registers and masks, FFLAGS and VSAT
(stated apart), the PC past the word, INSTRET, VSTART 0 where the member uses it (R74), the count of convoys started (R89), what was kept
for a restart here (log 97), and the answers of translation it used up (R457). -/
def State.Drained (s t : State) (h : Hart) (i : Instr) (usesVstart : Bool) : Prop :=
  t.h = { h with
    v := t.h.v, m := t.h.m,
    vs := { s.h.vs with vstart := if usesVstart then 0 else s.h.vs.vstart, convoys := s.h.vs.convoys + 1, flags := t.h.vs.flags,
                        sat := t.h.vs.sat },
    pc := s.h.pc + BitVec.ofNat 56 i.size, instret := s.counted, kept := s.h.kept.filter fun k => k.pc != s.h.pc, xwait := none,
    xnone := none }

/-- Nothing of the module but the current hart changes. -/
def State.onlyHart (s t : State) : Prop := t = s.setHart s.cur t.h

/-- Nothing of the module but the current hart and who waits at the scratchpad banks (R32) changes. -/
def State.onlyHartAndBanks (s t : State) : Prop := t = { s.setHart s.cur t.h with scratch := t.scratch }

/-- Every register outside `d` to `d + n - 1` keeps its image, and every mask outside `m` to `m + k - 1` its bits. -/
def State.KeepsRegisters (s t : State) (d n m k : Nat) : Prop :=
  (∀ r < 64, (r < d ∨ d + n ≤ r) → (s.h.getV r).sameImage (t.h.getV r))
    ∧ (∀ r < 8, (r < m ∨ m + k ≤ r) → t.h.getM r = s.h.getM r)

/-- FFLAGS and VSAT accrue over the processed positions of the tile: `fl` and `clipped` say what each raises (R103, R107, R231). -/
def State.Accrues (s t : State) (on : Nat → Nat → Bool) (fl : Nat → Nat → Flags) (clipped : Nat → Nat → Bool) : Prop :=
  (∀ b < 5, t.h.vs.flags.getLsbD b = true ↔
      s.h.vs.flags.getLsbD b = true ∨ ∃ j < s.h.vs.rows, ∃ e < s.h.vs.vl, on j e = true ∧ (fl j e).getLsbD b = true)
    ∧ (t.h.vs.sat = true ↔
      s.h.vs.sat = true ∨ ∃ j < s.h.vs.rows, ∃ e < s.h.vs.vl, on j e = true ∧ clipped j e = true)

/-- Element `n` of the walk of a stream begins at bit `b` of location `loc` of this module's memory, which the hart may access and the
device neither reads nor guards. -/
def State.elemAt (s : State) (t : Stream) (n : Nat) (acc : Acc) (loc : Nat) : Prop :=
  ∃ ty, ty ≠ .pool ∧ 0xB8000 ≤ loc
    ∧ s.pieces s.cur (t.elemAddr n).1 (max 1 (t.width / 8)) acc = .ok [(.mem loc ty, max 1 (t.width / 8))]
/-- Position `e` of row `j` of an indexed member accesses location `loc` of this module's memory, aligned, where the device neither
reads nor guards: `va` is its address and `n` its bytes (R264, R266). -/
def State.indexedAt (s : State) (va n : Nat) (acc : Acc) (loc : Nat) : Prop :=
  va % n = 0 ∧ 0xB8000 ≤ loc ∧ ∃ ty, ty ≠ .pool ∧ s.translate s.cur va acc = .ok (.mem loc ty)
/-- The processed positions of the tile, as tile positions in ascending order. -/
def State.positions (s : State) (masked : Bool) : List Nat :=
  (List.range (s.h.vs.rows * s.h.vs.vl)).filter fun p => s.on masked (p / s.h.vs.vl) (p % s.h.vs.vl)

/-- The Crucible is free for the current hart's convoy: no other hart's convoy holds it, and no slot that waits is served first (R55). -/
def State.crucibleFree (s : State) : Prop :=
  s.crucibleTaken = false ∧ ∀ c ∈ s.crucibleCores, (s.crucibleQueue c).head? = some s.cur.slot.val

/-- The Crucibles that the current hart uses have served its slot; no other core changes (R55, R498). -/
def State.servedCrucible (s t : State) : Prop :=
  ∀ c, t.core c = if c ∈ s.crucibleCores then { s.core c with crucLast := s.cur.slot.val } else s.core c

/-- Nothing of the module but the current hart and the grant of its Crucible changes (R55). -/
def State.onlyHartAndGrant (s t : State) : Prop := t = { s.setHart s.cur t.h with cores := t.cores } ∧ s.servedCrucible t

end Sys2Proof.Machine
end

