-- ==== Sys2Proof/Certificates/Slice0/Obligations.lean ====
section
/-! DEFINITION. The statements of this model, with the tables they are written with. -/

namespace Sys2Proof.Claims

open Sys2Proof.Machine

/-- Quotient and remainder at `w` bits with the corner cases of R183. -/
def quotS {w : Nat} (a b : BitVec w) : BitVec w :=
  if b.toNat = 0 then BitVec.allOnes w else if b.toInt = -1 then BitVec.ofInt w (-a.toInt) else BitVec.ofInt w (a.toInt.tdiv b.toInt)
@[inherit_doc quotS] def quotU {w : Nat} (a b : BitVec w) : BitVec w :=
  if b.toNat = 0 then BitVec.allOnes w else BitVec.ofNat w (a.toNat / b.toNat)
@[inherit_doc quotS] def remnS {w : Nat} (a b : BitVec w) : BitVec w :=
  if b.toNat = 0 then a else BitVec.ofInt w (a.toInt - b.toInt * a.toInt.tdiv b.toInt)
@[inherit_doc quotS] def remnU {w : Nat} (a b : BitVec w) : BitVec w :=
  if b.toNat = 0 then a else BitVec.ofNat w (a.toNat - b.toNat * (a.toNat / b.toNat))

/-- The binary operations of major OP with the values of R182. -/
def binaryOps : List ((Fin 32 → Fin 32 → Fin 32 → Instr) × (Word → Word → Word)) :=
  [(.add, fun a b => BitVec.ofNat 64 (a.toNat + b.toNat)),
   (.sub, fun a b => BitVec.ofInt 64 (a.toInt - b.toInt)),
   (.sll, fun a b => BitVec.ofNat 64 (a.toNat * 2 ^ (b.toNat % 64))),
   (.slt, fun a b => if a.toInt < b.toInt then 1 else 0),
   (.sltu, fun a b => if a.toNat < b.toNat then 1 else 0),
   (.xor, fun a b => BitVec.ofNat 64 (a.toNat ^^^ b.toNat)),
   (.srl, fun a b => BitVec.ofNat 64 (a.toNat / 2 ^ (b.toNat % 64))),
   (.sra, fun a b => BitVec.ofInt 64 (a.toInt / 2 ^ (b.toNat % 64))),
   (.or, fun a b => BitVec.ofNat 64 (a.toNat ||| b.toNat)),
   (.and, fun a b => BitVec.ofNat 64 (a.toNat &&& b.toNat)),
   (.mul, fun a b => BitVec.ofNat 64 (a.toNat * b.toNat)),
   (.mulh, fun a b => (a.signExtend 128 * b.signExtend 128).extractLsb' 64 64),
   (.mulhsu, fun a b => (a.signExtend 128 * b.setWidth 128).extractLsb' 64 64),
   (.mulhu, fun a b => (a.setWidth 128 * b.setWidth 128).extractLsb' 64 64),
   (.div, quotS), (.divu, quotU), (.rem, remnS), (.remu, remnU),
   (.min, fun a b => if b.toInt < a.toInt then b else a),
   (.max, fun a b => if a.toInt < b.toInt then b else a),
   (.minu, fun a b => if b.toNat < a.toNat then b else a),
   (.maxu, fun a b => if a.toNat < b.toNat then b else a),
   (.andn, fun a b => BitVec.ofNat 64 (a.toNat &&& (2 ^ 64 - 1 - b.toNat))),
   (.orn, fun a b => BitVec.ofNat 64 (a.toNat ||| (2 ^ 64 - 1 - b.toNat))),
   (.rol, fun a b => (a <<< (b.toNat % 64)) ||| (a >>> (64 - b.toNat % 64))),
   (.ror, fun a b => (a >>> (b.toNat % 64)) ||| (a <<< (64 - b.toNat % 64))),
   (.sh1add, fun a b => BitVec.ofNat 64 (2 * a.toNat + b.toNat)),
   (.sh2add, fun a b => BitVec.ofNat 64 (4 * a.toNat + b.toNat)),
   (.sh3add, fun a b => BitVec.ofNat 64 (8 * a.toNat + b.toNat))]
/-- The counting operations of major OP (R182): bits counted from bit 63 down, from bit 0 up, and all of them. -/
def countOps : List ((Fin 32 → Fin 32 → Instr) × (Word → Nat)) :=
  [(.clz, fun a => ((List.range 64).takeWhile fun k => !a.getLsbD (63 - k)).length),
   (.ctz, fun a => ((List.range 64).takeWhile fun k => !a.getLsbD k).length),
   (.cpop, fun a => ((List.range 64).filter fun k => a.getLsbD k).length)]

/-- The operations of major OPI with an 11-bit immediate, whose value is sext(imm11) (R155, R184). -/
def immediateOps : List ((Fin 32 → Fin 32 → BitVec 11 → Instr) × (Word → BitVec 11 → Word)) :=
  [(.addi, fun a i => BitVec.ofInt 64 (a.toInt + i.toInt)),
   (.slti, fun a i => if a.toInt < i.toInt then 1 else 0),
   (.sltiu, fun a i => if a.toNat < (BitVec.ofInt 64 i.toInt).toNat then 1 else 0),
   (.xori, fun a i => BitVec.ofNat 64 (a.toNat ^^^ (BitVec.ofInt 64 i.toInt).toNat)),
   (.ori, fun a i => BitVec.ofNat 64 (a.toNat ||| (BitVec.ofInt 64 i.toInt).toNat)),
   (.andi, fun a i => BitVec.ofNat 64 (a.toNat &&& (BitVec.ofInt 64 i.toInt).toNat))]

/-- The shifts of major OPI, whose amount is imm11[5:0] (R184). -/
def shiftOps : List ((Fin 32 → Fin 32 → BitVec 6 → Instr) × (Word → Nat → Word)) :=
  [(.slli, fun a n => BitVec.ofNat 64 (a.toNat * 2 ^ n)),
   (.srli, fun a n => BitVec.ofNat 64 (a.toNat / 2 ^ n)),
   (.srai, fun a n => BitVec.ofInt 64 (a.toInt / 2 ^ n))]

/-- The operations of major OPW (R185). -/
def wordOps : List ((Fin 32 → Fin 32 → Fin 32 → Instr) × (BitVec 32 → BitVec 32 → BitVec 32)) :=
  [(.addw, fun a b => BitVec.ofNat 32 (a.toNat + b.toNat)),
   (.subw, fun a b => BitVec.ofInt 32 (a.toInt - b.toInt)),
   (.sllw, fun a b => BitVec.ofNat 32 (a.toNat * 2 ^ (b.toNat % 32))),
   (.srlw, fun a b => BitVec.ofNat 32 (a.toNat / 2 ^ (b.toNat % 32))),
   (.sraw, fun a b => BitVec.ofInt 32 (a.toInt / 2 ^ (b.toNat % 32))),
   (.mulw, fun a b => BitVec.ofNat 32 (a.toNat * b.toNat)),
   (.divw, quotS), (.divuw, quotU), (.remw, remnS), (.remuw, remnU)]

/-- The shifts of major OPIW (R185). -/
def wordShifts : List ((Fin 32 → Fin 32 → BitVec 5 → Instr) × (BitVec 32 → Nat → BitVec 32)) :=
  [(.slliw, fun a n => BitVec.ofNat 32 (a.toNat * 2 ^ n)),
   (.srliw, fun a n => BitVec.ofNat 32 (a.toNat / 2 ^ n)),
   (.sraiw, fun a n => BitVec.ofInt 32 (a.toInt / 2 ^ n))]

/-- A target address: 56 bits, bit 0 cleared (R152, R194). -/
def target (w : Int) : BitVec 56 := BitVec.ofInt 56 (w / 2 * 2)
/-- The branches with their conditions (R195). -/
def branches : List ((Fin 32 → Fin 32 → BitVec 12 → Instr) × (Word → Word → Bool)) :=
  [(.beq, fun a b => decide (a.toNat = b.toNat)), (.bne, fun a b => decide (a.toNat ≠ b.toNat)),
   (.blt, fun a b => decide (a.toInt < b.toInt)), (.bge, fun a b => decide (b.toInt ≤ a.toInt)),
   (.bltu, fun a b => decide (a.toNat < b.toNat)), (.bgeu, fun a b => decide (b.toNat ≤ a.toNat)),
   (.bbs, fun a b => decide (a.toNat / 2 ^ (b.toNat % 64) % 2 = 1)),
   (.bbc, fun a b => decide (a.toNat / 2 ^ (b.toNat % 64) % 2 = 0))]

/-- The plain loads with their widths in bytes and whether they sign-extend (R187). -/
def loads : List ((Fin 32 → Fin 32 → BitVec 11 → Instr) × Nat × Bool) :=
  [(.lb, 1, true), (.lh, 2, true), (.lw, 4, true), (.ld, 8, false), (.lbu, 1, false), (.lhu, 2, false), (.lwu, 4, false)]
/-- The ordered loads (R190). -/
def orderedLoads : List ((Fin 32 → Fin 32 → BitVec 3 → BitVec 1 → Instr) × Nat × Bool) :=
  [(.lbOrd, 1, true), (.lhOrd, 2, true), (.lwOrd, 4, true), (.ldOrd, 8, false), (.lbuOrd, 1, false), (.lhuOrd, 2, false),
   (.lwuOrd, 4, false)]
/-- `n` bytes as a load extends them. -/
def extended (n : Nat) (signed : Bool) (bs : List Byte) : Word :=
  if signed then (BitVec.ofNat (8 * n) (leNat bs)).signExtend 64 else BitVec.ofNat 64 (leNat bs)
/-- The instruction writes `v` to xd, goes on by `size` bytes and, if it acquires, discards the strips fetched ahead; besides that only
LATCNT, what it is counted from (R33), the TLB of the core (R454) and who waits at scratchpad banks (R32) may change. -/
def loadsWord (i : Instr) (s : State) (size : Nat) (d : Fin 32) (v : Word) (acquires : Bool) : Prop :=
  ∃ t, exec i s = .next t ∧ s.onlyAccess t
    ∧ t.h = { (if acquires then s.h.discardAhead else s.h) with
        x := if d = 0 then s.h.x else s.h.x.set d v, pc := s.h.pc + BitVec.ofNat 56 size, instret := s.counted,
        latcnt := t.h.latcnt, reads := t.h.reads, faulted := t.h.faulted }

/-- The plain stores and the ordered stores with their widths in bytes (R187, R190). -/
def stores : List ((Fin 32 → Fin 32 → BitVec 11 → Instr) × Nat) := [(.sb, 1), (.sh, 2), (.sw, 4), (.sd, 8)]
@[inherit_doc stores] def orderedStores : List ((Fin 32 → Fin 32 → BitVec 3 → BitVec 1 → Instr) × Nat) :=
  [(.sbOrd, 1), (.shOrd, 2), (.swOrd, 4), (.sdOrd, 8)]
/-- The instruction stores the low `n` bytes of a word to the pieces `ps` and does nothing else. -/
def storesWord (i : Instr) (s : State) (size n : Nat) (v : Word) (ps : List (Target × Nat)) : Prop :=
  ∃ t, exec i s = .next t ∧ (∀ a, t.peek a = bytesAfter s.peek ps (leBytes n v.toNat) a) ∧ s.storedOnly t size

/-- The atomics of R191 with the new value from the old one and xb. -/
def atomics : List ((Fin 32 → Fin 32 → Fin 32 → BitVec 3 → BitVec 2 → Instr) × (Word → Word → Word)) :=
  [(.amoswap, fun _ x => x), (.amoadd, fun o x => o + x), (.amoand, fun o x => o &&& x), (.amoor, fun o x => o ||| x),
   (.amoxor, fun o x => o ^^^ x), (.amomin, fun o x => if x.toInt < o.toInt then x else o),
   (.amomax, fun o x => if o.toInt < x.toInt then x else o), (.amominu, fun o x => if x.toNat < o.toNat then x else o),
   (.amomaxu, fun o x => if o.toNat < x.toNat then x else o)]
/-- A barrier word after one arrival (R60): ARRIVED [31:0], EXPECTED [47:32], GENERATION [63:48]. -/
def arrived (o : Word) : Word :=
  let n := o.toNat % 2 ^ 32 + 1
  let expected := o.toNat / 2 ^ 32 % 2 ^ 16
  let g := o.toNat / 2 ^ 48
  if expected ≤ n then BitVec.ofNat 64 ((g + 1) % 2 ^ 16 * 2 ^ 48 + expected * 2 ^ 32) else BitVec.ofNat 64 (o.toNat + 1)
/-- The instruction replaces the doubleword at `loc` and writes `v` to xd. -/
def exchanges (i : Instr) (s : State) (loc : Nat) (new : Word) (d : Fin 32) (v : Word) (acquires : Bool) : Prop :=
  ∃ t, exec i s = .next t
    ∧ (∀ a, t.peek a = if loc ≤ a ∧ a < loc + 8 then (leBytes 8 new.toNat).getD (a - loc) 0 else s.peek a)
    ∧ s.exchangedOnly t d v acquires

/-- The FX128 adds with the input each converts (R112, R192). -/
def fxAtomics : List ((Fin 32 → Fin 32 → Fin 32 → BitVec 3 → BitVec 2 → Instr) × (Word → Nat)) :=
  [(.amofxL, fun x => fxOfInt x.toInt), (.amofxD, fun x => fxOfFloat (Fmt.f64.value x.toNat)),
   (.amofxS, fun x => fxOfFloat (Fmt.f32.value (x.toNat % 2 ^ 32)))]
/-- The cell of an integer in units of 2^-64: POS above Cmax, NEG below Cmin, else its two's complement (R111, R112). -/
def cellOf (c : Int) : Nat := if 2 ^ 127 - 2 < c then 2 ^ 127 - 1 else if c < -2 ^ 127 + 2 then 2 ^ 127 else (c % 2 ^ 128).toNat
/-- The class of a cell: 0 finite, 1 POS, 2 NEG, 3 NANC (R111, R192). -/
def cellClass (c : Nat) : Nat := if c = 2 ^ 127 - 1 then 1 else if c = 2 ^ 127 then 2 else if c = 2 ^ 127 + 1 then 3 else 0

/-- The state in which a load that has not got its value has kept the cycle of its first issue; of one that traps, where it traps PAGE
(R33, R454). -/
def issueNoted (s : State) : State :=
  if s.h.faulted.map (·.1) ≠ some s.h.pc then s.setHart s.cur { s.h with faulted := some (s.h.pc, s.cycle) } else s
@[inherit_doc issueNoted] def faultNoted (s : State) (e : Exc) : State := if e.cause = .page then issueNoted s else s

/-- A format by its FMT code (R196), and a mode by its code; code 7 is FRM.RM (R101, R196). -/
def fmtOf (c : BitVec 2) : Fmt := if c = 0 then .f64 else if c = 1 then .f32 else if c = 2 then .f16 else .bf16
@[inherit_doc fmtOf] def modeOf (s : State) (rm : BitVec 3) : Rnd :=
  let c := if rm = 7 then s.h.vs.frm else rm
  if c = 1 then .rtz else if c = 2 then .rdn else if c = 3 then .rup else if c = 4 then .rmm else .rne
/-- The two-operand operations that round (R197). -/
def roundingOps : List ((Fin 32 → Fin 32 → Fin 32 → BitVec 2 → BitVec 3 → Instr) × (Fmt → Rnd → FVal → FVal → Nat × Flags)) :=
  [(.fadd, fun g r x y => g.sum r x y), (.fsub, fun g r x y => g.sum r x y.neg), (.fmul, fun g r x y => g.product r x y),
   (.fdiv, fun g r x y => g.quotient r x y)]
/-- Minimum, maximum and the comparisons (R197). -/
def exactOps : List ((Fin 32 → Fin 32 → Fin 32 → BitVec 2 → Instr) × (Fmt → Nat → Nat → Nat × Flags)) :=
  [(.fmin, fun g a b => g.minimum a b), (.fmax, fun g a b => g.maximum a b),
   (.feq, fun g a b => (if (g.value a).eq (g.value b) then 1 else 0, if (g.value a).signals || (g.value b).signals then 16 else 0)),
   (.flt, fun g a b => (if (g.value a).lt (g.value b) then 1 else 0, if (g.value a).isNaN || (g.value b).isNaN then 16 else 0)),
   (.fle, fun g a b => (if (g.value a).lt (g.value b) || (g.value a).eq (g.value b) then 1 else 0,
     if (g.value a).isNaN || (g.value b).isNaN then 16 else 0))]
/-- The fused forms (R198). -/
def fusedOps : List ((Fin 32 → Fin 32 → Fin 32 → Fin 32 → BitVec 2 → Instr) × (Fmt → Rnd → FVal → FVal → FVal → Nat × Flags)) :=
  [(.fmadd, fun g r x y z => g.fused r x y z), (.fmsub, fun g r x y z => g.fused r x y z.neg),
   (.fnmsub, fun g r x y z => g.fused r x.neg y z), (.fnmadd, fun g r x y z => g.fused r x.neg y z.neg)]
/-- The integer types (R197): whether signed, and the width. -/
def itSigned (ty : BitVec 5) : Bool := ty = 0 || ty = 2
@[inherit_doc itSigned] def itBits (ty : BitVec 5) : Nat := if ty = 0 ∨ ty = 1 then 64 else 32

/-- The real number (-1)^s m 2^e (R97). -/
noncomputable def realOf (s : Bool) (m : Nat) (e : Int) : ℝ := (if s then -1 else 1) * m * 2 ^ e
/-- The pattern stands for the finite number `w` (R97, R98). -/
def Stands (g : Fmt) (p : Nat) (w : ℝ) : Prop := p < 2 ^ g.width ∧ ∃ s m e, g.value p = .fin s m e ∧ w = realOf s m e
/-- A magnitude `v` between the adjacent ones `lo` and `hi`, of a number with the sign `s`, rounds to `hi`; `even` says that the pattern
of `hi` ends in 0 (R101). -/
def GoesUp (r : Rnd) (s : Bool) (lo hi : ℝ) (even : Prop) (v : ℝ) : Prop :=
  match r with
  | .rne => (lo + hi) / 2 < v ∨ v = (lo + hi) / 2 ∧ even
  | .rmm => (lo + hi) / 2 ≤ v
  | .rtz => hi ≤ v
  | .rdn => if s then lo < v else hi ≤ v
  | .rup => if s then hi ≤ v else lo < v
/-- The mode picks `w`, whose pattern or integer is even or not, among the numbers `N` for `v` (R101). -/
def Picks (r : Rnd) (N : ℝ → Prop) (v w : ℝ) (even : Prop) : Prop :=
  N w ∧ match r with
  | .rtz => |w| ≤ |v| ∧ 0 ≤ v * w ∧ ∀ x, N x → 0 ≤ v * x → |x| ≤ |v| → |x| ≤ |w|
  | .rdn => w ≤ v ∧ ∀ x, N x → x ≤ v → x ≤ w
  | .rup => v ≤ w ∧ ∀ x, N x → v ≤ x → w ≤ x
  | .rne => ∀ x, N x → |v - w| ≤ |v - x| ∧ (x ≠ w → |v - w| = |v - x| → even)
  | .rmm => ∀ x, N x → |v - w| ≤ |v - x| ∧ (|v - w| = |v - x| → |x| ≤ |w|)
/-- The rounding of the number `v`, with the sign `s`, to a format: the pattern and its flags, OF and NX as 5, NX as 1, UF and NX as 3
(R99, R101, R103, R104). -/
def Rounds (g : Fmt) (r : Rnd) (s : Bool) (v : ℝ) (q : Nat × Flags) : Prop :=
  ∀ top below, Stands g g.maxFinite top → Stands g (g.maxFinite - 1) below →
    let overflows := GoesUp r s top (2 * top - below) (g.maxFinite % 2 = 1) |v|
    let normal : ℝ := 2 ^ (1 - (g.bias : Int))
    (overflows → q.2 = 5 ∧ q.1 = (if s then 2 ^ (g.width - 1) else 0)
        + if g.saturates = true ∨ r = .rtz ∨ r = (if s then .rup else .rdn) then g.maxFinite else g.maxFinite + 1)
    ∧ (¬overflows → ∃ w, Stands g q.1 w ∧ g.signOf q.1 = s ∧ Picks r (fun x => ∃ p, Stands g p x) v w (q.1 % 2 = 0)
        ∧ (w = v → q.2 = 0)
        ∧ (w ≠ v → (GoesUp r s (normal - normal / 2 ^ (g.fracBits + 1)) normal True |v| → q.2 = 1)
            ∧ (¬GoesUp r s (normal - normal / 2 ^ (g.fracBits + 1)) normal True |v| → q.2 = 3)))
/-- The formats with their exponent and fraction bits, bias, largest finite pattern and canonical NaN (R97). -/
def formats : List (Fmt × Nat × Nat × Nat × Nat × Nat) :=
  [(.f64, 11, 52, 1023, 0x7FEFFFFFFFFFFFFF, 0x7FF8000000000000), (.f32, 8, 23, 127, 0x7F7FFFFF, 0x7FC00000),
   (.f16, 5, 10, 15, 0x7BFF, 0x7E00), (.bf16, 8, 7, 127, 0x7F7F, 0x7FC0), (.e4m3, 4, 3, 7, 0x7E, 0x7F), (.e5m2, 5, 2, 15, 0x7B, 0x7E),
   (.e2m1, 2, 1, 1, 7, 0)]
/-- The class or the number of the pattern with sign bit `S`, exponent field `E` and fraction `F` (R97, R98). -/
def meaning (g : Fmt) (eb fb bias : Nat) (S : Bool) (E F : Nat) : FVal :=
  if E = 2 ^ eb - 1 ∧ g ≠ .e2m1 ∧ (g = .e4m3 → F = 7) then
    (if F = 0 then .inf S else .nan (g ≠ .e5m2 && g ≠ .e4m3 && decide (F < 2 ^ (fb - 1))))
  else if E = 0 then .fin S F (1 - (bias : Int) - fb) else .fin S (2 ^ fb + F) ((E : Int) - bias - fb)
/-- A signed zero of a format, and the canonical NaN with NV where something signals or is invalid (R97, R100). -/
def zeroOf (g : Fmt) (s : Bool) : Nat × Flags := (if s then 2 ^ (g.width - 1) else 0, 0)
@[inherit_doc zeroOf] def nanOf (g : Fmt) (invalid : Bool) : Nat × Flags := (g.canonicalNaN, if invalid then 16 else 0)
/-- The formats with infinities in which scalar instructions compute (R196). -/
def ieee : List Fmt := [.f64, .f32, .f16, .bf16]

/-- The hart goes on after mwait with a reason (R58). -/
def returned (s : State) (d : Fin 32) (reason : Word) (discards : Bool) : State :=
  s.setHart s.cur { (if discards then s.h.discardAhead else s.h) with
    st := .running, wait := none, mon := none, x := if d = 0 then s.h.x else s.h.x.set d reason, pc := s.h.pc + 4,
    instret := s.counted }

/-- The cause codes of R327, and the access codes of R328. -/
def causeCode : Cause → Nat
  | .illegal => 1 | .convoy => 2 | .typepair => 3 | .page => 4 | .access => 5 | .align => 6 | .dataerr => 7 | .integrity => 8
  | .channel => 9 | .arith => 10 | .brk => 11 | .call => 12 | .lanedeadline => 13 | .mcheck => 14
@[inherit_doc causeCode] def accessCode (e : Exc) : Nat :=
  if e.cause = .page ∨ e.cause = .access ∨ e.cause = .align ∨ e.cause = .dataerr then
    (match e.acc with | .read => 0 | .write => 1 | .fetch => 2 | .rmw => 3) else 0
/-- The trap registers of one level as R331 writes them. -/
def trapped (t : TrapRegs) (e : Exc) (tpc : BitVec 56) (conv : Bool) (member : Nat) : TrapRegs :=
  { cause := BitVec.ofNat 10 (causeCode e.cause + 2 ^ 8 * accessCode e), tval := e.tval, pc := tpc, en := t.en, base := t.base,
    conv := conv, member := if conv then BitVec.ofNat 3 member else 0 }
/-- A cause that the user handler takes (R332). -/
def userCause (c : Cause) : Prop := c ≠ .page ∧ c ≠ .integrity ∧ c ≠ .mcheck
/-- The state in which a trap has been taken at the user handler of hart state `h`. -/
def atHandler (s : State) (h : Hart) (e : Exc) (tpc : BitVec 56) (conv : Bool) (member : Nat) : State :=
  s.setHart s.cur { h with
    trap := trapped h.trap e tpc conv member, inh := true, pc := BitVec.ofNat 56 (4 * h.trap.base.toNat),
    phase := .open, convoy := [], ahead := none, waited := Waited.reset, xwait := none, xnone := none, fence := none }

/-- A hart at the firmware handler (R447). -/
def atFirmware (h : Hart) (e : Exc) (tpc : BitVec 56) (conv : Bool) (member : Nat) : Hart :=
  { h with fw := trapped h.fw e tpc conv member, ppriv := h.priv, priv := true, inf := true,
           pc := BitVec.ofNat 56 (4 * h.fw.base.toNat), phase := .open, convoy := [], ahead := none, waited := Waited.reset, xwait := none, xnone := none,
           fence := none }
/-- The fault that a launch records of the current hart (R332). -/
def faultOf (s : State) (e : Exc) (tpc : BitVec 56) : Exc × Nat × Nat × Nat :=
  (e, s.h.id.index.toNat, s.h.id.gangId.toNat % 2 ^ 32, tpc.toNat)

/-- Hart `i` has a partition on core `c`: its own core, or the odd core of a pair whose even core is its own (R24, R498). -/
def partOn (v : State) (c : CoreId) (i : HartId) : Prop :=
  i.die = c.die ∧ (v.hart i).st ≠ .empty ∧ (v.hart i).vs.qcount ≠ 0
    ∧ (i.core = c.core ∨ c.core.val % 2 = 1 ∧ i.core.val + 1 = c.core.val ∧ (v.hart i).id.paired = true)
/-- Quartet `k` of core `c` is usable, in the cache role and not reserved (R24, R29, R474). -/
def cacheQuartet (v : State) (c : CoreId) (k : Nat) : Prop :=
  k < 8 ∧ (v.core c).usable.getLsbD k = true ∧ (∀ r ∈ (v.core c).reserved, r.1.getLsbD k = false)
    ∧ ∀ i, partOn v c i → k < (v.hart i).vs.qfirst ∨ (v.hart i).vs.qfirst + (v.hart i).vs.qcount ≤ k
/-- Core `c` holds fewer than four partitions, and `q` of its quartets from `b` up are an aligned block that a new partition may take
(R25, R44). -/
def blockFree (v : State) (c : CoreId) (q b : Nat) : Prop :=
  (∀ l : List HartId, l.Nodup → (∀ i ∈ l, partOn v c i) → l.length < 4) ∧ b % q = 0 ∧ b + q ≤ 8
    ∧ ∀ k, b ≤ k → k < b + q → cacheQuartet v c k
/-- LANECAP of core `c` (R29): HEARTH and PARTS from the partitions on it, MAXFREE the largest aligned block of quartets in the cache role. -/
def isLanecap (s : State) (c : CoreId) (w : Word) : Prop :=
  ∃ hearth parts free, w = BitVec.ofNat 64 ((s.core c).usable.toNat + hearth * 2 ^ 8 + parts * 2 ^ 16 + free * 2 ^ 20
      + 8192 * ((List.range 8).filter fun k => (s.core c).usable.getLsbD k).length * 2 ^ 24)
    ∧ hearth < 256 ∧ (∀ k < 8, hearth.testBit k = true ↔
        ∃ i, partOn s c i ∧ (s.hart i).vs.qfirst ≤ k ∧ k < (s.hart i).vs.qfirst + (s.hart i).vs.qcount)
    ∧ (∃ l : List HartId, l.Nodup ∧ (∀ i, i ∈ l ↔ partOn s c i) ∧ l.length = parts)
    ∧ free ∈ [0, 1, 2, 4, 8] ∧ (free ≠ 0 → ∃ b, blockFree s c free b) ∧ ∀ q ∈ [1, 2, 4, 8], (∃ b, blockFree s c q b) → q ≤ free
/-- A flag as one bit. -/
def bit1 (b : Bool) : BitVec 1 := if b then 1 else 0
/-- BCFG.NZ: bit `b` where some element of block `b`, or of the pair it belongs to, is not zero (R286). -/
def nonZeroBlocks (h : Hart) : Nat :=
  ((List.range 8).map fun b => if (h.blk.getD (if h.pair.getLsbD (b / 2) then b / 2 * 2 else b) []) = [] then 0 else 2 ^ b).sum
/-- The status registers that any hart may read, with their words (R207). -/
def userStatus : List (BitVec 12 × (State → Word)) :=
  [(0x000, fun s => (0 : BitVec 16) ++ s.h.id.gen ++ s.h.id.moves ++ s.h.id.index ++ (0 : BitVec 2) ++ BitVec.ofNat 3 s.cur.die.val
      ++ BitVec.ofNat 8 s.cur.core.val ++ BitVec.ofNat 3 s.cur.slot.val),
   (0x001, fun s => s.h.id.gangId), (0x002, fun s => (0 : BitVec 13) ++ s.h.id.gangSize),
   (0x003, fun s => (0 : BitVec 54) ++ s.h.id.prioMax ++ (0 : BitVec 6) ++ s.h.id.prioCur),
   (0x010, fun s => BitVec.ofNat 64 s.h.vs.vl),
   (0x011, fun s => bit1 s.h.vs.cfg.ill ++ (0 : BitVec 41) ++ (1 : BitVec 1) ++ s.h.vs.cfg.vxrm ++ s.h.vs.cfg.frm ++ s.h.vs.cfg.fmt
      ++ (0 : BitVec 3) ++ s.h.vs.cfg.sew ++ s.h.vs.cfg.nslot),
   (0x012, fun s => BitVec.ofNat 64 s.h.vs.rows), (0x013, fun s => BitVec.ofNat 64 s.h.vs.vstart),
   (0x014, fun s => (0 : BitVec 63) ++ bit1 s.h.vs.sat), (0x015, fun s => BitVec.ofNat 64 s.h.vlmax),
   (0x018, fun s => (0 : BitVec 51) ++ s.h.vs.en ++ (0 : BitVec 3) ++ s.h.vs.flags), (0x019, fun s => (0 : BitVec 61) ++ s.h.vs.frm),
   (0x008, fun s => BitVec.ofNat 64 (8192 * s.h.vs.qcount + s.h.vs.qcount * 2 ^ 20 + s.h.vs.qfirst * 2 ^ 24 + s.h.vs.rq * 2 ^ 28)),
   (0x020, fun _ => 32), (0x021, fun s => BitVec.ofNat 64 (s.h.pair.toNat + nonZeroBlocks s.h * 2 ^ 8)), (0x028, fun s => (0 : BitVec 8) ++ (s.die s.cur.die).capbase),
   (0x030, fun s => BitVec.ofNat 64 s.cycle), (0x031, fun s => s.h.instret), (0x032, fun s => s.h.latcnt),
   (0x040, fun s => (0 : BitVec 54) ++ s.h.trap.cause), (0x041, fun s => s.h.trap.tval), (0x042, fun s => (0 : BitVec 8) ++ s.h.trap.pc),
   (0x043, fun s => (0 : BitVec 8) ++ s.h.trap.base ++ (0 : BitVec 1) ++ bit1 s.h.trap.en),
   (0x044, fun s => (0 : BitVec 55) ++ bit1 s.h.rwarn ++ (0 : BitVec 1) ++ s.h.trap.member ++ bit1 s.h.trap.conv ++ (0 : BitVec 2)
      ++ bit1 s.h.inh)]
/-- Those that only FIRMWARE may read (R445, R448, R469), and those of the Lamplighter's slot (R456, R457). -/
def firmwareStatus : List (BitVec 12 × (State → Word)) :=
  [(0x800, fun s => (0 : BitVec 54) ++ s.h.fw.cause), (0x801, fun s => s.h.fw.tval), (0x802, fun s => (0 : BitVec 8) ++ s.h.fw.pc),
   (0x803, fun s => (0 : BitVec 8) ++ s.h.fw.base ++ (1 : BitVec 2)),
   (0x804, fun s => (0 : BitVec 57) ++ s.h.fw.member ++ bit1 s.h.fw.conv ++ bit1 s.h.priv ++ bit1 s.h.ppriv ++ bit1 s.h.inf),
   (0x808, fun s => s.h.space), (0x809, fun s => s.h.spawnCtx), (0x815, fun s => (s.die s.cur.die).tlbinv),
   (0x818, fun s => (s.die s.cur.die).heat), (0x820, fun s => (s.die s.cur.die).reclaim),
   (0x828, fun s => (2000 : BitVec 16) ++ s.ecap ++ (540 : BitVec 16) ++ (s.die s.cur.die).pcap)]
@[inherit_doc firmwareStatus] def lamplighterStatus : List (BitVec 12 × (State → Word)) :=
  [(0x811, fun s => (s.core (coreOf s.cur)).mboxsp), (0x812, fun s => (s.core (coreOf s.cur)).tlbw0),
   (0x813, fun s => (s.core (coreOf s.cur)).tlbw1), (0x814, fun s => (s.core (coreOf s.cur)).tlbwc)]

/-- What a writable register reads after a write of `w` over the old word `o` (R11 and the field tables). -/
def userWritable : List (BitVec 12 × (Word → Word → Word)) :=
  [(0x003, fun o w => (o &&& 0x300) ||| (if (o.toNat / 256 % 4) < w.toNat % 4 then (o >>> 8) &&& 3 else w &&& 3)),
   (0x013, fun _ w => w &&& 0xFFFFFFF), (0x014, fun o w => o &&& ~~~w), (0x018, fun o w => (o &&& ~~~w &&& 0x1F) ||| (w &&& 0x1F00)),
   (0x019, fun _ w => if w.toNat % 8 ≤ 4 then w &&& 7 else 0), (0x032, fun _ w => w), (0x040, fun _ w => w &&& 0x3FF),
   (0x041, fun _ w => w), (0x042, fun _ w => w &&& 0x00FFFFFFFFFFFFFE), (0x043, fun _ w => w &&& 0x00FFFFFFFFFFFFFD)]
@[inherit_doc userWritable] def firmwareWritable : List (BitVec 12 × (Word → Word → Word)) :=
  [(0x800, fun _ w => w &&& 0x3FF), (0x801, fun _ w => w), (0x802, fun _ w => w &&& 0x00FFFFFFFFFFFFFE),
   (0x803, fun _ w => (w &&& 0x00FFFFFFFFFFFFFC) ||| 1), (0x804, fun o w => (o &&& ~~~2) ||| (w &&& 2)),
   (0x808, fun _ w => w &&& 0xFFFFFFFFFFFFCFFF), (0x809, fun _ w => w &&& 0xFFFFFFFFFFFFCFFF)]
@[inherit_doc userWritable] def lamplighterWritable : List (BitVec 12 × (Word → Word → Word)) :=
  [(0x811, fun _ w => w &&& 0xFFFFFFFFFFFFCFFF), (0x812, fun _ w => w), (0x813, fun _ w => w)]
/-- TSTATUS (R330, R445): at USER only RWARN is written. -/
def tstatusAfter (priv : Bool) (o w : Word) : Word := if priv then w &&& 0x179 else (o &&& ~~~0x100) ||| (w &&& 0x100)
/-- The read-only registers (R207). -/
def readOnlyStatus : List (BitVec 12) := [0x000, 0x001, 0x002, 0x008, 0x009, 0x010, 0x011, 0x012, 0x015, 0x020, 0x028, 0x030, 0x031]
/-- mts writes one register: it then reads `v`, the others listed read as before, and the rest of the module stays. -/
def writesStatus (s : State) (a : Fin 32) (n : BitVec 12) (v : Word) : Prop :=
  ∃ t, exec (.mts a n) s = .next t ∧ t.status n.toNat = some v
    ∧ (∀ m ∈ (userWritable ++ firmwareWritable ++ lamplighterWritable).map (·.1) ++ [0x044], m ≠ n → t.status m.toNat = s.status m.toNat)
    ∧ t = { s with harts := t.harts, cores := t.cores }
    ∧ t.h = { s.h with
        pc := s.h.pc + 4, instret := s.counted, id := { s.h.id with prioCur := t.h.id.prioCur },
        vs := { s.h.vs with vstart := t.h.vs.vstart, sat := t.h.vs.sat, flags := t.h.vs.flags, en := t.h.vs.en, frm := t.h.vs.frm },
        latcnt := t.h.latcnt, trap := t.h.trap, inh := t.h.inh, rwarn := t.h.rwarn, fw := t.h.fw, ppriv := t.h.ppriv,
        space := t.h.space, spawnCtx := t.h.spawnCtx }

/-- The assigned status numbers (R207, R445). -/
def assigned : List Nat :=
  [0x000, 0x001, 0x002, 0x003, 0x008, 0x009, 0x010, 0x011, 0x012, 0x013, 0x014, 0x015, 0x018, 0x019, 0x020, 0x021, 0x028, 0x030, 0x031,
   0x032, 0x040, 0x041, 0x042, 0x043, 0x044, 0x800, 0x801, 0x802, 0x803, 0x804, 0x808, 0x809, 0x810, 0x811, 0x812, 0x813, 0x814, 0x815,
   0x818, 0x820, 0x828]
/-- The instruction takes ILLEGAL with its encoding in TVAL and does nothing else. -/
def refusedAsIllegal (i : Instr) (s : State) : Prop :=
  exec i s = .next (s.takeTrap { cause := .illegal, acc := .read, tval := BitVec.ofNat 64 (encode i) } s.h.pc false 0)

/-- The doubleword at byte `off` of an image, and field `j` of `w` bits from byte `off` on (R96, R347). -/
def imageWord (a : List Byte) (off : Nat) : Nat := leNat ((a.drop off).take 8)
@[inherit_doc imageWord] def imageField (a : List Byte) (off w j : Nat) : Nat := leNat (a.drop off) / 2 ^ (w * j) % 2 ^ w
/-- Bytes of `n` fields of `w` bits, in whole doublewords. -/
def imageSpan (w n : Nat) : Nat := (n * w + 63) / 64 * 8
/-- Of register `r`: its tag word, EW, EXTENT, and the bytes its section has (R88, R347). -/
def tagWord (a : List Byte) (r : Nat) : Nat := imageWord a (4736 + 32 * r)
@[inherit_doc tagWord] def tagEw (a : List Byte) (r : Nat) : Nat := tagWord a r / 2 ^ 4 % 2 ^ 7
@[inherit_doc tagWord] def tagExtent (a : List Byte) (r : Nat) : Nat := tagWord a r / 2 ^ 12 % 2 ^ 25
@[inherit_doc tagWord] def tagBytes (a : List Byte) (r : Nat) : Nat := if 2 ≤ tagWord a r % 4 then imageSpan (tagEw a r) (tagExtent a r) else 0
/-- MEXT and ONES of mask `m` (R347). -/
def maskExt (a : List Byte) (m : Nat) : Nat := imageWord a (6784 + 8 * m) % 2 ^ 25
@[inherit_doc maskExt] def maskOnes (a : List Byte) (m : Nat) : Nat := imageWord a (6784 + 8 * m) / 2 ^ 32 % 2 ^ 25
/-- Block `b` is FP64 (BCFG.PAIR), and the bytes its section has (R286, R347). -/
def blockWide (a : List Byte) (b : Nat) : Bool := (imageWord a 464).testBit (b / 2)
@[inherit_doc blockWide] def blockBytes (a : List Byte) (b : Nat) : Nat :=
  if (imageWord a 464).testBit (8 + b) ∧ ¬(blockWide a b = true ∧ b % 2 = 1) then 1024 * (if blockWide a b then 8 else 4) else 0
/-- Where channel `c`, mask `m`, register `r` and block `b` begin (R347, R348). -/
def channelAt (a : List Byte) : Nat → Nat
  | 0 => 6848
  | c + 1 => let n := imageWord a (channelAt a c); channelAt a c + 8 + if n = 0 ∨ 512 < n then 0 else 64 + 8 * n
@[inherit_doc channelAt] def maskAt (a : List Byte) (m : Nat) : Nat :=
  imageWord a 48 + ((List.range m).map fun k => imageSpan 1 (maskExt a k)).sum
@[inherit_doc channelAt] def dataAt (a : List Byte) (r : Nat) : Nat := imageWord a 56 + ((List.range r).map (tagBytes a)).sum
@[inherit_doc channelAt] def blockAt (a : List Byte) (b : Nat) : Nat := imageWord a 64 + ((List.range b).map (blockBytes a)).sum
/-- VLMAX at a width in the partition and the NSLOT of an image (R70). -/
def imageVlmax (a : List Byte) (w : Nat) : Nat :=
  8192 * (imageWord a 24 / 2 ^ 32 % 2 ^ 4) * (1024 / (8 * 2 ^ (imageWord a 384 % 4)) / w)
/-- The spawn of `k` refuses the image (R350; the reserved fields and codes are those of log 84). -/
def BadImage (k : Descriptor) (a : List Byte) : Prop :=
  let f := imageWord a
  f 0 ≠ 0x48454154 + 2 ^ 32 ∨ f 8 ≠ a.length ∨ f 8 ≠ blockAt a 8 ∨ f 48 ≠ channelAt a 4 ∨ f 56 ≠ maskAt a 8 ∨ f 64 ≠ dataAt a 64
  ∨ f 40 ≠ leNat (Config.shake256 8 (a.take 40 ++ List.replicate 8 0 ++ a.drop 48)) % 2 ^ 64
  ∨ f 16 ≠ k.gangId.toNat ∨ f 24 % 2 ^ 11 ≠ k.index ∨ f 24 / 2 ^ 16 % 2 ^ 16 ≠ k.gen ∨ f 24 / 2 ^ 32 % 2 ^ 4 ≠ k.qcount
  ∨ f 24 / 2 ^ 36 % 4 ≠ k.nslot.toNat ∨ f 384 % 4 ≠ k.nslot.toNat ∨ (f 24).testBit 38 ≠ decide (k.qcount = 0)
  ∨ (f 24).testBit 39 ≠ k.pair ∨ (∃ p ∈ imageFields, f p.1 &&& p.2 ≠ f p.1)
  ∨ (∃ r < 64, tagWord a r % 4 = 3 ∨ tagEw a r = 0 ∨ 64 < tagEw a r ∨ imageVlmax a (tagEw a r) < tagExtent a r)
  ∨ (∃ c < 4, 512 < f (channelAt a c)) ∨ (∃ n < 32, 6 < f (2688 + 64 * n) % 2 ^ 4)
  ∨ ∃ m < 8, (if (f 384).testBit 63 then 0 else imageVlmax a (f 384 / 4 % 2 ^ 7)) < maskExt a m
/-- The value of element `e` of register `r` in an image (R79, R347). -/
def imageElem (a : List Byte) (r e : Nat) : Nat :=
  match tagWord a r % 4 with
  | 0 => imageWord a (4744 + 32 * r)
  | 1 => (imageWord a (4744 + 32 * r) + e * imageWord a (4752 + 32 * r)) % 2 ^ tagEw a r
  | _ => imageField a (dataAt a r) (tagEw a r) e
/-- The hart has what the sections of the image hold (R347, R350). -/
structure RestoredFrom (a : List Byte) (g : Hart) : Prop where
  pc : g.pc = BitVec.ofNat 56 (imageWord a 376) &&& ~~~1
  x : ∀ n : Fin 32, g.x[n] = if n = 0 then 0 else BitVec.ofNat 64 (imageWord a (128 + 8 * (n.val - 1)))
  moves : g.id.moves = BitVec.ofNat 5 (imageWord a 24 / 2 ^ 11) + 1
  cfg : g.vs.cfg = { VCfg.request (BitVec.ofNat 64 (imageWord a 384)) with ill := (imageWord a 384).testBit 63 }
  lengths : g.vs.vl = imageWord a 392 ∧ g.vs.rows = imageWord a 400 ∧ g.vs.vstart = imageWord a 408
  flags : g.vs.sat = (imageWord a 416).testBit 0 ∧ g.vs.flags = BitVec.ofNat 5 (imageWord a 424)
    ∧ g.vs.en = BitVec.ofNat 5 (imageWord a 424 / 2 ^ 8) ∧ g.vs.frm = BitVec.ofNat 3 (imageWord a 432)
  counts : g.id.prioCur = BitVec.ofNat 2 (imageWord a 440) ∧ g.latcnt = BitVec.ofNat 64 (imageWord a 448)
    ∧ g.instret = BitVec.ofNat 64 (imageWord a 456) ∧ g.pair = BitVec.ofNat 4 (imageWord a 464)
  traps : g.trap = {
    cause := BitVec.ofNat 10 (imageWord a 472), tval := BitVec.ofNat 64 (imageWord a 480),
    pc := BitVec.ofNat 56 (imageWord a 488) &&& ~~~1, en := (imageWord a 496).testBit 0, base := BitVec.ofNat 54 (imageWord a 496 / 4),
    conv := (imageWord a 504).testBit 3, member := BitVec.ofNat 3 (imageWord a 504 / 16) }
  status : g.inh = (imageWord a 504).testBit 0 ∧ g.rwarn = (imageWord a 504).testBit 8
  streams : ∀ i : Fin 16, let t := g.stm[i]; let f := fun k => imageWord a (640 + 128 * i.val + 8 * k)
    t.base = BitVec.ofNat 64 (f 0 % 2 ^ 56) ∧ t.dbase = BitVec.ofNat 64 (f 1 % 2 ^ 56)
    ∧ t.extent = [f 2, f 3, f 4, f 5].map (· % 2 ^ 48) ∧ t.stride = [f 6, f 7, f 8, f 9].map (BitVec.ofNat 64)
    ∧ t.pos = f 10 % 2 ^ 48 ∧ t.remain = f 11 % 2 ^ 48 ∧ t.acc = f 13 % 2 ^ 48 ∧ t.bind = BitVec.ofNat 64 (f 14)
    ∧ (f 15 / 16 % 4 ≠ 3 → t.status = BitVec.ofNat 64 (f 15))
  transfers : g.ilock.map (fun e => [e.kind.code, e.stream.val, e.rdlo, e.rdhi, e.wrlo, e.wrhi, e.progress])
    = (List.range 32).filterMap fun n => let f := fun k => imageWord a (2688 + 64 * n + 8 * k)
        if (f 0).testBit 8 then (some [f 0 % 2 ^ 4, f 0 / 2 ^ 12 % 2 ^ 4, f 1, f 2, f 3, f 4, f 5]) else none
  registers : ∀ r < 64, let q := g.getV r
    q.ew = tagEw a r ∧ q.extent = tagExtent a r ∧ ∀ e < tagExtent a r, q.own e = imageElem a r e
  masks : ∀ m < 8, (g.getM m).ones = maskOnes a m ∧ ∀ e, (g.getM m).bit e = (decide (e < maskExt a m) && imageField a (maskAt a m) 1 e == 1)
  blocks : ∀ b < 8, ∀ e < 1024, Map.get 0 (g.blk.getD b []) e
    = if blockBytes a b = 0 then 0 else imageField a (blockAt a b) (if blockWide a b then 64 else 32) e
  channels : ∀ c : Fin 4, let p := channelAt a c.val; g.chan[c].entries.length = imageWord a p
    ∧ ∀ j < imageWord a p, (g.chan[c].entries.getD j none).map (·.1)
        = if (a.getD (p + 8 + j / 8) 0).getLsbD (j % 8) then none else some (imageWord a (p + 72 + 8 * j))
  monitor : (∀ m, g.mon = some m → m.va = BitVec.ofNat 64 (imageWord a 32) ∧ m.hit = false ∧ m.rearm = true)
    ∧ (g.mon.isSome = (imageWord a 24).testBit 40)
/-- A new hart in the initial state of R46, with the fields its descriptor and its creator give it (R216, R448). -/
def newHart (k : Descriptor) (space : Word) : Hart :=
  { Hart.reset with
    st := .creating, pc := k.entry.setWidth 56, x := (((Vector.replicate 32 0).set 1 k.stub).set 10 k.args).set 11 k.arglen,
    id := { index := BitVec.ofNat 11 k.index, gen := BitVec.ofNat 16 k.gen, moves := 0, gangId := k.gangId,
            gangSize := k.gangSize.setWidth 51, prioCur := k.prio, prioMax := k.prio, paired := k.pair,
            spillBase := if k.qcount = 0 then 0 else k.spill },
    vs := { cfg := { nslot := k.nslot, sew := 8, fmt := 0, frm := 0, vxrm := 0, ill := decide (k.qcount = 0) }, vl := 0, rows := 1,
            vstart := 0, sat := false, qcount := k.qcount, qfirst := k.qfirst, rq := 0, flags := 0, en := 0, frm := 0, convoys := 0 },
    v := Vector.replicate 64 { shape := .u 0, ew := 8, extent := 0, used := 0, bad := [] },
    m := Vector.replicate 8 { bits := [], ones := 0, bad := [] }, stm := Vector.replicate 16 Stream.idle, blk := Vector.replicate 8 [],
    pair := 0, trap := { cause := 0, tval := 0, pc := 0, en := false, base := 0, conv := false, member := 0 }, inh := false,
    rwarn := false, ilock := [], mon := none, priv := false, space := space }

/-- Bits of a configuration word: `n` bits from bit `lo` (R67). -/
def cfgField (w : Word) (lo n : Nat) : Nat := w.toNat / 2 ^ lo % 2 ^ n
/-- The request is legal in a vector-capable hart (R68). -/
def requestLegal (w : Word) : Prop :=
  let sew := cfgField w 2 7
  1 ≤ sew ∧ sew ≤ 64 ∧ sew ≤ 128 / 2 ^ cfgField w 0 2 ∧ cfgField w 12 4 ≤ 7
    ∧ (cfgField w 12 4 ≠ 0 → sew = [0, 64, 32, 16, 16, 8, 8, 4].getD (cfgField w 12 4) 0)
    ∧ cfgField w 16 3 ≠ 5 ∧ cfgField w 16 3 ≠ 6 ∧ cfgField w 9 3 = 0 ∧ cfgField w 22 41 = 0
/-- VLMAX of a partition of `q` quartets with the NSLOT of code `n`, at width `w` (R70). -/
def geometry (q n w : Nat) : Nat := 8192 * q * (128 / 2 ^ n / w)
/-- A register relayed into a partition of `q` quartets with the NSLOT of code `n` (R78). -/
def relayedRegister (r t : VReg) (q n : Nat) : Prop :=
  let gone := match r.shape with | .g _ _ => decide (128 / 2 ^ n < r.ew) | _ => false
  if gone then t.shape = .u 0 ∧ t.extent = 0
  else t.ew = r.ew ∧ t.extent = min r.extent (geometry q n r.ew) ∧ (∀ i < t.extent, t.own i = r.own i)
    ∧ match r.shape, t.shape with | .u a, .u b => a = b | .a a x, .a b y => a = b ∧ x = y | .g _ _, .g _ _ => True | _, _ => False
/-- Besides the current hart, only where registers and strip buffers lie may have changed, and the sectors that spill copies have made
good: of no other hart any image, or any field of a stream (R28, R90, R92, R476). -/
def onlyCopies (s t : State) : Prop :=
  t = { s with harts := t.harts, cores := t.cores, poison := t.poison, rewritten := t.rewritten } ∧ (∀ c ∈ t.poison, c ∈ s.poison)
    ∧ ∀ i, (∀ st : Fin 16, (t.hart i).stm[st] = { (s.hart i).stm[st] with bufs := (t.hart i).stm[st].bufs })
      ∧ (i ≠ s.cur → t.hart i = { s.hart i with v := (t.hart i).v, stm := (t.hart i).stm }
          ∧ ∀ k < 64, ((s.hart i).getV k).sameImage ((t.hart i).getV k))
/-- The hart after a legal request `c` for `avl` elements; `keeps` is KEEP. Registers and masks are relayed for the reclaim first, under the
configuration still in force, and for NSLOT after it (R77, R78). -/
def grants (s t : State) (d : Fin 32) (avl : Nat) (c : Word) (keeps : Bool) : Prop :=
  let vs := s.h.vs
  let serves := keeps = false ∧ vs.rq ≠ 0
  let q := if serves then vs.rq else vs.qcount
  let n0 := vs.cfg.nslot.toNat
  let n1 := cfgField c 0 2
  let top := geometry q n1 (cfgField c 2 7)
  let vl := min avl top
  let freed := fun (k : Nat) => decide (vs.qfirst + vs.rq ≤ k ∧ k < vs.qfirst + vs.qcount)
  t.h = { s.h with
      x := if d = 0 then s.h.x else s.h.x.set d (BitVec.ofNat 64 vl), v := t.h.v, m := t.h.m, stm := t.h.stm,
      vs := { vs with
        cfg := { nslot := BitVec.ofNat 2 n1, sew := BitVec.ofNat 7 (cfgField c 2 7),
                 fmt := BitVec.ofNat 4 (cfgField c 12 4), frm := BitVec.ofNat 3 (cfgField c 16 3),
                 vxrm := BitVec.ofNat 2 (cfgField c 19 2), ill := false },
        vl := vl, vstart := 0, qcount := q, rq := if serves then 0 else vs.rq },
      relay := decide (serves ∨ n1 ≠ n0), reclaimAt := if serves then none else s.h.reclaimAt, pc := s.h.pc + 4,
      instret := s.counted }
    ∧ onlyCopies s t
    ∧ (∀ k < 64, ∃ r : VReg, (if serves then relayedRegister (s.h.getV k) r q n0 else r = s.h.getV k)
        ∧ ∃ r' : VReg, (if n1 ≠ n0 then relayedRegister r r' q n1 else r' = r) ∧ r'.sameImage (t.h.getV k))
    ∧ (∀ k < 8, ∀ i, (t.h.getM k).bit i = ((s.h.getM k).bit i
        && (decide (¬serves) || decide (i < geometry q n0 vs.cfg.sew.toNat)) && (decide (n1 = n0) || decide (i < top))))
    ∧ ∀ core, ∃ rs : List (BitVec 8 × Nat), t.core core = { s.core core with reserved := (s.core core).reserved ++ rs }
        ∧ if serves ∧ s.h.reclaimAt.any (·.resv) = true ∧ (core = coreOf s.cur ∨ s.h.id.paired = true ∧ core = coreOf (partner s.cur))
          then ∃ p, rs = [p] ∧ p.2 = s.cycle + 65536 ∧ ∀ k < 8, p.1.getLsbD k = freed k else rs = []

/-- The joining member `q` makes a conflict with the earlier member `p` (R165). -/
def clashes (h : Hart) (p q : Member) : Prop :=
  let i := p.op.info h p.masked
  let j := q.op.info h q.masked
  (∃ x ∈ i.writes, ∃ y ∈ j.writes, x.1 = y.1) ∨ (∃ m, m ∈ i.maskW ∧ m ∈ j.maskW) ∨ (∃ st, i.st = some st ∧ j.st = some st)
    ∨ i.crucible = true ∧ j.crucible = true
/-- Integer operations of two operands of one width, and a result of it, that raise no flag and clip nothing (R236). -/
def plainOps : List EwOp :=
  [.add, .sub, .rsub, .mul, .mulh, .mulhu, .min, .max, .minu, .maxu, .and, .or, .xor, .sll, .srl, .sra]
/-- The current hart can close the convoy of its one member `i` with `i'` as its second and last, and no element and no sector holds an
uncorrectable error (compare `State.Alone`). -/
structure ClosesWith (s : State) (i : Instr) (op : MOp) (i' : Instr) (op' : MOp) : Prop where
  opened : s.h.phase = .open
  first : s.h.convoy = [memberOf i false op]
  legal : (memberOf i false op).illegal s.h s.cur.slot = false
  joined : s.joinCheck (memberOf i' false op') = .ok (memberOf i' false op')
  ends : ∃ w n, s.fetch s.cur (s.h.pc.toNat + (i.size + i'.size)) = .ok (w, n) ∧ joins w = false
  started : s.h.waited = Waited.reset
  restarts : s.h.keptHere = none
  grants : ∀ c ∈ s.crucibleCores, s.cur.slot.val ∉ (s.core c).crucWait
  calm : s.h.relay = false ∧ s.paced = false ∧ s.h.ahead = none
  sectors : s.poison = []
  registers : ∀ k, (s.h.getV k).bad = []

/-- The operand hart at a stop at position `p`: a stream among its operands has advanced over the positions of row 0 below `p`. -/
def fedTo (s : State) (b : Src) (p : Nat) : Hart :=
  match b with
  | .st st =>
    let h := (s.reaching st).h
    if s.h.vs.vl ≤ s.h.vs.vstart then h else h.consume st (min p s.h.vs.vl - s.h.vs.vstart) (decide (s.h.vs.vl ≤ p))
  | _ => s.h
/-- The convoy of the one element-wise member `i` stops at tile position `p` and takes `x` (R85, R103, R331, R335): `g` is the hart with its
stream operand advanced, `val` gives the results and flags of the element-wise operation `f`, and `raised` the flags of the stopping element. -/
def stopsAt (s : State) (i : Instr) (masked : Bool) (op : MOp) (g : Hart) (d w p : Nat) (out : Nat → Nat → LaneOut) (raised : Flags)
    (x : Exc) : Prop :=
  let h := s.h
  let vl := h.vs.vl
  ∃ u : State, exec i s = .next (u.takeTrap x h.pc true 0) ∧ s.onlyHart u
    ∧ u.h = { g with
        v := u.h.v, phase := .drain, convoy := [memberOf i masked op], waited := u.h.waited,
        vs := { h.vs with vstart := p, convoys := h.vs.convoys + 1, flags := u.h.vs.flags, sat := u.h.vs.sat } }
    ∧ (∀ j < h.vs.rows, d + j < 64 → ∀ e < vl, j * vl + e < p → u.h.elem (d + j) w e % 2 ^ w
        = if s.on masked j e then (out j e).r else h.elem (d + j) w e % 2 ^ w)
    ∧ (∀ j < h.vs.rows, d + j < 64 → h.vs.vstart < (j + 1) * vl → (j + 1) * vl ≤ p →
        (u.h.getV (d + j)).ew = w ∧ (u.h.getV (d + j)).extent = vl)
    ∧ (let j := p / vl; let old := h.getV (d + j); d + j < 64 → old.ew = w → old.extent ≤ h.vlmaxAt w → h.vs.vstart < p →
        (∀ e, p % vl ≤ e → u.h.elem (d + j) w e = old.own e)
        ∧ (p % vl ≠ 0 → (u.h.getV (d + j)).extent = max old.extent (p % vl)))
    ∧ (∀ r < 64, (r < d ∨ d + h.vs.rows ≤ r ∨ p ≤ (r - d) * vl) → (h.getV r).sameImage (u.h.getV r))
    ∧ (∀ b < 5, u.h.vs.flags.getLsbD b = true ↔ h.vs.flags.getLsbD b = true ∨ raised.getLsbD b = true
        ∨ ∃ j < h.vs.rows, ∃ e < vl, s.on masked j e = true ∧ j * vl + e < p ∧ (out j e).fl.getLsbD b = true)
    ∧ (u.h.vs.sat = true ↔ h.vs.sat = true
        ∨ ∃ j < h.vs.rows, ∃ e < vl, s.on masked j e = true ∧ j * vl + e < p ∧ (out j e).clip = true)

/-- The element operations with an integer value from the signed or unsigned operands (R236), and the width of the
result. -/
def integerOps (w : Nat) : List (EwOp × ((a b : BitVec w) → Int) × Nat) :=
  [(.add, fun a b => a.toInt + b.toInt, w), (.sub, fun a b => a.toInt - b.toInt, w), (.rsub, fun a b => b.toInt - a.toInt, w),
   (.mul, fun a b => a.toInt * b.toInt, w), (.mulh, fun a b => a.toInt * b.toInt / 2 ^ w, w),
   (.mulhu, fun a b => a.toNat * b.toNat / 2 ^ w, w), (.min, fun a b => min a.toInt b.toInt, w),
   (.max, fun a b => max a.toInt b.toInt, w), (.minu, fun a b => min a.toNat b.toNat, w),
   (.maxu, fun a b => max a.toNat b.toNat, w), (.and, fun a b => (a &&& b).toNat, w), (.or, fun a b => (a ||| b).toNat, w),
   (.xor, fun a b => (a ^^^ b).toNat, w), (.sll, fun a b => a.toNat * 2 ^ b.toNat, w),
   (.srl, fun a b => a.toNat / 2 ^ b.toNat, w), (.sra, fun a b => a.toInt / 2 ^ b.toNat, w),
   (.splat, fun _ b => b.toInt, w), (.move, fun a _ => a.toInt, w),
   (.wadd, fun a b => a.toInt + b.toInt, 2 * w), (.waddu, fun a b => a.toNat + b.toNat, 2 * w),
   (.wmul, fun a b => a.toInt * b.toInt, 2 * w), (.wmulu, fun a b => a.toNat * b.toNat, 2 * w)]
/-- `v` shifted right by `d`, rounded as VXRM says (R106): up at a half, to even, down, or to odd. -/
def shiftedOff (vxrm : BitVec 2) (v : Int) (d : Nat) : Int :=
  let q := v / 2 ^ d
  let rest := v % 2 ^ d
  if rest = 0 then q
  else if vxrm = 0 then (if 2 ^ d ≤ 2 * rest then q + 1 else q)
  else if vxrm = 1 then (if 2 ^ d < 2 * rest ∨ 2 ^ d = 2 * rest ∧ q % 2 = 1 then q + 1 else q)
  else if vxrm = 2 then q else (if q % 2 = 0 then q + 1 else q)
/-- The averaging and scaling operations with the integer they round and the shift (R237). -/
def roundingShifts (w : Nat) : List (EwOp × ((a b : BitVec w) → Int × Nat)) :=
  [(.aadd, fun a b => (a.toInt + b.toInt, 1)), (.aaddu, fun a b => (((a.toNat + b.toNat : Nat) : Int), 1)),
   (.ssrl, fun a b => ((a.toNat : Int), b.toNat)), (.ssra, fun a b => (a.toInt, b.toNat))]
/-- The saturating operations with their exact value and whether the result is signed (R237). -/
def saturatingOps (c : VCfg) (w : Nat) : List (EwOp × ((a b : BitVec w) → Int) × Bool) :=
  [(.sadd, fun a b => a.toInt + b.toInt, true), (.saddu, fun a b => a.toNat + b.toNat, false),
   (.ssub, fun a b => a.toInt - b.toInt, true), (.ssubu, fun a b => (a.toNat : Int) - b.toNat, false),
   (.smul, fun a b => shiftedOff c.vxrm (a.toInt * b.toInt) (w - 1), true)]
/-- `v` clamped to the signed or unsigned range of a width, as an element (R107). -/
def clamped (signed : Bool) (w : Nat) (v : Int) : LaneOut :=
  let lo : Int := if signed then -2 ^ (w - 1) else 0
  let hi : Int := if signed then 2 ^ (w - 1) - 1 else 2 ^ w - 1
  { r := ((if v < lo then lo else if hi < v then hi else v) % 2 ^ w).toNat, fl := 0, clip := decide (v < lo ∨ hi < v) }
/-- NV where a condition holds (R103). -/
def nvWhen (b : Bool) : Flags := if b then 16 else 0
/-- The number that is less, or greater: the other operand of a NaN, the canonical NaN of two, and -0 below +0 (R197). -/
def chosen (g : Fmt) (less : Bool) (a b : Nat) : Nat × Flags :=
  let x := g.value a
  let y := g.value b
  (if x.isNaN = true then (if y.isNaN = true then g.canonicalNaN else b)
   else if y.isNaN = true then a
   else if (if less then x.lt y else y.lt x) = true ∨ x.eq y = true ∧ g.signOf a = less then a else b, nvWhen (x.signals || y.signals))
/-- The class bit of a pattern (R197). -/
def classBit (g : Fmt) (a : Nat) : Nat :=
  match g.value a with
  | .nan q => if q then 2 ^ 8 else 2 ^ 9
  | .inf s => if s then 2 ^ 0 else 2 ^ 7
  | .fin s m _ =>
    if m = 0 then (if s then 2 ^ 3 else 2 ^ 4) else if m < 2 ^ g.fracBits then (if s then 2 ^ 2 else 2 ^ 5) else (if s then 2 ^ 1 else 2 ^ 6)
/-- The sign bit of a format's width, and an infinity. -/
def signBit (g : Fmt) (s : Bool) : Nat := if s then 2 ^ (g.width - 1) else 0
@[inherit_doc signBit] def infOf (g : Fmt) (s : Bool) : Nat := signBit g s + g.maxFinite + 1
/-- A value converted into a format (R101, R104). -/
def converted (g : Fmt) (r : Rnd) (v : FVal) : Nat × Flags :=
  match v with
  | .nan q => (g.canonicalNaN, nvWhen (q || decide (g = .e2m1)))
  | .inf s => if g = .e4m3 ∨ g = .e2m1 then (signBit g s + g.maxFinite, 16) else (infOf g s, 0)
  | .fin s m e => g.round r s m e
/-- The approximate reciprocal (R115; the sign of its `e` is log 27). -/
def reciprocalOf (g : Fmt) (v : FVal) : Nat × Flags :=
  match v with
  | .nan q => nanOf g q
  | .inf s => zeroOf g s
  | .fin s m e =>
    let M : Nat := m * 2 ^ (23 - m.log2)
    let E : Int := e + m.log2
    let y0 : Nat := 2 ^ 32 / (257 + 2 * ((M - 2 ^ 23) / 2 ^ 16))
    let y1 : Int := (y0 : Int) + (y0 : Int) * (2 ^ 47 - (M * y0 : Nat)) / 2 ^ 47
    if m = 0 then (infOf g s, 8) else if M = 2 ^ 23 then g.round .rne s 1 (-E)
    else let q := g.round .rne s y1.toNat (-24 - E); (q.1, q.2 ||| 1)
/-- The table `P` of R116: the integers nearest 2^(j / 64) x 2^30. -/
def isExpTable (p : Nat → Nat) : Prop := ∀ j < 64, (2 * p j - 1) ^ 64 < 2 ^ (64 + 1920 + j) ∧ 2 ^ (64 + 1920 + j) < (2 * p j + 1) ^ 64
/-- The approximate exponential with the table `p` (R116); `i` is t in units of 2^-149. -/
def exponentialOf (p : Nat → Nat) (g : Fmt) (v : FVal) : Nat × Flags :=
  match v with
  | .nan q => nanOf g q
  | .inf s => (if s then 0 else infOf g false, 0)
  | .fin s m e =>
    match Fmt.f32.value (Fmt.f32.product .rne (.fin s m e) (Fmt.f32.value 0x3FB8AA3B)).1 with
    | .fin ts tm te =>
      let i : Int := (if ts then -1 else 1) * (tm * 2 ^ (te + 149).toNat : Nat)
      let n := i / 2 ^ 149
      let R := (i % 2 ^ 149).toNat / 2 ^ 125
      let d := R % 2 ^ 18
      let Q := 2 ^ 32 + 0xB17217F8 * d / 2 ^ 24 + 0x3D7F7BFF * (d * d / 2 ^ 24) / 2 ^ 24
      if 128 * 2 ^ 149 ≤ i then (infOf g false, 5) else if i < -150 * 2 ^ 149 then (0, 3)
      else let q := g.round .rne false (p (R / 2 ^ 18) * Q / 2 ^ 32) (n - 30); (q.1, if m = 0 then q.2 else q.2 ||| 1)
    | _ => if s then (0, 3) else (infOf g false, 5)
/-- The FMT codes with their formats (R67). -/
def fmtCodes : List (BitVec 4 × Fmt) := [(1, .f64), (2, .f32), (3, .f16), (4, .bf16), (5, .e4m3), (6, .e5m2), (7, .e2m1)]
/-- The floating operations of FMT 1 to 4 with their results on the patterns `a`, `b` and `d` (R239, R240). -/
def floatOps (g : Fmt) (r : Rnd) (a b d : Nat) : List (EwOp × Nat × Flags) :=
  let x := g.value a
  let y := g.value b
  let z := g.value d
  let size := a % 2 ^ (g.width - 1)
  [(.fadd, g.sum r x y), (.fsub, g.sum r x y.neg), (.frsub, g.sum r y x.neg), (.fmul, g.product r x y), (.fdiv, g.quotient r x y),
   (.frdiv, g.quotient r y x), (.fsqrt, g.root r x), (.fmin, chosen g true a b), (.fmax, chosen g false a b),
   (.fsgnj, size + signBit g (g.signOf b), 0), (.fsgnjn, size + signBit g (!g.signOf b), 0),
   (.fsgnjx, size + signBit g (g.signOf a ^^ g.signOf b), 0), (.fclass, classBit g a, 0), (.fmacc, g.fused r x y z),
   (.fnmacc, g.fused r x.neg y z.neg), (.fmsac, g.fused r x y z.neg), (.fnmsac, g.fused r x.neg y z)]
/-- The conversions of FMT 1 to 7 on a pattern of SEW bits (R105, R240). -/
def convertOps (g : Fmt) (r : Rnd) (w : Nat) (a : BitVec w) : List (EwOp × Nat × Flags) :=
  [(.cvtFX, g.round r (decide (a.toInt < 0)) a.toInt.natAbs 0), (.cvtFXu, g.round r false a.toNat 0),
   (.cvtXF, toInteger r true w (g.value a.toNat)), (.cvtXuF, toInteger r false w (g.value a.toNat))]

/-- The integer comparisons of two elements (R243). -/
def integerCompares (w : Nat) : List (CmpOp × ((a b : BitVec w) → Bool)) :=
  [(.eq, fun a b => decide (a = b)), (.ne, fun a b => decide (a ≠ b)), (.lt, fun a b => decide (a.toInt < b.toInt)),
   (.le, fun a b => decide (a.toInt ≤ b.toInt)), (.ltu, fun a b => decide (a.toNat < b.toNat)),
   (.leu, fun a b => decide (a.toNat ≤ b.toNat)), (.gt, fun a b => decide (b.toInt < a.toInt)),
   (.gtu, fun a b => decide (b.toNat < a.toNat))]
/-- The floating comparisons, with NV for a signalling or for any NaN (R243). -/
def floatCompares : List (CmpOp × (FVal → FVal → Bool) × Bool) :=
  [(.feq, fun x y => x.eq y, false), (.fne, fun x y => !x.eq y, false), (.flt, fun x y => x.lt y, true),
   (.fle, fun x y => x.lt y || x.eq y, true), (.fgt, fun x y => y.lt x, true), (.fge, fun x y => y.lt x || x.eq y, true)]

/-- The mask-logic instructions with their functions (R245). -/
def maskOps : List (MaskOp × (Bool → Bool → Bool)) :=
  [(.and, fun a b => a && b), (.nand, fun a b => !(a && b)), (.andn, fun a b => a && !b), (.or, fun a b => a || b),
   (.nor, fun a b => !(a || b)), (.orn, fun a b => a || !b), (.xor, fun a b => a ^^ b), (.xnor, fun a b => !(a ^^ b)),
   (.set, fun _ _ => true), (.clr, fun _ _ => false)]

/-- The shape code of R88: 0 uniform, 1 affine, and for a general register 2, 6 or 14 by where its bits are kept. -/
def shapeCode (r : VReg) : Nat :=
  match r.shape with
  | .u _ => 0 | .a _ _ => 1 | .g _ .slot => 2 | .g _ (.ways _) => 6 | .g _ .hbm => 14
/-- The field of a stream register that SEL names (R255): extents and strides from 8 up. -/
def streamWord (h : Hart) (t : Stream) (sel : Nat) : Word :=
  if sel = 0 then t.status else if sel = 1 then BitVec.ofNat 64 t.pos else if sel = 2 then BitVec.ofNat 64 t.remain
  else if sel = 3 then BitVec.ofNat 64 (h.avail t) else if sel = 4 then t.base else if sel = 5 then t.dbase
  else if sel = 6 then BitVec.ofNat 64 t.acc else if sel = 7 then t.bind
  else if sel < 12 then BitVec.ofNat 64 (t.extent.getD (sel - 8) 0) else t.stride.getD (sel - 12) 0
/-- `i`, run alone, writes `v` to xd and changes no image, mask, flag or anything else. -/
def answers (i : Instr) (s : State) (op : MOp) (d : Fin 32) (usesVstart : Bool) (v : State → Word) : Prop :=
  s.Sound → s.Alone i false op → ∃ t, exec i s = .next t ∧ s.onlyHart t
    ∧ s.Drained t { s.h with x := if d = 0 then s.h.x else s.h.x.set d (v t) } i usesVstart
    ∧ s.KeepsRegisters t 0 0 0 0 ∧ t.h.vs.flags = s.h.vs.flags ∧ t.h.vs.sat = s.h.vs.sat

/-- Memory, as a function, after a `w`-bit element `v` has been written at bit `b` of location `loc` (R122). -/
def putElem (m : Nat → Byte) (loc b w v : Nat) : Nat → Byte :=
  fun a =>
    if 8 ≤ w then (if loc ≤ a ∧ a < loc + w / 8 then (leBytes (w / 8) v).getD (a - loc) 0 else m a)
    else if a = loc then BitVec.ofNat 8 ((m a).toNat - (m a).toNat / 2 ^ b % 2 ^ w * 2 ^ b + v % 2 ^ w * 2 ^ b) else m a

/-- The new value of a cell from the old one and the operand, at `w` bits (R191, R192). -/
def atomicNew (f : AmoOp) (w old x : Nat) : Nat :=
  let sold := (BitVec.ofNat w old).toInt
  let sx := (BitVec.ofNat w x).toInt
  let ux := x % 2 ^ w
  match f with
  | .swap => ux | .add => (old + x) % 2 ^ w | .and => old &&& ux | .or => old ||| ux | .xor => old ^^^ ux
  | .min => if sx < sold then ux else old
  | .max => if sold < sx then ux else old
  | .minu => if ux < old then ux else old
  | .maxu => if old < ux then ux else old
  | .fxL => fxAdd old (fxOfInt (BitVec.ofNat 64 x).toInt)
  | .fxD => fxAdd old (fxOfFloat (Fmt.f64.value x))
  | .fxS => fxAdd old (fxOfFloat (Fmt.f32.value x))
  | .cas | .arrive => old
/-- Whether the atomic adds into a 16-byte FX128 cell (R192). -/
def addsCell (f : AmoOp) : Bool := f = .fxL || f = .fxD || f = .fxS
/-- A number of `n` bytes of memory as a function, lowest first. -/
def numberAt (m : Nat → Byte) (loc n : Nat) : Nat := leNat ((List.range n).map fun k => m (loc + k))
/-- Memory and the results so far after the atomic of one position (R266). -/
def atomicStep (f : AmoOp) (w : Nat) (loc x : Nat → Nat) (q : (Nat → Byte) × List (Nat × Nat)) (p : Nat) :
    (Nat → Byte) × List (Nat × Nat) :=
  let n := if addsCell f then 16 else w / 8
  let old := numberAt q.1 (loc p) n
  let new := atomicNew f w old (x p)
  (fun a => if loc p ≤ a ∧ a < loc p + n then (leBytes n new).getD (a - loc p) 0 else q.1 a,
    q.2 ++ [(p, if addsCell f then fxClass new else old)])

/-- Element `e` of a Crossroads result row, with the flags raised, from the source row `x`, the index row `idx`, the amount `k`, the
mask bits `m` and the active positions `on` (R275). -/
def crossed (f : XrOp) (g : Fmt) (rnd : Rnd) (w vl : Nat) (x idx : Nat → Nat) (k : Nat) (m on : Nat → Bool) (e : Nat) :
    Nat × Flags :=
  let xs := ((List.range vl).filter on).map x
  let below := fun n => ((List.range n).filter m).length
  match f with
  | .redsum => (xs.sum % 2 ^ w, 0)
  | .redmax => ((xs.foldl (fun (a : Int) b => max a (sext b w)) (-2 ^ (w - 1)) % 2 ^ w).toNat, 0)
  | .redmin => ((xs.foldl (fun (a : Int) b => min a (sext b w)) (2 ^ (w - 1) - 1) % 2 ^ w).toNat, 0)
  | .redmaxu => (xs.foldl max 0, 0)
  | .redminu => (xs.foldl min (2 ^ w - 1), 0)
  | .redand => (xs.foldl (· &&& ·) (2 ^ w - 1), 0)
  | .redor => (xs.foldl (· ||| ·) 0, 0)
  | .fredsum => let r := treeSum g rnd (fun n => if on n then some (x n) else none) vl (clog2 vl) 0
    let v := r.1.getD 0
    (if (g.value v).isNaN then g.canonicalNaN else v, r.2)
  | .fredmax => xs.foldl (fun r b => let q := g.maximum r.1 b; (q.1, r.2 ||| q.2)) (g.canonicalNaN, 0)
  | .iota => (below e % 2 ^ w, 0)
  | .gather => (if idx e < vl then x (idx e) else 0, 0)
  | .slideup => (if k ≤ e then x (e - k) else 0, 0)
  | .slidedown => (if e + k < vl then x (e + k) else 0, 0)
  | .compress => ((((List.range vl).filter m)[e]?.map x).getD 0, 0)
  | .expand => (if m e then x (below e) else 0, 0)
  | .scanadd => ((((List.range (e + 1)).filter on).map x).sum % 2 ^ w, 0)
/-- The reductions, whose result is element 0 alone (R275). -/
def reductions : List XrOp := [.redsum, .redmax, .redmin, .redmaxu, .redminu, .redand, .redor, .fredsum, .fredmax]

/-- The sum of the eight products of position `e` of row `j`, and whether one of them is invalid (R282, R284). -/
def products (ta tb : BitVec 3) (x : Nat → Nat) (y : Nat → Nat) : Int × Bool :=
  let ps := (List.range 8).map fun k => (itValue ta (x k), itValue tb (y k))
  ((ps.map fun p => match p.1, p.2 with | some u, some v => u * v | _, _ => 0).sum,
    ps.any fun p => p.1.isNone || p.2.isNone)
/-- The scale of a block of OUT 2 and 3 from its active elements (R300): 127 where all are 0. -/
def blockScale (narrowest : Bool) (p : Int) (ns : List Int) : Nat :=
  let m := (ns.map Int.natAbs).foldl max 0
  if m = 0 then 127
  else (max 0 (min 254 ((Nat.log2 m : Int) + p + 127 - (if narrowest then 2 else 8)))).toNat

/-- Element `off + n` of a register as a Crucible operand of width `w`: 0 from VLMAX(w) up (R289, R291). -/
def operandAt (h : Hart) (k w off n : Nat) : Nat := if h.vlmaxAt w ≤ off + n then 0 else h.elem k w (off + n)
/-- A convoy of one Crucible member has drained: of the hart only block `c` has changed besides. -/
def crucibleDone (i : Instr) (s t : State) (c : Fin 8) (new : Nat → Nat) : Prop :=
  exec i s = .next t ∧ s.onlyHartAndGrant t ∧ s.Drained t { s.h with blk := t.h.blk } i true
    ∧ (∀ k : Fin 8, k ≠ c → t.h.blk[k] = s.h.blk[k]) ∧ (∀ n < 1024, t.h.blockAt c.val n = new n)
    ∧ s.KeepsRegisters t 0 0 0 0 ∧ t.h.vs.sat = s.h.vs.sat
/-- The elements of an outer product onto block `c`, with their flags (R289): operands of TLEN elements, or 2 TLEN in pairs. -/
def outerAt (h : Hart) (c : Fin 8) (f : BitVec 3) (x y : Nat → Nat) (n : Nat) : Nat × Flags :=
  outerElem (h.blockFmt c.val) (opFmt f) (h.blockAt c.val n)
    (if f = 2 ∨ f = 3 then [(x (n / 32), y (n % 32)), (x (32 + n / 32), y (32 + n % 32))] else [(x (n / 32), y (n % 32))])
/-- The flags of an outer product have accrued and none of them is enabled. -/
def outerFlags (s t : State) (r : Nat → Nat × Flags) : Prop :=
  ∀ b < 5, t.h.vs.flags.getLsbD b = true ↔ s.h.vs.flags.getLsbD b = true ∨ ∃ n < 1024, (r n).2.getLsbD b = true
/-- Bytes of an operand of copr.m, and its number of elements (R289). -/
def operandSize (f : BitVec 3) : Nat := (opFmt f).width / 8
@[inherit_doc operandSize] def operandLen (f : BitVec 3) : Nat := if f = 2 ∨ f = 3 then 64 else 32

/-- Bits of a shape record or operand: `n` from bit `lo`. -/
def recBits (w lo n : Nat) : Nat := w / 2 ^ lo % 2 ^ n
/-- The four extents and strides of a record, and its number of elements (R250, R251). -/
def recExtents (w : Nat) : List Nat := (List.range 4).map fun k => recBits w (128 + 32 * k) 32
@[inherit_doc recExtents] def recStrides (w : Nat) : List Word := (List.range 4).map fun k => BitVec.ofNat 64 (recBits w (256 + 64 * k) 64)
/-- The number of elements of a walk with four extents: those of the dimensions used (R250). -/
def walkCount (es : List Nat) : Nat := es.getD 0 0 * max 1 (es.getD 1 0) * max 1 (es.getD 2 0) * max 1 (es.getD 3 0)
/-- A walk is legal (R250, R252): the extents used are not 0 beyond the first and lie below the unused ones; at most 2^48 - 1 elements;
strides beyond the dimensions used are 0, and stride 0 too below 8 bits; from 8 bits up, base and strides are multiples of the
element. -/
def walkLegal (base : Nat) (es : List Nat) (st : List Word) (width : Nat) : Prop :=
  let dims := if es.getD 3 0 ≠ 0 then 4 else if es.getD 2 0 ≠ 0 then 3 else if es.getD 1 0 ≠ 0 then 2 else 1
  width ∈ [1, 2, 4, 8, 16, 32, 64] ∧ walkCount es < 2 ^ 48 ∧ base < 2 ^ 56
    ∧ (∀ k < 4, (1 ≤ k → k < dims → es.getD k 0 ≠ 0) ∧ (dims ≤ k → st.getD k 0 = 0))
    ∧ (width < 8 → st.getD 0 0 = 0)
    ∧ (8 ≤ width → base % (width / 8) = 0 ∧ ∀ k < dims, (st.getD k 0).toNat % (width / 8) = 0)
/-- A stream register just configured (R254). -/
def walking (base : Nat) (es : List Nat) (st : List Word) (width mode : Nat) : Stream :=
  { Stream.idle with
    state := if walkCount es = 0 then .done else .active, base := BitVec.ofNat 64 base, extent := es, stride := st, width := width,
    remain := walkCount es, mode := mode }
/-- A stream register just bound to a channel (R272). -/
def bound (w : Word) (width : Nat) (sends : Bool) : Stream :=
  { Stream.idle with state := .active, width := width, remain := 2 ^ 48 - 1, bind := w, mode := 3, dir := sends }
/-- `i`, run alone, leaves the stream registers `stm` and changes nothing else but what a drained convoy does. -/
def leavesStreams (i : Instr) (s : State) (stm : Vector Stream 16) : Prop :=
  ∃ t, exec i s = .next t ∧ s.onlyHart t ∧ s.Drained t { s.h with stm := stm } i false ∧ s.KeepsRegisters t 0 0 0 0
    ∧ t.h.vs.flags = s.h.vs.flags ∧ t.h.vs.sat = s.h.vs.sat
/-- The convoy stops with CHANNEL and the operand `w` in TVAL, before anything else (R272, R331). -/
def stopsChannel (i : Instr) (s : State) (w : Word) : Prop :=
  ∃ t, exec i s = .next t ∧ t.h.trap.cause = 9 ∧ t.h.trap.tval = w ∧ t.h.trap.conv = true ∧ t.h.trap.member = 0
    ∧ t.h.trap.pc = s.h.pc ∧ t.h.inh = true ∧ t.h.stm = s.h.stm ∧ t.h.x = s.h.x

/-- The five forms of a copy (R267, R269, R270). -/
def copies : List ((Bool → Fin 32 → Fin 32 → Fin 16 → Instr) × CopyForm) :=
  [(.vcopy, .plain), (.vcopyT, .tap), (.vcopyAddl, .addl), (.vcopyAddd, .addd), (.vcopyAdds, .adds)]
/-- The form adds into FX128 cells, the element width it needs then, and the bits of a destination element (R267, R270). -/
def addsForm (f : CopyForm) : Bool := f = .addl || f = .addd || f = .adds
@[inherit_doc addsForm] def destSize (f : CopyForm) (width : Nat) : Nat := if addsForm f then 128 else width

/-- The hart after a send of the entries `q` has been read into the stream's buffers, which lie in ways or in memory (R268, R273): with
none, the send is complete, UNDELIVERABLE where its hart does not exist (R65). -/
def sending (s : State) (st : Fin 16) (q : List (Option Nat)) (bufs : Option (BitVec 8)) : Hart :=
  let h := s.h
  { h with
    stm := h.stm.set st { h.stm[st] with
      send := if q ≠ [] then .busy else if (s.receiver s.cur h.stm[st]).isNone then .undeliverable else .none,
      pos := 0, outbox := q, partway := false, readTo := 0, bufs := bufs },
    ilock := if q = [] then h.ilock
      else h.ilock ++ [{ no := h.transfers, kind := .send, stream := st, rdlo := 0, rdhi := 0, wrlo := 0, wrhi := 0, progress := 0 }],
    transfers := h.transfers + 1 }
/-- No channel is held for a send of the current hart on a stream (R273). -/
def holdsNothing (s : State) (st : Fin 16) : Prop :=
  ∀ p ∈ s.harts, ∀ c ∈ p.2.chan.toList, c.holder ≠ some (s.h.id.index.toNat, st.val)
/-- The instruction `i` completes as a send of the entries `es` and changes nothing else. -/
def sends (i : Instr) (s : State) (st : Fin 16) (usesVstart : Bool) (es : List (Option Nat)) : Prop :=
  ∃ t, exec i s = .next t ∧ s.onlyHart t ∧ s.Drained t (sending s st es t.h.stm[st].bufs) i usesVstart ∧ s.KeepsRegisters t 0 0 0 0
    ∧ t.h.vs.flags = s.h.vs.flags ∧ t.h.vs.sat = s.h.vs.sat

/-- The kerb commands with their kinds (R304). -/
def commands : List ((Bool → Fin 32 → Fin 16 → Instr) × Fin 3) := [(.kswage, 0), (.kpool, 1), (.ktongs, 2)]
/-- WIDTH of the results of a command (R309): a swage 32 bits or, for pairs, 64; a pool by OUT; the Tongs 64. -/
def resultWidth (kind sel out : Nat) : Nat :=
  if kind = 0 then (if sel = 0 then 32 else 64)
  else if kind = 1 then (if out = 1 then 32 else if out = 3 then 16 else 64) else 64

/-- `i`, run alone, writes `v` to xd, with the interlock entries `l` made, and the module otherwise as `q`. -/
def sealAnswers (i : Instr) (s q : State) (d : Fin 32) (v : Word) (l : List Entry) : Prop :=
  ∃ t, exec i s = .next t ∧ t = q.setHart s.cur t.h
    ∧ s.Drained t { s.h with x := if d = 0 then s.h.x else s.h.x.set d v, ilock := s.h.ilock ++ l,
                             transfers := s.h.transfers + l.length } i false
    ∧ s.KeepsRegisters t 0 0 0 0 ∧ t.h.vs.flags = s.h.vs.flags ∧ t.h.vs.sat = s.h.vs.sat

/-- INSTRET of a hart after one more instruction (R210). -/
def countedIn (x : Hart) : Word := if x.inf then x.instret else x.instret + 1
/-- The hart goes on after mwait with a reason, its monitor disarmed (R58). -/
def wokeUp (x : Hart) (d : Fin 32) (reason : Word) (discards : Bool) : Hart :=
  { (if discards then x.discardAhead else x) with
    st := .running, wait := none, mon := none, x := if d = 0 then x.x else x.x.set d reason, pc := x.pc + 4, instret := countedIn x }
/-- Nothing of the hart waits to be reported: no failed write, and no stream in ERROR (R271, R491). -/
def spotless (x : Hart) : Prop := x.wfail = none ∧ ∀ st : Fin 16, x.stm[st].state ≠ .error

/-- Hart `i` holds a slot 0 to 6 of die `die` and belongs to the gang (R39). -/
def inGang (s : State) (die : Fin 8) (gang : Word) (i : HartId) : Prop := i.die = die ∧ i.slot ≠ 7 ∧ (s.hart i).id.gangId = gang
/-- A hart with a convoy in flight, warned at the next instruction behind it with `left` cycles left (R331, R342). -/
def warnedAt (x : Hart) (left : Nat) : Front :=
  let f := x.front
  { f with
    pc := BitVec.ofNat 56 (4 * f.trap.base.toNat), inh := true, flags := x.vs.flags ||| f.flags, warned := true,
    trap := { f.trap with cause := 13, tval := BitVec.ofNat 64 left, pc := f.pc, conv := false, member := 0 } }
/-- Doublewords as little-endian bytes, and fields of `w` bits packed from bit 0 up into whole doublewords (R96, R347). -/
def inBytes (ws : List Nat) : List Byte := ws.flatMap (leBytes 8)
@[inherit_doc inBytes] def inFields (w : Nat) (es : List Nat) : List Byte :=
  leBytes (imageSpan w es.length) (es.foldr (fun e n => e % 2 ^ w + 2 ^ w * n) 0)
/-- 1 for true. -/
def asBit (b : Bool) : Nat := if b then 1 else 0
/-- A stream register, an entry of the interlock, a tag and a receive channel in an image (R88, R136, R255, R347). -/
def imageOfStream (t : Stream) : List Nat :=
  [t.base.toNat, t.dbase.toNat] ++ ((List.range 4).map fun k => t.extent.getD k 0) ++ ((List.range 4).map fun k => (t.stride.getD k 0).toNat)
    ++ [t.pos, t.remain, 0, t.acc, t.bind.toNat, t.status.toNat]
@[inherit_doc imageOfStream] def imageOfEntry (e : Entry) : List Nat :=
  [e.kind.code + 2 ^ 8 + e.stream.val * 2 ^ 12, e.rdlo, e.rdhi, e.wrlo, e.wrhi, e.progress, 0, 0]
@[inherit_doc imageOfStream] def imageOfTag (q : VReg) : List Nat :=
  let (code, u, st) := match q.shape with | .u v => (0, v, 0) | .a v d => (1, v, d) | .g _ _ => (2, 0, 0)
  [(code + q.ew * 2 ^ 4 + q.extent * 2 ^ 12) % 2 ^ 64, u % 2 ^ 64, st % 2 ^ 64, 0]
@[inherit_doc imageOfStream] def imageOfChannel (c : Chan) : List Byte :=
  if c.entries = [] then leBytes 8 0
  else leBytes 8 c.entries.length
    ++ leBytes 64 ((List.range c.entries.length).map fun k => if c.entries[k]? = some none then 2 ^ k else 0).sum
    ++ inBytes (c.entries.map fun e => (e.map (·.1)).getD 0 % 2 ^ 64)
/-- The sections of an image behind its header (R347): scalar to channels, mask bits, data of general registers, blocks. -/
def imageSections (x : Hart) : List (List Byte) :=
  let status := [x.vs.cfg.word.toNat, x.vs.vl, x.vs.rows, x.vs.vstart, asBit x.vs.sat, x.vs.flags.toNat + x.vs.en.toNat * 2 ^ 8,
    x.vs.frm.toNat, x.id.prioCur.toNat + x.id.prioMax.toNat * 2 ^ 8, x.latcnt.toNat, x.instret.toNat, x.pair.toNat + nonZeroBlocks x * 2 ^ 8,
    x.trap.cause.toNat, x.trap.tval.toNat, x.trap.pc.toNat, (asBit x.trap.en + x.trap.base.toNat * 4) % 2 ^ 64,
    asBit x.inh + asBit x.trap.conv * 2 ^ 3 + x.trap.member.toNat * 2 ^ 4 + asBit x.rwarn * 2 ^ 8]
  [inBytes ((x.x.toList.drop 1).map (·.toNat) ++ [x.pc.toNat] ++ status ++ List.replicate 16 0 ++ x.stm.toList.flatMap imageOfStream
      ++ (x.ilock.take 32).flatMap imageOfEntry ++ List.replicate (8 * (32 - x.ilock.length)) 0 ++ x.v.toList.flatMap imageOfTag
      ++ x.m.toList.map fun m => m.bits.length + m.ones * 2 ^ 32) ++ x.chan.toList.flatMap imageOfChannel,
   x.m.toList.flatMap fun m => inFields 1 (m.bits.map asBit),
   x.v.toList.flatMap fun q => match q.shape with | .g es _ => inFields q.ew es | _ => [],
   (List.range 8).flatMap fun b =>
     let wide := x.pair.getLsbD (b / 2)
     if (nonZeroBlocks x).testBit b = true ∧ ¬(wide = true ∧ b % 2 = 1) then
       inFields (if wide then 64 else 32) ((List.range 1024).map fun e => Map.get 0 (x.blk.getD b []) e)
     else []]
/-- The context image of a hart with CHECK as given (R348), and with the CHECK it must have. -/
def imageWithCheck (x : Hart) (check : Nat) : List Byte :=
  let parts := imageSections x
  let upTo := fun k => 128 + ((parts.take k).map List.length).sum
  let place := x.id.index.toNat + x.id.moves.toNat * 2 ^ 11 + x.id.gen.toNat * 2 ^ 16 + x.vs.qcount * 2 ^ 32 + x.vs.cfg.nslot.toNat * 2 ^ 36
    + (if x.vs.qcount = 0 then 2 ^ 38 else 0) + asBit x.id.paired * 2 ^ 39 + (if x.mon.isNone then 0 else 2 ^ 40)
  inBytes ([0x48454154 + 2 ^ 32, upTo 4, x.id.gangId.toNat, place, ((x.mon.map fun (m : Monitor) => m.va).getD 0).toNat, check, upTo 1, upTo 2, upTo 3]
    ++ List.replicate 7 0) ++ parts.flatten
@[inherit_doc imageWithCheck] def contextImage (x : Hart) : List Byte := imageWithCheck x (leNat (Config.shake256 8 (imageWithCheck x 0)) % 2 ^ 64)
/-- The slots that a gang holds on a die, with their harts (R39). -/
def slotsOfGang (s : State) (die : Fin 8) (gang : Word) : List (Nat × Hart) :=
  s.harts.filter fun q => decide ((hartIdOf q.1).die = die ∧ (hartIdOf q.1).slot ≠ 7 ∧ q.2.id.gangId = gang ∧ q.2.st ≠ .empty)
/-- From `s`, the image of each hart that the table of the suspend names goes to its place, and `t` is the state then (R219). -/
def ImagesWritten (p : Suspend) : State → List Hart → State → Prop
  | s, [], t => t = s
  | s, x :: l, t => match p.images.find? fun q => q.1 == x.id.index.toNat with
    | none => ImagesWritten p s l t
    | some (_, a) => ∃ u, s.writeBytes (hartIdOf p.issuer) a 0xFF (contextImage x) = .ok u ∧ ImagesWritten p u l t
/-- The byte is not among the top 4 KiB of the TCMs of a pair's two cores, where its checkpoints lie (R499). -/
def notContext (i : HartId) (a : Nat) : Prop :=
  ∀ c ∈ [coreOf i, coreOf (partner i)], ¬(tcmLoc c 0xF000 ≤ a ∧ a < tcmLoc c 0xF000 + 4096)

/-- MBOX as a request shows it (R456). -/
def mailWord (r : Request) : Word :=
  BitVec.ofNat 64 (1 + 2 * (match r.acc with | .read => 0 | .write => 1 | .fetch => 2 | .rmw => 3) + 8 * r.slot.val
    + (if r.engine then 64 else 0) + (if r.prefetch then 128 else 0) + 256 * r.tag + 65536 * r.vpn)
/-- A count added with saturation at 32 bits (R462). -/
def satAdd (old n : Nat) : Nat := if old + n < 2 ^ 32 then old + n else 2 ^ 32 - 1
/-- Memory, as a function, with the `n` bytes at `loc` set to a number. -/
def withNumber (m : Nat → Byte) (loc n v : Nat) : Nat → Byte :=
  fun a => if loc ≤ a ∧ a < loc + n then (leBytes n v).getD (a - loc) 0 else m a
/-- Memory after a count of `n` has gone to a field of a heat record. -/
def addedTo (m : Nat → Byte) (loc n : Nat) : Nat → Byte := withNumber m loc 4 (satAdd (numberAt m loc 4) n)
/-- Memory after the write-back of one entry for a HEAT of `v` on die `die` (R462): the heat
write-back is master 0x1203 (R463); a record that the tables refuse, or that is sealed or verified, is counted in REFUSED. -/
def heatWritten (s : State) (die : Fin 8) (v : Word) (m : Nat → Byte) (e : TlbEntry) : Nat → Byte :=
  let r := v.toNat / 2 ^ 28 % 2 ^ 12 * 2 ^ 28 + 16 * (leafPa e.level e.w0 0 / 2 ^ 16 % 2 ^ 25)
  let refused := 0xB0000 + die.val * 0x1000 + 0x78
  if 2 ≤ leafType e.w0 ∨ e.unit = 0 ∧ e.strided = 0 ∧ e.indexed = 0 then m
  else if s.permits (s.targetOf r) 0x1203 .a = true ∧ ∀ k < 12, s.frozen (r + k) = false then addedTo (addedTo (addedTo m r e.unit) (r + 4) e.strided) (r + 8) e.indexed
  else withNumber m refused 8 (min (numberAt m refused 8 + 1) (2 ^ 64 - 1))
/-- The hart has taken INTEGRITY at firmware and is stopping (R337). -/
def tookIntegrity (y : Hart) (vpn : Nat) (pc : BitVec 56) : Prop :=
  y.fw.cause = 8 ∧ y.fw.tval = BitVec.ofNat 64 (vpn * 65536) ∧ y.fw.pc = pc ∧ y.st = .stopping

/-- Memory of `t` is that of `s` with the 8-byte words `ws` (address and value) written. -/
def wordsSet (s t : State) (ws : List (Nat × Nat)) : Prop :=
  ∀ a, t.peek a = match ws.find? (fun p => decide (p.1 ≤ a ∧ a < p.1 + 8)) with
    | some p => (leBytes 8 p.2).getD (a - p.1) 0
    | none => s.peek a
/-- Memory of `t` is that of `s` with the bytes `bs` written from `pa` up. -/
def bytesSet (s t : State) (pa : Nat) (bs : List Byte) : Prop :=
  ∀ a, t.peek a = if pa ≤ a ∧ a < pa + bs.length then bs.getD (a - pa) 0 else s.peek a
/-- Besides memory, only what watches writes may change: monitors and barrier waits. -/
def watchedOnly (s t : State) : Prop :=
  t = { s with harts := t.harts, mem := t.mem, pairs := t.pairs }
    ∧ ∀ i, t.hart i = { s.hart i with mon := (t.hart i).mon, wait := (t.hart i).wait }
/-- A byte of BAR2 of a port (R425); where nothing has been written each of the nine vectors is masked (log 98). -/
def bar2At (s : State) (port : Fin 2) (off : Nat) : Byte :=
  Map.get (if off < 144 ∧ off % 16 = 12 then 1 else 0) s.bar2 (port.val * 65536 + off)
/-- The word at `a` counts one more, up to 2^64 - 1 (R497). -/
def oneMore (s : State) (a : Nat) : Nat := if s.peekNat a 8 + 1 < 2 ^ 64 then s.peekNat a 8 + 1 else 2 ^ 64 - 1

/-- The words of a completion record (R427, R432). -/
def completionWords (die : Fin 8) (seq word1 : Nat) (tval : Word) (tpc : Nat) : List (Nat × Nat) :=
  let a := 0x900000 + die.val * 0x20000 + 32 * (seq % 4096)
  [(a, seq), (a + 8, word1), (a + 16, tval.toNat), (a + 24, tpc)]
/-- A field of the launch record in the slot of a sequence number (R427, R430): `n` bytes from byte `off`. -/
def recordAt (s : State) (die : Fin 8) (seq off n : Nat) : Nat := s.peekNat (0x100000 + die.val * 0x100000 + 256 * (seq % 4096) + off) n
/-- A field of a record is out of range, whatever the state of the machine (R431, checks 1 to 4; R40). -/
def recordBad (f : Nat → Nat → Nat) (seq : Nat) : Prop :=
  let w := f 24 8; let lease := f 56 8
  f 0 8 ≠ seq ∨ w / 2 ^ 51 % 2 = 1 ∨ w / 2 ^ 59 ≠ 0 ∨ f 36 4 ≠ 0 ∨ f 84 4 ≠ 0 ∨ (∃ k < 21, f (88 + 8 * k) 8 ≠ 0)
    ∨ f 8 8 % 2 = 1 ∨ seq ≤ f 40 8 ∨ f 72 8 % 8 ≠ 0 ∨ lease / 2 ^ 4 % 16 ≠ 0 ∨ lease / 2 ^ 40 ≠ 0
    ∨ w / 2 ^ 32 % 2 ^ 16 = 0 ∨ 1344 < w / 2 ^ 32 % 2 ^ 16 ∨ f 32 4 = 0 ∨ 4 < w / 2 ^ 48 % 8 ∨ 65536 < w % 2 ^ 32
/-- Quartets per hart of the code QPH (R40). -/
def quartetsFor (code : Nat) : Nat := [0, 1, 2, 4, 8].getD code 0
/-- The second word, TVAL and TPC of a completed launch (R432, R433). -/
def faultWord (l : Launch) : Nat :=
  (if l.rerun then 2 ^ 27 else 0) + (match l.fault with
    | none => 0
    | some (e, index, g, _) => (if e.cause = .integrity then 2 else 1) + causeCode e.cause * 2 ^ 8 + index * 2 ^ 16 + g * 2 ^ 32)
@[inherit_doc faultWord] def faultTval (l : Launch) : Word := match l.fault with | none => 0 | some (e, _, _, _) => e.tval
@[inherit_doc faultWord] def faultPc (l : Launch) : Nat := match l.fault with | none => 0 | some (_, _, _, tpc) => tpc
/-- The sequence number follows DONESEQ with nothing done behind it: DONESEQ and its word move to it (R437). -/
def advances (s t : State) (die : Fin 8) (seq : Nat) : Prop :=
  seq = (s.die die).doneseq + 1 → (s.die die).doneset = [] →
    (t.die die).doneseq = seq ∧ (let done := 0x1000 + die.val * 0x1000 + 128
      s.permits (s.targetOf done) 0 .w = true → t.peekNat done 8 = seq % 2 ^ 64)
/-- Gangs of a launch with areas of their own (R438), and the GANGID of one (R39). -/
def areasOf (l : Launch) : Nat := max 1 (min l.gangs (1344 / max 1 l.harts))
/-- Slot `i` holds no hart and no shadow of a paired one (R47, R498). -/
def slotFree (v : State) (i : HartId) : Prop :=
  (v.hart i).st = .empty ∧ ∀ j : HartId, j.die = i.die → j.slot = i.slot → i.core.val % 2 = 1 → j.core.val + 1 = i.core.val →
    (v.hart j).st = .empty ∨ (v.hart j).id.paired = false
/-- A hart of `q` quartets, or a pair, can be placed in slot `i` of a die with the block from `b` up (R44, R498, R501). -/
def canTake (v : State) (die : Fin 8) (q : Nat) (pair : Bool) (i : HartId) (b : Nat) : Prop :=
  i.die = die ∧ i.slot ≠ 7 ∧ v.coreDown (coreOf i) = false ∧ slotFree v i
    ∧ (if q = 0 then b = 0 else blockFree v (coreOf i) q b)
    ∧ (pair = true → i.core.val % 2 = 0 ∧ slotFree v (partner i) ∧ (q = 0 ∨ blockFree v (coreOf (partner i)) q b))
@[inherit_doc areasOf] def gangIdOf (seq g : Nat) : Word := BitVec.ofNat 64 (seq % 2 ^ 32 * 2 ^ 32 + g)

/-- The engines of the hart are not paused (R344). -/
def serving (x : Hart) : Prop := x.st = .running ∨ x.st = .waiting ∨ x.st = .stopping
/-- The events that take a closed convoy on, with the phase each takes up (R167, R257). -/
noncomputable def convoyEvents : List ((HartId → Instr) × Phase) := [(.convoyStart, .start), (.streamTrim, .trim), (.convoyDrain, .drain)]

/-- The number of an element of a swage (R306), and a finite value as a real number. -/
def swageNumber (fmt x : Nat) : FVal :=
  if fmt = 0 then .fin (decide (128 ≤ x)) (if 128 ≤ x then 256 - x else x) 0 else if fmt = 1 then Fmt.e4m3.value x else Fmt.bf16.value x
@[inherit_doc swageNumber] noncomputable def realValue (v : Option FVal) : ℝ := match v with | some (.fin s m e) => realOf s m e | _ => 0
/-- The FP32 score of the row `w` against the query `q` (R310). -/
def IsScore (fmt : Nat) (w q : List Nat) (score : Nat) : Prop :=
  let ps := (w.zip q).map fun p => (swageNumber fmt p.1).mul (swageNumber fmt p.2)
  let bad := none ∈ ps ∨ (∃ b, some (.nan b) ∈ ps) ∨ (some (.inf false) ∈ ps ∧ some (.inf true) ∈ ps)
  let v := (ps.map realValue).sum
  (bad → score = 0x7FC00000)
  ∧ (¬bad → (some (.inf false) ∈ ps → score = 0x7F800000) ∧ (some (.inf true) ∈ ps → score = 0xFF800000))
  ∧ (¬bad → some (.inf false) ∉ ps → some (.inf true) ∉ ps →
      (v = 0 → fmt ≠ 0 → (∀ p ∈ ps, ∃ e, p = some (.fin true 0 e)) → score = 0x80000000)
      ∧ (v = 0 → (fmt = 0 ∨ ∃ p ∈ ps, ∀ e, p ≠ some (.fin true 0 e)) → score = 0)
      ∧ (∀ s, v ≠ 0 → (s = true ↔ v < 0) → ∃ fl, Rounds .f32 .rne s v (score, fl)))
/-- The integer of a Tongs element of format 0 to 5, its bits, and the floating format of a selection otherwise (R306). -/
def tongsBits (fmt : Nat) : Nat := if fmt % 3 = 0 then 8 else if fmt % 3 = 1 then 16 else 32
@[inherit_doc tongsBits] def tongsInt (fmt x : Nat) : Int := if fmt ≤ 2 ∧ 2 ^ (tongsBits fmt - 1) ≤ x then (x : Int) - 2 ^ tongsBits fmt else x
@[inherit_doc tongsBits] def tongsFmt (kind fmt : Nat) : Fmt := if kind = 0 ∨ fmt = 8 then .f32 else if fmt = 6 then .f16 else .bf16
/-- The condition CMP between an element and the thresholds, with the order and equality of its format (R306, R312). -/
def Holds {α : Type} (cmp : Nat) (lt eq : α → α → Prop) (nan : α → Prop) (v l u : α) : Prop :=
  let within := (lt l v ∨ eq l v) ∧ (lt v u ∨ eq v u)
  match cmp with
  | 0 => eq v l | 1 => ¬eq v l | 2 => lt v l | 3 => lt v l ∨ eq v l | 4 => lt l v | 5 => lt l v ∨ eq l v | 6 => within
  | _ => ¬nan v ∧ ¬nan l ∧ ¬nan u ∧ ¬within
/-- A pattern is no NaN, and `x` comes before `y` by value (R313). -/
def Eligible (kind fmt x : Nat) : Prop := kind = 2 ∧ fmt ≤ 5 ∨ ((tongsFmt kind fmt).value x).isNaN = false
@[inherit_doc Eligible] def Better (kind fmt : Nat) (smallest : Bool) (x y : Nat) : Prop :=
  let lt := fun (a b : Nat) => if kind = 2 ∧ fmt ≤ 5 then tongsInt fmt a < tongsInt fmt b
    else ((tongsFmt kind fmt).value a).lt ((tongsFmt kind fmt).value b) = true
  if smallest then lt x y else lt y x
/-- `l` holds the first `k` of the eligible pairs of `es` in the order of R313. -/
def IsTopK (kind fmt : Nat) (smallest : Bool) (k : Nat) (es l : List (Nat × Nat)) : Prop :=
  let before := fun (p q : Nat × Nat) => Better kind fmt smallest p.2 q.2 ∨ ¬Better kind fmt smallest q.2 p.2 ∧ p.1 < q.1
  l.Pairwise before ∧ (∀ p ∈ l, p ∈ es ∧ Eligible kind fmt p.2) ∧ l.length ≤ k
    ∧ ∀ p ∈ es, Eligible kind fmt p.2 → p ∉ l → l.length = k ∧ ∀ q ∈ l, before q p
/-- A result pair: the index above the value, which a signed integer extends (R309). -/
def pairOf (kind fmt n x : Nat) : Nat := n % 2 ^ 32 * 2 ^ 32 + (if kind = 2 ∧ fmt ≤ 2 then (tongsInt fmt x % 2 ^ 32).toNat else x % 2 ^ 32)
/-- The pattern that a cell is read out as (R111). -/
def IsReadOut (g : Fmt) (cell p : Nat) : Prop :=
  let c := (BitVec.ofNat 128 cell).toInt; let infinity := g.maxFinite + 1
  if cell = 2 ^ 127 - 1 then p = infinity else if cell = 2 ^ 127 then p = 2 ^ (g.width - 1) + infinity
  else if cell = 2 ^ 127 + 1 then p = g.canonicalNaN else if c = 0 then p = 0
  else ∃ fl, Rounds g .rne (decide (c < 0)) (c * 2 ^ (-64 : Int)) (p, fl)
/-- Columns of a pool row (R306). -/
def columnsOf (ctrl : Nat) : Nat := 2 ^ (ctrl / 2 ^ 32 % 16) / [4, 2, 2, 1, 4].getD (ctrl / 2 ^ 4 % 16) 1
/-- Entries of the interlock table other than those of a stream's transfer. -/
def without (x : Hart) (st : Fin 16) : List Entry := x.ilock.filter fun e => !(e.stream == st && e.kind != .seal && e.kind != .unseal)
@[inherit_doc without] def withProgress (x : Hart) (st : Fin 16) (n : Nat) : List Entry :=
  x.ilock.map fun e => if e.stream == st && e.kind != .seal && e.kind != .unseal then { e with progress := n } else e

/-- The memory control block word 8 (REFCTL) of a die, and the power word of a module channel (R480, R486, R487). -/
def refctl (die : Nat) : Nat := 0xA0000 + die * 0x1000 + 64
@[inherit_doc refctl] def powerWord (ch : Nat) : Nat := 0xA0000 + ch / 64 * 0x1000 + 256 + 8 * (ch % 64)
/-- A bank in which a per-bank refresh has begun (R482). -/
def refreshing (b : Bank) (now : Nat) : Bank := { b with refresh := true, owed := false, free := now + 320 }
/-- The rows of a channel with the event each is (R483, R484, R487). -/
noncomputable def channelRows (ch : Fin 512) (bank : Fin 32) (set : Fin 8) : List (Instr × MemEvent) :=
  [(.memoryRequestServe ch bank, .serve bank.val), (.refreshDue ch bank, .due bank.val), (.refreshEnd ch bank, .endRefresh bank.val),
   (.bankAccessEnd ch bank, .endAccess bank.val), (.bankSetIdle ch set, .pay set.val), (.channelStateChangeComplete ch, .changed)]
/-- Cycles to leave PDOWN, and SREF (R487). -/
def leaving (state : Nat) : Nat := if state = 1 then 30 else 500
/-- The hops of R19 between two dies. -/
def hopsBetween (d e : Nat) : Nat := (d / 4 - e / 4 + (e / 4 - d / 4)) + (d % 4 - e % 4 + (e % 4 - d % 4))

/-- The fleet block of a die (R497). -/
def fleet (die : Nat) : Nat := 0xB0000 + die * 0x1000
/-- The picoseconds that an emergency of a die has lasted, by its clock as it was (R209, R507). -/
def lasted (x : Die) (now : Nat) : Option Nat := x.emergency.map fun e => e.2 + (now - e.1) * 1000000 / max 1 x.clkMHz
/-- The highest clock at a temperature (R507). -/
def hotClock (t : Nat) : Nat := if t ≤ 95 then 2000 else if 105 ≤ t then 1000 else 2000 - 100 * (t - 95)

/-- Nothing but the issue slot of the core in focus takes the next step, and the barrel gives it to `i`, whose next instruction can
issue, leaving `t` (R47, R51, log 1). -/
def issues (s : State) (i : HartId) (t : State) : Prop :=
  s.agenda = [] ∧ s.booted = true ∧ s.coreRow = none ∧ (s.cycle % 2 = 1 → s.otherRow = none) ∧ s.tried.barrel = (some i, t)
/-- The step from `s` answers `u` with what every step adds to the state that it acts on, `q`: the scratchpad banks serve (R32), a cycle
passes, and the model's own fields (log 1, 4, 5, 9). -/
def stepsTo (s q u : State) : Prop :=
  step s = .next { u.bankCycle with
    cycle := u.cycle + 1, fresh := u.fresh + 1, stalled := if u.stalled = q.stalled then [] else u.stalled, focus := u.nextFocus }
/-- The current hart at the next instruction behind its convoy in flight: its PC, x registers, INSTRET, trap registers and flags stand
where the instructions behind that convoy have come to, and the convoy is put aside (R168, R400). -/
def behind (s : State) : State :=
  let f := s.h.front
  s.setHart s.cur { s.h with
    pc := f.pc, x := f.x, instret := f.instret, trap := f.trap, inh := f.inh, vs := { s.h.vs with flags := s.h.vs.flags ||| f.flags },
    phase := .open, convoy := [], ahead := none, waited := Waited.reset }
/-- The instruction `e` reads no register that the convoy in flight is still to write, nor one that a load has yet to return; and where it
accesses memory it is a plain load of bytes that neither the convoy nor a store behind it may still access (R125, R168, R189). -/
def free (q : State) (e : Instr) : Prop :=
  (∀ r ∈ e.xReads, r ∈ q.h.front.wrote ∨ ∀ m ∈ q.h.convoy, m.op.xdest ≠ some r) ∧ (behind q).awaitsLoad q.cur e.xReads = false
    ∧ e.stores = none
    ∧ match e.loads with
      | some (a, k, n) => q.clearOf ((behind q).getX a + k).toNat n = true
      | none => e.quiet = true

/-- A word made of fields, each with its width, from the highest bits down. -/
def fields (fs : List (Nat × Nat)) : Nat := fs.foldl (fun w f => w * 2 ^ f.2 + f.1) 0
/-- No instruction: the word is refused. -/
def refusedWord (w : Nat) : Prop := ∃ r, decodeBits w = .error r

end Sys2Proof.Claims

open Sys2Proof Sys2Proof.Machine Sys2Proof.Claims

/-- OP: the result of each register-register operation and of each count, and nothing else changes (R182, R183, R180). -/
def Obligations.OperationResults : Prop :=
  (∀ p ∈ binaryOps, ∀ (d a b : Fin 32) (s : State),
        exec (p.1 d a b) s = .next (s.wrote 4 d (p.2 (s.getX a) (s.getX b))))
    ∧ (∀ p ∈ countOps, ∀ (d a : Fin 32) (s : State),
        exec (p.1 d a) s = .next (s.wrote 4 d (BitVec.ofNat 64 (p.2 (s.getX a)))))

/-- OPI, LUI, AUIPC and the compressed arithmetic: the result of each, and nothing else changes (R184, R186, R155, R221,
R222). -/
def Obligations.ImmediateResults : Prop :=
  (∀ p ∈ immediateOps, ∀ (d a : Fin 32) (i : BitVec 11) (s : State), exec (p.1 d a i) s = .next (s.wrote 4 d (p.2 (s.getX a) i)))
    ∧ (∀ p ∈ shiftOps, ∀ (d a : Fin 32) (n : BitVec 6) (s : State), exec (p.1 d a n) s = .next (s.wrote 4 d (p.2 (s.getX a) n.toNat)))
    ∧ (∀ (d : Fin 32) (i : BitVec 19) (s : State),
        exec (.lui d i) s = .next (s.wrote 4 d (BitVec.ofInt 64 (i.toInt * 2048)))
          ∧ exec (.auipc d i) s = .next (s.wrote 4 d (BitVec.ofInt 64 (s.h.pc.toNat + i.toInt * 2048))))
    ∧ (∀ (d b : Fin 32) (i : BitVec 6) (s : State),
    (∀ (e : Fin 8) (j : BitVec 8),
        exec (.cAddisp e j) s = .next (s.wrote 2 ⟨8 + e.val, by omega⟩ (BitVec.ofNat 64 ((s.getX 2).toNat + 4 * j.toNat))))
    ∧ exec (.cAddi d i) s = .next (s.wrote 2 d (BitVec.ofInt 64 ((s.getX d).toInt + i.toInt)))
    ∧ exec (.cLi d i) s = .next (s.wrote 2 d (BitVec.ofInt 64 i.toInt))
    ∧ exec (.cMv d b) s = .next (s.wrote 2 d (s.getX b))
    ∧ exec (.cAdd d b) s = .next (s.wrote 2 d (BitVec.ofNat 64 ((s.getX d).toNat + (s.getX b).toNat))))

/-- OPW and OPIW: the 32-bit forms compute on the low halves and write the sign extension (R185, R183). -/
def Obligations.WordOperationResults : Prop :=
  (∀ p ∈ wordOps, ∀ (d a b : Fin 32) (s : State),
        exec (p.1 d a b) s
          = .next (s.wrote 4 d ((p.2 ((s.getX a).setWidth 32) ((s.getX b).setWidth 32)).signExtend 64)))
    ∧ (∀ p ∈ wordShifts, ∀ (d a : Fin 32) (n : BitVec 5) (s : State),
        exec (p.1 d a n) s = .next (s.wrote 4 d ((p.2 ((s.getX a).setWidth 32) n.toNat).signExtend 64)))
    ∧ (∀ (d a : Fin 32) (i : BitVec 11) (s : State),
        exec (.addiw d a i) s
          = .next (s.wrote 4 d ((BitVec.ofInt 32 (((s.getX a).setWidth 32).toInt + i.toInt)).signExtend 64)))

/-- Division: rounding, signs and the two corner cases (R183). -/
def Obligations.DivisionNeverTraps : Prop :=
  ∀ (d a b : Fin 32) (s : State), let x := s.getX a; let y := s.getX b
    (∃ q r : Word, exec (.div d a b) s = .next (s.wrote 4 d q) ∧ exec (.rem d a b) s = .next (s.wrote 4 d r)
        ∧ (y.toInt = 0 → q = BitVec.allOnes 64 ∧ r = x)
        ∧ (x.toInt = -2 ^ 63 ∧ y.toInt = -1 → q.toInt = -2 ^ 63 ∧ r.toInt = 0)
        ∧ (y.toInt ≠ 0 ∧ ¬(x.toInt = -2 ^ 63 ∧ y.toInt = -1) →
            x.toInt = q.toInt * y.toInt + r.toInt ∧ r.toInt.natAbs < y.toInt.natAbs ∧ (r.toInt = 0 ∨ (r.toInt < 0 ↔ x.toInt < 0))))
    ∧ (∃ q r : Word, exec (.divu d a b) s = .next (s.wrote 4 d q) ∧ exec (.remu d a b) s = .next (s.wrote 4 d r)
        ∧ (y.toNat = 0 → q = BitVec.allOnes 64 ∧ r = x)
        ∧ (y.toNat ≠ 0 → x.toNat = q.toNat * y.toNat + r.toNat ∧ r.toNat < y.toNat))

/-- Jumps and branches: the target, the link and the condition, and nothing else changes (R194, R195, R221, R222, R155). -/
def Obligations.ControlTransfers : Prop :=
  (∀ (d a : Fin 32) (s : State), let pc : Int := s.h.pc.toNat
    (∀ i : BitVec 19, exec (.jal d i) s = .next (s.wentTo d (BitVec.ofInt 64 (pc + 4)) (target (pc + 2 * i.toInt))))
    ∧ (∀ i : BitVec 11, exec (.jalr d a i) s
        = .next (s.wentTo d (BitVec.ofInt 64 (pc + 4)) (target ((s.getX a).toNat + i.toInt))))
    ∧ (∀ i : BitVec 11, exec (.cJ i) s = .next (s.wentTo 0 0 (target (pc + 2 * i.toInt))))
    ∧ exec (.cJr a) s = .next (s.wentTo 0 0 (target (s.getX a).toNat))
    ∧ exec (.cJalr a) s = .next (s.wentTo 1 (BitVec.ofInt 64 (pc + 2)) (target (s.getX a).toNat)))
    ∧ (∀ s : State, let pc : Int := s.h.pc.toNat
    (∀ p ∈ branches, ∀ (a b : Fin 32) (i : BitVec 12), exec (p.1 a b i) s
        = .next (s.wentTo 0 0 (if p.2 (s.getX a) (s.getX b) then target (pc + 2 * i.toInt) else BitVec.ofInt 56 (pc + 4))))
    ∧ (∀ (a : Fin 8) (i : BitVec 8), let x := s.getX ⟨8 + a.val, by omega⟩
        exec (.cBeqz a i) s = .next (s.wentTo 0 0 (if x.toNat = 0 then target (pc + 2 * i.toInt) else BitVec.ofInt 56 (pc + 2)))
          ∧ exec (.cBnez a i) s = .next (s.wentTo 0 0 (if x.toNat ≠ 0 then target (pc + 2 * i.toInt) else BitVec.ofInt 56 (pc + 2)))))

/-- Loads: xd receives the little-endian bytes at the address, sign- or zero-extended; nothing else changes (R187, R188,
R189, R190, R221). -/
def Obligations.LoadsReadMemory : Prop :=
  ∀ s : State, s.Quiet → s.Sound → ∀ (d a : Fin 32) (ps : List (Target × Nat)),
    (∀ p ∈ loads, ∀ i : BitVec 11, s.Reaches (s.getX a + i.signExtend 64) p.2.1 .read ps →
        loadsWord (p.1 d a i) s 4 d (extended p.2.1 p.2.2 (s.bytesOf ps)) false)
    ∧ (∀ p ∈ orderedLoads, ∀ (sc : BitVec 3) (ord : BitVec 1), (s.getX a).toNat % p.2.1 = 0 →
        s.Reaches (s.getX a) p.2.1 .read ps →
        loadsWord (p.1 d a sc ord) s 4 d (extended p.2.1 p.2.2 (s.bytesOf ps)) (ord == 1))
    ∧ (∀ (e b : Fin 8) (i : BitVec 5), let x := s.getX ⟨8 + b.val, by omega⟩
        (s.Reaches (x + BitVec.ofNat 64 (8 * i.toNat)) 8 .read ps →
          loadsWord (.cLd e b i) s 2 ⟨8 + e.val, by omega⟩ (extended 8 false (s.bytesOf ps)) false)
        ∧ (s.Reaches (x + BitVec.ofNat 64 (4 * i.toNat)) 4 .read ps →
          loadsWord (.cLw e b i) s 2 ⟨8 + e.val, by omega⟩ (extended 4 true (s.bytesOf ps)) false))
    ∧ (∀ i : BitVec 6, s.Reaches (s.getX 2 + BitVec.ofNat 64 (8 * i.toNat)) 8 .read ps →
        loadsWord (.cLdsp d i) s 2 d (extended 8 false (s.bytesOf ps)) false)

/-- Stores: exactly the bytes at the address change, to the low bytes of xb; no register changes (R187, R188, R189, R190,
R221). A release part that has to wait leaves the hart as log 16 says; nothing is in flight here. -/
def Obligations.StoresWriteMemory : Prop :=
  ∀ s : State, s.Quiet → s.Sound → ∀ (a b : Fin 32) (ps : List (Target × Nat)), ordinary ps →
    (∀ p ∈ stores, ∀ i : BitVec 11, s.Reaches (s.getX a + i.signExtend 64) p.2 .write ps →
        storesWord (p.1 a b i) s 4 p.2 (s.getX b) ps)
    ∧ (∀ p ∈ orderedStores, ∀ (sc : BitVec 3) (ord : BitVec 1), (s.getX a).toNat % p.2 = 0 →
        s.Reaches (s.getX a) p.2 .write ps → storesWord (p.1 a b sc ord) s 4 p.2 (s.getX b) ps)
    ∧ (∀ (e c : Fin 8) (i : BitVec 5), let x := s.getX ⟨8 + e.val, by omega⟩; let v := s.getX ⟨8 + c.val, by omega⟩
        (s.Reaches (x + BitVec.ofNat 64 (8 * i.toNat)) 8 .write ps → storesWord (.cSd e c i) s 2 8 v ps)
        ∧ (s.Reaches (x + BitVec.ofNat 64 (4 * i.toNat)) 4 .write ps → storesWord (.cSw e c i) s 2 4 v ps))
    ∧ (∀ i : BitVec 6, s.Reaches (s.getX 2 + BitVec.ofNat 64 (8 * i.toNat)) 8 .write ps →
        storesWord (.cSdsp b i) s 2 8 (s.getX b) ps)

/-- Atomics on a doubleword: xd receives the old value, memory the new one, and no other byte changes (R131, R190, R191,
R193, R60). That an atomic with release waits in the hart, and an amocas that fails releases nothing, is log 16. -/
def Obligations.AtomicsExchange : Prop :=
  ∀ s : State, s.Quiet → s.Sound → ∀ (d a b : Fin 32) (sc : BitVec 3) (loc : Nat) (ty : MemTy), 0xB8000 ≤ loc →
    (s.getX a).toNat % 8 = 0 → s.Reaches (s.getX a) 8 .rmw [(.mem loc ty, 8)] →
    let old := BitVec.ofNat 64 (s.peekNat loc 8)
    (∀ p ∈ atomics, ∀ ord : BitVec 2, exchanges (p.1 d a b sc ord) s loc (p.2 old (s.getX b)) d old (ord.getLsbD 0))
    ∧ (∀ ord : BitVec 2, old = s.getX d → exchanges (.amocas d a b sc ord) s loc (s.getX b) d old (ord.getLsbD 0))
    ∧ (∀ ord : BitVec 2, old ≠ s.getX d →
        exec (.amocas d a b sc ord) s = .next ((s.acquire (ord.getLsbD 0)).wrote 4 d old))
    ∧ (∀ o : BitVec 1, exchanges (.barArrive d a sc o) s loc (arrived old) d (BitVec.ofNat 64 (old.toNat / 2 ^ 48)) (o == 1))

/-- FX128 adds: the 16-byte cell receives fx_add of the converted operand, and xd its class; what the conversion and
fx_add give (R192, R112, R113, R190). Where finite inputs overflow before a marker of the other sign comes, R113 and
the marker case of R114 differ: fx_add is that of R113 (log 112). -/
def Obligations.FixedPointAdds : Prop :=
  ∀ s : State, s.Quiet → s.Sound → ∀ (d a b : Fin 32) (sc : BitVec 3) (ord : BitVec 2) (loc : Nat) (ty : MemTy),
    0xB8000 ≤ loc → (s.getX a).toNat % 16 = 0 → s.Reaches (s.getX a) 16 .rmw [(.mem loc ty, 16)] → ∀ p ∈ fxAtomics,
    let cell := fxAdd (s.peekNat loc 16) (p.2 (s.getX b))
    ∃ t, exec (p.1 d a b sc ord) s = .next t
      ∧ (∀ c, t.peek c = if loc ≤ c ∧ c < loc + 16 then (leBytes 16 cell).getD (c - loc) 0 else s.peek c)
      ∧ s.exchangedOnly t d (BitVec.ofNat 64 (cellClass cell)) (ord.getLsbD 0)
      ∧ (∀ i : Int, fxOfInt i = cellOf (i * 2 ^ 64))
      ∧ (∀ (neg : Bool) (m : Nat) (e : Int), ∃ k : Nat, (k : ℝ) ≤ m * 2 ^ (e + 64) ∧ m * 2 ^ (e + 64) < (k : ℝ) + 1
          ∧ fxOfFloat (.fin neg m e) = cellOf (if neg then -k else k))
      ∧ fxOfFloat (.inf false) = 2 ^ 127 - 1 ∧ fxOfFloat (.inf true) = 2 ^ 127 ∧ (∀ q, fxOfFloat (.nan q) = 2 ^ 127 + 1)
      ∧ ∀ x y : BitVec 128, let cls := fun (v : BitVec 128) => cellClass v.toNat
          fxAdd x.toNat y.toNat
            = if cls x = 3 ∨ cls y = 3 ∨ cls x + cls y = 3 ∧ cls x ≠ 0 ∧ cls y ≠ 0 then 2 ^ 127 + 1
              else if cls x = 1 ∨ cls y = 1 then 2 ^ 127 - 1 else if cls x = 2 ∨ cls y = 2 then 2 ^ 127 else cellOf (x.toInt + y.toInt)

/-- Loads and stores: a fault of translation traps with no byte read or written, and a miss waits (R188, R190, R180, R450,
R455). -/
def Obligations.AccessFaultsTrap : Prop :=
  ∀ s : State, s.Quiet → s.Sound → ∀ (d a b : Fin 32) (i : BitVec 11), let va := s.getX a + i.signExtend 64
    (∀ p ∈ loads,
      (∀ e, s.pieces s.cur va.toNat p.2.1 .read = .trap e →
        exec (p.1 d a i) s = .next ((faultNoted s e).takeTrap e s.h.pc false 0))
      ∧ (∀ m c, s.pieces s.cur va.toNat p.2.1 .read = .miss m c → exec (p.1 d a i) s = .next ((issueNoted s).missed m c)))
    ∧ (∀ p ∈ stores,
      (∀ e, s.pieces s.cur va.toNat p.2 .write = .trap e → exec (p.1 a b i) s = .next (s.takeTrap e s.h.pc false 0))
      ∧ (∀ m c, s.pieces s.cur va.toNat p.2 .write = .miss m c → exec (p.1 a b i) s = .next (s.missed m c)))
    ∧ (∀ p ∈ orderedLoads, ∀ (sc : BitVec 3) (o : BitVec 1), (s.getX a).toNat % p.2.1 ≠ 0 →
        exec (p.1 d a sc o) s = .next (s.takeTrap { cause := .align, acc := .read, tval := s.getX a } s.h.pc false 0))
    ∧ (∀ p ∈ orderedStores, ∀ (sc : BitVec 3) (o : BitVec 1), (s.getX a).toNat % p.2 ≠ 0 →
        exec (p.1 a b sc o) s = .next (s.takeTrap { cause := .align, acc := .write, tval := s.getX a } s.h.pc false 0))
    ∧ (∀ p ∈ atomics, ∀ (sc : BitVec 3) (o : BitVec 2), (s.getX a).toNat % 8 ≠ 0 →
        exec (p.1 d a b sc o) s = .next (s.takeTrap { cause := .align, acc := .rmw, tval := s.getX a } s.h.pc false 0))
    ∧ (∀ p ∈ fxAtomics, ∀ (sc : BitVec 3) (o : BitVec 2), (s.getX a).toNat % 16 ≠ 0 →
        exec (p.1 d a b sc o) s = .next (s.takeTrap { cause := .align, acc := .rmw, tval := s.getX a } s.h.pc false 0))

/-- Scalar floating point: each result once rounded, flags accrued, ARITH where a raised flag is enabled (R196, R197,
R198, R199, R103). -/
def Obligations.FloatResults : Prop :=
  ∀ (d a b c : Fin 32) (f : BitVec 2) (rm : BitVec 3) (s : State),
    let g := fmtOf f; let x := (s.getX a).toNat; let y := (s.getX b).toNat; let z := (s.getX c).toNat; let r := modeOf s rm
    (∀ p ∈ roundingOps, exec (p.1 d a b f rm) s = .next (s.floats d (p.2 g r (g.value x) (g.value y))))
    ∧ exec (.fsqrt d a f rm) s = .next (s.floats d (g.root r (g.value x)))
    ∧ (∀ p ∈ exactOps, exec (p.1 d a b f) s = .next (s.floats d (p.2 g x y)))
    ∧ (∀ p ∈ fusedOps, exec (p.1 d a b c f) s
        = .next (s.floats d (p.2 g (modeOf s 7) (g.value x) (g.value y) (g.value z))))
    ∧ exec (.fclass d a f) s = .next (s.wrote 4 d (BitVec.ofNat 64 (g.classify x)))
    ∧ (∀ ty : BitVec 5, ty.toNat < 4 →
        (let q := toInteger r (itSigned ty) (itBits ty) (g.value x)
         exec (.fcvtItFmt d a ty f rm) s
           = .next (s.floats d (if ty = 2 then ((BitVec.ofNat 32 q.1).signExtend 64).toNat else q.1, q.2)))
        ∧ exec (.fcvtFmtIt d a ty f rm) s = .next (s.floats d (g.roundInt r
            (if itSigned ty then (BitVec.ofNat (itBits ty) x).toInt else ((x % 2 ^ itBits ty : Nat) : Int)) 0)))
    ∧ (∀ (ty : BitVec 5) (h : Fmt), Fmt.ofCode ty.toNat = some h →
        exec (.fcvtFmtSf d a ty f rm) s = .next (s.floats d (g.convert r (h.value x))))

/-- Rounding: the number each mode picks, overflow, underflow and inexactness; values kept; sums, products, quotients,
roots and orders in real numbers (R97, R98, R99, R100, R101, R103, R104, R105, R197, R198). -/
def Obligations.RoundingKeepsValues : Prop :=
  (∀ q ∈ formats, let g := q.1; let eb := q.2.1; let fb := q.2.2.1
        g.width = 1 + eb + fb ∧ g.fracBits = fb ∧ g.bias = q.2.2.2.1 ∧ g.maxFinite = q.2.2.2.2.1 ∧ g.canonicalNaN = q.2.2.2.2.2
        ∧ ∀ (S : Bool) (E F : Nat), E < 2 ^ eb → F < 2 ^ fb →
          g.value ((if S then 2 ^ (eb + fb) else 0) + E * 2 ^ fb + F) = meaning g eb fb q.2.2.2.1 S E F)
    ∧ (∀ (g : Fmt) (r : Rnd) (p : Nat), p < 2 ^ g.width → ∀ s m e, g.value p = .fin s m e → g.round r s m e = (p, 0))
    ∧ (∀ (g : Fmt) (r : Rnd) (s : Bool) (m : Nat) (e : Int), (g.round r s m e).1 < 2 ^ g.width
        ∧ (m = 0 → g.round r s m e = zeroOf g s) ∧ (m ≠ 0 → Rounds g r s (realOf s m e) (g.round r s m e)))
    ∧ (∀ (g : Fmt) (r : Rnd) (s t u : Bool) (m n k : Nat) (e f i : Int),
        let x := FVal.fin s m e; let y := FVal.fin t n f; let z := FVal.fin u k i
        let a := realOf s m e; let b := realOf t n f; let c := realOf u k i
        (a + b = 0 → g.sum r x y = zeroOf g (if s = t then s else decide (r = .rdn)))
        ∧ (∀ v, a + b ≠ 0 → (v = true ↔ a + b < 0) → Rounds g r v (a + b) (g.sum r x y))
        ∧ (a * b = 0 → g.product r x y = zeroOf g (s != t)) ∧ (a * b ≠ 0 → Rounds g r (s != t) (a * b) (g.product r x y))
        ∧ (a * b + c = 0 → g.fused r x y z = zeroOf g (if (s != t) = u then u else decide (r = .rdn)))
        ∧ (∀ v, a * b + c ≠ 0 → (v = true ↔ a * b + c < 0) → Rounds g r v (a * b + c) (g.fused r x y z))
        ∧ (b ≠ 0 → (a = 0 → g.quotient r x y = zeroOf g (s != t)) ∧ (a ≠ 0 → Rounds g r (s != t) (a / b) (g.quotient r x y)))
        ∧ (g ∈ ieee → b = 0 → g.quotient r x y = if m = 0 then nanOf g true
            else ((if s = t then 0 else 2 ^ (g.width - 1)) + g.maxFinite + 1, 8))
        ∧ (a = 0 → g.root r x = zeroOf g s) ∧ (a < 0 → g.root r x = nanOf g true)
        ∧ (0 < a → Rounds g r false (Real.sqrt a) (g.root r x))
        ∧ x.mul y = some (.fin (s != t) (m * n) (e + f)) ∧ x.neg = .fin (!s) m e
        ∧ (FVal.inf s).mul y = (if n = 0 then none else some (.inf (s != t))) ∧ y.mul (.inf s) = (FVal.inf s).mul y
        ∧ (FVal.inf s).mul (.inf t) = some (.inf (s != t))
        ∧ (x.lt y = true ↔ a < b) ∧ (x.eq y = true ↔ a = b)
        ∧ (FVal.inf s).lt y = s ∧ x.lt (.inf t) = !t ∧ (FVal.inf s).lt (.inf t) = (s && !t)
        ∧ (g ∈ ieee → let infinite := fun (v : Bool) => ((if v then 2 ^ (g.width - 1) else 0) + g.maxFinite + 1, (0 : Flags))
            g.sum r (.inf s) y = infinite s ∧ g.sum r x (.inf t) = infinite t
            ∧ g.sum r (.inf s) (.inf t) = (if s = t then infinite s else nanOf g true)
            ∧ g.product r (.inf s) y = (if n = 0 then nanOf g true else infinite (s != t))
            ∧ g.product r (.inf s) (.inf t) = infinite (s != t)
            ∧ g.quotient r (.inf s) y = infinite (s != t) ∧ g.quotient r x (.inf t) = zeroOf g (s != t)
            ∧ g.quotient r (.inf s) (.inf t) = nanOf g true))
    ∧ (∀ g ∈ ieee, ∀ (r : Rnd) (q : Bool) (y : FVal), let x := FVal.nan q; let bad := q || y.signals
        g.sum r x y = nanOf g bad ∧ g.sum r y x = nanOf g bad ∧ g.product r x y = nanOf g bad ∧ g.product r y x = nanOf g bad
        ∧ g.quotient r x y = nanOf g bad ∧ g.quotient r y x = nanOf g bad ∧ g.root r x = nanOf g q
        ∧ x.mul y = some (.nan bad) ∧ y.mul x = some (.nan bad)
        ∧ x.lt y = false ∧ y.lt x = false ∧ x.eq y = false ∧ y.eq x = false)
    ∧ (∀ (r : Rnd) (signed : Bool) (w : Nat) (s : Bool) (m : Nat) (e : Int), 1 ≤ w →
        let lo : Int := if signed then -2 ^ (w - 1) else 0
        let hi : Int := if signed then 2 ^ (w - 1) - 1 else 2 ^ w - 1
        let pattern := fun (i : Int) => (i % 2 ^ w).toNat
        toInteger r signed w (.nan s) = (0, 16) ∧ toInteger r signed w (.inf s) = (pattern (if s then lo else hi), 16)
        ∧ ∃ i : Int, Picks r (fun x => ∃ k : Int, x = k) (realOf s m e) i (i % 2 = 0)
          ∧ toInteger r signed w (.fin s m e) = (if i < lo then (pattern lo, 16) else if hi < i then (pattern hi, 16)
              else (pattern i, (toInteger r signed w (.fin s m e)).2))
          ∧ (lo ≤ i → i ≤ hi → ((i : ℝ) = realOf s m e → (toInteger r signed w (.fin s m e)).2 = 0)
              ∧ ((i : ℝ) ≠ realOf s m e → (toInteger r signed w (.fin s m e)).2 = 1)))

/-- fence, yield: a fence with nothing to wait for retires at once; a fence with a transfer in flight waits (R129, R130,
R200, R201, R205, R53). Which transfers each ordering waits for is the reading of log 45; what a release waits for
that of log 16. -/
def Obligations.FencesAndYield : Prop :=
  ∀ (s : State) (sc : BitVec 3) (ord : BitVec 2),
    (s.Quiet → exec (.fence sc ord) s
        = .next (((s.setHart s.cur { s.h with fence := none }).acquire (ord.getLsbD 0)).wrote 4 0 0))
    ∧ (s.h.ilock ≠ [] → s.h.wfail = none → (∀ st : Fin 16, s.h.stm[st].state ≠ .error) → ord ≠ 1 →
        exec (.fence sc ord) s = .next (s.setHart s.cur { s.h with fence := some (ord, sc) }))
    ∧ exec .yield s = .next ((s.setHart s.cur { s.h with credit := 0, age := 0, yielded := true }).wrote 4 0 0)
    ∧ (∀ st : Fin 16, s.h.discardAhead = { s.h with stm := s.h.discardAhead.stm }
        ∧ s.h.discardAhead.stm[st]
          = if s.h.stm[st].mode = 0 then { s.h.stm[st] with fetched := s.h.stm[st].pos } else s.h.stm[st])

/-- mon, mwait and bar.wait: what they record, when they return at once and with what, and when the hart waits (R58, R202,
R203, R61, R130). -/
def Obligations.MonitorAndWait : Prop :=
  ∀ s : State, s.Quiet → ∀ d a b : Fin 32,
    (∀ loc ty, (s.getX a).toNat % 8 = 0 → ty ≠ .pool → s.translate s.cur (s.getX a).toNat .read = .ok (.mem loc ty) →
      exec (.mon a) s = .next ((s.setHart s.cur
        { s.h with mon := some { va := s.getX a, sector := loc / 64, hit := false, rearm := false } }).wrote 4 0 0))
    ∧ (s.h.mon = none → exec (.mwait d a) s = .next (returned s d 3 false))
    ∧ (∀ m, s.h.mon = some m →
        (m.hit = true → exec (.mwait d a) s = .next (returned s d 0 true))
        ∧ (m.hit = false → m.rearm = true → exec (.mwait d a) s = .next (returned s d 2 true))
        ∧ (m.hit = false → m.rearm = false → exec (.mwait d a) s
            = .next (s.setHart s.cur { s.h with st := .waiting, wait := some (.mwait d s.cycle (s.getX a)) })))
    ∧ (∀ (sc : BitVec 3) (loc : Nat) (ty : MemTy), (s.getX a).toNat % 8 = 0 → ty ≠ .pool →
        s.translate s.cur (s.getX a).toNat .read = .ok (.mem loc ty) →
        let g := s.peekNat loc 8 / 2 ^ 48
        exec (.barWait a b sc) s = .next (if g = (s.getX b).toNat % 2 ^ 16
          then s.setHart s.cur { s.h with st := .waiting, wait := some (.barrier (s.getX a) loc ((s.getX b).setWidth 16) false) }
          else s.setHart s.cur { s.h.discardAhead with st := .running, wait := none, pc := s.h.pc + 4, instret := s.counted }))

/-- claim: takes at most the elements asked for and left, in one read-modify-write, and sets VL (R56, R204, R190). An
object in POOL or PEER memory, where claim traps ACCESS by the reading of log 44, is left out. -/
def Obligations.ClaimTakesElements : Prop :=
  ∀ s : State, s.Quiet → s.Sound → ∀ (d a b : Fin 32) (sc : BitVec 3) (ord : BitVec 2) (loc : Nat) (ty : MemTy),
    0xB8000 ≤ loc → ty ≠ .pool → (s.getX a).toNat % 16 = 0 → (s.h.vs.qcount ≠ 0 → s.h.vs.cfg.ill = false) →
    s.translate s.cur (s.getX a).toNat .rmw = .ok (.mem loc ty) →
    let old := s.peekNat loc 8
    let limit := s.peekNat (loc + 8) 8
    let cap := if s.h.vs.qcount = 0 then 65536 else s.h.vlmax
    let n := (s.getX b).toNat
    let g := if limit ≤ old then 0 else min (if n = 0 then cap else min n cap) (limit - old)
    ∃ t, exec (.claim d a b sc ord) s = .next t
      ∧ (∀ c, t.peek c = if old < limit ∧ loc ≤ c ∧ c < loc + 8 then (leBytes 8 (old + g)).getD (c - loc) 0 else s.peek c)
      ∧ t.h = { (if ord.getLsbD 0 then s.h.discardAhead else s.h) with
                x := if d = 0 then s.h.x else s.h.x.set d (BitVec.ofNat 64 old), vs := { s.h.vs with vl := g, vstart := 0 },
                pc := s.h.pc + 4, instret := s.counted, mon := t.h.mon, wait := t.h.wait }
      ∧ s.onlyMemory t

/-- Taking a trap at the user handler writes exactly the trap registers of R331 and goes to the handler (R331, R271,
R497). Which traps count in the fleet counters, and what ACC other causes have, are the readings of log 22 and log 51. -/
def Obligations.UserTrapEntry : Prop :=
  ∀ (s : State) (e : Exc) (tpc : BitVec 56) (conv : Bool) (member : Nat),
    userCause e.cause → s.h.priv = false → s.h.inh = false → s.h.trap.en = true →
    (e.cause ≠ .dataerr → e.stream = none → s.takeTrap e tpc conv member = atHandler s s.h e tpc conv member)
    ∧ s.takeTrap e tpc conv member = atHandler (s.countError e) ((s.countError e).h.reported e) e tpc conv member

/-- Firmware traps and tret: what entry saves, what the return restores, and when a hart stops instead (R447, R332, R333,
R213, R271, R497). Which traps count in the fleet counters is the reading of log 22. -/
def Obligations.FirmwareTrapAndReturn : Prop :=
  (∀ (s : State) (e : Exc) (tpc : BitVec 56) (conv : Bool) (member : Nat), (s.h.priv = true ∨ ¬userCause e.cause) →
      let t := s.takeTrap e tpc conv member; let plain := e.cause ≠ .dataerr ∧ e.stream = none
      (s.h.inf = false → e.cause ≠ .integrity → e.cause ≠ .mcheck →
        (plain → t = s.setHart s.cur (atFirmware s.h e tpc conv member))
        ∧ t = (s.countError e).setHart s.cur (atFirmware ((s.countError e).h.reported e) e tpc conv member))
      ∧ (s.Sound → plain → s.h.inf = false → (e.cause = .integrity ∨ e.cause = .mcheck) →
          (s.launchOf s.cur = none → t = (s.setHart s.cur (atFirmware s.h e tpc conv member)).stopGang s.cur.die s.h.id.gangId true)
          ∧ t = ({ s.setHart s.cur (atFirmware s.h e tpc conv member) with dies := t.dies } : State).stopGang s.cur.die s.h.id.gangId true
          ∧ (∀ l, s.launchOf s.cur = some l → (t.launchOf s.cur).map (·.fault) = some (some (l.fault.getD (faultOf s e tpc)))))
      ∧ (s.Sound → plain → s.h.inf = true → t.h.st = .stopping ∧ t.h.x = s.h.x ∧ t.h.pc = tpc
          ∧ (s.cur.slot = 7 → (t.die s.cur.die).halted = true)
          ∧ (s.cur.slot ≠ 7 → ∀ i : HartId, i.die = s.cur.die → i.slot ≠ 7 → (s.hart i).id.gangId = s.h.id.gangId →
              ((s.hart i).st = .running ∨ (s.hart i).st = .waiting ∨ (s.hart i).st = .creating) → (t.hart i).st = .stopping)))
    ∧ (∀ s : State,
      (s.h.inf = true → exec .tret s = .next (s.setHart s.cur { s.h with
          pc := s.h.fw.pc, priv := s.h.ppriv, inf := false, faulted := s.h.faulted.filter fun f => f.1 == s.h.fw.pc }))
      ∧ (s.h.inf = false → s.h.inh = true →
          exec .tret s = .next (s.setHart s.cur { s.h with pc := s.h.trap.pc, inh := false, instret := s.h.instret + 1 }))
      ∧ (s.h.inf = false → s.h.inh = false →
          exec .tret s = .next (s.takeTrap { cause := .illegal, acc := .read, tval := BitVec.ofNat 64 (encode .tret) } s.h.pc false 0)))

/-- A trap that the user handler may not take stops the hart and its gang; a double trap goes to firmware (R332, R48). -/
def Obligations.UntakenTrapStops : Prop :=
  ∀ (s : State) (e : Exc) (tpc : BitVec 56) (conv : Bool) (member : Nat), s.Sound → userCause e.cause → e.cause ≠ .dataerr →
    e.stream = none → s.h.priv = false → s.cur.slot ≠ 7 → (s.h.st = .running ∨ s.h.st = .waiting) →
    let t := s.takeTrap e tpc conv member
    (s.h.inh = false → s.h.trap.en = false → t.h.st = .stopping ∧ t.h.pc = tpc ∧ t.h.x = s.h.x ∧ t.h.trap = s.h.trap)
    ∧ (s.h.inh = true → t.h.st = .stopping ∧ t.h.fw = trapped s.h.fw e tpc conv member ∧ t.h.x = s.h.x
        ∧ t.h.trap = s.h.trap)
    ∧ (s.h.inh = true ∨ s.h.trap.en = false →
        (∀ i : HartId, i.die = s.cur.die → i.slot ≠ 7 → (s.hart i).id.gangId = s.h.id.gangId →
          ((s.hart i).st = .running ∨ (s.hart i).st = .waiting ∨ (s.hart i).st = .creating) → (t.hart i).st = .stopping)
        ∧ (∀ l, s.launchOf s.cur = some l → l.fault = none →
            (t.launchOf s.cur).map (·.fault)
              = some (some (e, s.h.id.index.toNat, s.h.id.gangId.toNat % 2 ^ 32, tpc.toNat)))
        ∧ t.mem = s.mem)

/-- tcall and break trap CALL and BREAK with TVAL 0 and TPC past the instruction (R213, R327, R331). -/
def Obligations.CallAndBreakTrap : Prop :=
  ∀ s : State,
    (s.h.priv = false → s.h.inh = false → s.h.trap.en = true →
      exec .tcall s = .next (s.setHart s.cur { s.h with
        trap := { s.h.trap with cause := 12, tval := 0, pc := s.h.pc + 4, conv := false, member := 0 }, inh := true,
        pc := BitVec.ofNat 56 (4 * s.h.trap.base.toNat), phase := .open, convoy := [], ahead := none, waited := Waited.reset, xwait := none,
        xnone := none, fence := none })
      ∧ exec .brk s = .next (s.setHart s.cur { s.h with
        trap := { s.h.trap with cause := 11, tval := 0, pc := s.h.pc + 4, conv := false, member := 0 }, inh := true,
        pc := BitVec.ofNat 56 (4 * s.h.trap.base.toNat), phase := .open, convoy := [], ahead := none, waited := Waited.reset, xwait := none,
        xnone := none, fence := none }))
    ∧ (s.h.priv = true → s.h.inf = false →
      exec .tcall s = .next (s.setHart s.cur
        (atFirmware s.h { cause := .call, acc := .read, tval := 0 } (s.h.pc + 4) false 0))
      ∧ exec .brk s = .next (s.setHart s.cur
        (atFirmware s.h { cause := .brk, acc := .read, tval := 0 } (s.h.pc + 4) false 0)))

/-- mfs: the value of the status registers, field by field; a privileged one only at FIRMWARE (R206, R207, R29, R38, R67,
R76, R103, R286, R330, R445, R456, R474). That TLBINV, HEAT and RECLAIM read the fields of their last write is said
where they are written. MBOXSP is log 43. -/
def Obligations.StatusReads : Prop :=
  ∀ (s : State) (d : Fin 32),
    (∀ p ∈ userStatus, exec (.mfs d p.1) s = .next (s.wrote 4 d (p.2 s)))
    ∧ (s.h.priv = true → ∀ p ∈ firmwareStatus, exec (.mfs d p.1) s = .next (s.wrote 4 d (p.2 s)))
    ∧ (s.h.priv = true → s.cur.slot = 7 → ∀ p ∈ lamplighterStatus, exec (.mfs d p.1) s = .next (s.wrote 4 d (p.2 s)))
    ∧ (s.Sound → ∃ w, isLanecap s (coreOf s.cur) w ∧ exec (.mfs d 0x009) s = .next (s.wrote 4 d w))
    ∧ (s.Sound → s.h.priv = true → s.cur.slot = 7 →
        ∃ u, exec (.mboxRead 0) s = .next u
          ∧ exec (.mfs d 0x810) s = .next (u.wrote 4 d (match (s.core (coreOf s.cur)).mbox with | [] => 0 | r :: _ => r.word)))

/-- mts: each writable status register takes the written fields by their access codes, or starts what its write starts; no
other register changes (R206, R11, R41, R74, R102, R103, R287, R330, R445, R448, R459, R469). That MBOXSP (0x811) is
writable is log 43. How a hart waits is log 4. -/
def Obligations.StatusWrites : Prop :=
  ∀ (s : State) (a : Fin 32), s.Sound → let w := s.getX a
    (∀ p ∈ userWritable, ∀ o, s.status p.1.toNat = some o → writesStatus s a p.1 (p.2 o w))
    ∧ (∀ o, s.status 0x044 = some o → writesStatus s a 0x044 (tstatusAfter s.h.priv o w))
    ∧ (s.h.priv = true → ∀ p ∈ firmwareWritable, ∀ o, s.status p.1.toNat = some o → writesStatus s a p.1 (p.2 o w))
    ∧ (s.h.priv = true → s.cur.slot = 7 →
        ∀ p ∈ lamplighterWritable, ∀ o, s.status p.1.toNat = some o → writesStatus s a p.1 (p.2 o w))
    ∧ (∀ n ∈ readOnlyStatus, exec (.mts a n) s = .next (s.wrote 4 0 0))
    ∧ (s.h.priv = true → let die := s.cur.die; let f16 := fun (k : Nat) => w.toNat / 2 ^ k % 2 ^ 16
        exec (.mts a 0x828) s = .next (({ s.setDie die { s.die die with pcap := BitVec.ofNat 16 (min (f16 0) 540) } with
          ecap := BitVec.ofNat 16 (min (f16 32) 2000) } : State).wrote 4 0 0))
    ∧ (∃ t, exec (.mts a 0x021) s = .next t ∧ s.onlyHart t
        ∧ t.h = { s.h with pair := w.extractLsb' 0 4, blk := t.h.blk, blkBad := t.h.blkBad, pc := s.h.pc + 4, instret := s.counted }
        ∧ ∀ b : Fin 8, t.h.blk[b] = if s.h.pair.getLsbD (b.val / 2) = w.getLsbD (b.val / 2) then s.h.blk[b] else [])
    ∧ (s.h.priv = true → s.cur.slot = 7 → ∃ u, exec (.tlbwcWrite w) s = .next u ∧ exec (.mts a 0x814) s = .next (u.wrote 4 0 0))
    ∧ (s.h.priv = true → (s.die s.cur.die).tlbinv.getLsbD 0 = true → exec (.mts a 0x815) s = .next s.stall)
    ∧ (s.h.priv = true → (s.die s.cur.die).tlbinv.getLsbD 0 = false →
        ∃ u, exec (.tlbinvWrite w) s = .next u ∧ exec (.mts a 0x815) s = .next (u.wrote 4 0 0))
    ∧ (s.h.priv = true → ∃ u, exec (.heatFlush w) s = .next u ∧ exec (.mts a 0x818) s = .next (u.wrote 4 0 0))
    ∧ (s.h.priv = true → ∃ u, exec (.reclaimWrite w) s = .next u ∧ exec (.mts a 0x820) s = .next (u.wrote 4 0 0))

/-- At USER the privileged instructions and the privileged or unassigned status numbers trap ILLEGAL and do nothing (R207,
R214, R443, R445, R160). -/
def Obligations.PrivilegeRefusals : Prop :=
  ∀ (s : State) (d a b : Fin 32) (n : BitVec 12),
    (s.h.priv = false → refusedAsIllegal (.spawn d a) s ∧ refusedAsIllegal (.hstop d a) s ∧ refusedAsIllegal (.gsusp d a b) s
        ∧ refusedAsIllegal (.qlease d a b) s ∧ (0x800 ≤ n.toNat → refusedAsIllegal (.mfs d n) s ∧ refusedAsIllegal (.mts a n) s))
    ∧ (n.toNat ∉ assigned ∨ (0x810 ≤ n.toNat ∧ n.toNat ≤ 0x814 ∧ s.cur.slot ≠ 7) →
        refusedAsIllegal (.mfs d n) s ∧ refusedAsIllegal (.mts a n) s)

/-- stop and hstop: the hart passes to STOPPING and issues no more; hstop answers 0 or 1 (R215, R218, R47). -/
def Obligations.StopAndHstop : Prop :=
  (∀ s : State, s.Quiet → s.h.convoy = [] → (s.h.st = .running ∨ s.h.st = .waiting) →
      exec .stop s = .next (s.setHart s.cur { s.h with st := .stopping, wait := none, reports := true }))
    ∧ (∀ (s : State) (d a : Fin 32), s.h.priv = true → let w := (s.getX a).toNat
      (∀ i : HartId, i.die = s.cur.die → i.slot.val = w % 8 → i.core.val = w / 8 % 256 → i.slot ≠ 7 → i ≠ s.cur →
        ((s.hart i).st = .running ∨ (s.hart i).st = .waiting) → (s.hart i).wfail = none →
        (∀ st : Fin 16, (s.hart i).stm[st].state ≠ .error) →
        exec (.hstop d a) s = .next ((s.setHart i { s.hart i with
          st := .stopping, wait := none, reports := true,
          phase := if (s.hart i).convoy ≠ [] ∧ (s.hart i).phase = .open then .start else (s.hart i).phase }).wrote 4 d 0))
      ∧ (w % 8 = 7 ∨ 192 ≤ w / 8 % 256
          ∨ (∀ i : HartId, i.die = s.cur.die → i.slot.val = w % 8 → i.core.val = w / 8 % 256 → i ≠ s.cur
              ∧ (s.hart i).st ≠ .running ∧ (s.hart i).st ≠ .waiting) →
          exec (.hstop d a) s = .next (s.wrote 4 d 1)))

/-- spawn: the code of the first check that fails, with no effect; else the new hart, in the initial state of R46 or as
its context image restores it (R216, R217, R46, R38, R345, R347, R348, R350, R448). With QCOUNT 0 any QFIRST passes
(log 83); a core whose pair is retired has no lanes (log 107); what an image does not hold is log 21. -/
def Obligations.SpawnAnswers : Prop :=
  ∀ (s : State) (d a : Fin 32), s.Quiet → s.Sound → s.h.priv = true → (s.h.st = .running ∨ s.h.st = .waiting) →
    (s.getX a).toNat % 128 = 0 → ∀ bs, s.readBytes s.cur (s.getX a).toNat 128 .read = .ok bs →
    let k := Descriptor.ofNat (leNat bs)
    let i := k.place? s.cur.die
    (k.bad = true → exec (.spawn d a) s = .next (s.wrote 4 d 3))
    ∧ (k.bad = false → s.vacant i = false → exec (.spawn d a) s = .next (s.wrote 4 d 1))
    ∧ (k.bad = false → s.vacant i = true → s.noLanes i k = true → exec (.spawn d a) s = .next (s.wrote 4 d 2))
    ∧ (k.bad = false → s.vacant i = true → s.noLanes i k = false → k.image = 0 →
        ∃ t, exec (.spawn d a) s = .next t ∧ t.mem = s.mem ∧ t.getX d = 0 ∧ t.h.pc = s.h.pc + 4 ∧ t.hart i = newHart k s.h.spawnCtx)
    ∧ (k.bad = false → s.vacant i = true → s.noLanes i k = false → k.image ≠ 0 →
        ∀ hd, s.readBytes s.cur k.image.toNat 128 .read = .ok hd →
        (56288 + 9 * 8388608 < imageWord hd 8 → exec (.spawn d a) s = .next (s.wrote 4 d 4))
        ∧ (imageWord hd 8 ≤ 56288 + 9 * 8388608 → ∀ img, s.readBytes s.cur k.image.toNat (imageWord hd 8) .read = .ok img →
          (k.image.toNat % 4096 ≠ 0 ∨ BadImage k img → exec (.spawn d a) s = .next (s.wrote 4 d 4))
          ∧ (k.image.toNat % 4096 = 0 → ¬BadImage k img → ∃ t, exec (.spawn d a) s = .next t ∧ t.getX d = 0 ∧ t.h.pc = s.h.pc + 4
            ∧ (let g := t.hart i
              g.st = .creating ∧ RestoredFrom img g ∧ g.id.gangId = k.gangId ∧ g.id.gangSize = k.gangSize.setWidth 51
              ∧ g.id.index.toNat = k.index ∧ g.id.gen.toNat = k.gen ∧ g.id.prioMax = k.prio ∧ g.id.paired = k.pair
              ∧ g.vs.qcount = k.qcount ∧ g.vs.qfirst = k.qfirst ∧ g.space = s.h.spawnCtx ∧ g.priv = false))))

/-- gsusp: every RUNNING and WAITING hart of the gang on the die enters SUSPENDING, and xd counts those marked (R219,
R344, R47). The order of its checks, that a table not so aligned traps ALIGN, and that no word of the table is read
where there is no hart to mark, is log 42. -/
def Obligations.GangSuspendBegins : Prop :=
  ∀ (s : State) (d a b : Fin 32), s.Sound → s.h.priv = true →
    ((s.getX b).toNat % 8 ≠ 0 → exec (.gsusp d a b) s
        = .next (s.takeTrap { cause := .align, acc := .read, tval := s.getX b } s.h.pc false 0))
    ∧ ((s.getX b).toNat % 8 = 0 →
      let gang := s.getX a
      let marked := if s.suspending s.cur.die gang then [] else s.members s.cur.die gang
      (marked = [] → exec (.gsusp d a b) s = .next (s.wrote 4 d 0))
      ∧ (marked ≠ [] → ∀ images, s.readTable (s.getX b).toNat marked = .ok images →
          ∃ t, exec (.gsusp d a b) s = .next t ∧ (d ≠ 0 → t.getX d = BitVec.ofNat 64 marked.length)
            ∧ t.suspending s.cur.die gang = true
            ∧ (∃ p ∈ (t.die s.cur.die).suspends, p.gang = gang ∧ p.table = some (s.getX b).toNat ∧ p.images = images)
            ∧ ((∀ q ∈ s.harts, q.2.wfail = none ∧ q.2.phase ≠ .drain ∧ q.2.phase ≠ .empty) → t.mem = s.mem
              ∧ (∀ i : HartId, i.die = s.cur.die → i.slot ≠ 7 → (s.hart i).id.gangId = gang →
                  ((s.hart i).st = .running ∨ (s.hart i).st = .waiting) →
                  (t.hart i).st = .suspending
                  ∧ (i ≠ s.cur → (t.hart i).x = (s.hart i).x ∧ (t.hart i).pc = (s.hart i).pc)
                  ∧ (i = s.cur → t.h.pc = s.h.pc + 4
                      ∧ t.h.x = if d = 0 then s.h.x else s.h.x.set d (BitVec.ofNat 64 marked.length)))
              ∧ (∀ i : HartId, i ≠ s.cur → (i.die ≠ s.cur.die ∨ i.slot = 7 ∨ (s.hart i).id.gangId ≠ gang) → t.hart i = s.hart i))))

/-- qlease: the code, and a lease of LEN units for the gang exactly where it is granted (R220). R220 gives the codes no
order; the order 3, 2, 1 is log 64. -/
def Obligations.QuarterLeases : Prop :=
  ∀ (s : State) (d a b : Fin 32), s.h.priv = true → s.mapsOk →
    let w := (s.getX b).toNat
    let stack := w % 16
    let len := w / 256 % 2 ^ 32
    let bad := w / 16 % 16 ≠ 0 ∨ w / 2 ^ 40 ≠ 0
    let held := ∃ l, s.leaseOf stack = some l ∧ ¬(l.gang = s.getX a ∧ l.die = s.cur.die)
    (bad → exec (.qlease d a b) s = .next (s.wrote 4 d 3))
    ∧ (¬bad → s.quarterCount stack = 0 → exec (.qlease d a b) s = .next (s.wrote 4 d 2))
    ∧ (¬bad → s.quarterCount stack ≠ 0 → held → exec (.qlease d a b) s = .next (s.wrote 4 d 1))
    ∧ (¬bad → s.quarterCount stack ≠ 0 → ¬held → ∃ ls, exec (.qlease d a b) s = .next (({ s with leases := ls } : State).wrote 4 d 0)
        ∧ Map.rises ls
        ∧ (∀ k l, k ≠ stack → ((k, l) ∈ ls ↔ (k, l) ∈ s.leases))
        ∧ (∀ l, (stack, l) ∈ ls ↔ len ≠ 0 ∧ l = { die := s.cur.die, gang := s.getX a, ends := s.cycle + len * 65536 }))

/-- HINT words do nothing and never trap, whatever their fields; a word that is no instruction traps ILLEGAL with its bits
in TVAL (R161). The clause about words that are no instruction rests on R160. -/
def Obligations.HintsDoNothing : Prop :=
  (∀ w : BitVec 32, w.extractLsb' 0 8 = 0x4F → ∃ i, decode32 w.toNat = .ok i ∧ ∀ s : State, exec i s = .next (s.wrote 4 0 0))
    ∧ (∀ (s : State) (d a b : Fin 32) (fn : BitVec 9),
      exec (.nop d a b) s = .next (s.wrote 4 0 0) ∧ exec (.prefR d a b) s = .next (s.wrote 4 0 0)
      ∧ exec (.prefW d a b) s = .next (s.wrote 4 0 0) ∧ exec (.hintOther fn b a d) s = .next (s.wrote 4 0 0)
      ∧ (∀ (len : Fin 3) (w : Word), convoyClass w.toNat = false →
          exec (.illegalInstruction len w) s
            = .next (s.takeTrap { cause := .illegal, acc := .read, tval := w } s.h.pc false 0)))

/-- vsetvl, vsetvl.k and vrows: what a request grants, what becomes of the registers, and what is refused (R77, R78, R68,
R70, R224, R225). The SEW that fixes the VLMAX of each mask relay is log 104: that in force for the shrink, the
requested one for NSLOT. -/
def Obligations.VectorLengthGrants : Prop :=
  ∀ (s : State) (d a b : Fin 32), s.Sound → s.h.relay = false →
    let c := s.getX b; let avl := (s.getX a).toNat; let n := (s.getX a).toNat
    (∀ i ∈ [(Instr.vsetvl d a b, false), (Instr.vsetvlK d a b, true)],
      ((s.h.vs.qcount = 0 ∨ ¬requestLegal c) → exec i.1 s = .next ((s.setHart s.cur
          { s.h with vs := { s.h.vs with cfg := { s.h.vs.cfg with ill := true }, vl := 0, vstart := 0 } }).wrote 4 d 0))
      ∧ (s.h.vs.qcount ≠ 0 → requestLegal c → ∃ t, exec i.1 s = .next t ∧ grants s t d avl c i.2))
    ∧ (s.h.vs.qcount = 0 → exec (.vrows d a) s = .next (s.takeTrap
        { cause := .illegal, acc := .read, tval := BitVec.ofNat 64 (encode (.vrows d a)) } s.h.pc false 0))
    ∧ (s.h.vs.qcount ≠ 0 → ∃ r ∈ [1, 2, 4, 8], r ≤ max 1 n ∧ (r = 8 ∨ n < 2 * r)
        ∧ exec (.vrows d a) s
          = .next ((s.setHart s.cur { s.h with vs := { s.h.vs with rows := r } }).wrote 4 d (BitVec.ofNat 64 r)))

/-- Every convoy-class instruction joins the open convoy, traps on a conflict, or closes it; and how the members of a
convoy chain (R163, R164, R165, R166, R167, R228, R330, R423). An orphan that decodes traps CONVOY whatever VCFG.ILL
or its operands say (log 93). That a convoy runs from its close to its drain in one step is log 8, and elements of a
register of another width are those read at SEW (log 33). -/
def Obligations.VectorWordsJoin : Prop :=
  (∀ (i : Instr) (k masked : Bool) (op : MOp), brings i = some (k, masked, op) → ∀ s : State, s.h.phase = .open →
    (s.h.convoy = [] → k = false →
      exec i s = .next (s.takeTrap { cause := if s.sealAbsent op = true then .illegal else .convoy, acc := .read,
                                     tval := BitVec.ofNat 64 (encode i) } s.h.pc false 0))
    ∧ (s.h.convoy ≠ [] → k = true → exec i s = .next s.closeConvoy)
    ∧ ((s.h.convoy = [] ↔ k = true) → let q := memberOf i masked op
      (q.illegal s.h s.cur.slot = false → s.sealAbsent op = false → op.badPair = false → (∃ m, s.memberChecks q = .ok m) →
        ((∃ p ∈ s.h.convoy, clashes s.h p q)
          ∨ ((op.info s.h masked).st.isSome = true ∧ 2 ≤ (s.h.convoy.filter fun p => (p.op.info s.h p.masked).st.isSome).length)) →
        exec i s = .next (s.takeTrap { cause := .convoy, acc := .read, tval := BitVec.ofNat 64 (encode i) } s.h.pc true s.h.convoy.length))
      ∧ ∀ m, s.joinCheck q = .ok m → let s' := s.setHart s.cur { s.h with convoy := s.h.convoy ++ [m] }
        (m.enc = encode i ∧ m.size = i.size ∧ m.masked = masked)
        ∧ ((op.info s.h masked).closes = true ∨ 7 ≤ s.h.convoy.length → exec i s = .next s'.closeConvoy)
        ∧ ((op.info s.h masked).closes = false → s.h.convoy.length < 7 →
          let next := s.fetch s.cur (s.h.pc.toNat + convoyBytes (s.h.convoy ++ [m]))
          (∀ w n, next = .ok (w, n) → exec i s = .next (if joins w = true then s' else s'.closeConvoy))
          ∧ (∀ e, next = .trap e → exec i s = .next (s.takeTrap e s.h.pc true (s.h.convoy.length + 1)))
          ∧ (∀ va acc, next = .miss va acc → exec i s = .next (s.missed va acc)))))
    ∧ (∀ (f : EwOp) (d a : Fin 64) (b : Src) (h : Hart) (masked : Bool) (r : Nat),
        r ∈ ((MOp.ew f d a b).info h masked).writes.map (·.1) ↔ d.val ≤ r ∧ r < d.val + h.vs.rows)
    ∧ ∀ f ∈ plainOps, ∀ g ∈ plainOps, ∀ (i i' : Instr) (d a b d' a' b' : Fin 64),
      brings i = some (true, false, .ew f d a (.v b)) → brings i' = some (false, false, .ew g d' a' (.v b')) →
      ∀ s : State, s.Sound → ClosesWith s i (.ew f d a (.v b)) i' (.ew g d' a' (.v b')) →
      let h := s.h; let w := h.sew; let vl := h.vs.vl
      let first := fun (k e : Nat) =>
        if d.val ≤ k ∧ k < d.val + h.vs.rows ∧ k < 64 ∧ s.on false (k - d.val) e = true then
          (f.eval h.vs.cfg h.vrnd w (h.elem (a.val + (k - d.val)) w e) (h.elem (b.val + (k - d.val)) w e) 0 e).r
        else h.elem k w e
      ∃ t, exec i' s = .next t ∧ s.onlyHart t
        ∧ t.h = { h with
            v := t.h.v, vs := { h.vs with vstart := 0, convoys := h.vs.convoys + 1 }, convoy := [],
            pc := h.pc + BitVec.ofNat 56 (i.size + i'.size), instret := if h.inf then h.instret else h.instret + 2,
            kept := h.kept.filter fun k => k.pc != h.pc, xwait := none, xnone := none }
        ∧ (∀ j < h.vs.rows, ∀ e < vl, d.val + j < 64 → t.h.elem (d.val + j) w e % 2 ^ w = first (d.val + j) e % 2 ^ w)
        ∧ (∀ j < h.vs.rows, ∀ e < vl, d'.val + j < 64 → t.h.elem (d'.val + j) w e % 2 ^ w
            = if s.on false j e = true then (g.eval h.vs.cfg h.vrnd w (first (a'.val + j) e) (first (b'.val + j) e) 0 e).r
              else h.elem (d'.val + j) w e % 2 ^ w)
        ∧ ∀ r < 64, (r < d.val ∨ d.val + h.vs.rows ≤ r) → (r < d'.val ∨ d'.val + h.vs.rows ≤ r) → (h.getV r).sameImage (t.h.getV r)

/-- Element-wise instructions: each processed element receives its operation of the operand elements, and all else is
kept; where they stop (R228, R84, R85, R103, R229, R231, R233, R236, R237, R239, R334, R335). Kept elements of a
register of another width are those read at the destination width (log 33). That a convoy runs from its close to its
drain in one step is log 8. -/
def Obligations.ElementwiseResults : Prop :=
  ∀ (i : Instr) (masked : Bool) (f : EwOp) (d a : Fin 64) (b : Src), brings i = some (true, masked, .ew f d a b) →
    ∀ (s : State) (y : Nat → Nat → Nat), s.Sound → s.Single i masked (.ew f d a b) →
    let w := f.widths s.h.sew; let h := s.h; let vl := h.vs.vl
    (f.unary = false → s.Gives b w.2.1 f.zextImm y) →
    let out := fun j e =>
      let x := if f.noA then 0 else h.elem (a.val + j) w.1 e
      let x := if f = .merge ∧ (h.getM 0).bit e = false then y j e else x
      f.eval h.vs.cfg h.vrnd h.sew x (if f.unary then 0 else y j e) (if f.fused then h.elem (d.val + j) w.2.2 e else 0) e
    (s.Alone i masked (.ew f d a b) → (∀ j < h.vs.rows, ∀ e < vl, s.on masked j e = true → (out j e).fl &&& h.vs.en = 0) →
      ∃ t, exec i s = .next t ∧ s.onlyHart t ∧ s.Drained t (if f.unary then h else s.fed b) i true
        ∧ (∀ j < h.vs.rows, d.val + j < 64 → ∀ e < vl, t.h.elem (d.val + j) w.2.2 e % 2 ^ w.2.2
            = if s.on masked j e then (out j e).r else h.elem (d.val + j) w.2.2 e % 2 ^ w.2.2)
        ∧ (∀ j < h.vs.rows, d.val + j < 64 → h.vs.vstart < (j + 1) * vl →
            (t.h.getV (d.val + j)).ew = w.2.2 ∧ (t.h.getV (d.val + j)).extent = vl)
        ∧ s.KeepsRegisters t d.val h.vs.rows 0 0
        ∧ s.Accrues t (s.on masked) (fun j e => (out j e).fl) (fun j e => (out j e).clip))
    ∧ ∀ j0 < h.vs.rows, ∀ e0 < vl, s.on masked j0 e0 = true → d.val + h.vs.rows ≤ 64 → a.val + h.vs.rows ≤ 64 →
      let p := j0 * vl + e0
      let stops := stopsAt s i masked (.ew f d a b) (if f.unary then h else fedTo s b p) d.val w.2.2 p out
      let silent := ∀ j < h.vs.rows, ∀ e < vl, s.on masked j e = true → j * vl + e < p → (out j e).fl &&& h.vs.en = 0
      silent → (s.Alone i masked (.ew f d a b) → (out j0 e0).fl &&& h.vs.en ≠ 0 →
          stops (out j0 e0).fl { cause := .arith, acc := .read, tval := (out j0 e0).fl.setWidth 64 })
        ∧ (∀ k, k = a.val + j0 → f.noA = false → (w.2.1 = w.1 ∨ b ≠ .v a) → h.id.paired = false → s.poison = [] → (∀ r, r ≠ k → (h.getV r).bad = []) →
          (∀ r, (h.getM r).bad = []) → (h.getV k).ew = w.1 → e0 ∈ (h.getV k).bad → (h.getV k).refilled = false →
          (∀ e ∈ (h.getV k).bad, s.on masked j0 e = true → e0 ≤ e) →
          stops 0 { cause := .dataerr, acc := .read, origin := .array, tval := BitVec.ofNat 64 (e0 % 2 ^ 24 + k * 2 ^ 24 + 2 ^ 63) })

/-- Integer, fixed-point and floating element operations: the result, flags and clip of each, in integers and in rounded
real operations (R236, R237, R239, R240, R241, R242, R233, R104, R106, R107, R115, R116). -/
def Obligations.ElementResults : Prop :=
  (∀ w ∈ [8, 16, 32, 64], ∀ (c : VCfg) (r : Rnd) (d e : Nat) (a b : BitVec w),
      (∀ p ∈ integerOps w, p.1.eval c r w a.toNat b.toNat d e
          = { r := (p.2.1 a b % 2 ^ p.2.2).toNat, fl := 0, clip := false })
      ∧ (∀ p ∈ saturatingOps c w, p.1.eval c r w a.toNat b.toNat d e = clamped p.2.2 w (p.2.1 a b))
      ∧ (∀ p ∈ roundingShifts w, let v := p.2 a b
          p.1.eval c r w a.toNat b.toNat d e = { r := (shiftedOff c.vxrm v.1 v.2 % 2 ^ w).toNat, fl := 0, clip := false })
      ∧ (∀ v : BitVec (2 * w), EwOp.nclip.eval c r w v.toNat b.toNat d e = clamped true w (shiftedOff c.vxrm v.toInt b.toNat)
          ∧ EwOp.nclipu.eval c r w v.toNat b.toNat d e = clamped false w (shiftedOff c.vxrm v.toNat b.toNat))
      ∧ EwOp.index.eval c r w a.toNat b.toNat d e = { r := e % 2 ^ w, fl := 0, clip := false })
    ∧ (∀ q ∈ fmtCodes, ∀ (c : VCfg), c.fmt = q.1 → let g := q.2; let w := g.width; ∀ (r : Rnd) (e : Nat) (a b d : BitVec w),
        let float := fun (f : EwOp) (v : Nat × Flags) => f.eval c r w a.toNat b.toNat d.toNat e = { r := v.1, fl := v.2, clip := false }
        (g ∈ ieee → ∀ p ∈ floatOps g r a.toNat b.toNat d.toNat, float p.1 p.2)
        ∧ (∀ p ∈ convertOps g r w a, float p.1 p.2)
        ∧ (g ∈ ieee → g ≠ .f64 → float .frec (reciprocalOf g (g.value a.toNat))
            ∧ ∃ p, isExpTable p ∧ float .fexp (exponentialOf p g (g.value a.toNat)))
        ∧ ∀ k ∈ fmtCodes, ∀ x : BitVec k.2.width, (EwOp.cvtFF (k.1.setWidth 3)).eval c r w x.toNat b.toNat d.toNat e
            = { r := (converted g r (k.2.value x.toNat)).1, fl := (converted g r (k.2.value x.toNat)).2, clip := false })

/-- Compares: each processed position receives its bit, masked-off bits are kept, and bits from VL up are cleared (R243,
R244, R228, R229). What less and equal mean of two numbers is said in RoundingKeepsValues. Elements of a register of
another width are those read at SEW (log 33). -/
def Obligations.CompareResults : Prop :=
  (∀ (i : Instr) (masked : Bool) (f : CmpOp) (d : Fin 8) (a : Fin 64) (b : Src), brings i = some (true, masked, .cmp f d a b) →
      ∀ (s : State) (y : Nat → Nat → Nat), s.Sound → s.Alone i masked (.cmp f d a b) →
      let h := s.h; let w := h.sew; let vl := h.vs.vl
      s.Gives b w false y →
      let out := fun j e => f.eval h.vs.cfg w (h.elem (a.val + j) w e) (y j e)
      (∀ j < h.vs.rows, ∀ e < vl, s.on masked j e = true → (out j e).2 &&& h.vs.en = 0) →
      ∃ t, exec i s = .next t ∧ s.onlyHart t ∧ s.Drained t (s.fed b) i true
        ∧ (∀ j < h.vs.rows, d.val + j < 8 → h.vs.vstart < (j + 1) * vl → ∀ e, (t.h.getM (d.val + j)).bit e
            = if vl ≤ e then false else if s.on masked j e then (out j e).1 else (h.getM (d.val + j)).bit e)
        ∧ (∀ j < h.vs.rows, (j + 1) * vl ≤ h.vs.vstart → t.h.getM (d.val + j) = h.getM (d.val + j))
        ∧ s.KeepsRegisters t 0 0 d.val h.vs.rows
        ∧ s.Accrues t (s.on masked) (fun j e => (out j e).2) (fun _ _ => false))
    ∧ (∀ w ∈ [8, 16, 32, 64], ∀ p ∈ integerCompares w, ∀ (c : VCfg) (a b : BitVec w),
        p.1.eval c w a.toNat b.toNat = (p.2 a b, 0))
    ∧ (∀ q ∈ fmtCodes, ∀ p ∈ floatCompares, ∀ (c : VCfg), c.fmt = q.1 → ∀ (w : Nat) (a b : BitVec q.2.width),
        let x := q.2.value a.toNat; let y := q.2.value b.toNat
        p.1.eval c w a.toNat b.toNat
          = (p.2.1 x y, nvWhen (if p.2.2 = true then x.isNaN || y.isNaN else x.signals || y.signals)))

/-- Mask logic: bits VSTART to VL - 1 receive the function of the source bits, and bits from VL up are cleared (R245,
R246, R93). -/
def Obligations.MaskLogicResults : Prop :=
  ∀ p ∈ maskOps, ∀ (i : Instr) (d a b : Fin 8), brings i = some (true, false, .mask p.1 d a b) →
    ∀ s : State, s.Sound → s.Alone i false (.mask p.1 d a b) →
    let h := s.h; let top := min h.vs.vl (h.vs.rows * h.vs.vl)
    ∃ t, exec i s = .next t ∧ s.onlyHart t ∧ s.Drained t h i true ∧ t.h.vs.flags = h.vs.flags ∧ t.h.vs.sat = h.vs.sat
      ∧ (∀ e, (t.h.getM d.val).bit e = if h.vs.vstart ≤ e ∧ e < top then p.2 ((h.getM a.val).bit e) ((h.getM b.val).bit e)
          else if top ≤ e ∧ h.vs.vstart < top then false else (h.getM d.val).bit e)
      ∧ s.KeepsRegisters t 0 0 d.val 1

/-- vmcpop, vmfirst, vmv.x.e, vshape, vsget and vmat: what each writes to xd, and that no image changes (R247, R234, R88,
R255, R87, R74). vshape.s of a uniform register is 0 by log 91; that vmat leaves VSTART 0 is log 60. -/
def Obligations.ScalarResultsOfVectors : Prop :=
  ∀ (s : State) (d b : Fin 32) (a : Fin 64) (k : Fin 8) (st : Fin 16) (sel : BitVec 6),
    let h := s.h; let vl := h.vs.vl; let n := (s.getX b).toNat
    let ones := (List.range vl).filter (h.getM k.val).bit
    answers (.vmcpop true d k) s (.mcpop d k) d true (fun _ => BitVec.ofNat 64 ones.length)
    ∧ answers (.vmfirst true d k) s (.mfirst d k) d true (fun _ => if ones = [] then -1 else BitVec.ofNat 64 (ones.headD 0))
    ∧ answers (.vmvXE true d a b) s (.elem d a b) d true (fun _ =>
        let x := h.elem (a.val + n / vl) h.sew (n % vl)
        if h.vs.rows * vl ≤ n then 0
        else if h.vs.cfg.fmt = 0 then BitVec.ofInt 64 (BitVec.ofNat h.sew x).toInt else BitVec.ofNat 64 x)
    ∧ answers (.vshape true d a) s (.shape d a) d false (fun t =>
        let r := t.h.getV a.val
        BitVec.ofNat 64 (shapeCode r + r.ew * 16 + r.extent * 4096))
    ∧ answers (.vshapeU true d a) s (.shapeU d a) d false (fun _ =>
        match (h.getV a.val).shape with | .u v => BitVec.ofNat 64 v | .a x _ => BitVec.ofNat 64 x | .g _ _ => 0)
    ∧ answers (.vshapeS true d a) s (.shapeS d a) d false (fun _ =>
        match (h.getV a.val).shape with | .a _ x => BitVec.ofNat 64 x | _ => 0)
    ∧ (s.Clean st → sel.toNat < 16 →
        answers (.vsget true d st sel) s (.sget d st sel) d false (fun _ => streamWord h h.stm[st] sel.toNat))
    ∧ (s.Sound → s.Alone (.vmat true a) false (.mat a) → ∃ t, exec (.vmat true a) s = .next t ∧ s.onlyHart t
        ∧ s.Drained t h (.vmat true a) true ∧ s.KeepsRegisters t 0 0 0 0 ∧ t.h.vs.flags = h.vs.flags
        ∧ t.h.vs.sat = h.vs.sat ∧ ∃ es p, (t.h.getV a.val).shape = .g es p)

/-- vld and vst: a row of elements taken from a stream, or written to the stream's addresses and nowhere else; a fault of
the probe stops at VSTART (R263, R259, R260, R132, R133, R122, R84, R334). Kept elements of vd at another width are
those read at SEW (log 33); writes to this module perform in the step that makes them (log 6), the whole row in one
(log 8). -/
def Obligations.StreamLoadsAndStores : Prop :=
  ∀ (i : Instr) (masked : Bool) (s : State), s.Sound →
    let h := s.h; let vl := h.vs.vl
    (∀ (d : Fin 64) (st : Fin 16) (y : Nat → Nat), brings i = some (true, masked, .load d st) → s.Alone i masked (.load d st) →
      s.Feeds st y →
      ∃ t, exec i s = .next t ∧ s.onlyHart t ∧ s.Drained t (s.fed (.st st)) i true
        ∧ (∀ e < vl, t.h.elem d.val h.sew e = if s.on masked 0 e then y e else h.elem d.val h.sew e)
        ∧ (h.vs.vstart < vl → (t.h.getV d.val).ew = h.sew ∧ (t.h.getV d.val).extent = vl)
        ∧ s.KeepsRegisters t d.val 1 0 0 ∧ t.h.vs.flags = h.vs.flags ∧ t.h.vs.sat = h.vs.sat)
    ∧ (∀ (ordered : Bool) (a : Fin 64) (st : Fin 16) (loc : Nat → Nat), brings i = some (true, masked, .store ordered a st) →
      s.Alone i masked (.store ordered a st) → s.Quiet → s.Clean st → s.Walks st → (s.die s.cur.die).heat.getLsbD 0 = false →
      let q := h.stm[st]
      vl - h.vs.vstart ≤ q.remain →
      (∀ e < vl, h.vs.vstart ≤ e → s.elemAt q (q.pos + e - h.vs.vstart) .write (loc e)) →
      let ps := (List.range vl).filter (s.on masked 0)
      ∃ (t : State) (l : List Nat), exec i s = .next t ∧ l.Perm ps ∧ (ordered = true → l = ps)
        ∧ (∀ a', t.peek a' = l.foldl (fun m e =>
            putElem m (loc e) (q.elemAddr (q.pos + e - h.vs.vstart)).2 q.width (h.elem a.val h.sew e)) s.peek a')
        ∧ s.onlyMemory t ∧ s.Drained t { s.fed (.st st) with mon := t.h.mon, wait := t.h.wait } i true
        ∧ s.KeepsRegisters t 0 0 0 0 ∧ t.h.vs.flags = h.vs.flags ∧ t.h.vs.sat = h.vs.sat)
    ∧ (∀ (d : Fin 64) (st : Fin 16) (n : Nat) (x : Exc), brings i = some (true, masked, .load d st) → s.Alone i masked (.load d st) →
      s.Clean st → let q := h.stm[st]
      q.mode = 0 → h.vs.vstart < vl → h.trim [st] (vl - h.vs.vstart) = some (vl - h.vs.vstart) → n < vl - h.vs.vstart →
      let reach := fun (k : Nat) => s.streamPieces s.cur q (q.elemAddr (q.pos + k)).1 (max 1 (q.width / 8)) .read
      reach n = .trap x → (∀ k < n, ∃ ps, reach k = .ok ps) →
      ∃ u : State, exec i s = .next (u.takeTrap x h.pc true 0) ∧ s.onlyHart u
        ∧ u.h = { h with v := u.h.v, vs := { h.vs with convoys := h.vs.convoys + 1 }, phase := .trim, convoy := [memberOf i masked (.load d st)] }
        ∧ ∀ r < 64, (h.getV r).sameImage (u.h.getV r))

/-- vlx and vsx: each active position reads or writes the element at xb + index x (SEW / 8), and no other byte changes
(R264, R265, R132, R133, R84). Kept elements of vd at another width are those read at SEW (log 33). -/
def Obligations.IndexedLoadsAndStores : Prop :=
  ∀ (i : Instr) (masked : Bool) (d a : Fin 64) (b : Fin 32) (s : State) (loc : Nat → Nat), s.Sound → s.Quiet →
    (s.die s.cur.die).heat.getLsbD 0 = false →
    let h := s.h; let vl := h.vs.vl; let n := h.sew / 8
    let va := fun p => ((s.getX b).toNat + h.elem (a.val + p / vl) (max h.sew 32) (p % vl) * n) % 2 ^ 56
    let ps := s.positions masked
    (brings i = some (true, masked, .gather d a b) → s.Alone i masked (.gather d a b) →
      (∀ p ∈ ps, s.indexedAt (va p) n .read (loc p)) →
      ∃ t, exec i s = .next t ∧ s.onlyHartAndBanks t ∧ s.Drained t h i true
        ∧ (∀ j < h.vs.rows, d.val + j < 64 → ∀ e < vl, t.h.elem (d.val + j) h.sew e
            = if s.on masked j e then s.peekNat (loc (j * vl + e)) n else h.elem (d.val + j) h.sew e)
        ∧ (∀ j < h.vs.rows, d.val + j < 64 → h.vs.vstart < (j + 1) * vl →
            (t.h.getV (d.val + j)).ew = h.sew ∧ (t.h.getV (d.val + j)).extent = vl)
        ∧ s.KeepsRegisters t d.val h.vs.rows 0 0 ∧ t.h.vs.flags = h.vs.flags ∧ t.h.vs.sat = h.vs.sat)
    ∧ (∀ ordered, brings i = some (true, masked, .scatter ordered d a b) → s.Alone i masked (.scatter ordered d a b) →
      (∀ p ∈ ps, s.indexedAt (va p) n .write (loc p)) →
      ∃ (t : State) (l : List Nat), exec i s = .next t ∧ l.Perm ps ∧ (ordered = true → l = ps)
        ∧ (∀ a', t.peek a' = l.foldl (fun m p =>
            putElem m (loc p) 0 h.sew (h.elem (d.val + p / vl) h.sew (p % vl))) s.peek a')
        ∧ s.onlyMemory t ∧ s.Drained t { h with mon := t.h.mon, wait := t.h.wait } i true
        ∧ s.KeepsRegisters t 0 0 0 0 ∧ t.h.vs.flags = h.vs.flags ∧ t.h.vs.sat = h.vs.sat)

/-- Vector atomics: each active position makes one read-modify-write at its address and receives the old value or the
class (R266, R191, R192, R131, R113). Kept elements of vd at another width are those read at SEW (log 33). -/
def Obligations.VectorAtomicResults : Prop :=
  ∀ (i : Instr) (masked : Bool) (f : AmoOp) (d a : Fin 64) (ord : BitVec 2) (un : Bool),
    brings i = some (true, masked, .amo f d a ord un) →
    ∀ (s : State) (loc : Nat → Nat), s.Sound → s.Quiet → s.Alone i masked (.amo f d a ord un) →
    (s.die s.cur.die).heat.getLsbD 0 = false →
    let h := s.h; let vl := h.vs.vl; let n := if addsCell f then 16 else h.sew / 8
    let ps := s.positions masked
    let x := fun p => h.elem (d.val + p / vl) h.sew (p % vl)
    (∀ p ∈ ps, s.indexedAt (h.elem (a.val + p / vl) 64 (p % vl) % 2 ^ 56) n .rmw (loc p)) →
    ∃ (t : State) (l : List Nat), exec i s = .next t ∧ l.Perm ps ∧ (un = false → l = ps)
      ∧ (let q := l.foldl (atomicStep f h.sew loc x) (s.peek, [])
         (∀ a', t.peek a' = q.1 a')
         ∧ ∀ j < h.vs.rows, d.val + j < 64 → ∀ e < vl, t.h.elem (d.val + j) h.sew e =
             if s.on masked j e then ((q.2.find? fun r => r.1 == j * vl + e).map (·.2)).getD 0 else h.elem (d.val + j) h.sew e)
      ∧ s.onlyMemory t
      ∧ s.Drained t { (if ord.getLsbD 0 then h.discardAhead else h) with mon := t.h.mon, wait := t.h.wait } i true
      ∧ s.KeepsRegisters t d.val h.vs.rows 0 0 ∧ t.h.vs.flags = h.vs.flags ∧ t.h.vs.sat = h.vs.sat

/-- Crossroads: reductions, scans, gathers, slides, compress and expand on each row of the tile (R275, R276, R277, R84).
The width at which the scalar operand of vrgather.vx counts is log 34, and the canonical result of vfredsum of one NaN
is log 80. -/
def Obligations.CrossroadsResults : Prop :=
  ∀ (i : Instr) (masked : Bool) (f : XrOp) (d a : Fin 64) (b : Src), brings i = some (true, masked, .xr f d a b) →
    ∀ s : State, s.Sound → s.Alone i masked (.xr f d a b) →
    let h := s.h; let w := h.sew; let vl := h.vs.vl
    let k := match b with | .x r => (s.getX r).toNat | .imm n => n.toNat | _ => 0
    let idx := fun j e => match b with | .v r => h.elem (r.val + j) (max w 32) e | _ => k % 2 ^ max w 32
    let m := (h.getM 0).bit
    let r := fun j => crossed f h.vs.cfg.format h.vrnd w vl (h.elem (a.val + j) w) (idx j) k m (fun e => !masked || m e)
    (∀ j < h.vs.rows, ∀ e < vl, (r j e).2 &&& h.vs.en = 0) →
    ∃ t, exec i s = .next t ∧ s.onlyHart t ∧ s.Drained t h i true
      ∧ (∀ j < h.vs.rows, d.val + j < 64 → h.vs.vstart < (j + 1) * vl →
          (t.h.getV (d.val + j)).ew = w ∧ (t.h.getV (d.val + j)).extent = (if f ∈ reductions then 1 else vl)
          ∧ ∀ e < (t.h.getV (d.val + j)).extent, t.h.elem (d.val + j) w e % 2 ^ w = (r j e).1 % 2 ^ w)
      ∧ (∀ j < h.vs.rows, (j + 1) * vl ≤ h.vs.vstart → (h.getV (d.val + j)).sameImage (t.h.getV (d.val + j)))
      ∧ s.KeepsRegisters t d.val h.vs.rows 0 0 ∧ t.h.vs.sat = h.vs.sat
      ∧ (∀ n < 5, t.h.vs.flags.getLsbD n = true ↔ h.vs.flags.getLsbD n = true
          ∨ ∃ j < h.vs.rows, h.vs.vstart < (j + 1) * vl ∧ (r j 0).2.getLsbD n = true)

/-- vmm and ccvt: saturating sums of eight products, and conversions under an MX scale (R282, R283, R284, R299, R300,
R110). Kept elements of a register of another width are those read at the destination width (log 33). Where vs of OUT
2 or 3 is a later register of the group of va, later rows read what earlier rows wrote (log 77): that form is left out
here. -/
def Obligations.MatrixResults : Prop :=
  ∀ (i : Instr) (masked : Bool) (s : State), s.Sound →
    let h := s.h; let vl := h.vs.vl
    (∀ (d a b : Fin 64) (ta tb : BitVec 3), brings i = some (true, masked, .vmm d a b ta tb) →
      s.Alone i masked (.vmm d a b ta tb) →
      let q := fun j e => products ta tb (fun k => h.elem a.val (itWidth ta) (8 * j + k)) (fun k => h.elem (b.val + k) (itWidth tb) e)
      let v := fun j e => (BitVec.ofNat 64 (h.elem (d.val + j) 64 e)).toInt + (q j e).1
      let clips := fun j e => decide (v j e < -2 ^ 63 ∨ 2 ^ 63 - 1 < v j e)
      let fl := fun j e => if (q j e).2 then (16 : Flags) else 0
      (∀ j < h.vs.rows, ∀ e < vl, s.on masked j e = true → fl j e &&& h.vs.en = 0) →
      ∃ t, exec i s = .next t ∧ s.onlyHart t ∧ s.Drained t h i true
        ∧ (∀ j < h.vs.rows, d.val + j < 64 → ∀ e < vl, t.h.elem (d.val + j) 64 e % 2 ^ 64
            = if s.on masked j e then (BitVec.ofInt 64 (max (-2 ^ 63) (min (2 ^ 63 - 1) (v j e)))).toNat
              else h.elem (d.val + j) 64 e % 2 ^ 64)
        ∧ s.KeepsRegisters t d.val h.vs.rows 0 0 ∧ s.Accrues t (s.on masked) fl clips)
    ∧ (∀ (d a vs : Fin 64) (ta tb : BitVec 3) (out : BitVec 2), brings i = some (true, masked, .ccvt d a vs ta tb out) →
      s.Alone i masked (.ccvt d a vs ta tb out) → s.crucibleFree →
      let g := if out = 0 then Fmt.f32 else if out = 1 then .bf16 else if out = 2 then .e4m3 else .e2m1
      let p := itLsb ta + itLsb tb
      let blocks := (vl + 31) / 32
      let n := fun j e => (BitVec.ofNat 64 (h.elem (a.val + j) 64 e)).toInt
      let on := fun j e => if out.toNat ≤ 1 then s.on masked j e
        else decide (h.vs.vstart < (j + 1) * vl) && (!masked || (h.getM 0).bit e)
      let read := fun j => decide (a.val ≤ vs.val ∧ vs.val ≤ a.val + j ∧ h.vs.vstart < (vs.val - a.val + 1) * vl)
      let scale := fun j b => if out.toNat ≤ 1 then
          (match (h.getV vs.val).shape with
           | .u x => if (h.getV vs.val).ew = 8 ∧ vl ≤ (h.getV vs.val).extent ∧ read j = false then x else h.elem vs.val 8 (j * blocks + b)
           | _ => h.elem vs.val 8 (j * blocks + b))
        else blockScale (out == 3) p (((List.range vl).filter fun e => on j e && e / 32 == b).map (n j))
      let r := fun j e =>
        if out.toNat ≤ 1 then
          (if scale j (e / 32) = 255 then (g.canonicalNaN, 0) else g.roundInt .rne (n j e) (p + (scale j (e / 32) - 127 : Int)))
        else g.roundInt .rne (n j e) (p - (scale j (e / 32) - 127 : Int))
      (2 ≤ out.toNat → vs.val ≤ a.val ∨ a.val + h.vs.rows ≤ vs.val) →
      (∀ j < h.vs.rows, ∀ e < vl, on j e = true → (r j e).2 &&& h.vs.en = 0) →
      ∃ t, exec i s = .next t ∧ s.onlyHartAndGrant t ∧ s.Drained t h i true
        ∧ (∀ j < h.vs.rows, d.val + j < 64 → ∀ e < vl, t.h.elem (d.val + j) g.width e % 2 ^ g.width
            = (if on j e then (r j e).1 else h.elem (d.val + j) g.width e) % 2 ^ g.width)
        ∧ (2 ≤ out.toNat → h.vs.vstart < h.vs.rows * vl → ∀ j < h.vs.rows, ∀ b < blocks,
            t.h.elem vs.val 8 (j * blocks + b)
              = if ∃ e < vl, on j e = true ∧ e / 32 = b then scale j b else h.elem vs.val 8 (j * blocks + b))
        ∧ (∀ k < 64, (k < d.val ∨ d.val + h.vs.rows ≤ k) → (out.toNat ≤ 1 ∨ k ≠ vs.val) → (h.getV k).sameImage (t.h.getV k))
        ∧ (∀ k < 8, t.h.getM k = h.getM k)
        ∧ s.Accrues t on (fun j e => (r j e).2) (fun _ _ => false))

/-- The Crucible: outer products, block moves, block loads and stores, and clearing (R286, R288, R289, R290, R291, R292,
R293, R295). That the operands of copr.m, cld and cst may lie in the alias windows is log 89, and that a convoy of
Crucible members leaves VSTART 0 is log 60. -/
def Obligations.CrucibleResults : Prop :=
  ∀ (i : Instr) (s : State) (c : Fin 8) (op : MOp), brings i = some (true, false, op) → s.Sound → s.Alone i false op →
    s.crucibleFree →
    let h := s.h; let wb := h.blockWidth c.val
    (∀ (a b : Fin 64) (xo : Fin 32) (f : BitVec 3), op = .copr c a b xo f →
      let w := (opFmt f).width; let o := (s.getX xo).toNat
      let r := outerAt h c f (operandAt h a.val w (o % 2 ^ 32)) (operandAt h b.val w (o / 2 ^ 32))
      (∀ n < 1024, (r n).2 &&& h.vs.en = 0) → ∃ t, crucibleDone i s t c (fun n => (r n).1) ∧ outerFlags s t r)
    ∧ (∀ (a b : Fin 32) (f : BitVec 3) (ps qs : List (Target × Nat)), op = .coprM c a b f → s.Quiet →
      let w := operandSize f; let n := operandLen f
      (s.getX a).toNat % w = 0 → (s.getX b).toNat % w = 0 →
      s.Reaches (s.getX a) (n * w) .read ps → s.Reaches (s.getX b) (n * w) .read qs →
      let r := outerAt h c f (fun k => leNat (((s.bytesOf ps).drop (k * w)).take w)) (fun k => leNat (((s.bytesOf qs).drop (k * w)).take w))
      (∀ n < 1024, (r n).2 &&& h.vs.en = 0) → ∃ t, crucibleDone i s t c (fun n => (r n).1) ∧ outerFlags s t r)
    ∧ (∀ (a : Fin 64) (xo : Fin 32), op = .cmvBv c a xo →
      let o := (s.getX xo).toNat; let i0 := o / 2 ^ 32 % 256; let nr := o / 2 ^ 40 % 256
      let last := if nr = 0 then 32 else i0 + nr
      ∃ t, crucibleDone i s t c (fun n => if i0 ≤ n / 32 ∧ n / 32 < last then operandAt h a.val wb (o % 2 ^ 32) (n - 32 * i0)
        else h.blockAt c.val n) ∧ t.h.vs.flags = h.vs.flags)
    ∧ (∀ (d : Fin 64) (xo : Fin 32), op = .cmvVb d c xo →
      let o := (s.getX xo).toNat; let i0 := o / 2 ^ 32 % 256; let nr := o / 2 ^ 40 % 256; let off := o % 2 ^ 32
      let len := 32 * (if nr = 0 then 32 - i0 else nr)
      let top := h.vlmaxAt wb
      ∃ t, exec i s = .next t ∧ s.onlyHartAndGrant t ∧ s.Drained t h i true ∧ s.KeepsRegisters t d.val 1 0 0
        ∧ t.h.vs.flags = h.vs.flags ∧ t.h.vs.sat = h.vs.sat ∧ (t.h.getV d.val).ew = wb
        ∧ (t.h.getV d.val).extent = (if off < top then max (min (h.getV d.val).extent top) (min (off + len) top)
            else min (h.getV d.val).extent top)
        ∧ ∀ n < (t.h.getV d.val).extent, t.h.elem d.val wb n
            = if off ≤ n ∧ n < off + len then h.blockAt c.val (32 * i0 + (n - off)) else h.elem d.val wb n)
    ∧ (∀ (a b : Fin 32) (ps : Nat → List (Target × Nat)), op = .cld c a b → s.Quiet →
      let w := wb / 8
      (s.getX a).toNat % w = 0 → (s.getX b).toNat % w = 0 →
      (∀ k < 32, s.Reaches (s.getX a + BitVec.ofNat 64 k * s.getX b) (32 * w) .read (ps k)) →
      ∃ t, crucibleDone i s t c (fun n => leNat (((s.bytesOf (ps (n / 32))).drop (n % 32 * w)).take w))
        ∧ t.h.vs.flags = h.vs.flags)
    ∧ (∀ (a b : Fin 32) (loc : Nat → Nat), op = .cst c a b → s.Quiet →
      let w := wb / 8
      (s.getX a).toNat % w = 0 → (s.getX b).toNat % w = 0 →
      (∀ k < 32, ∃ ps, s.pieces s.cur (s.getX a + BitVec.ofNat 64 k * s.getX b).toNat (32 * w) .write = .ok ps) →
      (∀ n < 1024, 0xB8000 ≤ loc n ∧ ∃ ty, ty ≠ .pool ∧
        s.pieces s.cur (s.getX a + BitVec.ofNat 64 (n / 32) * s.getX b + BitVec.ofNat 64 (n % 32 * w)).toNat w .write
          = .ok [(.mem (loc n) ty, w)]) →
      ∃ (t : State) (l : List Nat), exec i s = .next t ∧ l.Perm (List.range 1024)
        ∧ (∀ a', t.peek a' = l.foldl (fun m n => putElem m (loc n) 0 wb (h.blockAt c.val n)) s.peek a')
        ∧ s.onlyMemory { t with cores := s.cores } ∧ s.servedCrucible t ∧ s.Drained t { h with mon := t.h.mon, wait := t.h.wait } i true ∧ s.KeepsRegisters t 0 0 0 0
        ∧ t.h.vs.flags = h.vs.flags ∧ t.h.vs.sat = h.vs.sat)
    ∧ (op = .czero c → ∃ t, crucibleDone i s t c (fun _ => 0) ∧ t.h.vs.flags = h.vs.flags)

/-- vscfg, vscfgr, vchsend, vchrecv and vsidle: the stream register afterwards, and when a bind traps CHANNEL (R249, R251,
R252, R254, R256, R272). That a member names no element leaves VSTART alone is log 60. -/
def Obligations.StreamConfiguration : Prop :=
  ∀ (s : State) (a b c : Fin 32) (st : Fin 16), s.Sound → s.Clean st → s.h.entryOf st = false →
    let h := s.h; let xa := (s.getX a).toNat
    (∀ ps, s.Alone (.vscfg true a st) false (.scfg a st) → s.Quiet → xa % 64 = 0 → s.Reaches (s.getX a) 64 .read ps →
      let w := leNat (s.bytesOf ps); let mode := recBits w 72 3
      walkLegal (recBits w 0 64) (recExtents w) (recStrides w) (recBits w 64 7) → mode ≤ 1 → recBits w 71 1 = 0 →
      recBits w 75 53 = 0 →
      leavesStreams (.vscfg true a st) s (h.stm.set st (walking (recBits w 0 64) (recExtents w) (recStrides w) (recBits w 64 7) mode)))
    ∧ (s.Alone (.vscfgr true a c st) false (.scfgr a c st) → 1 ≤ c.val → c.val ≤ 30 →
      let w := (s.getX (c + 1)).toNat; let es := [recBits w 0 48, 0, 0, 0]; let strides := [s.getX c, 0, 0, 0]
      walkLegal xa es strides (recBits w 48 7) → recBits w 56 3 ≤ 1 → recBits w 55 1 = 0 → recBits w 59 5 = 0 →
      leavesStreams (.vscfgr true a c st) s (h.stm.set st (walking xa es strides (recBits w 48 7) (recBits w 56 3))))
    ∧ (s.Alone (.vchsend true a b st) false (.chsend a b st) →
      let ok := recBits xa 13 3 = 0 ∧ recBits xa 39 25 = 0 ∧ recBits xa 32 7 ∈ [8, 16, 32, 64]
      (ok → s.getX b = h.id.gangId →
        leavesStreams (.vchsend true a b st) s (h.stm.set st (bound (s.getX a) (recBits xa 32 7) true)))
      ∧ (h.priv = false → h.inh = false → h.trap.en = true →
        (¬ok → stopsChannel (.vchsend true a b st) s (s.getX a))
        ∧ (ok → s.getX b ≠ h.id.gangId → stopsChannel (.vchsend true a b st) s (s.getX b))))
    ∧ (s.Alone (.vchrecv true a st) false (.chrecv a st) →
      let ok := recBits xa 9 55 = 0 ∧ recBits xa 2 7 ∈ [8, 16, 32, 64]
      (ok → leavesStreams (.vchrecv true a st) s
        ((h.stm.map fun t => if t.mode = 3 ∧ t.dir = false ∧ t.state ≠ .idle ∧ t.bind.toNat % 4 = xa % 4 then Stream.idle else t).set st
          (bound (s.getX a) (recBits xa 2 7) false)))
      ∧ (h.priv = false → h.inh = false → h.trap.en = true → ¬ok → stopsChannel (.vchrecv true a st) s (s.getX a)))
    ∧ (s.Alone (.vsidle true st) false (.sidle st) → leavesStreams (.vsidle true st) s (h.stm.set st Stream.idle))

/-- vcopy and its forms: a declaration loads the stream, makes its entry and accepts every element; no byte moves yet
(R267, R269, R270, R136, R137). The model's own here: where a copy's strip buffers lie (log 17), the order of its
checks (log 113), and that an add copy needs the atomic permission (log 52). -/
def Obligations.CopyDeclarations : Prop :=
  ∀ p ∈ copies, ∀ (s : State) (a b : Fin 32) (st : Fin 16) (ps : List (Target × Nat)), s.Sound → s.Quiet →
    s.Alone (p.1 true a b st) false (.copy p.2 a b st) → (s.getX a).toNat % 64 = 0 → s.Reaches (s.getX a) 64 .read ps →
    let w := leNat (s.bytesOf ps); let es := recExtents w; let width := recBits w 64 7; let n := walkCount es
    let walk := walking (recBits w 0 64) es (recStrides w) width 2
    let size := destSize p.2 width; let dbase := (s.getX b).toNat % 2 ^ 56
    walkLegal (recBits w 0 64) es (recStrides w) width → recBits w 72 3 = 2 → recBits w 71 1 = 0 → recBits w 75 53 = 0 →
    (addsForm p.2 = true → width = if p.2 = .adds then 32 else 64) →
    (s.getX b).toNat % max 1 (size / 8) = 0 → s.h.stm[st].sameCopy p.2 (s.getX a) (s.getX b) = false →
    (∀ e < n, ∃ src dst, s.pieces s.cur (walk.elemAddr e).1 (max 1 (width / 8)) .read = .ok src
      ∧ (let va := (dbase + e * size / 8) % 2 ^ 56
         if addsForm p.2 then ∃ loc ty, ty ≠ .pool ∧ s.translate s.cur va .rmw = .ok (.mem loc ty)
         else s.pieces s.cur va (max 1 (size / 8)) .write = .ok dst)) →
    ∃ t, exec (p.1 true a b st) s = .next t ∧ s.onlyHart t
      ∧ s.Drained t { s.h with stm := t.h.stm, ilock := t.h.ilock, transfers := t.h.transfers } (p.1 true a b st) false ∧ s.KeepsRegisters t 0 0 0 0
      ∧ t.h.vs.flags = s.h.vs.flags ∧ t.h.vs.sat = s.h.vs.sat
      ∧ t.h.stm = s.h.stm.set st { walk with
          dbase := BitVec.ofNat 64 dbase, form := p.2, recAddr := s.getX a, tap := p.2 = .tap, acc := n, held := t.h.stm[st].held,
          bufs := t.h.stm[st].bufs }
      ∧ (n = 0 → t.h.ilock = [] ∧ t.h.transfers = s.h.transfers)
      ∧ (n ≠ 0 → t.h.transfers = s.h.transfers + 1 ∧ ∃ e, t.h.ilock = [e] ∧ e.no = s.h.transfers ∧ e.kind = (if addsForm p.2 then .copyAdd else .copy) ∧ e.stream = st ∧ e.progress = 0
          ∧ e.wrlo = dbase ∧ e.wrhi = dbase + (n * size + 7) / 8
          ∧ ∀ k < n, e.rdlo ≤ (walk.elemAddr k).1 ∧ (walk.elemAddr k).1 + max 1 (width / 8) ≤ e.rdhi)

/-- vsend, vsend.eom and veom: what a send reads into its buffers, and its entry (R273, R136, R135, R86). Where the strip
buffers lie is the model's choice (log 17), and that veom leaves VSTART alone its reading (log 60). -/
def Obligations.ChannelSends : Prop :=
  ∀ (s : State) (a : Fin 64) (st : Fin 16), s.Sound → s.Clean st → s.h.entryOf st = false → s.h.ilock.length < 32 →
    s.h.stm[st].partway = false →
    let h := s.h; let vl := h.vs.vl; let q := h.stm[st]
    let els := (List.range (h.vs.rows * vl - h.vs.vstart)).map fun k =>
      some (h.elem (a.val + (h.vs.vstart + k) / vl) q.width ((h.vs.vstart + k) % vl))
    (s.Alone (.vsend true a st) false (.send a false st) → els.length ≤ 2 * (131072 / q.width) →
        (els = [] → holdsNothing s st) → sends (.vsend true a st) s st true els)
    ∧ (s.Alone (.vsendEom true a st) false (.send a true st) → els.length < 2 * (131072 / q.width) →
        sends (.vsendEom true a st) s st true (els ++ [none]))
    ∧ (s.Alone (.veom true st) false (.eom st) → q.width ≤ 64 → sends (.veom true st) s st false [none])

/-- kswage, kpool and ktongs: acceptance puts the stream in MODE 4 and makes the scan entry (R307, R308, R309, R316,
R318). That the auxiliary arrays are read at acceptance is the model's reading (log 76). -/
def Obligations.KerbCommandsAccepted : Prop :=
  ∀ p ∈ commands, ∀ (s : State) (a : Fin 32) (st : Fin 16) (w : Nat), s.Sound → s.Clean st →
    s.Alone (p.1 true a st) false (.kerb p.2 a st 0) → s.kerbRecord p.2.val (s.getX a) (encode (p.1 true a st)) = .ok w →
    s.kerbProbe s.cur p.2.val (Cmd.ofNat w) = .ok () → s.h.entryOf st = false →
    s.h.ilock.length + (if p.2 = 2 then 1 else 2) ≤ 32 →
    let c := Cmd.ofNat w; let kind := p.2.val
    let empty := (if kind = 1 then c.w5 else c.count) = 0
    let fresh := { Stream.idle with
      state := if empty then StreamState.done else .active, base := BitVec.ofNat 64 ((s.getX a).toNat % 2 ^ 56),
      width := resultWidth kind (recBits c.ctrl 8 2) (recBits c.ctrl 14 2), remain := if empty then 0 else 2 ^ 48 - 1, mode := 4 }
    (empty → ∃ t, exec (p.1 true a st) s = .next t ∧ s.onlyHart t
      ∧ s.Drained t { s.h with stm := s.h.stm.set st fresh } (p.1 true a st) false ∧ s.KeepsRegisters t 0 0 0 0
      ∧ t.h.vs.flags = s.h.vs.flags ∧ t.h.vs.sat = s.h.vs.sat)
    ∧ (¬empty → ∀ us, s.commandUnits s.cur c kind = .ok us →
      (∀ u ∈ us, s.unitQueue u < 16 ∧ (s.channel u).power / 2 ^ 5 % 2 = 0 ∧ (s.channel u).power % 4 = 0) →
      ∀ arrays, s.readArrays s.cur none (c.arrays kind) = .ok arrays →
      ∃ t, exec (p.1 true a st) s = .next t
        ∧ t = { s with harts := t.harts, chans := t.chans, commands := s.commands + 1 } ∧ (∀ i, i ≠ s.cur → t.hart i = s.hart i)
        ∧ s.Drained t { s.h with stm := t.h.stm, ilock := t.h.ilock, transfers := s.h.transfers + 1 } (p.1 true a st) false
        ∧ s.KeepsRegisters t 0 0 0 0 ∧ t.h.vs.flags = s.h.vs.flags ∧ t.h.vs.sat = s.h.vs.sat
        ∧ ∃ job, t.h.stm = s.h.stm.set st { fresh with job := some job, held := t.h.stm[st].held }
            ∧ job.kind = kind ∧ job.src = c.src ∧ job.count = c.count ∧ job.sent = 0 ∧ job.paused = false ∧ job.data = []
            ∧ job.units.map (·.1) = us ∧ job.arrival = s.commands
            ∧ (if kind = 1 ∧ job.items = [] then t.h.ilock = s.h.ilock
               else t.h.ilock = s.h.ilock ++ [{ no := s.h.transfers, kind := if p.2 = 2 then .tongs else .kerb, stream := st, rdlo := c.src,
                                                rdhi := c.src + c.count * c.itemBytes kind, wrlo := 0, wrhi := 0, progress := 0 }]))

/-- seal and unseal: the status each returns, in order, and what a success records (R320, R321, R322, R324, R136, R423).
The order of the status codes and ILLEGAL at boot epoch 65,535 are the model's reading (log 57), and so is which
writes that have left a hart hold the seal's point (log 6). -/
def Obligations.SealsRecorded : Prop :=
  ∀ (s : State) (d a b : Fin 32), s.Sound → s.h.ilock.length < 32 →
    let va := (s.getX a).toNat % 2 ^ 56; let xb := (s.getX b).toNat
    (s.bootEpoch = 65535 → ∀ i ∈ [(Instr.seal true d a b, MOp.seal d a b), (.unseal true d a b, .unseal d a b)], s.Alone i.1 false i.2 →
      exec i.1 s = .next (s.takeTrap { cause := .illegal, acc := .read, tval := BitVec.ofNat 64 (encode i.1) } s.h.pc true 0))
    ∧ (s.bootEpoch ≠ 65535 → s.Alone (.seal true d a b) false (.seal d a b) → (s.getX a).toNat % 65536 = 0 →
      ∀ ps, s.sealGranules s.cur (s.getX a).toNat (xb % 2 ^ 32) = .ok ps →
      let i := Instr.seal true d a b
      let fails := fun (code : Nat) => sealAnswers i s s d (BitVec.ofNat 64 (code * 2 ^ 56)) []
      let full := 64 ≤ s.seals.length
      let inSeal := ∃ g ∈ ps, ∃ l ∈ s.seals, g < l.base + l.len ∧ l.base < g + 65536 ∧ 0 < l.len
      let badArg := xb % 2 ^ 32 = 0 ∨ xb / 2 ^ 32 ≠ 0
      let scattered := ∃ k, k + 1 < ps.length ∧ ps.getD (k + 1) 0 ≠ ps.getD k 0 + 65536
      let version := s.bootEpoch * 2 ^ 32 + (s.sealCount + 1)
      (full → fails 1) ∧ (¬full → inSeal → fails 2) ∧ (¬full → ¬inSeal → badArg → fails 3)
        ∧ (¬full → ¬inSeal → ¬badArg → scattered → fails 4)
        ∧ (¬full → ¬inSeal → ¬badArg → ¬scattered → s.sealCount = 2 ^ 32 - 1 → fails 5)
        ∧ (¬full → ¬inSeal → ¬badArg → ¬scattered → s.sealCount ≠ 2 ^ 32 - 1 →
          s.h.guard .read (s.getX a).toNat (65536 * ps.length) (.ok ()) = .ok () → s.writesHeld ps = false →
          sealAnswers i s { s with seals := s.seals ++ [{ base := ps.headD 0, len := 65536 * ps.length, version := version }],
                                   sealCount := s.sealCount + 1 } d (BitVec.ofNat 64 version)
            [{ no := s.h.transfers, kind := .seal, stream := 0, rdlo := va, rdhi := va + 65536 * ps.length, wrlo := 0, wrhi := 0,
               progress := 0 }]))
    ∧ (s.bootEpoch ≠ 65535 → s.Alone (.unseal true d a b) false (.unseal d a b) → ∀ pa, s.unsealTarget s.cur (s.getX a).toNat = .ok pa →
      let i := Instr.unseal true d a b
      (xb / 2 ^ 48 ≠ 0 → sealAnswers i s s d 2 [])
        ∧ (xb / 2 ^ 48 = 0 → (∀ l ∈ s.seals, ¬(pa = some l.base ∧ l.version = xb)) → sealAnswers i s s d 1 [])
        ∧ (xb / 2 ^ 48 = 0 → ∀ l, s.seals.find? (fun l => pa == some l.base && l.version == xb) = some l →
          s.h.guard .write (s.getX a).toNat l.len (.ok ()) = .ok () →
          sealAnswers i s { s with seals := s.seals.filter (· ≠ l) } d 0
            [{ no := s.h.transfers, kind := .unseal, stream := 0, rdlo := 0, rdhi := 0, wrlo := va, wrhi := va + l.len, progress := 0 }]))

/-- Waits end: load data, relay steps, monitor wakes, timeouts, barrier wakes and fences (R33, R58, R59, R61, R129, R225,
R397). Which loads are late is a free value (log 86); that base latencies and other cycles are left out is log 5, and
what a waiting fence waits for log 45. -/
def Obligations.WaitsEnd : Prop :=
  ∀ (h : HartId) (s : State), s.Sound → let x := s.hart h
    (∀ n, (x.reads = [] → exec (.loadDataReturn h n) s = .next s)
      ∧ ∀ q qs, x.reads = q :: qs →
          exec (.loadDataReturn h n) s = .next (s.setHart h { x with latcnt := x.latcnt + BitVec.ofNat 64 n, reads := qs }))
    ∧ exec (.relayComplete h) s = .next (s.setHart h { x with relay := false })
    ∧ (∀ d since timeout m, x.wait = some (.mwait d since timeout) → x.mon = some m →
        exec (.monitorWake h) s = .next (if m.hit then s.setHart h (wokeUp x d 0 true) else s)
        ∧ exec (.mwaitTimeout h) s = .next (if timeout ≠ 0 ∧ since + timeout.toNat ≤ s.cycle
            then s.setHart h (wokeUp x d (if m.hit then 0 else 1) m.hit) else s))
    ∧ (∀ va loc gen released, x.wait = some (.barrier va loc gen released) →
        exec (.barrierWake h) s = .next (if released then s.setHart h
          { x.discardAhead with st := .running, wait := none, pc := x.pc + 4, instret := countedIn x } else s))
    ∧ (∀ ord sc, x.fence = some (ord, sc) → x.st = .running → spotless x →
        (x.ilock = [] → x.posted = [] → exec (.fenceRetire h) s = .next (s.setHart h
          { (if ord.getLsbD 0 then x.discardAhead else x) with fence := none, pc := x.pc + 4, instret := countedIn x }))
        ∧ (x.ilock ≠ [] → ord ≠ 1 → exec (.fenceRetire h) s = .next s))

/-- A hart enters RUNNING, ends, is warned or suspended; a lease or a reservation ends (R47, R48, R215, R219, R220, R341,
R342, R343, R346, R347, R348, R474). How the warning trap behind a convoy in flight shows is log 82, what a suspend
keeps beside the image log 21, the end of a pair's checkpoint area log 109. -/
def Obligations.HartsComeAndGo : Prop :=
  ∀ s : State, s.Sound →
    (∀ h : HartId, h.slot ≠ 7 → let x := s.hart h; let gang := x.id.gangId
      (x.st = .creating → spotless x →
        (s.suspending h.die gang = false → (∀ m va, x.mon = some m → m.sector = 2 ^ 58 → s.translate h m.va.toNat .read = .miss va .read →
          exec (.roleChangeComplete h) s = .next (s.request h va .read false false)))
        ∧ (s.suspending h.die gang = false → (∀ m, x.mon = some m → m.sector ≠ 2 ^ 58) → ∃ t, exec (.roleChangeComplete h) s = .next t
          ∧ t = { s with harts := t.harts, dies := t.dies, pairs := t.pairs } ∧ (x.id.paired = false → t.pairs = s.pairs)
          ∧ (x.id.paired = true → (hartKey h, { hart := { x with st := .running }, rollbacks := 0, resumeAt := none }) ∈ t.pairs) ∧ t.hart h = { x with st := .running } ∧ (∀ i, i ≠ h → t.hart i = s.hart i)
          ∧ ((∀ i, i ≠ h → inGang s h.die gang i → (s.hart i).st ≠ .creating) →
              (t.die h.die).gangs = (s.die h.die).gangs.map fun g => if g.gangId = gang ∧ g.st = .placing then { g with st := .running } else g)
          ∧ ((∃ i, i ≠ h ∧ inGang s h.die gang i ∧ (s.hart i).st = .creating) → t.dies = s.dies))
        ∧ (s.suspending h.die gang = true → ∃ y : Hart, exec (.roleChangeComplete h) s = .next (s.setHart h y)
            ∧ y.st = .suspending ∧ y.pc = x.pc ∧ y.x = x.x ∧ y.v = x.v ∧ y.m = x.m))
      ∧ (x.st = .stopping → x.convoy = [] → x.ilock = [] → x.posted = [] → (x.reports = true → spotless x) →
          ∃ t, exec (.hartStopComplete h) s = .next t ∧ t.hart h = Hart.reset ∧ (∀ i, i ≠ h → t.hart i = s.hart i)
            ∧ ∀ a, (x.id.paired = true → notContext h a) → t.peek a = s.peek a)
      ∧ (x.st ≠ .stopping ∨ x.convoy ≠ [] ∨ x.ilock ≠ [] ∨ x.posted ≠ [] → exec (.hartStopComplete h) s = .next s)
      ∧ (∀ r, x.reclaimAt = some r → r.warned = false → x.rwarn = true → x.inh = false → x.priv = false → x.st = .running →
          r.since + r.length / 2 ≤ s.cycle → s.cycle < r.since + r.length → s.atBoundary h = true → x.convoy = [] → x.trap.en = true →
          exec (.lanedeadline h) s = .next (s.setHart h { x with
            trap := { x.trap with cause := 13, tval := BitVec.ofNat 64 (r.since + r.length - s.cycle), pc := x.pc, conv := false, member := 0 },
            inh := true, pc := BitVec.ofNat 56 (4 * x.trap.base.toNat), phase := .open, convoy := [], ahead := none, waited := Waited.reset,
            xwait := none, xnone := none, fence := none, reclaimAt := some { r with warned := true } }))
      ∧ (∀ r, x.reclaimAt = some r → let f := x.front; f.warned = false → x.rwarn = true → f.inh = false → x.priv = false → x.st = .running →
          r.since + r.length / 2 ≤ s.cycle → s.cycle < r.since + r.length → s.atBoundary h = true → x.inFlight = true → x.inf = false →
          f.trap.en = true → x.xwait = none → x.xnone = none →
          exec (.lanedeadline h) s = .next (s.setHart h { x with
            ahead := some { front := warnedAt x (r.since + r.length - s.cycle), stores := (x.ahead.map (·.stores)).getD [] } }))
      ∧ (∀ r, x.reclaimAt = some r →
          (s.cycle < r.since + r.length → exec (.reclaimDeadlineExpiry h) s = .next s)
          ∧ (r.since + r.length ≤ s.cycle → (x.st ≠ .running ∧ x.st ≠ .waiting ∨ s.suspending h.die gang = true) →
              exec (.reclaimDeadlineExpiry h) s = .next (s.setHart h { x with vs := { x.vs with rq := 0 }, reclaimAt := none }))
          ∧ (r.since + r.length ≤ s.cycle → (x.st = .running ∨ x.st = .waiting) → s.suspending h.die gang = false →
              ∃ t, exec (.reclaimDeadlineExpiry h) s = .next t ∧ t.suspending h.die gang = true
              ∧ ((∀ q ∈ s.harts, q.2.wfail = none ∧ q.2.phase ≠ .drain ∧ q.2.phase ≠ .empty) → t.mem = s.mem
                ∧ (t.hart h).reclaimAt = none ∧ (t.hart h).vs.rq = 0
                ∧ ∀ i, inGang s h.die gang i → ((s.hart i).st = .running ∨ (s.hart i).st = .waiting) →
                  (t.hart i).st = .suspending ∧ (t.hart i).x = (s.hart i).x ∧ (t.hart i).pc = (s.hart i).pc))))
    ∧ (∀ c, let rs := (s.core c).reserved.filter fun r => decide (s.cycle < r.2)
        exec (.resvExpiry c) s = .next (if rs = (s.core c).reserved then s else s.setCore c { s.core c with reserved := rs }))
    ∧ (∀ st : Fin 16, ∃ ls, exec (.leaseExpiry st) s = .next { s with leases := ls }
        ∧ ∀ k l, (k, l) ∈ ls ↔ (k, l) ∈ s.leases ∧ (k = st.val → s.cycle < l.ends))
    ∧ (∀ die gang p, (s.die die).suspends.find? (fun q => q.gang == gang) = some p → p.table = none → p.images = [] →
        (∀ i, inGang s die gang i → (s.hart i).st ≠ .empty →
          (s.hart i).st = .suspending ∧ (s.hart i).posted = [] ∧ (s.hart i).wfail = none) →
        (∃ i, inGang s die gang i ∧ (s.hart i).st ≠ .empty) →
        ∃ t, exec (.gangSuspendComplete die gang) s = .next t ∧ t.suspending die gang = false
          ∧ (∀ a, (∀ i, inGang s die gang i → (s.hart i).st ≠ .empty → (s.hart i).id.paired = true → notContext i a) → t.peek a = s.peek a)
          ∧ (∀ i, inGang s die gang i → (s.hart i).st ≠ .empty → t.hart i = Hart.reset)
          ∧ (∀ i, ¬(inGang s die gang i ∧ (s.hart i).st ≠ .empty) → t.hart i = s.hart i)
          ∧ (∀ g ∈ (t.die die).gangs, g.gangId = gang → g.st = .suspended
              ∧ ((∀ i j, inGang s die gang i → inGang s die gang j → (s.hart i).st ≠ .empty → (s.hart j).st ≠ .empty →
                    (s.hart i).id.index = (s.hart j).id.index → i = j) →
                  ∀ i, inGang s die gang i → (s.hart i).st ≠ .empty → ((s.hart i).id.index.toNat, s.hart i) ∈ g.saved)))
    ∧ (∀ die gang p a u w, (s.die die).suspends.find? (fun q => q.gang == gang) = some p → p.table = some a →
        let l := slotsOfGang s die gang
        l ≠ [] → (∀ q ∈ l, q.2.st = .suspending ∧ q.2.posted = [] ∧ q.2.wfail = none) →
        ImagesWritten p s (l.map (·.2)) u → u.writeBytes (hartIdOf p.issuer) a 0xFF (leBytes 8 l.length) = .ok w →
        ∃ t, exec (.gangSuspendComplete die gang) s = .next t ∧ t.suspending die gang = false
          ∧ (t.die die).parked = (s.die die).parked ++ l.map (·.2) ∧ (∀ q ∈ l, t.hart (hartIdOf q.1) = Hart.reset)
          ∧ ∀ b, (∀ q ∈ l, q.2.id.paired = true → notContext (hartIdOf q.1) b) → t.peek b = w.peek b)

/-- Mailbox, TLB, heat, code check, reclaim and BCFG: what each access to them does (R287, R339, R456, R457, R459, R461,
R462, R473, R474). That a write of HEAT stores BASE and starts the flush is log 69, that a hart of no launch has no
manifest log 70, which master writes heat back log 98, and the order of the TLB log 19. -/
def Obligations.TranslationRows : Prop :=
  ∀ s : State, s.Sound → let die := s.cur.die; let x := s.die die; let core := coreOf s.cur; let c := s.core core
    (∀ v : Word, ∃ t, exec (.bcfgWrite v) s = .next t ∧ s.onlyHart t
      ∧ t.h = { s.h with pair := v.extractLsb' 0 4, blk := t.h.blk, blkBad := t.h.blkBad }
      ∧ ∀ b : Fin 8, t.h.blk[b] = if s.h.pair.getLsbD (b.val / 2) = v.getLsbD (b.val / 2) then s.h.blk[b] else [])
    ∧ (∀ d : Fin 32,
        (c.mbox = [] → exec (.mboxRead d) s = .next (s.setHart s.cur { s.h with x := if d = 0 then s.h.x else s.h.x.set d 0 }))
        ∧ (∀ r rs, c.mbox = r :: rs → exec (.mboxRead d) s
            = .next ((s.setCore core { c with mbox := rs, outstanding := c.outstanding ++ [r], mboxsp := r.space }).setHart s.cur
                { s.h with x := if d = 0 then s.h.x else s.h.x.set d (mailWord r) })))
    ∧ (∀ v : Word, let find := (c.outstanding ++ c.mbox).find? (fun q => q.tag == v.toNat % 256)
        (find = none → exec (.tlbwcWrite v) s = .next (s.setCore core { c with tlbwc := BitVec.ofNat 64 (v.toNat % 1024) }))
        ∧ ∀ r : Request, find = some r → let level := v.toNat / 256 % 4
          let faults := level = 0 ∨ leafMalformed level c.tlbw0 c.tlbw1 = true ∨ c.tlbw0.getLsbD 0 = false
          ∃ t, exec (.tlbwcWrite v) s = .next t ∧ (∀ q ∈ (t.core core).outstanding ++ (t.core core).mbox, q.tag ≠ r.tag)
            ∧ (t.core core).tlbwc = BitVec.ofNat 64 (v.toNat % 1024)
            ∧ (faults → (t.die die).tlb = x.tlb ∧ t.mem = s.mem ∧ (r.prefetch = true → t.harts = s.harts)
                ∧ (r.prefetch = false → (t.hart { s.cur with slot := r.slot }).xnone = some r.vpn))
            ∧ (¬faults → (t.die die).tlb.find? (fun e => e.covers (spaceAsid r.space) r.vpn && !e.verified)
                  = some { asid := spaceAsid r.space, level := level, vpn := r.vpn, w0 := c.tlbw0, w1 := c.tlbw1, verified := false,
                           unit := 0, strided := 0, indexed := 0 }))
    ∧ (∀ v : Word, let kind := v.toNat / 2 % 4; let asid := v.toNat / 2 ^ 4 % 2 ^ 16; let vpn := v.toNat / 2 ^ 24
        let named := fun (e : TlbEntry) => if kind = 0 then e.covers asid vpn else if kind = 1 then e.asid == asid else true
        (x.tlbinv.getLsbD 0 = true → exec (.tlbinvWrite v) s = .next s.stall)
        ∧ (x.tlbinv.getLsbD 0 = false → kind = 3 → exec (.tlbinvWrite v) s = .next s)
        ∧ (x.tlbinv.getLsbD 0 = false → kind ≠ 3 → ∃ t, exec (.tlbinvWrite v) s = .next t
            ∧ (t.die die).tlb = x.tlb.filter (fun e => !named e)
            ∧ (∀ i : HartId, i.die = die → (t.hart i).stm = ((s.hart i).dropHeld named).stm)
            ∧ (t.die die).tlbinv = BitVec.ofNat 64 (1 + 2 * kind + 2 ^ 4 * asid + 2 ^ 24 * vpn)))
    ∧ (∀ d : Fin 8, ((∀ q ∈ s.harts, q.1 / 1536 = d.val → q.2.ilock = []) →
          exec (.tlbinvComplete d) s = .next (s.setDie d { s.die d with tlbinv := (s.die d).tlbinv &&& ~~~1 }))
        ∧ (s.invPending d = true → exec (.tlbinvComplete d) s = .next s)
        ∧ exec (.heatFlushComplete d) s = .next (s.setDie d { s.die d with heat := (s.die d).heat &&& ~~~2 }))
    ∧ (∀ v : Word,
        (v.getLsbD 1 = false → exec (.heatFlush v) s
          = .next (s.setDie die { x with heat := (v &&& 0xFFF0000003) ||| (x.heat &&& 2) }))
        ∧ (v.getLsbD 1 = true → ∃ t, exec (.heatFlush v) s = .next t ∧ (t.die die).heat = v &&& 0xFFF0000003
            ∧ (t.die die).tlb = x.tlb.map (fun e => { e with unit := 0, strided := 0, indexed := 0 })
            ∧ ∀ a, t.peek a = x.tlb.foldl (heatWritten s die v) s.peek a))
    ∧ (∀ (h : HartId) (va : Nat), let y := s.hart h; let at_ := va % 2 ^ 56; let vpn := at_ / 2 ^ 16
        (y.st ≠ .running → exec (.codeGranuleVerify h va) s = .next s)
        ∧ (y.st = .running → s.unverified h vpn = none → exec (.codeGranuleVerify h va) s = .next (s.setHart h { y with xwait := none }))
        ∧ ∀ e, y.st = .running → s.unverified h vpn = some e →
          (leafU e.w0 = false ∨ leafX e.w0 = false → y.priv = false → y.inh = false → y.trap.en = true →
            ∃ t, exec (.codeGranuleVerify h va) s = .next t ∧ (t.hart h).trap.cause = 0x205
              ∧ (t.hart h).trap.tval = BitVec.ofNat 64 at_ ∧ (t.hart h).trap.pc = y.pc ∧ (t.hart h).inh = true)
          ∧ (leafU e.w0 = true → leafX e.w0 = true → (s.launchOf h).bind (fun l => l.digest vpn) = none → h.slot ≠ 7 → y.inf = false →
            ∃ t, exec (.codeGranuleVerify h va) s = .next t ∧ tookIntegrity (t.hart h) vpn y.pc)
          ∧ ∀ (l : Launch) (d bs : List Byte), leafU e.w0 = true → leafX e.w0 = true → s.launchOf h = some l → l.digest vpn = some d →
            ({ s.setHart h { y with xwait := none } with cur := h } : State).readBytes h (vpn * 65536) 65536 .read = .ok bs →
            ∃ t, exec (.codeGranuleVerify h va) s = .next t
              ∧ (Config.shake256 32 bs = d → (t.hart h).pc = y.pc
                  ∧ (t.die h.die).tlb.find? (fun q => q.covers (spaceAsid y.space) vpn && q.verified) = some (e.forFetch vpn)
                  ∧ (leafType e.w0 ≤ 2 →
                      ∃ l', t.launchOf h = some l' ∧ leafPa e.level e.w0 (vpn * 65536) / 65536 ∈ l'.verified))
              ∧ (Config.shake256 32 bs ≠ d → h.slot ≠ 7 → y.inf = false → tookIntegrity (t.hart h) vpn y.pc))
    ∧ (∀ v : Word, let rq := v.toNat / 2 ^ 12 % 16; let len := v.toNat / 2 ^ 40; let slot := v.toNat / 2 ^ 8 % 8
        let word := fun (res : Word) => (v &&& 0xFFFFFF000001F7FF) ||| (res <<< 17)
        let bad := ¬(rq = 1 ∨ rq = 2 ∨ rq = 4) ∨ slot = 7 ∨ 192 ≤ v.toNat % 256 ∨ (1 ≤ len ∧ len ≤ 4095)
        (bad → exec (.reclaimWrite v) s = .next (s.setDie die { x with reclaim := word 2 }))
        ∧ (¬bad → ∀ i : HartId, i.die = die → i.core.val = v.toNat % 256 → i.slot.val = slot → let y := s.hart i
            let noPartition := y.st = .empty ∨ y.st = .creating ∨ y.vs.qcount = 0
            (noPartition → exec (.reclaimWrite v) s = .next (s.setDie die { x with reclaim := word 1 }))
            ∧ (¬noPartition → y.vs.qcount ≤ rq → exec (.reclaimWrite v) s = .next (s.setDie die { x with reclaim := word 2 }))
            ∧ (¬noPartition → rq < y.vs.qcount → y.reclaimAt = none →
                exec (.reclaimWrite v) s = .next ((s.setDie die { x with reclaim := word 0 }).setHart i { y with
                  vs := { y.vs with rq := rq },
                  reclaimAt := some { since := s.cycle, length := if len = 0 then 65536 else len, warned := false, resv := v.getLsbD 16 } }))
            ∧ (∀ m, ¬noPartition → rq < y.vs.qcount → y.reclaimAt = some m →
                exec (.reclaimWrite v) s = .next ((s.setDie die { x with reclaim := word 0 }).setHart i { y with
                  vs := { y.vs with rq := min y.vs.rq rq }, reclaimAt := some { m with resv := m.resv || v.getLsbD 16 } }))))

/-- Host and peer accesses, TAIL and GO, update records and attestation (R323, R325, R424, R425, R428, R429, R463, R465,
R471, R476, R493, R494). The widths of the update fields and the order of its status codes are log 65, the answers to
unsupported requests log 94, the order of host accesses beside engines and the layout of BAR2 log 98; the answer to a
store or an atomic that names a sealed version is log 94. -/
def Obligations.HostRows : Prop :=
  ∀ s : State, s.Sound →
    let reach := fun (pa n : Nat) => 0 < n ∧ s.targetOf pa ≠ none ∧ s.targetOf (pa + n - 1) ≠ none
    let answered := fun (c : Completion) (bs : Option (List Byte)) => ({ s with answer := bs, completion := c } : State)
    let refused := fun (i : Instr) => ∃ t, exec i s = .next t ∧ t.answer = none ∧ t.completion = .error
      ∧ wordsSet s t [(0xB0078, oneMore s 0xB0078)]
    let writes := fun (i : Instr) (mid pa : Nat) (bs : List Byte) =>
      (s.portPermits mid pa bs.length .w = false → refused i)
      ∧ (s.portPermits mid pa bs.length .w = true → (∃ k < bs.length, s.frozen (pa + k) = true) →
          exec i s = .next (answered .error none))
      ∧ (s.portPermits mid pa bs.length .w = true → (∀ k < bs.length, s.frozen (pa + k) = false) → 0xB8000 ≤ pa →
          ∃ t, exec i s = .next t ∧ t.answer = some [] ∧ t.completion = .done ∧ bytesSet s t pa bs
            ∧ ∀ i, t.hart i = { s.hart i with mon := (t.hart i).mon, wait := (t.hart i).wait })
    let bad := fun (pa n : Nat) => ∃ k < n, (pa + k) / 64 ∈ s.poison
    (∀ (port : Fin 2) (pa n : Nat) (bs : List Byte),
      (n = 0 ∨ 4096 < n → exec (.hostRead port pa n) s = .next (answered .unsupported none))
      ∧ (512 < bs.length → exec (.hostWrite port pa bs) s = .next (answered .unsupported none)))
    ∧ (∀ (port : Fin 2) (pa n : Nat), reach pa n → pa + n ≤ 2 ^ 41 → n ≤ 4096 →
      let ok := s.portPermits (0x1204 + port.val) pa n .r = true ∧ s.permits (some (80 + port.val)) (0x1204 + port.val) .w = true
      (ok → ¬bad pa n → exec (.hostRead port pa n) s = .next (answered .done (some (s.peekN pa n))))
      ∧ (ok → bad pa n → ∃ (t : State) (d : Fin 8), let ue := 0xB0048 + d.val * 0x1000
          exec (.hostRead port pa n) s = .next t ∧ t.answer = none ∧ t.completion = .abort ∧ wordsSet s t [(ue, oneMore s ue)])
      ∧ (¬ok → refused (.hostRead port pa n)))
    ∧ (∀ (port : Fin 2) (off n : Nat), 0 < n → n ≤ 4096 → off + n ≤ 65536 →
        exec (.hostRead port (2 ^ 41 + off) n) s = .next (answered .done (some ((List.range n).map fun k => bar2At s port (off + k)))))
    ∧ (∀ (port : Fin 2) (off : Nat) (bs : List Byte), bs.length ≤ 512 → off + bs.length ≤ 65536 →
        ∃ t, exec (.hostWrite port (2 ^ 41 + off) bs) s = .next t ∧ t.answer = some [] ∧ t.completion = .done ∧ t.harts = s.harts
          ∧ ∀ o < 144, bar2At t port o = if off ≤ o ∧ o < off + bs.length then
              (if o % 16 < 12 then bs.getD (o - off) 0 else if o % 16 = 12 then bs.getD (o - off) 0 &&& 1 else 0) else bar2At s port o)
    ∧ (∀ (port : Fin 2) (pa : Nat) (bs : List Byte), reach pa bs.length → pa + bs.length ≤ 2 ^ 41 → bs.length ≤ 512 →
        writes (.hostWrite port pa bs) (0x1204 + port.val) pa bs)
    ∧ (∀ (pa : Nat) (bs : List Byte), reach pa bs.length → writes (.peerRequest pa bs.length (.store bs) none) 0x1206 pa bs)
    ∧ (∀ pa, ∀ n ∈ [1, 2, 4, 8, 16, 32, 64], pa % n = 0 → s.targetOf pa ≠ none →
        (s.portPermits 0x1206 pa n .r = false → refused (.peerRequest pa n .load none))
        ∧ (s.portPermits 0x1206 pa n .r = true →
          (¬bad pa n → exec (.peerRequest pa n .load none) s = .next (answered .done (some (s.peekN pa n))))
          ∧ (bad pa n → exec (.peerRequest pa n .load none) s = .next (answered .abort none))
          ∧ ∀ v, let live := ∃ l ∈ s.seals, l.version = v ∧ l.base ≤ pa ∧ pa + n ≤ l.base + l.len
            (live → ¬bad pa n → exec (.peerRequest pa n .load (some v)) s = .next (answered .done (some (s.peekN pa n))))
            ∧ (¬live → exec (.peerRequest pa n .load (some v)) s = .next (answered .error none))))
    ∧ (∀ pa, ∀ n ∈ [4, 8], ∀ (f : AmoOp) (x c : Nat), pa % n = 0 → s.targetOf pa ≠ none → 0xB8000 ≤ pa → (∃ d, s.region pa = .normal d) →
        f ∉ [.fxL, .fxD, .fxS] →
        (s.portPermits 0x1206 pa n .a = false → refused (.peerRequest pa n (.atomic f x c) none))
        ∧ (s.portPermits 0x1206 pa n .a = true → (∀ k < n, s.frozen (pa + k) = false) → ¬bad pa n →
          let old := s.peekNat pa n
          ∃ t, exec (.peerRequest pa n (.atomic f x c) none) s = .next t ∧ t.answer = some (leBytes n old) ∧ t.completion = .done
            ∧ bytesSet s t pa (leBytes n ((f.apply n old x c).getD old))))
    ∧ (∀ (pa n v : Nat) (bs : List Byte) (f : AmoOp) (x c : Nat),
        exec (.peerRequest pa n (.store bs) (some v)) s = .next (answered .error none)
        ∧ exec (.peerRequest pa n (.atomic f x c) (some v)) s = .next (answered .error none))
    ∧ (∀ (die : Fin 8) (v : Word), ∃ t, exec (.tailWrite die v) s = .next t ∧ watchedOnly s t
        ∧ wordsSet s t [(0x1000 + die.val * 0x1000, v.toNat)])
    ∧ (∃ t, exec .goWrite s = .next t ∧ watchedOnly s t
        ∧ wordsSet s t ((64, 1) :: if s.peekNat 8 8 = 3 then [(8, 1)] else []))
    ∧ (∀ v : Word, ∃ t, exec (.updreqWrite v) s = .next t ∧ wordsSet s t [(0x20000, v.toNat)]
        ∧ (∀ u, s.upd = some u → t.upd = some u ∧ t.updNext = some v.toNat ∧ t.acc = s.acc)
        ∧ (s.upd = none → ∃ u, t.upd = some u ∧ u.number = v.toNat % 2 ^ 32 ∧ u.status ≤ 3
            ∧ (u.status ≠ 0 → t.acc = s.acc) ∧ (u.status = 0 → s.acc.counter.toNat < t.acc.counter.toNat)))
    ∧ (∀ u, s.upd = some u →
        let held := (∃ p ∈ u.inFlight, s.stillIn p = true) ∨ ∃ p ∈ u.posted, p.2 ∈ (s.hart (hartIdOf p.1)).posted
        (held → exec .updateResult s = .next s)
        ∧ (¬held → s.updNext = none → ∃ t, exec .updateResult s = .next t ∧ t.upd = none
            ∧ t.acc = s.acc ∧ wordsSet s t [(0x20040, u.number + 2 ^ 32 * u.status)]))
    ∧ (∀ v : Word, ∃ t, exec (.attreqWrite v) s = .next t ∧ watchedOnly s t ∧ t.peekNat 0x20080 8 = v.toNat ∧ t.peekNat 0x200C0 8 = v.toNat
        ∧ t.peekN 0x60000 32 = s.peekN 0x20100 32 ∧ t.peekNat 0x60020 8 = s.bootEpoch % 2 ^ 64
        ∧ ∀ a, ¬(0x20080 ≤ a ∧ a < 0x20088) → ¬(0x200C0 ≤ a ∧ a < 0x200C8) → ¬(0x60000 ≤ a ∧ a < 0x60000 + 5517) → t.peek a = s.peek a)

/-- The dispatcher: records taken and accepted, launches completed, gangs placed and suspended for the queue (R42, R43,
R44, R45, R46, R409, R430, R431, R432, R435, R437, R438). What the spec leaves open here is the model's: the place of
a launch's area (log 23), its harts' spill regions (log 18), the code a module becomes (log 14), which accesses of the
dispatcher the tables check (log 98), the interval of a head kept back (log 110), the lease field of length 0 (log
114). -/
def Obligations.LaunchRows : Prop :=
  ∀ (die : Fin 8) (s : State), s.Sound → let x := s.die die; let hd := 0x1000 + die.val * 0x1000
    let okW := fun (pa : Nat) => s.permits (s.targetOf pa) 0 .w = true
    let slot := 0x100000 + die.val * 0x100000 + 256 * ((x.accseq + 1) % 4096)
    let may := s.peekNat 8 8 = 1 ∧ x.accseq < s.peekNat hd 8 ∧ x.accseq < x.doneseq + 4096 ∧ x.record = none ∧ x.halted = false
      ∧ s.permits (s.targetOf slot) 0 .r = true
    let mirrored := s.permits (s.targetOf slot) 0x1201 .r = true ∧ s.permits (some 84) 0x1201 .w = true
    (¬may → exec (.launchRecordRead die) s = .next s)
    ∧ (may → ∃ r,
        (mirrored → exec (.launchRecordRead die) s
          = .next { s.setDie die { x with record := some r } with mirror := s.mirror ++ [(die, r)] })
        ∧ (¬mirrored → ∃ t, exec (.launchRecordRead die) s = .next t ∧ t.mirror = s.mirror ∧ (t.die die).record = some r)
        ∧ r.seq = x.accseq + 1
        ∧ (let f := recordAt s die r.seq; let w := f 24 8; let lease := f 56 8; let q := quartetsFor (w / 2 ^ 48 % 8)
           let harts := w / 2 ^ 32 % 2 ^ 16; let pair := decide (w / 2 ^ 56 % 2 = 1)
           let noQuarter := lease / 2 ^ 8 % 2 ^ 32 ≠ 0 ∧ s.quarterCount (lease % 16) = 0
           (recordBad f r.seq ∨ noQuarter ∨ s.launchDomain (f 64 8) = none → r.status = 3 ∧ r.launch = none)
           ∧ ∀ dom root, s.launchDomain (f 64 8) = some (dom, root) →
             (s.recordUnmapped die r.seq root = true → r.status = 3 ∧ r.launch = none)
             ∧ (¬recordBad f r.seq → ¬noQuarter → s.recordUnmapped die r.seq root = false →
               (s.gangFits die harts q pair = false → r.status = 4 ∧ r.launch = none)
               ∧ (s.gangFits die harts q pair = true →
                 (s.checkManifest root (f 48 8) (f 8 8) = none →
                   r.status = 2 ∧ r.code = 8 ∧ r.tval = BitVec.ofNat 64 (f 48 8) ∧ r.launch = none)
                 ∧ ∀ base ds, s.checkManifest root (f 48 8) (f 8 8) = some (base, ds) →
                   let l0 := { s.recordLaunch die r.seq dom root q with codeBase := base, digests := ds }
                   let module := fjCheck (s.readSpace root (f 8 8) (base + 65536 * ds.length - f 8 8))
                   (l0.fj = true → ∀ va, s.badPage root l0 = some va →
                     r.status = 2 ∧ r.code = 8 ∧ r.tval = BitVec.ofNat 64 va ∧ r.launch = none)
                   ∧ (l0.fj = true → s.badPage root l0 = none → ∀ order p, module = .error (order, p) →
                     r.status = 5 ∧ r.code = 0 ∧ r.tval = BitVec.ofNat 64 (order + p * 2 ^ 32) ∧ r.launch = none)
                   ∧ (l0.fj = false ∨ s.badPage root l0 = none ∧ (∃ m, module = .ok m) →
                     r.status = 0 ∧ r.args = s.readSpace root (f 16 8) (w % 2 ^ 32)
                     ∧ ∃ l, r.launch = some l ∧ l = { l0 with entry := l.entry, code := l.code, work := l.work, verified := l.verified }
                       ∧ l.seq = r.seq ∧ l.harts = harts ∧ l.gangs = f 32 4 ∧ l.arglen = w % 2 ^ 32 ∧ l.dep = f 40 8 ∧ l.quartets = q
                       ∧ l.pair = pair ∧ l.prio.toNat = w / 2 ^ 54 % 4 ∧ l.nslot.toNat = w / 2 ^ 52 % 4
                       ∧ (l.fj = false → l.entry = BitVec.ofNat 64 (f 8 8) ∧ l.code = []))))))
    ∧ (∀ r, x.record = some r → ∃ t, exec (.launchAccept die) s = .next t ∧ (t.die die).accseq = r.seq ∧ (t.die die).record = none
        ∧ (okW (hd + 64) → t.peekNat (hd + 64) 8 = r.seq % 2 ^ 64)
        ∧ (∀ l, r.launch = some l → r.args.length ≤ 65536 → 0x9000 ≤ l.areaPa → (t.die die).launches = x.launches ++ [l]
            ∧ (okW l.areaPa → ∀ k < 65536, t.peek (l.areaPa + k) = r.args.getD k 0))
        ∧ (r.launch = none → (t.die die).launches = x.launches ∧ advances s t die r.seq
            ∧ ∀ p ∈ completionWords die r.seq (r.status + 2 ^ 8 * r.code) r.tval 0, okW p.1 → t.peekNat p.1 8 = p.2 % 2 ^ 64))
    ∧ (x.record = none → exec (.launchAccept die) s = .next s)
    ∧ (∀ seq, (x.launches.find? (fun l => l.seq == seq) = none → exec (.launchComplete die seq) s = .next s)
        ∧ ∀ l, x.launches.find? (fun l => l.seq == seq) = some l →
          (l.gangsDone < l.gangs ∨ s.peekNat 8 8 ≠ 1 ∨ s.journalReleased die l = false → exec (.launchComplete die seq) s = .next s)
          ∧ (l.gangs ≤ l.gangsDone → s.peekNat 8 8 = 1 → s.journalReleased die l = true →
              ∃ t, exec (.launchComplete die seq) s = .next t ∧ (t.die die).launches = x.launches.filter (fun k => k.seq != seq)
                ∧ advances s t die seq
                ∧ ∀ p ∈ completionWords die seq (faultWord l) (faultTval l) (faultPc l), okW p.1 → t.peekNat p.1 8 = p.2 % 2 ^ 64))
    ∧ (∀ prio seq g, x.head = some (prio, seq, g) → (prio, seq, g) ∈ x.waiting
        ∧ ∀ p q k, (p, q, k) ∈ x.waiting → p < prio ∨ p = prio ∧ (seq < q ∨ seq = q ∧ g ≤ k))
    ∧ (x.head = none → exec (.gangPlace die) s = .next (s.setDie die { x with headSince := none }))
    ∧ (∀ prio seq g l, x.head = some (prio, seq, g) → x.launches.find? (fun l => l.seq == seq) = some l →
        (s.peekNat 8 8 ≠ 1 ∨ x.halted = true ∨ s.ckPending = true ∧ s.ckDrain = none → exec (.gangPlace die) s = .next s)
        ∧ (s.peekNat 8 8 = 1 → x.halted = false → (s.ckPending = true → s.ckDrain ≠ none) →
          let id := gangIdOf seq g; let old := x.gangs.find? fun y => y.gangId == id
          let areaUsed := ∃ y ∈ x.gangs, y.seq = seq ∧ y.gindex ≠ g ∧ y.gindex % areasOf l = g % areasOf l
          let leases := l.lease.toNat / 2 ^ 8 % 2 ^ 32 ≠ 0
          let hs := match old with | some y => y.saved.map fun p => p.2.again | none => (List.range l.harts).map fun k => l.hart g k
          (areaUsed ∨ s.leaseHeld die l id = true → exec (.gangPlace die) s = .next (s.setDie die { x with headSince := none }))
          ∧ (¬areaUsed → s.leaseHeld die l id = false → s.placeAll die hs = none →
              exec (.gangPlace die) s = .next (s.setDie die { x with headSince := some (seq, g,
                match x.headSince with | some (a, b, t) => if a = seq ∧ b = g then t else s.cycle | none => s.cycle) }))
          ∧ ((∀ h ∈ hs, h.vs.qcount ∈ [0, 1, 2, 4, 8]) → (s.placeAll die hs = none ↔
              ∃ k h v, hs[k]? = some h ∧ s.placeAll die (hs.take k) = some v ∧ ∀ i b, ¬canTake v die h.vs.qcount h.id.paired i b))
          ∧ (∀ u, ¬areaUsed → s.leaseHeld die l id = false → s.placeAll die hs = some u →
              ∃ t, exec (.gangPlace die) s = .next t ∧ (t.die die).headSince = none
                ∧ (∃ y ∈ (t.die die).gangs, y.seq = seq ∧ y.gindex = g ∧ y.st = .placing ∧ y.placedAt = s.cycle)
                ∧ (∀ i, t.hart i = { u.hart i with mon := (t.hart i).mon, wait := (t.hart i).wait })
                ∧ t.leases = (if leases then (s.lease die id l.lease).leases else s.leases)
                ∧ (∀ k h, hs[k]? = some h → h.vs.qcount ∈ [0, 1, 2, 4, 8] → ∃ v i q, s.placeAll die (hs.take k) = some v
                    ∧ canTake v die h.vs.qcount h.id.paired i q
                    ∧ (∀ j b, canTake v die h.vs.qcount h.id.paired j b → i.core < j.core ∨ i.core = j.core ∧ i.slot ≤ j.slot ∧ q ≤ b)
                    ∧ i.die = die ∧ i.slot ≠ 7 ∧ (s.hart i).st = .empty ∧ (t.hart i).st = .creating ∧ (t.hart i).vs.qfirst = q
                    ∧ (t.hart i).pc = h.pc ∧ (t.hart i).x = h.x ∧ (t.hart i).id = h.id ∧ (t.hart i).space = h.space)
                ∧ (old = none → ∀ k < l.harts, ∀ b < 4096, t.peek (l.areaPa + 65536 + (g % areasOf l * l.harts + k) * 4096 + b) = 0)))
        ∧ (l.quartets ∈ [0, 1, 2, 4, 8] → l.harts ≤ 1344 → ∀ k < l.harts, let y := l.hart g k
            y.vs.qcount = l.quartets ∧ y.pc = evenPc (l.entry.setWidth 56)
            ∧ y.x = (((Vector.replicate 32 0).set 1 0x00FD000000000000).set 10 (BitVec.ofNat 64 l.area)).set 11 (BitVec.ofNat 64 l.arglen)
            ∧ y.id.gangId = gangIdOf l.seq g ∧ y.id.index = BitVec.ofNat 11 k ∧ y.id.paired = l.pair ∧ y.space = l.space ∧ y.priv = false
            ∧ y.vs.vl = 0 ∧ y.instret = 0 ∧ y.trap.en = false))
    ∧ (x.headSince = none ∨ x.head = none → exec (.sliceExpiry die) s = .next s)
    ∧ (∀ seq g since prio seq' g', x.headSince = some (seq, g, since) → x.head = some (prio, seq', g') →
        let slice := s.peekNat (hd + 256) 8
        let prioOf := fun (y : Gang) => ((x.launches.find? fun l => l.seq == y.seq).map fun l => l.prio.toNat).getD 0
        let mayGo := fun (y : Gang) => y ∈ x.gangs ∧ y.st = .running ∧ (prioOf y < prio ∨ prioOf y = prio ∧ y.placedAt + slice ≤ s.cycle)
        let due := seq' = seq ∧ g' = g ∧ since + slice ≤ s.cycle ∧ x.suspends = []
        (¬due ∨ (∀ y, ¬mayGo y) → exec (.sliceExpiry die) s = .next s)
        ∧ (due → (∃ y, mayGo y) → ∃ v, mayGo v
            ∧ (∀ y, mayGo y → prioOf v < prioOf y ∨ prioOf v = prioOf y ∧ v.placedAt ≤ y.placedAt)
            ∧ (s.members die v.gangId ≠ [] → ∃ t, exec (.sliceExpiry die) s = .next t ∧ t.suspending die v.gangId = true)
            ∧ (s.members die v.gangId = [] → exec (.sliceExpiry die) s = .next s)))

/-- Engines: fetch-ahead, copy strips, channel deliveries, waiting convoys, and writes that perform or fail (R65, R125,
R130, R132, R167, R261, R268, R269, R270, R271, R273, R491). When a release performs is log 16, the order of the
elements of a strip log 9, where strips lie log 17, and the refusal of a posted write where it performs log 99. -/
def Obligations.EngineRows : Prop :=
  ∀ (h : HartId) (s : State), s.Sound → let x := s.hart h
    (∀ st : Fin 16, let q := x.stm[st]
      let strip := max x.vs.vl (2048 / max 1 q.width); let next := max q.fetched q.pos
      let room := min strip (min (q.pos + 2 * strip) q.count - next)
      let hi := min q.count ((q.fetched / (131072 / max 1 q.width) + 1) * (131072 / max 1 q.width))
      (q.mode ≠ 0 ∨ q.state ≠ .active → exec (.streamFetchAhead h st) s = .next s)
      ∧ (q.mode = 0 → q.state = .active → serving x → h.slot ≠ 7 → x.ilock = [] → (∀ k : Fin 16, x.stm[k].err = none) →
          (∀ n, next ≤ n → n < next + room → ∃ ps bs, ps ≠ []
            ∧ s.streamPieces h q (q.elemAddr n).1 (max 1 (q.width / 8)) .read = .ok ps
            ∧ s.readPieces h (q.elemAddr n).1 .read ps = .ok bs) → 0 < room →
          ∃ t, exec (.streamFetchAhead h st) s = .next t ∧ t.mem = s.mem ∧ t.hart h = { x with
            stm := x.stm.set st { q with fetched := next + room, held := (t.hart h).stm[st].held },
            reads := (t.hart h).reads, latcnt := (t.hart h).latcnt })
      ∧ (q.mode = 2 → q.state = .active → q.err = none → serving x → x.entryOf st = true → q.fetched < hi → hi ≤ q.acc →
          q.strips.length < 2 → (q.tap = true → q.ready.length < 2) → q.waitsForStrip q.fetched hi = false →
          (s.die h.die).heat.getLsbD 0 = false → q.fetched = q.written + (q.strips.map List.length).sum →
          (q.tap = true → q.fetched = q.pos + (q.ready.map List.length).sum) → ∀ y : Nat → Nat,
          (∀ n, q.fetched ≤ n → n < hi → s.copyElem h q n = .ok (y n)) →
          let new := (List.range (hi - q.fetched)).map fun k => y (q.fetched + k)
          h.slot ≠ 7 → ∃ t, exec (.copyStripRead h st) s = .next t ∧ t.mem = s.mem ∧ t.hart h = { x with stm := x.stm.set st { q with
            fetched := hi, strips := q.strips ++ [new], ready := if q.tap then q.ready ++ [new] else q.ready } })
      ∧ (∀ vs rest e (loc : Nat → Nat), q.mode = 2 → q.state = .active → q.err = none → q.form = .plain → q.tap = false → serving x →
          q.strips = vs :: rest → x.ilock = [e] → e.stream = st → e.kind = .copy → x.posted = [] → s.journal = [] → s.poison = [] →
          (s.die h.die).heat.getLsbD 0 = false →
          (∀ k < vs.length, 0xB8000 ≤ loc k ∧ s.region (loc k) ≠ .pool ∧ ∃ ty, ty ≠ .pool ∧ s.heldTarget h q (q.destAt (q.written + k)).1 .write = .ok (.mem (loc k) ty)) →
          let n := q.written + vs.length
          ∃ t, exec (.copyStripWrite h st) s = .next t
            ∧ (∀ a, t.peek a = (List.range vs.length).foldl (fun m k =>
                putElem m (loc k) (q.destAt (q.written + k)).2 q.width (vs.getD k 0)) s.peek a)
            ∧ (t.hart h).x = x.x ∧ (t.hart h).pc = x.pc ∧ (∀ k : Fin 16, k ≠ st → (t.hart h).stm[k] = x.stm[k])
            ∧ (vs ≠ [] → (t.hart h).stm[st].written = n ∧ (t.hart h).stm[st].pos = n ∧ (t.hart h).stm[st].remain = q.count - n)
            ∧ (n = q.count → vs ≠ [] → (t.hart h).ilock = [] ∧ (t.hart h).stm[st].state = .done)
            ∧ (n < q.count → (t.hart h).stm[st].strips = rest ∧ (t.hart h).stm[st].state = .active
                ∧ (vs ≠ [] → (t.hart h).ilock = [{ e with progress := n }])))
      ∧ (∀ e es, q.outbox = e :: es → serving x → q.mode = 3 → q.dir = true → q.state ≠ .idle →
          let waits := s.sendWaits h (((x.entry? st).map (·.no)).getD 0) q.bind
          (waits = true → exec (.channelDeliver h st) s = .next s)
          ∧ (waits = false → s.receiver h q = none → ∃ t, exec (.channelDeliver h st) s = .next t ∧ (t.hart h).stm[st].send = .undeliverable
            ∧ (t.hart h).stm[st].outbox = [] ∧ (q.partway = false → (t.hart h).entryOf st = false) ∧ t.mem = s.mem)
          ∧ (∀ k, waits = false → s.receiver h q = some k → let j := hartIdOf k; let c : Fin 4 := Fin.ofNat 4 (q.bind.toNat / 2 ^ 11 % 4)
              let ch := (s.hart j).chan[c]; let me := (x.id.index.toNat, st.val)
              (512 ≤ ch.entries.length ∨ (∃ o, ch.holder = some o ∧ o ≠ me) → exec (.channelDeliver h st) s = .next s)
              ∧ (ch.entries.length < 512 → (ch.holder = none ∨ ch.holder = some me) →
                  ∃ t, exec (.channelDeliver h st) s = .next t ∧ t.mem = s.mem
                    ∧ (t.hart j).chan[c].entries = ch.entries ++ [e.map fun v => (v, q.width)]
                    ∧ (t.hart h).stm[st].outbox = es ∧ (t.hart h).stm[st].pos = (if e = none then q.pos else q.pos + 1)
                    ∧ (es ≠ [] ∨ q.partway = true → (t.hart j).chan[c].holder = some me ∧ (t.hart h).ilock = x.ilock)
                    ∧ (es = [] → q.partway = false → (t.hart j).chan[c].holder = none ∧ (t.hart h).entryOf st = false)))))
    ∧ (∀ p ∈ convoyEvents, (x.convoy = [] → exec (p.1 h) s = .next s)
        ∧ ∀ m c, x.convoy = [m] → m.op = .czero c → x.phase = p.2 → (x.st = .running ∨ x.st = .stopping) → x.relay = false →
            s.poison = [] → s.paced = false → x.ahead = none → x.waited = Waited.reset → ({ s with cur := h } : State).crucibleFree → ∃ t, exec (p.1 h) s = .next t ∧ t.mem = s.mem ∧ (∀ i, i ≠ h → t.hart i = s.hart i) ∧ (t.hart h).convoy = []
              ∧ (t.hart h).phase = .open ∧ (t.hart h).pc = x.pc + BitVec.ofNat 56 m.size ∧ (t.hart h).x = x.x
              ∧ (t.hart h).blk = x.blk.set c [] ∧ (t.hart h).vs.vstart = 0)
    ∧ (∀ w, x.posted = [w] → (∀ l, s.launchOf h = some l → l.extj = false) →
        let waits := ∃ sc, w.rel = some sc ∧ ∃ e ∈ x.ilock, e.no < w.after
        (waits → exec (.writePerform h) s = .next s)
        ∧ (¬waits → ∃ t, exec (.writePerform h) s = .next t ∧ (t.hart h).posted = []
            ∧ let lost := t.mem = s.mem ∧ (t.hart h).wfail = some (x.wfail.getD w.va)
              let lands := bytesSet s t w.pa (s.newBytes w) ∧ (t.hart h).wfail = x.wfail
              let nothing := t.mem = s.mem ∧ (t.hart h).wfail = x.wfail; let mute := w.rel = some 5 ∧ x.wfail ≠ none
              let fixed := ∃ k < w.bytes.length, s.frozen (w.pa + k) = true
              (mute → nothing)
              ∧ (¬mute → w.module = none → s.region w.pa ≠ .pool → 0xB8000 ≤ w.pa → (fixed → lost) ∧ (¬fixed → lands))
              ∧ (¬mute → w.module = none → s.region w.pa = .pool → if Config.poolFails w.pa s.fresh = true then lost else lands)
              ∧ (∀ m, ¬mute → w.module = some m → if Config.peerAnswer m 0 w.pa s.fresh = 0 then nothing else lost)))
    ∧ (let drops := fun (i : Instr) (p : Posted → Bool) =>
        (x.posted.find? p = none → exec i s = .next s)
        ∧ ∀ w, x.posted.find? p = some w →
            exec i s = .next (s.setHart h { x with posted := x.posted.erase w, wfail := some (x.wfail.getD w.va) })
       drops (.poolTimeout h) (fun w => w.module = none && s.region w.pa = .pool) ∧ drops (.peerTimeout h) (fun w => w.module.isSome))

/-- Kerb units and seals: scores, matches, top-k, bags and read-outs; items read, results delivered, pauses, the end of a
command, and of a seal (R302, R306, R309, R310, R311, R312, R313, R314, R316, R319, R324, R488). That a refusal by the
access tables ends a command is log 71, the auxiliary read in one step log 76, which unit reads next and what is fixed
of AVAIL the free choices of log 9, and the new probe at the drain log 108. -/
def Obligations.KerbRows : Prop :=
  (∀ fmt < 3, ∀ w q : List Nat, w ≠ [] → w.length = q.length → (∀ x ∈ w ++ q, x < if fmt = 2 then 2 ^ 16 else 2 ^ 8) →
      IsScore fmt w q (swageScore fmt w q))
    ∧ (∀ kind fmt cmp x lo hi : Nat, cmp < 8 →
      (kind = 2 → fmt ≤ 5 → x < 2 ^ tongsBits fmt → lo < 2 ^ tongsBits fmt → hi < 2 ^ tongsBits fmt →
        (selMatch kind fmt cmp x lo hi = true
          ↔ Holds cmp (· < ·) (· = ·) (fun _ => False) (tongsInt fmt x) (tongsInt fmt lo) (tongsInt fmt hi)))
      ∧ (kind = 0 ∨ kind = 2 ∧ 6 ≤ fmt ∧ fmt ≤ 8 → let g := tongsFmt kind fmt
        (selMatch kind fmt cmp x lo hi = true ↔ Holds cmp (fun a b => a.lt b = true) (fun a b => a.eq b = true) (fun a => a.isNaN = true)
          (g.value x) (g.value lo) (g.value hi))))
    ∧ (∀ (kind fmt k : Nat) (smallest : Bool) (es : List (Nat × Nat)), kind = 0 ∨ kind = 2 ∧ fmt ≤ 8 →
      es.Pairwise (fun p q => p.1 < q.1) → (∀ p ∈ es, kind = 2 → fmt ≤ 5 → p.2 < 2 ^ tongsBits fmt) →
      IsTopK kind fmt smallest k es (topK kind fmt smallest k es))
    ∧ (∀ (c : Cmd) (index offsets : List Nat), let q := c.bags index offsets
      q.1.Pairwise (fun a b => a.1 ≤ b.1) ∧ (∀ a ∈ q.1, a.1 < c.w5) ∧ ∀ b < c.w5, let lo := offsets.getD b 0; let hi := offsets.getD (b + 1) 0
        (b ∈ q.2 ↔ hi < lo ∨ c.w6 < hi ∨ ∃ e, lo ≤ e ∧ e < hi ∧ e < index.length ∧ c.count ≤ index.getD e 0)
        ∧ (q.1.filter fun a => a.1 = b).map (·.2)
          = if hi < lo ∨ c.w6 < hi then [] else ((index.drop lo).take (hi - lo)).filter fun n => n < c.count)
    ∧ (∀ cell < 2 ^ 128, poolOut 0 cell = [cell % 2 ^ 64, cell / 2 ^ 64]
      ∧ ∀ q ∈ [(1, Fmt.f32), (2, Fmt.f64), (3, Fmt.bf16)], ∃ p, poolOut q.1 cell = [p] ∧ IsReadOut q.2 cell p)
    ∧ (∀ j : KerbJob, Map.rises j.data → (∀ p ∈ j.data, p.2 ≠ 0 ∧ (j.kind ≠ 1 → p.1 < j.count)) →
      let sel := j.ctrl / 2 ^ 8 % 4; let fmt := j.ctrl / 2 ^ 4 % 16; let value := fun (n : Nat) => (j.got n).getD 0
      let pairs := fun (ns : List Nat) => ns.map fun n => pairOf j.kind fmt n (value n)
      (j.kind ≠ 1 → (∀ n < j.scanned, j.got n ≠ none) →
        (sel = 0 → j.results = (List.range j.scanned).map value)
        ∧ (sel = 1 → j.results = pairs ((List.range j.scanned).filter fun n =>
            selMatch j.kind fmt (j.ctrl / 2 ^ 10 % 8) (value n) j.w5 j.w6))
        ∧ (2 ≤ sel → j.scanned ≠ j.count → j.results = [])
        ∧ (2 ≤ sel → j.scanned = j.count → j.results = (topK j.kind fmt (j.ctrl / 2 ^ 13 % 2 = 1) (j.ctrl / 2 ^ 16 % 2 ^ 11)
            ((List.range j.count).map fun n => (n, value n))).map fun p => pairOf j.kind fmt p.1 p.2))
      ∧ (j.kind = 1 → 0 < j.bound → let d := columnsOf j.ctrl
        j.results = (List.range (if j.scanned = j.items.length then j.w5 else (j.items.getD j.scanned (0, 0)).1)).flatMap fun b =>
          (List.range d).flatMap fun k => poolOut (j.ctrl / 2 ^ 14 % 4)
            (if j.nanc.contains b then 2 ^ 127 + 1 else Map.get 0 j.data (b * d + k))))
    ∧ (∀ (j : KerbJob) (n : Nat) (xs : List Nat), Map.rises j.data → let c := j.cmd
      ((j.kind = 0 ∨ j.kind = 2) →
        (j.take n xs).got n = some (if j.kind = 0 then swageScore c.fmt xs j.aux else xs.headD 0)
        ∧ ∀ m, m ≠ n → (j.take n xs).got m = j.got m)
      ∧ (j.kind = 1 → xs.length = c.d 1 → let at_ := (j.items.getD n (0, 0)).1 * c.d 1
        ∀ k, Map.get 0 (j.take n xs).data k
          = if at_ ≤ k ∧ k < at_ + c.d 1 then fxAdd (Map.get 0 j.data k) (poolCell c.fmt (xs.getD (k - at_) 0)) else Map.get 0 j.data k))
    ∧ ∀ (h : HartId) (s : State), s.Sound → let x := s.hart h
    (∀ (st : Fin 16) (j : KerbJob), let q := x.stm[st]; q.job = some j → q.mode = 4 → q.state = .active → serving x →
      let len := q.ready.flatten.length
      let set := fun (q' : Stream) => s.setHart h { x with stm := x.stm.set st q' }
      let granted := ∀ u ∈ j.units, s.permits (some (64 + u.1 / 32)) (0x1000 + u.1) .r = true
      let fails := fun (i : Instr) (e : Exc) => ∃ t, exec i s = .next t ∧ (t.hart h).stm[st].state = .error
        ∧ (t.hart h).stm[st].err = some { e with stream := some st } ∧ (t.hart h).stm[st].job = none ∧ (t.hart h).ilock = without x st
      (j.paused = true ∨ s.unitsReady q j = [] → exec (.kerbUnitGranuleRead h st) s = .next s)
      ∧ (j.paused = false → s.unitsReady q j ≠ [] → ¬granted → fails (.kerbUnitGranuleRead h st) (accessExc j.src .read))
      ∧ (∀ y : Nat → List Nat, j.paused = false → s.unitsReady q j ≠ [] → granted → q.err = none →
          (∀ m < j.bound, s.scanItem h q j (((x.entry? st).map (·.no)).getD 0) m = .ok (y m)) →
          ∃ t j' ms, exec (.kerbUnitGranuleRead h st) s = .next t ∧ t.mem = s.mem ∧ (t.hart h).stm = x.stm.set st { q with job := some j' }
            ∧ ms.Pairwise (· < ·) ∧ (∃ u ∈ j.units, (∀ m ∈ ms, u.2 ≤ m ∧ m < j.bound)
              ∧ (s.settleJob h q j = j → (∀ m < j.bound, ∃ pa ty stack, s.heldTarget h q (j.itemAddr m) .read = .ok (.mem pa ty)
                    ∧ s.region pa = .quarter stack) →
                  ∀ m ∈ ms, s.itemUnit h q j m = some u.1 ∧ ∀ k, u.2 ≤ k → k < m → s.itemUnit h q j k = some u.1 → k ∈ ms))
            ∧ j'.data = (ms.foldl (fun k m => k.take m (y m)) j).data
            ∧ ((j.units.map (·.1)).Nodup → ms ≠ [] ∨ j'.paused = true)
            ∧ (t.hart h).ilock = (if j'.scanDone then without x st
                else withProgress x st (if j.kind = 1 then 0 else j'.scanned)))
      ∧ (let new := j.results.drop j.sent
         (new = [] ∨ 4096 ≤ len → exec (.kerbUnitResult h st) s = .next s)
         ∧ (new ≠ [] → len < 4096 → ∃ m, 1 ≤ m ∧ m ≤ new.length ∧ m ≤ 4096 - len ∧ exec (.kerbUnitResult h st) s
              = .next (set { q with ready := [q.ready.flatten ++ new.take m], job := some { j with sent := j.sent + m } })))
      ∧ exec (.kerbUnitResume h st) s
          = .next (if j.paused = true ∧ ∃ u ∈ s.unitsReady q j, q.buffered j + (if u.2 = j.scanned then 0 else 1) < 4096
            then set { q with job := some { j with paused := false } } else s)
      ∧ (q.err = none → j.results.length ≤ j.sent → j.scanned = j.total → x.entryOf st = false →
          exec (.kerbComplete h st) s = .next (set { q with
            job := none, held := [], remain := j.results.length - q.pos,
            state := if j.results.length ≤ q.pos then .done else .active }))
      ∧ (∀ e, q.err = some e → let ended := j.scanned = j.bound ∧ j.results.length ≤ j.sent ∧ len = 0
          (ended → fails (.kerbComplete h st) e) ∧ (¬ended → exec (.kerbComplete h st) s = .next s)))
    ∧ (∀ (st : Fin 16) (m : Member) (kind : Fin 3) (a : Fin 32) (w : Nat), x.convoy = [m] → m.op = .kerb kind a st w →
        exec (.kerbAccept h st) s = exec (.convoyDrain h) s
        ∧ (x.phase = .drain → (x.st = .running ∨ x.st = .stopping) → x.ahead = none → x.stm[st].unreported = false → ∀ u,
            ({ s with cur := h } : State).acceptKerb h st kind.val (x.getX a) (Cmd.ofNat w) none = .ok u →
            ∃ t, exec (.kerbAccept h st) s = .next t ∧ (t.hart h).stm = (u.hart h).stm ∧ (t.hart h).ilock = (u.hart h).ilock
              ∧ t.mem = u.mem ∧ (t.hart h).convoy = [] ∧ (t.hart h).phase = .open ∧ (t.hart h).pc = x.pc + BitVec.ofNat 56 m.size
              ∧ (t.hart h).x = x.x))
    ∧ exec (.sealComplete h) s = .next (s.setHart h { x with ilock := x.ilock.eraseP fun e => e.kind == .seal })
    ∧ exec (.unsealComplete h) s = .next (s.setHart h { x with ilock := x.ilock.eraseP fun e => e.kind == .unseal })

/-- Memory controllers: requests, refreshes and their debts, trace mode, power states and scrub (R33, R475, R476, R482,
R483, R484, R486, R487, R488, R497). The model's own here: the controllers before boot (log 12), which reads a cache
serves (log 86), the errors that are corrected and the saved cells that cannot be restored (free values, log 102), and
the order of events in one cycle and the durations R487 leaves open (log 103). -/
def Obligations.MemoryControllerRows : Prop :=
  ∀ (s : State) (ch : Fin 512) (bank : Fin 32) (set : Fin 8), s.Sound →
    let c := s.channel ch.val; let b := c.bank bank.val; let g := bank.val / 4; let p := bank.val / 16; let now := s.cycle
    let next := s.nextEvent ch.val; let coming := s.arrivals ch.val ++ c.events
    let dueAt := fun (n : Nat) => Map.get 0 c.t0 g + 7800 * n + 1950 * (bank.val % 4) + 60 * g
    let armed := Map.get false c.armed g
    let becomes := fun (i : Instr) (b' : Bank) => ∃ c', exec i s = .next (s.setChannel ch.val c') ∧ c'.bank bank.val = b'
      ∧ ∀ k < 32, k ≠ bank.val → c'.bank k = c.bank k
    let live := s.unitLive ch.val; let tracing := s.peekNat (refctl (ch.val / 64)) 8 % 2 = 1
    (∀ e, next = some e → e.1 ≤ now ∧ e ∈ coming ∧ (∀ f ∈ coming, e.1 ≤ f.1)
        ∧ ((∃ f ∈ s.arrivals ch.val, f.1 = e.1) → e ∈ s.arrivals ch.val))
    ∧ (next = none → ∀ f ∈ coming, now < f.1)
    ∧ (∀ q ∈ channelRows ch bank set, (∀ t, next ≠ some (t, q.2)) → exec q.1 s = .next s)
    ∧ (c.resting = true → c.events = [] ∧ (armed = false → ∀ t, let x := (c.upTo t).bank bank.val
        if t ≤ dueAt b.dueNo then x = b
        else t ≤ dueAt x.dueNo ∧ dueAt x.dueNo < t + 7800 ∧ (x.refresh = true ↔ t + 7800 < dueAt x.dueNo + 320)
          ∧ (x.refresh = true → x.free + 7800 = dueAt x.dueNo + 320)))
    ∧ (c.resting = false → ∀ t,
        ((t, MemEvent.due bank.val) ∈ c.events ↔ armed = false ∧ t = dueAt b.dueNo)
        ∧ ((t, MemEvent.endAccess bank.val) ∈ c.events ↔ b.access = true ∧ t = b.free)
        ∧ ((t, MemEvent.endRefresh bank.val) ∈ c.events ↔ b.refresh = true ∧ t = b.free)
        ∧ ((t, MemEvent.serve bank.val) ∈ c.events ↔ b.access = false ∧ b.refresh = false ∧ b.owed = false
            ∧ Map.get 0 c.forced p = 0 ∧ c.power % 4 = 0 ∧ ∃ k a q, b.queue = (k, a) :: q ∧ t = max a (max b.free c.upAt))
        ∧ ((t, MemEvent.pay g) ∈ c.events ↔ (∃ k < 4, (c.bank (4 * g + k)).idle = true ∧ (c.bank (4 * g + k)).debt ≠ 0)
            ∧ (∀ k < 4, (c.bank (4 * g + k)).queue = [])
            ∧ t = if Map.get 0 c.lastArrival g = 0 then c.now else max c.now (Map.get 0 c.lastArrival g + 511)))
    ∧ (∀ h pa, let x := s.hart h
        let u := if x.reads.any (fun r => !r.queued && r.pa == pa) then s else s.setHart h { x with reads := x.reads ++
          [{ pa := pa, arrives := now, counts := false, dest := none, queued := false, usable := none }] }
        (s.bankOf pa = none → exec (.memoryRequestArrive h pa) s = .next u)
        ∧ ∀ k j, s.bankOf pa = some (k, j) →
          ((∀ t, u.nextEvent k ≠ some (t, .arrive (hartKey h) pa)) → exec (.memoryRequestArrive h pa) s = .next u)
          ∧ ∀ t, u.nextEvent k = some (t, .arrive (hartKey h) pa) → let o := (u.channel k).upTo t; o.power < 2 ^ 7 →
            let is := fun (r : Read) => !r.queued && r.pa == pa && r.arrives == t
            ∃ q, exec (.memoryRequestArrive h pa) s = .next q ∧ let c' := q.channel k
              (c'.bank j).queue = (o.bank j).queue
                  ++ [(if (u.hart h).reads.any (fun r => is r && r.counts) then some (hartKey h) else none, t)]
              ∧ Map.get false c'.armed (j / 4) = false
              ∧ (Map.get false o.armed (j / 4) = true → Map.get 0 c'.t0 (j / 4) = t ∧ (c'.bank j).dueNo = 0)
              ∧ (o.power % 4 = 1 ∨ o.power % 4 = 2 → c'.power % 4 = 3 ∧ c'.changing = some (0, t + leaving (o.power % 4))
                  ∧ q.peekNat (powerWord k) 8 = c'.power)
              ∧ (o.power % 4 = 3 → c'.called = true)
              ∧ ∀ r, r ∈ (q.hart h).reads ↔ (r ∈ (u.hart h).reads ∧ is r = false)
                  ∨ ∃ r' ∈ (u.hart h).reads, is r' = true ∧ r'.dest.isSome = true ∧ r = { r' with queued := true })
    ∧ (∀ t k a q, next = some (t, .serve bank.val) → b.queue = (k, a) :: q → let f := 0xB0000 + ch.val / 64 * 0x1000 + 0x40
        ∃ u, exec (.memoryRequestServe ch bank) s = .next u
          ∧ (u.channel ch.val).bank bank.val = { b with access := true, free := t + 96, queue := q }
          ∧ (∀ j < 32, j ≠ bank.val → (u.channel ch.val).bank j = c.bank j)
          ∧ u.peekNat f 8 = (if Config.corrected ch.val s.fresh = true then oneMore s f else s.peekNat f 8)
          ∧ (k = none → ∀ i, (u.hart i).latcnt = (s.hart i).latcnt ∧ (u.hart i).reads = (s.hart i).reads)
          ∧ ∀ n, k = some n → let i := hartIdOf n
            (u.hart i).latcnt = (s.hart i).latcnt + BitVec.ofNat 64 (t - a)
            ∧ (u.hart i).reads = (s.hart i).reads.map fun r =>
                if r.queued = true ∧ r.usable = none ∧ r.arrives = a ∧ s.bankOf r.pa = some (ch.val, bank.val)
                then { r with usable := some (t + 200 + 20 * hopsBetween i.die.val (ch.val / 64)) } else r)
    ∧ (∀ t, next = some (t, .due bank.val) → let n := { b with dueNo := b.dueNo + 1 }
        (b.refresh = true → becomes (.refreshDue ch bank) { n with late := b.late + 1 })
        ∧ (b.refresh = false → c.active g t = false →
            becomes (.refreshDue ch bank) (if b.access then { n with owed := true } else refreshing n t))
        ∧ (b.refresh = false → c.active g t = true → c.postponed g < 8 → becomes (.refreshDue ch bank) { n with debt := b.debt + 1 })
        ∧ (b.refresh = false → c.active g t = true → 8 ≤ c.postponed g → (∀ k < 16, (c.bank (16 * p + k)).idle = true) →
            Map.get 0 c.forced p = 0 → let debt := fun (k : Nat) => (c.bank (16 * p + k)).debt + if 16 * p + k = bank.val then 1 else 0
            ∃ c' m, exec (.refreshDue ch bank) s = .next (s.setChannel ch.val c') ∧ (∀ k < 16, debt k ≤ m) ∧ (∃ k < 16, debt k = m)
              ∧ ∀ k < 16, (c'.bank (16 * p + k)).debt = 0 ∧ (c'.bank (16 * p + k)).refresh = true
                ∧ (c'.bank (16 * p + k)).free = t + 700 * m))
    ∧ (∀ t, next = some (t, .endRefresh bank.val) → Map.get 0 c.forced p = 0 → let ended := { b with refresh := false, late := 0 }
        (b.late = 0 → becomes (.refreshEnd ch bank) ended)
        ∧ (b.late = 1 → c.active g t = false → b.access = false → becomes (.refreshEnd ch bank) (refreshing ended t))
        ∧ (b.late = 1 → c.active g t = true → c.postponed g < 8 → becomes (.refreshEnd ch bank) { ended with debt := b.debt + 1 }))
    ∧ (∀ t, next = some (t, .endAccess bank.val) → let ended := { b with access := false }
        (Map.get 0 c.forced p = 0 → becomes (.bankAccessEnd ch bank) (if b.owed then refreshing ended t else ended))
        ∧ (∀ n, Map.get 0 c.forced p = n → n ≠ 0 → b.owed = false → b.refresh = false →
            (∀ k < 16, 16 * p + k ≠ bank.val → (c.bank (16 * p + k)).idle = true) →
            ∃ c', exec (.bankAccessEnd ch bank) s = .next (s.setChannel ch.val c') ∧ Map.get 0 c'.forced p = 0
              ∧ ∀ k < 16, (c'.bank (16 * p + k)).refresh = true ∧ (c'.bank (16 * p + k)).free = t + 700 * n))
    ∧ (∀ t, next = some (t, .pay set.val) → ∃ c', exec (.bankSetIdle ch set) s = .next (s.setChannel ch.val c') ∧ ∀ k < 32, c'.bank k =
        if k / 4 = set.val ∧ (c.bank k).idle = true ∧ (c.bank k).debt ≠ 0
        then { refreshing (c.bank k) t with debt := (c.bank k).debt - 1 } else c.bank k)
    ∧ (c.power < 2 ^ 7 → c.asked = none → s.peekNat (powerWord ch.val) 8 = c.power →
        let ends := fun (i : Instr) (P : State → Channel → Prop) => ∃ t, exec i s = .next t
          ∧ t.peekNat (powerWord ch.val) 8 = (t.channel ch.val).power ∧ P t (t.channel ch.val)
        let enters := fun (i : Instr) (target at_ : Nat) => ends i fun _ c' => c'.power % 4 = 3 ∧ c'.changing = some (target, at_)
        let stands := fun (i : Instr) (state req defer : Nat) => ends i fun _ c' =>
          c'.power % 4 = state ∧ c'.power / 4 % 4 = req ∧ c'.power / 2 ^ 5 % 2 = defer ∧ c'.changing = c.changing
        (c.power % 4 = 0 → ¬tracing → live = false → ∀ f, enters (.channelReqPdown ch f) 1 now ∧ enters (.channelReqSref ch f) 2 now)
        ∧ (c.power % 4 = 0 → ¬tracing → live = true → stands (.channelReqPdown ch false) 0 1 1 ∧ stands (.channelReqSref ch false) 0 2 1
            ∧ enters (.channelReqPdown ch true) 1 now ∧ enters (.channelReqSref ch true) 2 now
            ∧ ends (.channelReqSref ch true) fun _ c' => c'.power / 2 ^ 6 % 2 = 1)
        ∧ (c.power % 4 = 0 → tracing → ∀ f, stands (.channelReqPdown ch f) 0 1 (c.power / 2 ^ 5 % 2)
            ∧ stands (.channelReqSref ch f) 0 2 (c.power / 2 ^ 5 % 2))
        ∧ (c.power % 4 = 1 ∨ c.power % 4 = 2 → enters (.channelReqActive ch) 0 (now + leaving (c.power % 4)))
        ∧ (c.power / 2 ^ 5 % 2 = 0 ∨ live = true → exec (.channelDeferredEntry ch) s = .next s)
        ∧ (c.power / 2 ^ 5 % 2 = 1 → live = false → c.power % 4 = 0 → ¬tracing → (c.power / 4 % 4 = 1 ∨ c.power / 4 % 4 = 2) →
            enters (.channelDeferredEntry ch) (c.power / 4 % 4) now)
        ∧ (∀ t target since, next = some (t, .changed) → c.changing = some (target, since) → target < 3 → c.power % 4 = 3 →
            (c.power / 4 % 4 = 0 ∨ c.power / 4 % 4 = target ∨ target = 0 ∧ c.power / 4 % 4 = 3) →
            let waits := c.called = true ∨ ∃ q ∈ c.banks, q.2.queue ≠ []
            (waits → target ≠ 0 → enters (.channelStateChangeComplete ch) 0 (t + leaving target))
            ∧ (¬waits ∨ target = 0 → ends (.channelStateChangeComplete ch) fun _ c' => c'.changing = none ∧ c'.power % 4 = target
                ∧ c'.power / 4 % 4 = 0 ∧ c'.upAt = t ∧ (target = 0 → c'.power / 2 ^ 6 % 2 = 0))
            ∧ (target = 0 → c.power / 2 ^ 6 % 2 = 1 → ∀ i st j, s.poolAt ch.val = some (i, st) → (s.hart i).stm[st].job = some j →
                (∃ k < j.cells, Config.saveFails ch.val k s.fresh = true) → ends (.channelStateChangeComplete ch) fun u _ =>
                  (u.hart i).stm[st].ready = [] ∧ (u.hart i).stm[st].err
                    = some { cause := .dataerr, acc := .read, tval := BitVec.ofNat 64 j.src, stream := some st })))
    ∧ (∀ (die : Fin 8), let w := s.peekNat (refctl die.val) 8; let at_ := fun (t : State) (k : Nat) => t.channel (64 * die.val + k)
        (∃ t, exec (.refctlTrace die true) s = .next t ∧ t.peekNat (refctl die.val) 8 = w / 2 * 2 + 1 ∧ t.chans = s.chans)
        ∧ (∃ t, exec (.refctlTrace die false) s = .next t ∧ t.peekNat (refctl die.val) 8 = w / 2 * 2 ∧ ∀ k < 64, ∀ e < 8,
            Map.get false (at_ t k).armed e = false
            ∧ Map.get 0 (at_ t k).t0 e = if Map.get false (at_ s k).armed e then now else Map.get 0 (at_ s k).t0 e)
        ∧ (∃ t, exec (.refctlArm die) s = .next t ∧ t.peekNat (refctl die.val) 8 = w % 2 + 2 ∧ (t.die die).arming = true
            ∧ ∀ k < 64, (∀ e < 8, Map.get false (at_ t k).armed e = true) ∧ ∀ e < 32, ((at_ t k).bank e).debt = 0)
        ∧ ((s.die die).arming = false → exec (.refctlArmComplete die) s = .next s)
        ∧ ((s.die die).arming = true → (∀ k < 64, (at_ s k).forced = [] ∧ ∀ e < 32, ((at_ s k).bank e).refresh = false) →
            ∃ t, exec (.refctlArmComplete die) s = .next t ∧ t.peekNat (refctl die.val) 8 = w % 2 ∧ (t.die die).arming = false
              ∧ t.chans = s.chans))
    ∧ (∀ pa (corrected : Bool), (s.bankOf pa = none → exec (.patrolScrub pa corrected) s = .next s)
        ∧ ∀ k j, s.bankOf pa = some (k, j) → k < 512 → let f := 0xB0000 + k / 64 * 0x1000
          (s.peekNat (refctl (k / 64)) 8 % 2 = 1 → exec (.patrolScrub pa corrected) s = .next s)
          ∧ (s.peekNat (refctl (k / 64)) 8 % 2 = 0 → s.permits (s.targetOf pa) 0x1208 .r = true →
              ∃ t, exec (.patrolScrub pa corrected) s = .next t ∧ t.poison = s.poison
                ∧ t.peekNat (f + 0x50) 8 = (if corrected then oneMore s (f + 0x50) else s.peekNat (f + 0x50) 8)
                ∧ t.peekNat (f + 0x58) 8 = (if ∃ e < 4, pa / 256 * 4 + e ∈ s.poison then oneMore s (f + 0x58)
                    else s.peekNat (f + 0x58) 8)))

/-- Boot, recovery, checkpoints, power and temperature, lockstep pairs, and the fabric ports (R404, R439, R468, R470,
R485, R492, R497, R500, R501, R503, R505, R507). The model's own here: what boot takes from the part (log 25), what
the clock and POWER are within their bounds (log 24), what a rollback leaves (log 68), checkpoints whatever their
master may read (log 73), and a recovery before the first checkpoint (log 95). -/
def Obligations.PlatformRows : Prop :=
  ∀ s : State, s.Sound →
    (∃ t, exec .coldBoot s = .next t ∧ t.booted = true ∧ t.acc = s.acc ∧ t.seals = [] ∧ t.leases = []
      ∧ ((∃ d : Fin 8, Config.firmwareVerifies d.val = true) → t.peekNat 0 8 = 0x534B5258424F4F54
          ∧ t.bootEpoch = min (s.bootEpoch + 1) 65535 ∧ t.peekNat 16 8 = min (s.bootEpoch + 1) 65535)
      ∧ ((∀ d : Fin 8, Config.firmwareVerifies d.val = false) → t.bootEpoch = s.bootEpoch ∧ ∀ a < 2 ^ 48, t.peek a = s.peek a)
      ∧ t.cycle = 0 ∧ (∀ ch : Fin 512, ∀ g < 8, Map.get 0 (t.channel ch.val).t0 g = 0)
      ∧ (∀ i : HartId, i.slot ≠ 7 → t.hart i = Hart.reset) ∧ (∀ d : Fin 8, (t.die d).halted = !Config.firmwareVerifies d.val)
      ∧ (∀ i : HartId, i.slot = 7 → Config.firmwareVerifies i.die.val = true → (t.hart i).priv = true ∧ (t.hart i).st = .waiting)
      ∧ ((∀ d : Fin 8, Config.firmwareVerifies d.val = true) → t.peekNat 8 8 = 1))
    ∧ (s.booted = false → exec .recovery s = .next s)
    ∧ (s.booted = true → s.peekNat 8 8 ≠ 2 → ∃ t, exec .recovery s = .next t ∧ t.peekNat 8 8 = 2 ∧ t.booted = true ∧ t.acc = s.acc
        ∧ t.ckpt = s.ckpt ∧ t.mirror = s.mirror ∧ t.journal = [] ∧ t.leases = [] ∧ (∀ i : HartId, t.hart i = Hart.reset)
        ∧ (∀ c, (t.core c).usable = (s.core c).usable) ∧ t.ckDrain = none ∧ t.ckPending = false
        ∧ t.upd = s.upd.map (fun u => { u with inFlight := [], posted := [] }) ∧ t.peekNat 0xB0000 8 = s.peekNat 0xB0000 4
        ∧ ∀ a, 0x1000 ≤ a → ¬(0xB0000 ≤ a ∧ a < 0xB0008) → t.peek a = s.peek a)
    ∧ (s.booted = true → s.peekNat 8 8 = 2 → s.mirror = [] → ∃ t, exec .recovery s = .next t ∧ t.peekNat 8 8 = 3 ∧ t.peekNat 64 8 = 0
        ∧ t.peekNat 24 8 = (s.peekNat 24 8 + 1) % 2 ^ 64 ∧ t.msix = 8 :: s.msix ∧ t.acc = s.acc
        ∧ (∀ i : HartId, i.slot ≠ 7 → s.hart i = Hart.reset → t.hart i = Hart.reset)
        ∧ (∀ a, 2 ^ 47 ≤ a → a < 2 ^ 48 → t.peek a = s.peek a)
        ∧ (s.ckpt = none → t.seals = [] ∧ ∀ d : Fin 8, (t.die d).launches = [] ∧ (t.die d).gangs = [])
        ∧ (∀ c, s.ckpt = some c → t.seals = c.seals
            ∧ (∀ a, 0xB8000 ≤ a → a < 2 ^ 47 ∨ 2 ^ 48 ≤ a → t.peek a = Memory.get c.mem a)
            ∧ ∀ d : Fin 8, Config.firmwareVerifies d.val = true → let p := Map.get Die.reset c.dies d.val
                let word := fun (k : Nat) => t.peekNat (0x1000 + d.val * 0x1000 + k) 8
                (t.die d).launches.map (·.seq) = p.launches.map (·.seq) ∧ (t.die d).gangs = p.gangs
                ∧ word 0 = p.accseq % 2 ^ 64 ∧ word 64 = p.accseq % 2 ^ 64 ∧ word 128 = p.doneseq % 2 ^ 64
                ∧ word 192 = p.doneseq % 2 ^ 64))
    ∧ (∀ ms : BitVec 32, ∃ t, exec (.ckctlInterval ms) s = .next t ∧ t.ckPending = s.ckPending
        ∧ t.peekNat 0xB0004 4 = s.peekNat 0xB0004 4 % 4
        ∧ t.peekNat 0xB0000 4 = if 1 ≤ ms.toNat ∧ ms.toNat ≤ 1999 then 2000 else ms.toNat)
    ∧ (∃ t, exec .ckctlNow s = .next t ∧ t.ckPending = true ∧ t.peekNat 0xB0004 4 % 2 = 1)
    ∧ (s.pointDue = false → exec .checkpointPoint s = .next s)
    ∧ (s.pointDue = true → s.gangsOut = true → ∃ t c, exec .checkpointPoint s = .next t ∧ t.ckPending = false ∧ t.ckDrain = some c
        ∧ c.cycle = s.cycle ∧ c.mem = t.mem ∧ c.harts = t.harts ∧ c.dies = s.dies ∧ c.seals = s.seals
        ∧ t.peekNat 0xB0000 8 = s.peekNat 0xB0000 4 + 2 ^ 33)
    ∧ (s.pointDue = true → s.gangsOut = false → ∃ t, exec .checkpointPoint s = .next t ∧ t.ckPending = true)
    ∧ (s.ckDrain = none → exec .checkpointDrainComplete s = .next s)
    ∧ (∀ c, s.ckDrain = some c → s.drains = false → ∃ t, exec .checkpointDrainComplete s = .next t ∧ t.ckDrain = none ∧ t.ckpt = s.ckpt
        ∧ t.mirror = s.mirror ∧ t.journal = s.journal ∧ t.peekNat 32 8 = s.peekNat 32 8 ∧ t.peekNat 0xB0078 8 = oneMore s 0xB0078
        ∧ t.peekNat 0xB0000 8 = s.peekNat 0xB0000 8 % 2 ^ 33)
    ∧ (∀ c, s.ckDrain = some c → s.drains = true → c.journal = [] → ∃ t, exec .checkpointDrainComplete s = .next t ∧ t.ckDrain = none ∧ t.ckpt = some c
        ∧ t.peekNat 32 8 = (s.peekNat 32 8 + 1) % 2 ^ 64 ∧ t.peekNat 40 8 = c.cycle % 2 ^ 64
        ∧ t.peekNat 0xB0000 8 = s.peekNat 0xB0000 8 % 2 ^ 33
        ∧ ∀ q ∈ c.dies, q.1 < 8 → t.peekNat (0x1000 + q.1 * 0x1000 + 192) 8 = q.2.doneseq % 2 ^ 64)
    ∧ (∀ (d : Fin 8) (v : Word), let x := s.die d; let f := fleet d.val
        (∃ t, exec (.pcapreqWrite d v) s = .next t ∧ watchedOnly s t ∧ wordsSet s t [(f + 8, v.toNat)])
        ∧ exec (.pcapApply d) s = .next (s.setDie d { x with pcap := BitVec.ofNat 16 (min (s.peekNat (f + 8) 8) 540) })
        ∧ (∀ steps cru : Nat, let a := 192 * 65536 * 4096; let c := 192 * 4096; let m := min (steps * c) (cru * a)
            ∃ t, exec (.governorWindow d steps cru) s = .next t ∧ (t.die d).clkMHz ≤ (2000 * (100 * a * c) - 24000 * m) / (100 * a * c)
              ∧ (t.die d).clkMHz ≤ hotClock (s.peekNat (f + 0x18) 8) ∧ (t.die d).clkMHz ≤ hotClock (s.peekNat (f + 0x20) 8)
              ∧ t.peekNat (f + 0x28) 8 = (t.die d).clkMHz ∧ t.peekNat (f + 0x10) 8 ≤ x.pcap.toNat
              ∧ (x.clkMHz = 2000 → t.peekNat (f + 0x30) 8 = s.peekNat (f + 0x30) 8)
              ∧ (x.clkMHz < 2000 → s.peekNat (f + 0x30) 8 + 4096 < 2 ^ 64 → t.peekNat (f + 0x30) 8 = s.peekNat (f + 0x30) 8 + 4096))
        ∧ (∀ c m : Nat, ∃ t, exec (.thermalEmergency d c m) s = .next t
            ∧ (t.die d).clkMHz = min x.clkMHz (min (hotClock c) (hotClock m))
            ∧ (110 < c → (t.die d).halted = true)
            ∧ (c ≤ 110 → (t.die d).halted = x.halted
                ∧ (m ≤ 105 → (t.die d).emergency = none)
                ∧ (105 < m → (t.die d).emergency = some (s.cycle, (lasted x s.cycle).getD 0)))
            ∧ (105 < m → x.emergency = none → s.peekNat (refctl d.val) 8 % 2 = 0 → ∀ k < 64, (s.channel (64 * d.val + k)).power % 4 = 0 →
                (t.channel (64 * d.val + k)).power % 4 = 3 ∧ (t.channel (64 * d.val + k)).changing = some (2, s.cycle)))
        ∧ (x.emergency = none → exec (.thermalEmergencyExpiry d) s = .next s)
        ∧ (∀ ps, lasted x s.cycle = some ps → (ps < 10 ^ 12 → exec (.thermalEmergencyExpiry d) s = .next s)
            ∧ (10 ^ 12 ≤ ps → x.halted = false → ∃ t, exec (.thermalEmergencyExpiry d) s = .next t
                ∧ (t.die d).halted = true ∧ t.peekNat (f + 0x70) 8 = oneMore s (f + 0x70)
                ∧ t.peekNat (f + 0x100 + 32 * (s.peekNat (f + 0x70) 8 % 16) + 8) 8 = 2)))
    ∧ (∀ h : HartId, let x := s.hart h
        (s.pairs.find? (fun q => q.1 == hartKey h) = none → exec (.lockstepMismatch h) s = .next s)
        ∧ (∀ p, s.pairs.find? (fun q => q.1 == hartKey h) = some (hartKey h, p) → let y := p.hart
            (x.st = .stopping ∨ x.st = .suspending → p.rollbacks < 2 → ∃ t, exec (.lockstepMismatch h) s = .next t ∧ (t.hart h).st = x.st
              ∧ (x.st = .stopping → (t.hart h).pc = x.pc ∧ (t.hart h).x = x.x ∧ (t.hart h).instret = x.instret))
            ∧ (x.st = .running ∨ x.st = .waiting → ∃ t, exec (.lockstepMismatch h) s = .next t
              ∧ (t.hart h).x = y.x ∧ (t.hart h).v = y.v ∧ (t.hart h).m = y.m ∧ (t.hart h).blk = y.blk
              ∧ (t.hart h).instret = y.instret ∧ (t.hart h).ilock = x.ilock ∧ (t.hart h).latcnt = x.latcnt ∧ (t.hart h).chan = x.chan
              ∧ (t.hart h).vs.rq = x.vs.rq ∧ (t.hart h).reclaimAt = x.reclaimAt ∧ t.peekNat (fleet h.die.val + 0x68) 8 = oneMore s (fleet h.die.val + 0x68)
              ∧ (∀ st : Fin 16, x.entryOf st = false → y.entryOf st = false → x.stm[st].mode ≠ 4 → (t.hart h).stm[st] = y.stm[st])
              ∧ (p.rollbacks < 2 → (t.hart h).pc = y.pc ∧ (t.hart h).trap = y.trap
                  ∧ t.pairs.find? (fun q => q.1 == hartKey h)
                    = some (hartKey h, { p with rollbacks := p.rollbacks + 1, resumeAt := some (s.cycle + 64) }))
              ∧ (2 ≤ p.rollbacks → y.inf = false → (t.hart h).fw.cause = 14 ∧ (t.hart h).fw.tval = 3 ∧ (t.hart h).fw.pc = y.pc
                  ∧ (t.core (coreOf h)).usable = 0)))
        ∧ exec (.rollbackResume h) s = .next { s with
            pairs := s.pairs.map fun q => if q.1 = hartKey h ∧ (∃ t ∈ q.2.resumeAt, t ≤ s.cycle) then (q.1, { q.2 with resumeAt := none }) else q })
    ∧ (∀ port : Fin 18, (∃ t, exec (.flitRetransmit port) s = .next t ∧ watchedOnly s t ∧ wordsSet s t [(0xB0080, oneMore s 0xB0080)])
        ∧ (port.val ∈ s.portsDown → exec (.portRetrainFail port) s = .next s)
        ∧ (port.val ∉ s.portsDown → ∃ t, exec (.portRetrainFail port) s = .next t ∧ t.portsDown = s.portsDown ++ [port.val]
            ∧ wordsSet s t [(0xB0088, oneMore s 0xB0088)]))

/-- What cold reset leaves: an unbooted module with every slot EMPTY and the reset values of a slot's registers (R32, R46,
R51, R67, R79, R249, R330, R428, R466, R470, R476, R497). The values that the spec does not give are those of log 3,
log 12 and log 75; what unlisted memory reads as is log 2, and the slots last served log 106. -/
def Obligations.ResetState : Prop :=
  let s := State.reset;
    s.Sound ∧ s.booted = false ∧ s.acc = Access.reset ∧ s.acc.counter = 0 ∧ s.acc.windows = [(0, (0, 2 ^ 22))] ∧ s.seals = [] ∧ s.poison = []
    ∧ s.journal = [] ∧ s.ckpt = none ∧ s.ckDrain = none ∧ s.mirror = [] ∧ s.leases = [] ∧ s.ecap = 2000
    ∧ s.upd = none ∧ s.rewritten = [] ∧ s.msix = [] ∧ s.messages = [] ∧ s.bar2 = [] ∧ s.pairs = [] ∧ s.scratch = []
    ∧ (∀ b, (Map.get ScratchBank.reset s.scratch b).last = 7) ∧ (∀ c, (s.core c).last = 7 ∧ (s.core c).tlb = [] ∧ (s.core c).mbox = [])
    ∧ (∀ d : Fin 8, (s.die d).launches = [] ∧ (s.die d).gangs = [] ∧ (s.die d).pcap = 540 ∧ (s.die d).halted = false)
    ∧ (∀ a, a < 0xB0000 ∨ 0xB8000 ≤ a ∨ a % 0x1000 / 8 ≠ 1 ∧ a % 0x1000 / 8 ≠ 5 → s.peek a = 0)
    ∧ (∀ d : Fin 8, s.peekNat (0xB0008 + d.val * 0x1000) 8 = 540 ∧ s.peekNat (0xB0028 + d.val * 0x1000) 8 = 2000)
    ∧ ∀ i : HartId, let h := s.hart i
      h.st = .empty ∧ h.vs.vl = 0 ∧ h.vs.rows = 1 ∧ h.vs.vstart = 0 ∧ h.vs.sat = false ∧ h.vs.flags = 0 ∧ h.vs.en = 0 ∧ h.vs.convoys = 0
      ∧ h.vs.cfg.nslot = 0 ∧ h.vs.cfg.sew = 8 ∧ h.vs.cfg.ill = false ∧ h.vs.qcount = 0
      ∧ (∀ k : Fin 64, h.v[k].shape = .u 0 ∧ h.v[k].ew = 8 ∧ h.v[k].extent = 0) ∧ (∀ k : Fin 8, h.m[k].bits = [] ∧ h.blk[k] = [])
      ∧ (∀ k : Fin 16, h.stm[k].state = .idle) ∧ h.instret = 0 ∧ h.latcnt = 0 ∧ h.trap.en = false ∧ h.inh = false ∧ h.inf = false
      ∧ h.priv = false ∧ h.convoy = [] ∧ h.ilock = [] ∧ (∀ k : Fin 32, h.x[k] = 0) ∧ h.pc = 0

/-- A step runs the instruction that the fetched bytes decode to; an undecodable word is ILLEGAL; an agenda event runs
(R32, R47, R51, R152, R160, R163, R164, R168, R189, R400, R499). How a step is chosen and how a program comes to run
is log 1, and how a hart waits log 4. -/
def Obligations.StepRunsDecoded : Prop :=
  ∀ s t u : State, ∀ i : HartId, issues s i t → let q := { t with cur := i, stalled := s.stalled }
    (∀ w n : Nat, q.h.xwait = none → q.h.inFlight = false →
      q.fetch i (q.h.pc.toNat + (q.h.convoy.map (·.size)).sum) = .ok (w, n) →
      (q.h.convoy = [] ∨ joins w = true →
        (∀ ins, decodeBits w = .ok ins → exec ins q = .next u →
          stepsTo s q (q.pairSteps (q.pairStep i (checkpoints ins || convoyClass w) u)))
        ∧ (∀ r, decodeBits w = .error r → exec (.illegalInstruction (lengthCode n) (BitVec.ofNat 64 w)) q = .next u →
            stepsTo s q (q.pairSteps (q.pairStep i (convoyClass w) u))))
      ∧ (q.h.convoy ≠ [] → joins w = false → stepsTo s q (q.pairSteps q.closeConvoy)))
    ∧ (∀ w n ins, q.h.inFlight = true → (behind q).fetch i (behind q).h.pc.toNat = .ok (w, n) → decodeBits w = .ok ins → free q ins →
        exec ins (behind q) = .next u → (behind q).h.quietly u.h = true →
        u.setHart i (behind q).h = { behind q with cores := u.cores, scratch := u.scratch } →
        stepsTo s q (u.setHart i { q.h with
          latcnt := u.h.latcnt, reads := u.h.reads, faulted := u.h.faulted, credit := u.h.credit, age := u.h.age, yielded := u.h.yielded,
          ahead := some
            { front := { pc := u.h.pc, x := u.h.x, instret := u.h.instret, trap := u.h.trap, inh := u.h.inh,
                         wrote := q.h.front.wrote ++ ins.xWrites, flags := u.h.vs.flags, warned := q.h.front.warned },
              stores := (q.h.ahead.map (·.stores)).getD [] } }))
    ∧ ∀ a : State, ∀ b : HartId, ∀ e : Instr, ∀ l, a.agenda = .event b e :: l → let g := { a with agenda := l, cur := b }
        (e.isEvent = true → exec e g = .next u → stepsTo a g (g.pairSteps u)) ∧ (e.isEvent = false → stepsTo a g g)

/-- Words of every format, written field by field, decode to the instructions they stand for (R153, R154, R155, R156,
R157, R158, R182, R187, R195, R282). -/
def Obligations.DecodeWords : Prop :=
  decodeBits (fields [(0, 9), (7, 5), (6, 5), (5, 5), (0x05, 6), (3, 2)]) = .ok (.add 5 6 7)
    ∧ decodeBits (fields [(2047, 11), (0, 3), (6, 5), (5, 5), (0x04, 6), (3, 2)]) = .ok (.addi 5 6 (-1))
    ∧ decodeBits (fields [(1, 6), (3, 3), (7, 5), (2, 5), (8, 5), (0x01, 6), (3, 2)]) = .ok (.sd 2 7 40)
    ∧ decodeBits (fields [(0x40001, 19), (9, 5), (0x08, 6), (3, 2)]) = .ok (.lui 9 0x40001)
    ∧ decodeBits (fields [(127, 7), (0, 2), (4, 5), (3, 5), (30, 5), (0x0C, 6), (3, 2)]) = .ok (.beq 3 4 (-2))
    ∧ decodeBits (fields [(0, 2), (1, 2), (13, 5), (12, 5), (11, 5), (10, 5), (0x0F, 6), (3, 2)]) = .ok (.fmadd 10 11 12 13 1)
    ∧ decodeBits (fields [(0, 2), (0x010, 12), (0, 5), (5, 5), (0x11, 6), (3, 2)]) = .ok (.mfs 5 0x010)
    ∧ decodeBits (fields [(3, 3), (7, 3), (2, 3), (31, 5), (1, 2)]) = .ok (.cBeqz 2 (-1))
    ∧ decodeBits (fields [(0, 4), (1, 1), (3, 6), (2, 6), (4, 6), (1, 1), (0x20, 6), (3, 2)]) = .ok (.vaddVv true true 4 2 3)
    ∧ decodeBits (fields [(0, 4), (0, 1), (63, 6), (2, 6), (63, 6), (0, 1), (0x23, 6), (3, 2)]) = .ok (.vaddVi false false 63 2 (-1))
    ∧ decodeBits 0x0010012B = .ok (.jal 1 128)
    ∧ decodeBits (0x01010977 + 2 ^ 32 * 0x00000017) = .ok (.vmm true false 4 2 8 7 2)
    ∧ refusedWord 0x0000 ∧ refusedWord 0xFFFFFFFF
    ∧ refusedWord (fields [(0, 24), (0x14, 6), (3, 2)]) ∧ refusedWord (fields [(511, 9), (0, 15), (0x05, 6), (3, 2)])
    ∧ refusedWord (fields [(0, 2), (0x010, 12), (1, 5), (5, 5), (0x11, 6), (3, 2)])

/-- Decoding the encoding of any well-formed instruction gives that instruction back (R152, R154, R155, R156, R157, R158,
R159, R161). -/
def Obligations.DecodeEncode : Prop :=
  ∀ i : Instr, i.wf = true → i.size ≠ 0 →
    decodeBits (encode i) = .ok i ∧ encode i < 2 ^ (8 * i.size) ∧ (encodeBytes i).length = i.size
    ∧ (∀ rest, decode (encodeBytes i ++ rest) = .ok (i, i.size)) ∧ decodeTableWord (8 * i.size) (encode i) = some i
    ∧ ∀ j : Instr, j.wf = true → j.size ≠ 0 → encode j = encode i → j = i

/-- Every step keeps memory in canonical form, and the memory that checkpoints keep (R7, R20, R30, R477). The canonical
form is the model's own: log 2. -/
def Obligations.StepKeepsMemory : Prop :=
  ∀ s t : State, s.memoryOk → step s = .next t → t.memoryOk

/-- Every step keeps the maps of harts, cores, dies, channels, leases and banks in canonical form (R16, R20, R32, R425,
R476, R477, R481). The canonical form of the maps is the model's own: log 2. -/
def Obligations.StepKeepsMaps : Prop :=
  ∀ s t : State, s.mapsOk → step s = .next t → t.mapsOk
end

