-- ==== Sys2Proof/Laws/State.lean ====
section
/-! SUPPORT. What each update of the state and of a hart leaves in each field: one lemma a field for each update that every family
uses, all true by definition, so that no proof unfolds a record update. -/

namespace Sys2Proof.Machine

@[simp] theorem State.setHart_cur (s : State) (i : HartId) (h : Hart) : (s.setHart i h).cur = s.cur := rfl
@[simp] theorem State.setHart_cycle (s : State) (i : HartId) (h : Hart) : (s.setHart i h).cycle = s.cycle := rfl
@[simp] theorem State.setHart_harts (s : State) (i : HartId) (h : Hart) : (s.setHart i h).harts = Map.set Hart.reset s.harts (hartKey i) h := rfl
@[simp] theorem State.setHart_cores (s : State) (i : HartId) (h : Hart) : (s.setHart i h).cores = s.cores := rfl
@[simp] theorem State.setHart_dies (s : State) (i : HartId) (h : Hart) : (s.setHart i h).dies = s.dies := rfl
@[simp] theorem State.setHart_chans (s : State) (i : HartId) (h : Hart) : (s.setHart i h).chans = s.chans := rfl
@[simp] theorem State.setHart_mem (s : State) (i : HartId) (h : Hart) : (s.setHart i h).mem = s.mem := rfl
@[simp] theorem State.setHart_poison (s : State) (i : HartId) (h : Hart) : (s.setHart i h).poison = s.poison := rfl
@[simp] theorem State.setHart_seals (s : State) (i : HartId) (h : Hart) : (s.setHart i h).seals = s.seals := rfl
@[simp] theorem State.setHart_bootEpoch (s : State) (i : HartId) (h : Hart) : (s.setHart i h).bootEpoch = s.bootEpoch := rfl
@[simp] theorem State.setHart_sealCount (s : State) (i : HartId) (h : Hart) : (s.setHart i h).sealCount = s.sealCount := rfl
@[simp] theorem State.setHart_leases (s : State) (i : HartId) (h : Hart) : (s.setHart i h).leases = s.leases := rfl
@[simp] theorem State.setHart_acc (s : State) (i : HartId) (h : Hart) : (s.setHart i h).acc = s.acc := rfl
@[simp] theorem State.setHart_upd (s : State) (i : HartId) (h : Hart) : (s.setHart i h).upd = s.upd := rfl
@[simp] theorem State.setHart_updNext (s : State) (i : HartId) (h : Hart) : (s.setHart i h).updNext = s.updNext := rfl
@[simp] theorem State.setHart_quarters (s : State) (i : HartId) (h : Hart) : (s.setHart i h).quarters = s.quarters := rfl
@[simp] theorem State.setHart_bankout (s : State) (i : HartId) (h : Hart) : (s.setHart i h).bankout = s.bankout := rfl
@[simp] theorem State.setHart_journal (s : State) (i : HartId) (h : Hart) : (s.setHart i h).journal = s.journal := rfl
@[simp] theorem State.setHart_ckpt (s : State) (i : HartId) (h : Hart) : (s.setHart i h).ckpt = s.ckpt := rfl
@[simp] theorem State.setHart_ckDrain (s : State) (i : HartId) (h : Hart) : (s.setHart i h).ckDrain = s.ckDrain := rfl
@[simp] theorem State.setHart_ckPending (s : State) (i : HartId) (h : Hart) : (s.setHart i h).ckPending = s.ckPending := rfl
@[simp] theorem State.setHart_mirror (s : State) (i : HartId) (h : Hart) : (s.setHart i h).mirror = s.mirror := rfl
@[simp] theorem State.setHart_msix (s : State) (i : HartId) (h : Hart) : (s.setHart i h).msix = s.msix := rfl
@[simp] theorem State.setHart_answer (s : State) (i : HartId) (h : Hart) : (s.setHart i h).answer = s.answer := rfl
@[simp] theorem State.setHart_portsDown (s : State) (i : HartId) (h : Hart) : (s.setHart i h).portsDown = s.portsDown := rfl
@[simp] theorem State.setHart_pairs (s : State) (i : HartId) (h : Hart) : (s.setHart i h).pairs = s.pairs := rfl
@[simp] theorem State.setHart_scratch (s : State) (i : HartId) (h : Hart) : (s.setHart i h).scratch = s.scratch := rfl
@[simp] theorem State.setHart_ecap (s : State) (i : HartId) (h : Hart) : (s.setHart i h).ecap = s.ecap := rfl
@[simp] theorem State.setHart_served (s : State) (i : HartId) (h : Hart) : (s.setHart i h).served = s.served := rfl
@[simp] theorem State.setHart_booted (s : State) (i : HartId) (h : Hart) : (s.setHart i h).booted = s.booted := rfl
@[simp] theorem State.setHart_agenda (s : State) (i : HartId) (h : Hart) : (s.setHart i h).agenda = s.agenda := rfl
@[simp] theorem State.setHart_focus (s : State) (i : HartId) (h : Hart) : (s.setHart i h).focus = s.focus := rfl
@[simp] theorem State.setHart_stalled (s : State) (i : HartId) (h : Hart) : (s.setHart i h).stalled = s.stalled := rfl
@[simp] theorem State.setHart_fresh (s : State) (i : HartId) (h : Hart) : (s.setHart i h).fresh = s.fresh := rfl
@[simp] theorem State.setHart_commands (s : State) (i : HartId) (h : Hart) : (s.setHart i h).commands = s.commands := rfl
@[simp] theorem State.setHart_paced (s : State) (i : HartId) (h : Hart) : (s.setHart i h).paced = s.paced := rfl
@[simp] theorem State.setHart_rewritten (s : State) (i : HartId) (h : Hart) : (s.setHart i h).rewritten = s.rewritten := rfl
@[simp] theorem State.setHart_bar2 (s : State) (i : HartId) (h : Hart) : (s.setHart i h).bar2 = s.bar2 := rfl
@[simp] theorem State.setHart_messages (s : State) (i : HartId) (h : Hart) : (s.setHart i h).messages = s.messages := rfl
@[simp] theorem State.setHart_completion (s : State) (i : HartId) (h : Hart) : (s.setHart i h).completion = s.completion := rfl

@[simp] theorem State.setCore_cur (s : State) (c : CoreId) (x : Core) : (s.setCore c x).cur = s.cur := rfl
@[simp] theorem State.setCore_cycle (s : State) (c : CoreId) (x : Core) : (s.setCore c x).cycle = s.cycle := rfl
@[simp] theorem State.setCore_harts (s : State) (c : CoreId) (x : Core) : (s.setCore c x).harts = s.harts := rfl
@[simp] theorem State.setCore_cores (s : State) (c : CoreId) (x : Core) : (s.setCore c x).cores = Map.set Core.reset s.cores (coreKey c) x := rfl
@[simp] theorem State.setCore_dies (s : State) (c : CoreId) (x : Core) : (s.setCore c x).dies = s.dies := rfl
@[simp] theorem State.setCore_chans (s : State) (c : CoreId) (x : Core) : (s.setCore c x).chans = s.chans := rfl
@[simp] theorem State.setCore_mem (s : State) (c : CoreId) (x : Core) : (s.setCore c x).mem = s.mem := rfl
@[simp] theorem State.setCore_poison (s : State) (c : CoreId) (x : Core) : (s.setCore c x).poison = s.poison := rfl
@[simp] theorem State.setCore_seals (s : State) (c : CoreId) (x : Core) : (s.setCore c x).seals = s.seals := rfl
@[simp] theorem State.setCore_bootEpoch (s : State) (c : CoreId) (x : Core) : (s.setCore c x).bootEpoch = s.bootEpoch := rfl
@[simp] theorem State.setCore_sealCount (s : State) (c : CoreId) (x : Core) : (s.setCore c x).sealCount = s.sealCount := rfl
@[simp] theorem State.setCore_leases (s : State) (c : CoreId) (x : Core) : (s.setCore c x).leases = s.leases := rfl
@[simp] theorem State.setCore_acc (s : State) (c : CoreId) (x : Core) : (s.setCore c x).acc = s.acc := rfl
@[simp] theorem State.setCore_upd (s : State) (c : CoreId) (x : Core) : (s.setCore c x).upd = s.upd := rfl
@[simp] theorem State.setCore_updNext (s : State) (c : CoreId) (x : Core) : (s.setCore c x).updNext = s.updNext := rfl
@[simp] theorem State.setCore_quarters (s : State) (c : CoreId) (x : Core) : (s.setCore c x).quarters = s.quarters := rfl
@[simp] theorem State.setCore_bankout (s : State) (c : CoreId) (x : Core) : (s.setCore c x).bankout = s.bankout := rfl
@[simp] theorem State.setCore_journal (s : State) (c : CoreId) (x : Core) : (s.setCore c x).journal = s.journal := rfl
@[simp] theorem State.setCore_ckpt (s : State) (c : CoreId) (x : Core) : (s.setCore c x).ckpt = s.ckpt := rfl
@[simp] theorem State.setCore_ckDrain (s : State) (c : CoreId) (x : Core) : (s.setCore c x).ckDrain = s.ckDrain := rfl
@[simp] theorem State.setCore_ckPending (s : State) (c : CoreId) (x : Core) : (s.setCore c x).ckPending = s.ckPending := rfl
@[simp] theorem State.setCore_mirror (s : State) (c : CoreId) (x : Core) : (s.setCore c x).mirror = s.mirror := rfl
@[simp] theorem State.setCore_msix (s : State) (c : CoreId) (x : Core) : (s.setCore c x).msix = s.msix := rfl
@[simp] theorem State.setCore_answer (s : State) (c : CoreId) (x : Core) : (s.setCore c x).answer = s.answer := rfl
@[simp] theorem State.setCore_portsDown (s : State) (c : CoreId) (x : Core) : (s.setCore c x).portsDown = s.portsDown := rfl
@[simp] theorem State.setCore_pairs (s : State) (c : CoreId) (x : Core) : (s.setCore c x).pairs = s.pairs := rfl
@[simp] theorem State.setCore_scratch (s : State) (c : CoreId) (x : Core) : (s.setCore c x).scratch = s.scratch := rfl
@[simp] theorem State.setCore_ecap (s : State) (c : CoreId) (x : Core) : (s.setCore c x).ecap = s.ecap := rfl
@[simp] theorem State.setCore_served (s : State) (c : CoreId) (x : Core) : (s.setCore c x).served = s.served := rfl
@[simp] theorem State.setCore_booted (s : State) (c : CoreId) (x : Core) : (s.setCore c x).booted = s.booted := rfl
@[simp] theorem State.setCore_agenda (s : State) (c : CoreId) (x : Core) : (s.setCore c x).agenda = s.agenda := rfl
@[simp] theorem State.setCore_focus (s : State) (c : CoreId) (x : Core) : (s.setCore c x).focus = s.focus := rfl
@[simp] theorem State.setCore_stalled (s : State) (c : CoreId) (x : Core) : (s.setCore c x).stalled = s.stalled := rfl
@[simp] theorem State.setCore_fresh (s : State) (c : CoreId) (x : Core) : (s.setCore c x).fresh = s.fresh := rfl
@[simp] theorem State.setCore_commands (s : State) (c : CoreId) (x : Core) : (s.setCore c x).commands = s.commands := rfl
@[simp] theorem State.setCore_paced (s : State) (c : CoreId) (x : Core) : (s.setCore c x).paced = s.paced := rfl
@[simp] theorem State.setCore_rewritten (s : State) (c : CoreId) (x : Core) : (s.setCore c x).rewritten = s.rewritten := rfl
@[simp] theorem State.setCore_bar2 (s : State) (c : CoreId) (x : Core) : (s.setCore c x).bar2 = s.bar2 := rfl
@[simp] theorem State.setCore_messages (s : State) (c : CoreId) (x : Core) : (s.setCore c x).messages = s.messages := rfl
@[simp] theorem State.setCore_completion (s : State) (c : CoreId) (x : Core) : (s.setCore c x).completion = s.completion := rfl

@[simp] theorem State.setDie_cur (s : State) (d : Fin 8) (x : Die) : (s.setDie d x).cur = s.cur := rfl
@[simp] theorem State.setDie_cycle (s : State) (d : Fin 8) (x : Die) : (s.setDie d x).cycle = s.cycle := rfl
@[simp] theorem State.setDie_harts (s : State) (d : Fin 8) (x : Die) : (s.setDie d x).harts = s.harts := rfl
@[simp] theorem State.setDie_cores (s : State) (d : Fin 8) (x : Die) : (s.setDie d x).cores = s.cores := rfl
@[simp] theorem State.setDie_dies (s : State) (d : Fin 8) (x : Die) : (s.setDie d x).dies = Map.set Die.reset s.dies d.val x := rfl
@[simp] theorem State.setDie_chans (s : State) (d : Fin 8) (x : Die) : (s.setDie d x).chans = s.chans := rfl
@[simp] theorem State.setDie_mem (s : State) (d : Fin 8) (x : Die) : (s.setDie d x).mem = s.mem := rfl
@[simp] theorem State.setDie_poison (s : State) (d : Fin 8) (x : Die) : (s.setDie d x).poison = s.poison := rfl
@[simp] theorem State.setDie_seals (s : State) (d : Fin 8) (x : Die) : (s.setDie d x).seals = s.seals := rfl
@[simp] theorem State.setDie_bootEpoch (s : State) (d : Fin 8) (x : Die) : (s.setDie d x).bootEpoch = s.bootEpoch := rfl
@[simp] theorem State.setDie_sealCount (s : State) (d : Fin 8) (x : Die) : (s.setDie d x).sealCount = s.sealCount := rfl
@[simp] theorem State.setDie_leases (s : State) (d : Fin 8) (x : Die) : (s.setDie d x).leases = s.leases := rfl
@[simp] theorem State.setDie_acc (s : State) (d : Fin 8) (x : Die) : (s.setDie d x).acc = s.acc := rfl
@[simp] theorem State.setDie_upd (s : State) (d : Fin 8) (x : Die) : (s.setDie d x).upd = s.upd := rfl
@[simp] theorem State.setDie_updNext (s : State) (d : Fin 8) (x : Die) : (s.setDie d x).updNext = s.updNext := rfl
@[simp] theorem State.setDie_quarters (s : State) (d : Fin 8) (x : Die) : (s.setDie d x).quarters = s.quarters := rfl
@[simp] theorem State.setDie_bankout (s : State) (d : Fin 8) (x : Die) : (s.setDie d x).bankout = s.bankout := rfl
@[simp] theorem State.setDie_journal (s : State) (d : Fin 8) (x : Die) : (s.setDie d x).journal = s.journal := rfl
@[simp] theorem State.setDie_ckpt (s : State) (d : Fin 8) (x : Die) : (s.setDie d x).ckpt = s.ckpt := rfl
@[simp] theorem State.setDie_ckDrain (s : State) (d : Fin 8) (x : Die) : (s.setDie d x).ckDrain = s.ckDrain := rfl
@[simp] theorem State.setDie_ckPending (s : State) (d : Fin 8) (x : Die) : (s.setDie d x).ckPending = s.ckPending := rfl
@[simp] theorem State.setDie_mirror (s : State) (d : Fin 8) (x : Die) : (s.setDie d x).mirror = s.mirror := rfl
@[simp] theorem State.setDie_msix (s : State) (d : Fin 8) (x : Die) : (s.setDie d x).msix = s.msix := rfl
@[simp] theorem State.setDie_answer (s : State) (d : Fin 8) (x : Die) : (s.setDie d x).answer = s.answer := rfl
@[simp] theorem State.setDie_portsDown (s : State) (d : Fin 8) (x : Die) : (s.setDie d x).portsDown = s.portsDown := rfl
@[simp] theorem State.setDie_pairs (s : State) (d : Fin 8) (x : Die) : (s.setDie d x).pairs = s.pairs := rfl
@[simp] theorem State.setDie_scratch (s : State) (d : Fin 8) (x : Die) : (s.setDie d x).scratch = s.scratch := rfl
@[simp] theorem State.setDie_ecap (s : State) (d : Fin 8) (x : Die) : (s.setDie d x).ecap = s.ecap := rfl
@[simp] theorem State.setDie_served (s : State) (d : Fin 8) (x : Die) : (s.setDie d x).served = s.served := rfl
@[simp] theorem State.setDie_booted (s : State) (d : Fin 8) (x : Die) : (s.setDie d x).booted = s.booted := rfl
@[simp] theorem State.setDie_agenda (s : State) (d : Fin 8) (x : Die) : (s.setDie d x).agenda = s.agenda := rfl
@[simp] theorem State.setDie_focus (s : State) (d : Fin 8) (x : Die) : (s.setDie d x).focus = s.focus := rfl
@[simp] theorem State.setDie_stalled (s : State) (d : Fin 8) (x : Die) : (s.setDie d x).stalled = s.stalled := rfl
@[simp] theorem State.setDie_fresh (s : State) (d : Fin 8) (x : Die) : (s.setDie d x).fresh = s.fresh := rfl
@[simp] theorem State.setDie_commands (s : State) (d : Fin 8) (x : Die) : (s.setDie d x).commands = s.commands := rfl
@[simp] theorem State.setDie_paced (s : State) (d : Fin 8) (x : Die) : (s.setDie d x).paced = s.paced := rfl
@[simp] theorem State.setDie_rewritten (s : State) (d : Fin 8) (x : Die) : (s.setDie d x).rewritten = s.rewritten := rfl
@[simp] theorem State.setDie_bar2 (s : State) (d : Fin 8) (x : Die) : (s.setDie d x).bar2 = s.bar2 := rfl
@[simp] theorem State.setDie_messages (s : State) (d : Fin 8) (x : Die) : (s.setDie d x).messages = s.messages := rfl
@[simp] theorem State.setDie_completion (s : State) (d : Fin 8) (x : Die) : (s.setDie d x).completion = s.completion := rfl

@[simp] theorem State.setChannel_cur (s : State) (c : Nat) (x : Channel) : (s.setChannel c x).cur = s.cur := rfl
@[simp] theorem State.setChannel_cycle (s : State) (c : Nat) (x : Channel) : (s.setChannel c x).cycle = s.cycle := rfl
@[simp] theorem State.setChannel_harts (s : State) (c : Nat) (x : Channel) : (s.setChannel c x).harts = s.harts := rfl
@[simp] theorem State.setChannel_cores (s : State) (c : Nat) (x : Channel) : (s.setChannel c x).cores = s.cores := rfl
@[simp] theorem State.setChannel_dies (s : State) (c : Nat) (x : Channel) : (s.setChannel c x).dies = s.dies := rfl
@[simp] theorem State.setChannel_chans (s : State) (c : Nat) (x : Channel) : (s.setChannel c x).chans = Map.set Channel.reset s.chans c x := rfl
@[simp] theorem State.setChannel_mem (s : State) (c : Nat) (x : Channel) : (s.setChannel c x).mem = s.mem := rfl
@[simp] theorem State.setChannel_poison (s : State) (c : Nat) (x : Channel) : (s.setChannel c x).poison = s.poison := rfl
@[simp] theorem State.setChannel_seals (s : State) (c : Nat) (x : Channel) : (s.setChannel c x).seals = s.seals := rfl
@[simp] theorem State.setChannel_bootEpoch (s : State) (c : Nat) (x : Channel) : (s.setChannel c x).bootEpoch = s.bootEpoch := rfl
@[simp] theorem State.setChannel_sealCount (s : State) (c : Nat) (x : Channel) : (s.setChannel c x).sealCount = s.sealCount := rfl
@[simp] theorem State.setChannel_leases (s : State) (c : Nat) (x : Channel) : (s.setChannel c x).leases = s.leases := rfl
@[simp] theorem State.setChannel_acc (s : State) (c : Nat) (x : Channel) : (s.setChannel c x).acc = s.acc := rfl
@[simp] theorem State.setChannel_upd (s : State) (c : Nat) (x : Channel) : (s.setChannel c x).upd = s.upd := rfl
@[simp] theorem State.setChannel_updNext (s : State) (c : Nat) (x : Channel) : (s.setChannel c x).updNext = s.updNext := rfl
@[simp] theorem State.setChannel_quarters (s : State) (c : Nat) (x : Channel) : (s.setChannel c x).quarters = s.quarters := rfl
@[simp] theorem State.setChannel_bankout (s : State) (c : Nat) (x : Channel) : (s.setChannel c x).bankout = s.bankout := rfl
@[simp] theorem State.setChannel_journal (s : State) (c : Nat) (x : Channel) : (s.setChannel c x).journal = s.journal := rfl
@[simp] theorem State.setChannel_ckpt (s : State) (c : Nat) (x : Channel) : (s.setChannel c x).ckpt = s.ckpt := rfl
@[simp] theorem State.setChannel_ckDrain (s : State) (c : Nat) (x : Channel) : (s.setChannel c x).ckDrain = s.ckDrain := rfl
@[simp] theorem State.setChannel_ckPending (s : State) (c : Nat) (x : Channel) : (s.setChannel c x).ckPending = s.ckPending := rfl
@[simp] theorem State.setChannel_mirror (s : State) (c : Nat) (x : Channel) : (s.setChannel c x).mirror = s.mirror := rfl
@[simp] theorem State.setChannel_msix (s : State) (c : Nat) (x : Channel) : (s.setChannel c x).msix = s.msix := rfl
@[simp] theorem State.setChannel_answer (s : State) (c : Nat) (x : Channel) : (s.setChannel c x).answer = s.answer := rfl
@[simp] theorem State.setChannel_portsDown (s : State) (c : Nat) (x : Channel) : (s.setChannel c x).portsDown = s.portsDown := rfl
@[simp] theorem State.setChannel_pairs (s : State) (c : Nat) (x : Channel) : (s.setChannel c x).pairs = s.pairs := rfl
@[simp] theorem State.setChannel_scratch (s : State) (c : Nat) (x : Channel) : (s.setChannel c x).scratch = s.scratch := rfl
@[simp] theorem State.setChannel_ecap (s : State) (c : Nat) (x : Channel) : (s.setChannel c x).ecap = s.ecap := rfl
@[simp] theorem State.setChannel_served (s : State) (c : Nat) (x : Channel) : (s.setChannel c x).served = s.served := rfl
@[simp] theorem State.setChannel_booted (s : State) (c : Nat) (x : Channel) : (s.setChannel c x).booted = s.booted := rfl
@[simp] theorem State.setChannel_agenda (s : State) (c : Nat) (x : Channel) : (s.setChannel c x).agenda = s.agenda := rfl
@[simp] theorem State.setChannel_focus (s : State) (c : Nat) (x : Channel) : (s.setChannel c x).focus = s.focus := rfl
@[simp] theorem State.setChannel_stalled (s : State) (c : Nat) (x : Channel) : (s.setChannel c x).stalled = s.stalled := rfl
@[simp] theorem State.setChannel_fresh (s : State) (c : Nat) (x : Channel) : (s.setChannel c x).fresh = s.fresh := rfl
@[simp] theorem State.setChannel_commands (s : State) (c : Nat) (x : Channel) : (s.setChannel c x).commands = s.commands := rfl
@[simp] theorem State.setChannel_paced (s : State) (c : Nat) (x : Channel) : (s.setChannel c x).paced = s.paced := rfl
@[simp] theorem State.setChannel_rewritten (s : State) (c : Nat) (x : Channel) : (s.setChannel c x).rewritten = s.rewritten := rfl
@[simp] theorem State.setChannel_bar2 (s : State) (c : Nat) (x : Channel) : (s.setChannel c x).bar2 = s.bar2 := rfl
@[simp] theorem State.setChannel_messages (s : State) (c : Nat) (x : Channel) : (s.setChannel c x).messages = s.messages := rfl
@[simp] theorem State.setChannel_completion (s : State) (c : Nat) (x : Channel) : (s.setChannel c x).completion = s.completion := rfl

@[simp] theorem State.stall_cur (s : State) : (s.stall).cur = s.cur := rfl
@[simp] theorem State.stall_cycle (s : State) : (s.stall).cycle = s.cycle := rfl
@[simp] theorem State.stall_harts (s : State) : (s.stall).harts = s.harts := rfl
@[simp] theorem State.stall_cores (s : State) : (s.stall).cores = s.cores := rfl
@[simp] theorem State.stall_dies (s : State) : (s.stall).dies = s.dies := rfl
@[simp] theorem State.stall_chans (s : State) : (s.stall).chans = s.chans := rfl
@[simp] theorem State.stall_mem (s : State) : (s.stall).mem = s.mem := rfl
@[simp] theorem State.stall_poison (s : State) : (s.stall).poison = s.poison := rfl
@[simp] theorem State.stall_seals (s : State) : (s.stall).seals = s.seals := rfl
@[simp] theorem State.stall_bootEpoch (s : State) : (s.stall).bootEpoch = s.bootEpoch := rfl
@[simp] theorem State.stall_sealCount (s : State) : (s.stall).sealCount = s.sealCount := rfl
@[simp] theorem State.stall_leases (s : State) : (s.stall).leases = s.leases := rfl
@[simp] theorem State.stall_acc (s : State) : (s.stall).acc = s.acc := rfl
@[simp] theorem State.stall_upd (s : State) : (s.stall).upd = s.upd := rfl
@[simp] theorem State.stall_updNext (s : State) : (s.stall).updNext = s.updNext := rfl
@[simp] theorem State.stall_quarters (s : State) : (s.stall).quarters = s.quarters := rfl
@[simp] theorem State.stall_bankout (s : State) : (s.stall).bankout = s.bankout := rfl
@[simp] theorem State.stall_journal (s : State) : (s.stall).journal = s.journal := rfl
@[simp] theorem State.stall_ckpt (s : State) : (s.stall).ckpt = s.ckpt := rfl
@[simp] theorem State.stall_ckDrain (s : State) : (s.stall).ckDrain = s.ckDrain := rfl
@[simp] theorem State.stall_ckPending (s : State) : (s.stall).ckPending = s.ckPending := rfl
@[simp] theorem State.stall_mirror (s : State) : (s.stall).mirror = s.mirror := rfl
@[simp] theorem State.stall_msix (s : State) : (s.stall).msix = s.msix := rfl
@[simp] theorem State.stall_answer (s : State) : (s.stall).answer = s.answer := rfl
@[simp] theorem State.stall_portsDown (s : State) : (s.stall).portsDown = s.portsDown := rfl
@[simp] theorem State.stall_pairs (s : State) : (s.stall).pairs = s.pairs := rfl
@[simp] theorem State.stall_scratch (s : State) : (s.stall).scratch = s.scratch := rfl
@[simp] theorem State.stall_ecap (s : State) : (s.stall).ecap = s.ecap := rfl
@[simp] theorem State.stall_served (s : State) : (s.stall).served = s.served := rfl
@[simp] theorem State.stall_booted (s : State) : (s.stall).booted = s.booted := rfl
@[simp] theorem State.stall_agenda (s : State) : (s.stall).agenda = s.agenda := rfl
@[simp] theorem State.stall_focus (s : State) : (s.stall).focus = s.focus := rfl
@[simp] theorem State.stall_stalled (s : State) : (s.stall).stalled = hartKey s.cur :: s.stalled := rfl
@[simp] theorem State.stall_fresh (s : State) : (s.stall).fresh = s.fresh := rfl
@[simp] theorem State.stall_commands (s : State) : (s.stall).commands = s.commands := rfl
@[simp] theorem State.stall_paced (s : State) : (s.stall).paced = s.paced := rfl
@[simp] theorem State.stall_rewritten (s : State) : (s.stall).rewritten = s.rewritten := rfl
@[simp] theorem State.stall_bar2 (s : State) : (s.stall).bar2 = s.bar2 := rfl
@[simp] theorem State.stall_messages (s : State) : (s.stall).messages = s.messages := rfl
@[simp] theorem State.stall_completion (s : State) : (s.stall).completion = s.completion := rfl

@[simp] theorem State.perform_cur (s : State) (loc : Nat) (bs : List Byte) : (s.perform loc bs).cur = s.cur := rfl
@[simp] theorem State.perform_cycle (s : State) (loc : Nat) (bs : List Byte) : (s.perform loc bs).cycle = s.cycle := rfl
@[simp] theorem State.perform_harts (s : State) (loc : Nat) (bs : List Byte) : (s.perform loc bs).harts = s.harts.map fun p => (p.1, p.2.observe (pokeBytes s.mem loc bs) loc bs.length) := rfl
@[simp] theorem State.perform_cores (s : State) (loc : Nat) (bs : List Byte) : (s.perform loc bs).cores = s.cores := rfl
@[simp] theorem State.perform_dies (s : State) (loc : Nat) (bs : List Byte) : (s.perform loc bs).dies = s.dies := rfl
@[simp] theorem State.perform_chans (s : State) (loc : Nat) (bs : List Byte) : (s.perform loc bs).chans = s.chans := rfl
@[simp] theorem State.perform_mem (s : State) (loc : Nat) (bs : List Byte) : (s.perform loc bs).mem = pokeBytes s.mem loc bs := rfl
@[simp] theorem State.perform_poison (s : State) (loc : Nat) (bs : List Byte) : (s.perform loc bs).poison = s.poison := rfl
@[simp] theorem State.perform_seals (s : State) (loc : Nat) (bs : List Byte) : (s.perform loc bs).seals = s.seals := rfl
@[simp] theorem State.perform_bootEpoch (s : State) (loc : Nat) (bs : List Byte) : (s.perform loc bs).bootEpoch = s.bootEpoch := rfl
@[simp] theorem State.perform_sealCount (s : State) (loc : Nat) (bs : List Byte) : (s.perform loc bs).sealCount = s.sealCount := rfl
@[simp] theorem State.perform_leases (s : State) (loc : Nat) (bs : List Byte) : (s.perform loc bs).leases = s.leases := rfl
@[simp] theorem State.perform_acc (s : State) (loc : Nat) (bs : List Byte) : (s.perform loc bs).acc = s.acc := rfl
@[simp] theorem State.perform_upd (s : State) (loc : Nat) (bs : List Byte) : (s.perform loc bs).upd = s.upd := rfl
@[simp] theorem State.perform_updNext (s : State) (loc : Nat) (bs : List Byte) : (s.perform loc bs).updNext = s.updNext := rfl
@[simp] theorem State.perform_quarters (s : State) (loc : Nat) (bs : List Byte) : (s.perform loc bs).quarters = s.quarters := rfl
@[simp] theorem State.perform_bankout (s : State) (loc : Nat) (bs : List Byte) : (s.perform loc bs).bankout = s.bankout := rfl
@[simp] theorem State.perform_journal (s : State) (loc : Nat) (bs : List Byte) : (s.perform loc bs).journal = s.journal := rfl
@[simp] theorem State.perform_ckpt (s : State) (loc : Nat) (bs : List Byte) : (s.perform loc bs).ckpt = s.ckpt := rfl
@[simp] theorem State.perform_ckDrain (s : State) (loc : Nat) (bs : List Byte) : (s.perform loc bs).ckDrain = s.ckDrain := rfl
@[simp] theorem State.perform_ckPending (s : State) (loc : Nat) (bs : List Byte) : (s.perform loc bs).ckPending = s.ckPending := rfl
@[simp] theorem State.perform_mirror (s : State) (loc : Nat) (bs : List Byte) : (s.perform loc bs).mirror = s.mirror := rfl
@[simp] theorem State.perform_msix (s : State) (loc : Nat) (bs : List Byte) : (s.perform loc bs).msix = s.msix := rfl
@[simp] theorem State.perform_answer (s : State) (loc : Nat) (bs : List Byte) : (s.perform loc bs).answer = s.answer := rfl
@[simp] theorem State.perform_portsDown (s : State) (loc : Nat) (bs : List Byte) : (s.perform loc bs).portsDown = s.portsDown := rfl
@[simp] theorem State.perform_pairs (s : State) (loc : Nat) (bs : List Byte) : (s.perform loc bs).pairs = s.pairs.map fun p => (p.1, { p.2 with hart := p.2.hart.observe (pokeBytes s.mem loc bs) loc bs.length }) := rfl
@[simp] theorem State.perform_scratch (s : State) (loc : Nat) (bs : List Byte) : (s.perform loc bs).scratch = s.scratch := rfl
@[simp] theorem State.perform_ecap (s : State) (loc : Nat) (bs : List Byte) : (s.perform loc bs).ecap = s.ecap := rfl
@[simp] theorem State.perform_served (s : State) (loc : Nat) (bs : List Byte) : (s.perform loc bs).served = s.served := rfl
@[simp] theorem State.perform_booted (s : State) (loc : Nat) (bs : List Byte) : (s.perform loc bs).booted = s.booted := rfl
@[simp] theorem State.perform_agenda (s : State) (loc : Nat) (bs : List Byte) : (s.perform loc bs).agenda = s.agenda := rfl
@[simp] theorem State.perform_focus (s : State) (loc : Nat) (bs : List Byte) : (s.perform loc bs).focus = s.focus := rfl
@[simp] theorem State.perform_stalled (s : State) (loc : Nat) (bs : List Byte) : (s.perform loc bs).stalled = s.stalled := rfl
@[simp] theorem State.perform_fresh (s : State) (loc : Nat) (bs : List Byte) : (s.perform loc bs).fresh = s.fresh := rfl
@[simp] theorem State.perform_commands (s : State) (loc : Nat) (bs : List Byte) : (s.perform loc bs).commands = s.commands := rfl
@[simp] theorem State.perform_paced (s : State) (loc : Nat) (bs : List Byte) : (s.perform loc bs).paced = s.paced := rfl
@[simp] theorem State.perform_rewritten (s : State) (loc : Nat) (bs : List Byte) : (s.perform loc bs).rewritten = s.rewritten := rfl
@[simp] theorem State.perform_bar2 (s : State) (loc : Nat) (bs : List Byte) : (s.perform loc bs).bar2 = s.bar2 := rfl
@[simp] theorem State.perform_messages (s : State) (loc : Nat) (bs : List Byte) : (s.perform loc bs).messages = s.messages := rfl
@[simp] theorem State.perform_completion (s : State) (loc : Nat) (bs : List Byte) : (s.perform loc bs).completion = s.completion := rfl

@[simp] theorem Hart.retire_st (h : Hart) (n : Nat) : (h.retire n).st = h.st := rfl
@[simp] theorem Hart.retire_pc (h : Hart) (n : Nat) : (h.retire n).pc = h.pc + BitVec.ofNat 56 n := rfl
@[simp] theorem Hart.retire_x (h : Hart) (n : Nat) : (h.retire n).x = h.x := rfl
@[simp] theorem Hart.retire_id (h : Hart) (n : Nat) : (h.retire n).id = h.id := rfl
@[simp] theorem Hart.retire_vs (h : Hart) (n : Nat) : (h.retire n).vs = h.vs := rfl
@[simp] theorem Hart.retire_v (h : Hart) (n : Nat) : (h.retire n).v = h.v := rfl
@[simp] theorem Hart.retire_m (h : Hart) (n : Nat) : (h.retire n).m = h.m := rfl
@[simp] theorem Hart.retire_stm (h : Hart) (n : Nat) : (h.retire n).stm = h.stm := rfl
@[simp] theorem Hart.retire_blk (h : Hart) (n : Nat) : (h.retire n).blk = h.blk := rfl
@[simp] theorem Hart.retire_blkBad (h : Hart) (n : Nat) : (h.retire n).blkBad = h.blkBad := rfl
@[simp] theorem Hart.retire_pair (h : Hart) (n : Nat) : (h.retire n).pair = h.pair := rfl
@[simp] theorem Hart.retire_instret (h : Hart) (n : Nat) : (h.retire n).instret = if h.inf then h.instret else h.instret + 1 := rfl
@[simp] theorem Hart.retire_latcnt (h : Hart) (n : Nat) : (h.retire n).latcnt = h.latcnt := rfl
@[simp] theorem Hart.retire_reads (h : Hart) (n : Nat) : (h.retire n).reads = h.reads := rfl
@[simp] theorem Hart.retire_faulted (h : Hart) (n : Nat) : (h.retire n).faulted = h.faulted := rfl
@[simp] theorem Hart.retire_trap (h : Hart) (n : Nat) : (h.retire n).trap = h.trap := rfl
@[simp] theorem Hart.retire_inh (h : Hart) (n : Nat) : (h.retire n).inh = h.inh := rfl
@[simp] theorem Hart.retire_rwarn (h : Hart) (n : Nat) : (h.retire n).rwarn = h.rwarn := rfl
@[simp] theorem Hart.retire_fw (h : Hart) (n : Nat) : (h.retire n).fw = h.fw := rfl
@[simp] theorem Hart.retire_inf (h : Hart) (n : Nat) : (h.retire n).inf = h.inf := rfl
@[simp] theorem Hart.retire_ppriv (h : Hart) (n : Nat) : (h.retire n).ppriv = h.ppriv := rfl
@[simp] theorem Hart.retire_priv (h : Hart) (n : Nat) : (h.retire n).priv = h.priv := rfl
@[simp] theorem Hart.retire_space (h : Hart) (n : Nat) : (h.retire n).space = h.space := rfl
@[simp] theorem Hart.retire_spawnCtx (h : Hart) (n : Nat) : (h.retire n).spawnCtx = h.spawnCtx := rfl
@[simp] theorem Hart.retire_ilock (h : Hart) (n : Nat) : (h.retire n).ilock = h.ilock := rfl
@[simp] theorem Hart.retire_transfers (h : Hart) (n : Nat) : (h.retire n).transfers = h.transfers := rfl
@[simp] theorem Hart.retire_mon (h : Hart) (n : Nat) : (h.retire n).mon = h.mon := rfl
@[simp] theorem Hart.retire_fence (h : Hart) (n : Nat) : (h.retire n).fence = h.fence := rfl
@[simp] theorem Hart.retire_wait (h : Hart) (n : Nat) : (h.retire n).wait = h.wait := rfl
@[simp] theorem Hart.retire_phase (h : Hart) (n : Nat) : (h.retire n).phase = h.phase := rfl
@[simp] theorem Hart.retire_convoy (h : Hart) (n : Nat) : (h.retire n).convoy = h.convoy := rfl
@[simp] theorem Hart.retire_ahead (h : Hart) (n : Nat) : (h.retire n).ahead = h.ahead := rfl
@[simp] theorem Hart.retire_chan (h : Hart) (n : Nat) : (h.retire n).chan = h.chan := rfl
@[simp] theorem Hart.retire_posted (h : Hart) (n : Nat) : (h.retire n).posted = h.posted := rfl
@[simp] theorem Hart.retire_wfail (h : Hart) (n : Nat) : (h.retire n).wfail = h.wfail := rfl
@[simp] theorem Hart.retire_xwait (h : Hart) (n : Nat) : (h.retire n).xwait = h.xwait := rfl
@[simp] theorem Hart.retire_xnone (h : Hart) (n : Nat) : (h.retire n).xnone = h.xnone := rfl
@[simp] theorem Hart.retire_reports (h : Hart) (n : Nat) : (h.retire n).reports = h.reports := rfl
@[simp] theorem Hart.retire_credit (h : Hart) (n : Nat) : (h.retire n).credit = h.credit := rfl
@[simp] theorem Hart.retire_age (h : Hart) (n : Nat) : (h.retire n).age = h.age := rfl
@[simp] theorem Hart.retire_yielded (h : Hart) (n : Nat) : (h.retire n).yielded = h.yielded := rfl
@[simp] theorem Hart.retire_relay (h : Hart) (n : Nat) : (h.retire n).relay = h.relay := rfl
@[simp] theorem Hart.retire_reclaimAt (h : Hart) (n : Nat) : (h.retire n).reclaimAt = h.reclaimAt := rfl
@[simp] theorem Hart.retire_waited (h : Hart) (n : Nat) : (h.retire n).waited = h.waited := rfl
@[simp] theorem Hart.retire_kept (h : Hart) (n : Nat) : (h.retire n).kept = h.kept := rfl

@[simp] theorem Hart.jump_st (h : Hart) (pc : Word) : (h.jump pc).st = h.st := rfl
@[simp] theorem Hart.jump_pc (h : Hart) (pc : Word) : (h.jump pc).pc = evenPc (pc.setWidth 56) := rfl
@[simp] theorem Hart.jump_x (h : Hart) (pc : Word) : (h.jump pc).x = h.x := rfl
@[simp] theorem Hart.jump_id (h : Hart) (pc : Word) : (h.jump pc).id = h.id := rfl
@[simp] theorem Hart.jump_vs (h : Hart) (pc : Word) : (h.jump pc).vs = h.vs := rfl
@[simp] theorem Hart.jump_v (h : Hart) (pc : Word) : (h.jump pc).v = h.v := rfl
@[simp] theorem Hart.jump_m (h : Hart) (pc : Word) : (h.jump pc).m = h.m := rfl
@[simp] theorem Hart.jump_stm (h : Hart) (pc : Word) : (h.jump pc).stm = h.stm := rfl
@[simp] theorem Hart.jump_blk (h : Hart) (pc : Word) : (h.jump pc).blk = h.blk := rfl
@[simp] theorem Hart.jump_blkBad (h : Hart) (pc : Word) : (h.jump pc).blkBad = h.blkBad := rfl
@[simp] theorem Hart.jump_pair (h : Hart) (pc : Word) : (h.jump pc).pair = h.pair := rfl
@[simp] theorem Hart.jump_instret (h : Hart) (pc : Word) : (h.jump pc).instret = if h.inf then h.instret else h.instret + 1 := rfl
@[simp] theorem Hart.jump_latcnt (h : Hart) (pc : Word) : (h.jump pc).latcnt = h.latcnt := rfl
@[simp] theorem Hart.jump_reads (h : Hart) (pc : Word) : (h.jump pc).reads = h.reads := rfl
@[simp] theorem Hart.jump_faulted (h : Hart) (pc : Word) : (h.jump pc).faulted = h.faulted := rfl
@[simp] theorem Hart.jump_trap (h : Hart) (pc : Word) : (h.jump pc).trap = h.trap := rfl
@[simp] theorem Hart.jump_inh (h : Hart) (pc : Word) : (h.jump pc).inh = h.inh := rfl
@[simp] theorem Hart.jump_rwarn (h : Hart) (pc : Word) : (h.jump pc).rwarn = h.rwarn := rfl
@[simp] theorem Hart.jump_fw (h : Hart) (pc : Word) : (h.jump pc).fw = h.fw := rfl
@[simp] theorem Hart.jump_inf (h : Hart) (pc : Word) : (h.jump pc).inf = h.inf := rfl
@[simp] theorem Hart.jump_ppriv (h : Hart) (pc : Word) : (h.jump pc).ppriv = h.ppriv := rfl
@[simp] theorem Hart.jump_priv (h : Hart) (pc : Word) : (h.jump pc).priv = h.priv := rfl
@[simp] theorem Hart.jump_space (h : Hart) (pc : Word) : (h.jump pc).space = h.space := rfl
@[simp] theorem Hart.jump_spawnCtx (h : Hart) (pc : Word) : (h.jump pc).spawnCtx = h.spawnCtx := rfl
@[simp] theorem Hart.jump_ilock (h : Hart) (pc : Word) : (h.jump pc).ilock = h.ilock := rfl
@[simp] theorem Hart.jump_transfers (h : Hart) (pc : Word) : (h.jump pc).transfers = h.transfers := rfl
@[simp] theorem Hart.jump_mon (h : Hart) (pc : Word) : (h.jump pc).mon = h.mon := rfl
@[simp] theorem Hart.jump_fence (h : Hart) (pc : Word) : (h.jump pc).fence = h.fence := rfl
@[simp] theorem Hart.jump_wait (h : Hart) (pc : Word) : (h.jump pc).wait = h.wait := rfl
@[simp] theorem Hart.jump_phase (h : Hart) (pc : Word) : (h.jump pc).phase = h.phase := rfl
@[simp] theorem Hart.jump_convoy (h : Hart) (pc : Word) : (h.jump pc).convoy = h.convoy := rfl
@[simp] theorem Hart.jump_ahead (h : Hart) (pc : Word) : (h.jump pc).ahead = h.ahead := rfl
@[simp] theorem Hart.jump_chan (h : Hart) (pc : Word) : (h.jump pc).chan = h.chan := rfl
@[simp] theorem Hart.jump_posted (h : Hart) (pc : Word) : (h.jump pc).posted = h.posted := rfl
@[simp] theorem Hart.jump_wfail (h : Hart) (pc : Word) : (h.jump pc).wfail = h.wfail := rfl
@[simp] theorem Hart.jump_xwait (h : Hart) (pc : Word) : (h.jump pc).xwait = h.xwait := rfl
@[simp] theorem Hart.jump_xnone (h : Hart) (pc : Word) : (h.jump pc).xnone = h.xnone := rfl
@[simp] theorem Hart.jump_reports (h : Hart) (pc : Word) : (h.jump pc).reports = h.reports := rfl
@[simp] theorem Hart.jump_credit (h : Hart) (pc : Word) : (h.jump pc).credit = h.credit := rfl
@[simp] theorem Hart.jump_age (h : Hart) (pc : Word) : (h.jump pc).age = h.age := rfl
@[simp] theorem Hart.jump_yielded (h : Hart) (pc : Word) : (h.jump pc).yielded = h.yielded := rfl
@[simp] theorem Hart.jump_relay (h : Hart) (pc : Word) : (h.jump pc).relay = h.relay := rfl
@[simp] theorem Hart.jump_reclaimAt (h : Hart) (pc : Word) : (h.jump pc).reclaimAt = h.reclaimAt := rfl
@[simp] theorem Hart.jump_waited (h : Hart) (pc : Word) : (h.jump pc).waited = h.waited := rfl
@[simp] theorem Hart.jump_kept (h : Hart) (pc : Word) : (h.jump pc).kept = h.kept := rfl

@[simp] theorem Hart.dropConvoy_st (h : Hart) : (h.dropConvoy).st = h.st := rfl
@[simp] theorem Hart.dropConvoy_pc (h : Hart) : (h.dropConvoy).pc = h.pc := rfl
@[simp] theorem Hart.dropConvoy_x (h : Hart) : (h.dropConvoy).x = h.x := rfl
@[simp] theorem Hart.dropConvoy_id (h : Hart) : (h.dropConvoy).id = h.id := rfl
@[simp] theorem Hart.dropConvoy_vs (h : Hart) : (h.dropConvoy).vs = h.vs := rfl
@[simp] theorem Hart.dropConvoy_v (h : Hart) : (h.dropConvoy).v = h.v := rfl
@[simp] theorem Hart.dropConvoy_m (h : Hart) : (h.dropConvoy).m = h.m := rfl
@[simp] theorem Hart.dropConvoy_stm (h : Hart) : (h.dropConvoy).stm = h.stm := rfl
@[simp] theorem Hart.dropConvoy_blk (h : Hart) : (h.dropConvoy).blk = h.blk := rfl
@[simp] theorem Hart.dropConvoy_blkBad (h : Hart) : (h.dropConvoy).blkBad = h.blkBad := rfl
@[simp] theorem Hart.dropConvoy_pair (h : Hart) : (h.dropConvoy).pair = h.pair := rfl
@[simp] theorem Hart.dropConvoy_instret (h : Hart) : (h.dropConvoy).instret = h.instret := rfl
@[simp] theorem Hart.dropConvoy_latcnt (h : Hart) : (h.dropConvoy).latcnt = h.latcnt := rfl
@[simp] theorem Hart.dropConvoy_reads (h : Hart) : (h.dropConvoy).reads = h.reads := rfl
@[simp] theorem Hart.dropConvoy_faulted (h : Hart) : (h.dropConvoy).faulted = h.faulted := rfl
@[simp] theorem Hart.dropConvoy_trap (h : Hart) : (h.dropConvoy).trap = h.trap := rfl
@[simp] theorem Hart.dropConvoy_inh (h : Hart) : (h.dropConvoy).inh = h.inh := rfl
@[simp] theorem Hart.dropConvoy_rwarn (h : Hart) : (h.dropConvoy).rwarn = h.rwarn := rfl
@[simp] theorem Hart.dropConvoy_fw (h : Hart) : (h.dropConvoy).fw = h.fw := rfl
@[simp] theorem Hart.dropConvoy_inf (h : Hart) : (h.dropConvoy).inf = h.inf := rfl
@[simp] theorem Hart.dropConvoy_ppriv (h : Hart) : (h.dropConvoy).ppriv = h.ppriv := rfl
@[simp] theorem Hart.dropConvoy_priv (h : Hart) : (h.dropConvoy).priv = h.priv := rfl
@[simp] theorem Hart.dropConvoy_space (h : Hart) : (h.dropConvoy).space = h.space := rfl
@[simp] theorem Hart.dropConvoy_spawnCtx (h : Hart) : (h.dropConvoy).spawnCtx = h.spawnCtx := rfl
@[simp] theorem Hart.dropConvoy_ilock (h : Hart) : (h.dropConvoy).ilock = h.ilock := rfl
@[simp] theorem Hart.dropConvoy_transfers (h : Hart) : (h.dropConvoy).transfers = h.transfers := rfl
@[simp] theorem Hart.dropConvoy_mon (h : Hart) : (h.dropConvoy).mon = h.mon := rfl
@[simp] theorem Hart.dropConvoy_fence (h : Hart) : (h.dropConvoy).fence = none := rfl
@[simp] theorem Hart.dropConvoy_wait (h : Hart) : (h.dropConvoy).wait = h.wait := rfl
@[simp] theorem Hart.dropConvoy_phase (h : Hart) : (h.dropConvoy).phase = .open := rfl
@[simp] theorem Hart.dropConvoy_convoy (h : Hart) : (h.dropConvoy).convoy = [] := rfl
@[simp] theorem Hart.dropConvoy_ahead (h : Hart) : (h.dropConvoy).ahead = none := rfl
@[simp] theorem Hart.dropConvoy_chan (h : Hart) : (h.dropConvoy).chan = h.chan := rfl
@[simp] theorem Hart.dropConvoy_posted (h : Hart) : (h.dropConvoy).posted = h.posted := rfl
@[simp] theorem Hart.dropConvoy_wfail (h : Hart) : (h.dropConvoy).wfail = h.wfail := rfl
@[simp] theorem Hart.dropConvoy_xwait (h : Hart) : (h.dropConvoy).xwait = none := rfl
@[simp] theorem Hart.dropConvoy_xnone (h : Hart) : (h.dropConvoy).xnone = none := rfl
@[simp] theorem Hart.dropConvoy_reports (h : Hart) : (h.dropConvoy).reports = h.reports := rfl
@[simp] theorem Hart.dropConvoy_credit (h : Hart) : (h.dropConvoy).credit = h.credit := rfl
@[simp] theorem Hart.dropConvoy_age (h : Hart) : (h.dropConvoy).age = h.age := rfl
@[simp] theorem Hart.dropConvoy_yielded (h : Hart) : (h.dropConvoy).yielded = h.yielded := rfl
@[simp] theorem Hart.dropConvoy_relay (h : Hart) : (h.dropConvoy).relay = h.relay := rfl
@[simp] theorem Hart.dropConvoy_reclaimAt (h : Hart) : (h.dropConvoy).reclaimAt = h.reclaimAt := rfl
@[simp] theorem Hart.dropConvoy_waited (h : Hart) : (h.dropConvoy).waited = Waited.reset := rfl
@[simp] theorem Hart.dropConvoy_kept (h : Hart) : (h.dropConvoy).kept = h.kept := rfl

@[simp] theorem Hart.setV_st (h : Hart) (k : Nat) (r : VReg) : (h.setV k r).st = h.st := rfl
@[simp] theorem Hart.setV_pc (h : Hart) (k : Nat) (r : VReg) : (h.setV k r).pc = h.pc := rfl
@[simp] theorem Hart.setV_x (h : Hart) (k : Nat) (r : VReg) : (h.setV k r).x = h.x := rfl
@[simp] theorem Hart.setV_id (h : Hart) (k : Nat) (r : VReg) : (h.setV k r).id = h.id := rfl
@[simp] theorem Hart.setV_vs (h : Hart) (k : Nat) (r : VReg) : (h.setV k r).vs = h.vs := rfl
@[simp] theorem Hart.setV_v (h : Hart) (k : Nat) (r : VReg) : (h.setV k r).v = h.v.setIfInBounds k r := rfl
@[simp] theorem Hart.setV_m (h : Hart) (k : Nat) (r : VReg) : (h.setV k r).m = h.m := rfl
@[simp] theorem Hart.setV_stm (h : Hart) (k : Nat) (r : VReg) : (h.setV k r).stm = h.stm := rfl
@[simp] theorem Hart.setV_blk (h : Hart) (k : Nat) (r : VReg) : (h.setV k r).blk = h.blk := rfl
@[simp] theorem Hart.setV_blkBad (h : Hart) (k : Nat) (r : VReg) : (h.setV k r).blkBad = h.blkBad := rfl
@[simp] theorem Hart.setV_pair (h : Hart) (k : Nat) (r : VReg) : (h.setV k r).pair = h.pair := rfl
@[simp] theorem Hart.setV_instret (h : Hart) (k : Nat) (r : VReg) : (h.setV k r).instret = h.instret := rfl
@[simp] theorem Hart.setV_latcnt (h : Hart) (k : Nat) (r : VReg) : (h.setV k r).latcnt = h.latcnt := rfl
@[simp] theorem Hart.setV_reads (h : Hart) (k : Nat) (r : VReg) : (h.setV k r).reads = h.reads := rfl
@[simp] theorem Hart.setV_faulted (h : Hart) (k : Nat) (r : VReg) : (h.setV k r).faulted = h.faulted := rfl
@[simp] theorem Hart.setV_trap (h : Hart) (k : Nat) (r : VReg) : (h.setV k r).trap = h.trap := rfl
@[simp] theorem Hart.setV_inh (h : Hart) (k : Nat) (r : VReg) : (h.setV k r).inh = h.inh := rfl
@[simp] theorem Hart.setV_rwarn (h : Hart) (k : Nat) (r : VReg) : (h.setV k r).rwarn = h.rwarn := rfl
@[simp] theorem Hart.setV_fw (h : Hart) (k : Nat) (r : VReg) : (h.setV k r).fw = h.fw := rfl
@[simp] theorem Hart.setV_inf (h : Hart) (k : Nat) (r : VReg) : (h.setV k r).inf = h.inf := rfl
@[simp] theorem Hart.setV_ppriv (h : Hart) (k : Nat) (r : VReg) : (h.setV k r).ppriv = h.ppriv := rfl
@[simp] theorem Hart.setV_priv (h : Hart) (k : Nat) (r : VReg) : (h.setV k r).priv = h.priv := rfl
@[simp] theorem Hart.setV_space (h : Hart) (k : Nat) (r : VReg) : (h.setV k r).space = h.space := rfl
@[simp] theorem Hart.setV_spawnCtx (h : Hart) (k : Nat) (r : VReg) : (h.setV k r).spawnCtx = h.spawnCtx := rfl
@[simp] theorem Hart.setV_ilock (h : Hart) (k : Nat) (r : VReg) : (h.setV k r).ilock = h.ilock := rfl
@[simp] theorem Hart.setV_transfers (h : Hart) (k : Nat) (r : VReg) : (h.setV k r).transfers = h.transfers := rfl
@[simp] theorem Hart.setV_mon (h : Hart) (k : Nat) (r : VReg) : (h.setV k r).mon = h.mon := rfl
@[simp] theorem Hart.setV_fence (h : Hart) (k : Nat) (r : VReg) : (h.setV k r).fence = h.fence := rfl
@[simp] theorem Hart.setV_wait (h : Hart) (k : Nat) (r : VReg) : (h.setV k r).wait = h.wait := rfl
@[simp] theorem Hart.setV_phase (h : Hart) (k : Nat) (r : VReg) : (h.setV k r).phase = h.phase := rfl
@[simp] theorem Hart.setV_convoy (h : Hart) (k : Nat) (r : VReg) : (h.setV k r).convoy = h.convoy := rfl
@[simp] theorem Hart.setV_ahead (h : Hart) (k : Nat) (r : VReg) : (h.setV k r).ahead = h.ahead := rfl
@[simp] theorem Hart.setV_chan (h : Hart) (k : Nat) (r : VReg) : (h.setV k r).chan = h.chan := rfl
@[simp] theorem Hart.setV_posted (h : Hart) (k : Nat) (r : VReg) : (h.setV k r).posted = h.posted := rfl
@[simp] theorem Hart.setV_wfail (h : Hart) (k : Nat) (r : VReg) : (h.setV k r).wfail = h.wfail := rfl
@[simp] theorem Hart.setV_xwait (h : Hart) (k : Nat) (r : VReg) : (h.setV k r).xwait = h.xwait := rfl
@[simp] theorem Hart.setV_xnone (h : Hart) (k : Nat) (r : VReg) : (h.setV k r).xnone = h.xnone := rfl
@[simp] theorem Hart.setV_reports (h : Hart) (k : Nat) (r : VReg) : (h.setV k r).reports = h.reports := rfl
@[simp] theorem Hart.setV_credit (h : Hart) (k : Nat) (r : VReg) : (h.setV k r).credit = h.credit := rfl
@[simp] theorem Hart.setV_age (h : Hart) (k : Nat) (r : VReg) : (h.setV k r).age = h.age := rfl
@[simp] theorem Hart.setV_yielded (h : Hart) (k : Nat) (r : VReg) : (h.setV k r).yielded = h.yielded := rfl
@[simp] theorem Hart.setV_relay (h : Hart) (k : Nat) (r : VReg) : (h.setV k r).relay = h.relay := rfl
@[simp] theorem Hart.setV_reclaimAt (h : Hart) (k : Nat) (r : VReg) : (h.setV k r).reclaimAt = h.reclaimAt := rfl
@[simp] theorem Hart.setV_waited (h : Hart) (k : Nat) (r : VReg) : (h.setV k r).waited = h.waited := rfl
@[simp] theorem Hart.setV_kept (h : Hart) (k : Nat) (r : VReg) : (h.setV k r).kept = h.kept := rfl

@[simp] theorem Hart.setM_st (h : Hart) (k : Nat) (m : Mask) : (h.setM k m).st = h.st := rfl
@[simp] theorem Hart.setM_pc (h : Hart) (k : Nat) (m : Mask) : (h.setM k m).pc = h.pc := rfl
@[simp] theorem Hart.setM_x (h : Hart) (k : Nat) (m : Mask) : (h.setM k m).x = h.x := rfl
@[simp] theorem Hart.setM_id (h : Hart) (k : Nat) (m : Mask) : (h.setM k m).id = h.id := rfl
@[simp] theorem Hart.setM_vs (h : Hart) (k : Nat) (m : Mask) : (h.setM k m).vs = h.vs := rfl
@[simp] theorem Hart.setM_v (h : Hart) (k : Nat) (m : Mask) : (h.setM k m).v = h.v := rfl
@[simp] theorem Hart.setM_m (h : Hart) (k : Nat) (m : Mask) : (h.setM k m).m = h.m.setIfInBounds k m := rfl
@[simp] theorem Hart.setM_stm (h : Hart) (k : Nat) (m : Mask) : (h.setM k m).stm = h.stm := rfl
@[simp] theorem Hart.setM_blk (h : Hart) (k : Nat) (m : Mask) : (h.setM k m).blk = h.blk := rfl
@[simp] theorem Hart.setM_blkBad (h : Hart) (k : Nat) (m : Mask) : (h.setM k m).blkBad = h.blkBad := rfl
@[simp] theorem Hart.setM_pair (h : Hart) (k : Nat) (m : Mask) : (h.setM k m).pair = h.pair := rfl
@[simp] theorem Hart.setM_instret (h : Hart) (k : Nat) (m : Mask) : (h.setM k m).instret = h.instret := rfl
@[simp] theorem Hart.setM_latcnt (h : Hart) (k : Nat) (m : Mask) : (h.setM k m).latcnt = h.latcnt := rfl
@[simp] theorem Hart.setM_reads (h : Hart) (k : Nat) (m : Mask) : (h.setM k m).reads = h.reads := rfl
@[simp] theorem Hart.setM_faulted (h : Hart) (k : Nat) (m : Mask) : (h.setM k m).faulted = h.faulted := rfl
@[simp] theorem Hart.setM_trap (h : Hart) (k : Nat) (m : Mask) : (h.setM k m).trap = h.trap := rfl
@[simp] theorem Hart.setM_inh (h : Hart) (k : Nat) (m : Mask) : (h.setM k m).inh = h.inh := rfl
@[simp] theorem Hart.setM_rwarn (h : Hart) (k : Nat) (m : Mask) : (h.setM k m).rwarn = h.rwarn := rfl
@[simp] theorem Hart.setM_fw (h : Hart) (k : Nat) (m : Mask) : (h.setM k m).fw = h.fw := rfl
@[simp] theorem Hart.setM_inf (h : Hart) (k : Nat) (m : Mask) : (h.setM k m).inf = h.inf := rfl
@[simp] theorem Hart.setM_ppriv (h : Hart) (k : Nat) (m : Mask) : (h.setM k m).ppriv = h.ppriv := rfl
@[simp] theorem Hart.setM_priv (h : Hart) (k : Nat) (m : Mask) : (h.setM k m).priv = h.priv := rfl
@[simp] theorem Hart.setM_space (h : Hart) (k : Nat) (m : Mask) : (h.setM k m).space = h.space := rfl
@[simp] theorem Hart.setM_spawnCtx (h : Hart) (k : Nat) (m : Mask) : (h.setM k m).spawnCtx = h.spawnCtx := rfl
@[simp] theorem Hart.setM_ilock (h : Hart) (k : Nat) (m : Mask) : (h.setM k m).ilock = h.ilock := rfl
@[simp] theorem Hart.setM_transfers (h : Hart) (k : Nat) (m : Mask) : (h.setM k m).transfers = h.transfers := rfl
@[simp] theorem Hart.setM_mon (h : Hart) (k : Nat) (m : Mask) : (h.setM k m).mon = h.mon := rfl
@[simp] theorem Hart.setM_fence (h : Hart) (k : Nat) (m : Mask) : (h.setM k m).fence = h.fence := rfl
@[simp] theorem Hart.setM_wait (h : Hart) (k : Nat) (m : Mask) : (h.setM k m).wait = h.wait := rfl
@[simp] theorem Hart.setM_phase (h : Hart) (k : Nat) (m : Mask) : (h.setM k m).phase = h.phase := rfl
@[simp] theorem Hart.setM_convoy (h : Hart) (k : Nat) (m : Mask) : (h.setM k m).convoy = h.convoy := rfl
@[simp] theorem Hart.setM_ahead (h : Hart) (k : Nat) (m : Mask) : (h.setM k m).ahead = h.ahead := rfl
@[simp] theorem Hart.setM_chan (h : Hart) (k : Nat) (m : Mask) : (h.setM k m).chan = h.chan := rfl
@[simp] theorem Hart.setM_posted (h : Hart) (k : Nat) (m : Mask) : (h.setM k m).posted = h.posted := rfl
@[simp] theorem Hart.setM_wfail (h : Hart) (k : Nat) (m : Mask) : (h.setM k m).wfail = h.wfail := rfl
@[simp] theorem Hart.setM_xwait (h : Hart) (k : Nat) (m : Mask) : (h.setM k m).xwait = h.xwait := rfl
@[simp] theorem Hart.setM_xnone (h : Hart) (k : Nat) (m : Mask) : (h.setM k m).xnone = h.xnone := rfl
@[simp] theorem Hart.setM_reports (h : Hart) (k : Nat) (m : Mask) : (h.setM k m).reports = h.reports := rfl
@[simp] theorem Hart.setM_credit (h : Hart) (k : Nat) (m : Mask) : (h.setM k m).credit = h.credit := rfl
@[simp] theorem Hart.setM_age (h : Hart) (k : Nat) (m : Mask) : (h.setM k m).age = h.age := rfl
@[simp] theorem Hart.setM_yielded (h : Hart) (k : Nat) (m : Mask) : (h.setM k m).yielded = h.yielded := rfl
@[simp] theorem Hart.setM_relay (h : Hart) (k : Nat) (m : Mask) : (h.setM k m).relay = h.relay := rfl
@[simp] theorem Hart.setM_reclaimAt (h : Hart) (k : Nat) (m : Mask) : (h.setM k m).reclaimAt = h.reclaimAt := rfl
@[simp] theorem Hart.setM_waited (h : Hart) (k : Nat) (m : Mask) : (h.setM k m).waited = h.waited := rfl
@[simp] theorem Hart.setM_kept (h : Hart) (k : Nat) (m : Mask) : (h.setM k m).kept = h.kept := rfl

@[simp] theorem Hart.setX_st (h : Hart) (r : Fin 32) (v : Word) : (h.setX r v).st = h.st := by unfold Hart.setX; split <;> rfl
@[simp] theorem Hart.setX_pc (h : Hart) (r : Fin 32) (v : Word) : (h.setX r v).pc = h.pc := by unfold Hart.setX; split <;> rfl
@[simp] theorem Hart.setX_id (h : Hart) (r : Fin 32) (v : Word) : (h.setX r v).id = h.id := by unfold Hart.setX; split <;> rfl
@[simp] theorem Hart.setX_vs (h : Hart) (r : Fin 32) (v : Word) : (h.setX r v).vs = h.vs := by unfold Hart.setX; split <;> rfl
@[simp] theorem Hart.setX_v (h : Hart) (r : Fin 32) (v : Word) : (h.setX r v).v = h.v := by unfold Hart.setX; split <;> rfl
@[simp] theorem Hart.setX_m (h : Hart) (r : Fin 32) (v : Word) : (h.setX r v).m = h.m := by unfold Hart.setX; split <;> rfl
@[simp] theorem Hart.setX_stm (h : Hart) (r : Fin 32) (v : Word) : (h.setX r v).stm = h.stm := by unfold Hart.setX; split <;> rfl
@[simp] theorem Hart.setX_blk (h : Hart) (r : Fin 32) (v : Word) : (h.setX r v).blk = h.blk := by unfold Hart.setX; split <;> rfl
@[simp] theorem Hart.setX_blkBad (h : Hart) (r : Fin 32) (v : Word) : (h.setX r v).blkBad = h.blkBad := by unfold Hart.setX; split <;> rfl
@[simp] theorem Hart.setX_pair (h : Hart) (r : Fin 32) (v : Word) : (h.setX r v).pair = h.pair := by unfold Hart.setX; split <;> rfl
@[simp] theorem Hart.setX_instret (h : Hart) (r : Fin 32) (v : Word) : (h.setX r v).instret = h.instret := by unfold Hart.setX; split <;> rfl
@[simp] theorem Hart.setX_latcnt (h : Hart) (r : Fin 32) (v : Word) : (h.setX r v).latcnt = h.latcnt := by unfold Hart.setX; split <;> rfl
@[simp] theorem Hart.setX_reads (h : Hart) (r : Fin 32) (v : Word) : (h.setX r v).reads = h.reads := by unfold Hart.setX; split <;> rfl
@[simp] theorem Hart.setX_faulted (h : Hart) (r : Fin 32) (v : Word) : (h.setX r v).faulted = h.faulted := by unfold Hart.setX; split <;> rfl
@[simp] theorem Hart.setX_trap (h : Hart) (r : Fin 32) (v : Word) : (h.setX r v).trap = h.trap := by unfold Hart.setX; split <;> rfl
@[simp] theorem Hart.setX_inh (h : Hart) (r : Fin 32) (v : Word) : (h.setX r v).inh = h.inh := by unfold Hart.setX; split <;> rfl
@[simp] theorem Hart.setX_rwarn (h : Hart) (r : Fin 32) (v : Word) : (h.setX r v).rwarn = h.rwarn := by unfold Hart.setX; split <;> rfl
@[simp] theorem Hart.setX_fw (h : Hart) (r : Fin 32) (v : Word) : (h.setX r v).fw = h.fw := by unfold Hart.setX; split <;> rfl
@[simp] theorem Hart.setX_inf (h : Hart) (r : Fin 32) (v : Word) : (h.setX r v).inf = h.inf := by unfold Hart.setX; split <;> rfl
@[simp] theorem Hart.setX_ppriv (h : Hart) (r : Fin 32) (v : Word) : (h.setX r v).ppriv = h.ppriv := by unfold Hart.setX; split <;> rfl
@[simp] theorem Hart.setX_priv (h : Hart) (r : Fin 32) (v : Word) : (h.setX r v).priv = h.priv := by unfold Hart.setX; split <;> rfl
@[simp] theorem Hart.setX_space (h : Hart) (r : Fin 32) (v : Word) : (h.setX r v).space = h.space := by unfold Hart.setX; split <;> rfl
@[simp] theorem Hart.setX_spawnCtx (h : Hart) (r : Fin 32) (v : Word) : (h.setX r v).spawnCtx = h.spawnCtx := by unfold Hart.setX; split <;> rfl
@[simp] theorem Hart.setX_ilock (h : Hart) (r : Fin 32) (v : Word) : (h.setX r v).ilock = h.ilock := by unfold Hart.setX; split <;> rfl
@[simp] theorem Hart.setX_transfers (h : Hart) (r : Fin 32) (v : Word) : (h.setX r v).transfers = h.transfers := by unfold Hart.setX; split <;> rfl
@[simp] theorem Hart.setX_mon (h : Hart) (r : Fin 32) (v : Word) : (h.setX r v).mon = h.mon := by unfold Hart.setX; split <;> rfl
@[simp] theorem Hart.setX_fence (h : Hart) (r : Fin 32) (v : Word) : (h.setX r v).fence = h.fence := by unfold Hart.setX; split <;> rfl
@[simp] theorem Hart.setX_wait (h : Hart) (r : Fin 32) (v : Word) : (h.setX r v).wait = h.wait := by unfold Hart.setX; split <;> rfl
@[simp] theorem Hart.setX_phase (h : Hart) (r : Fin 32) (v : Word) : (h.setX r v).phase = h.phase := by unfold Hart.setX; split <;> rfl
@[simp] theorem Hart.setX_convoy (h : Hart) (r : Fin 32) (v : Word) : (h.setX r v).convoy = h.convoy := by unfold Hart.setX; split <;> rfl
@[simp] theorem Hart.setX_ahead (h : Hart) (r : Fin 32) (v : Word) : (h.setX r v).ahead = h.ahead := by unfold Hart.setX; split <;> rfl
@[simp] theorem Hart.setX_chan (h : Hart) (r : Fin 32) (v : Word) : (h.setX r v).chan = h.chan := by unfold Hart.setX; split <;> rfl
@[simp] theorem Hart.setX_posted (h : Hart) (r : Fin 32) (v : Word) : (h.setX r v).posted = h.posted := by unfold Hart.setX; split <;> rfl
@[simp] theorem Hart.setX_wfail (h : Hart) (r : Fin 32) (v : Word) : (h.setX r v).wfail = h.wfail := by unfold Hart.setX; split <;> rfl
@[simp] theorem Hart.setX_xwait (h : Hart) (r : Fin 32) (v : Word) : (h.setX r v).xwait = h.xwait := by unfold Hart.setX; split <;> rfl
@[simp] theorem Hart.setX_xnone (h : Hart) (r : Fin 32) (v : Word) : (h.setX r v).xnone = h.xnone := by unfold Hart.setX; split <;> rfl
@[simp] theorem Hart.setX_reports (h : Hart) (r : Fin 32) (v : Word) : (h.setX r v).reports = h.reports := by unfold Hart.setX; split <;> rfl
@[simp] theorem Hart.setX_credit (h : Hart) (r : Fin 32) (v : Word) : (h.setX r v).credit = h.credit := by unfold Hart.setX; split <;> rfl
@[simp] theorem Hart.setX_age (h : Hart) (r : Fin 32) (v : Word) : (h.setX r v).age = h.age := by unfold Hart.setX; split <;> rfl
@[simp] theorem Hart.setX_yielded (h : Hart) (r : Fin 32) (v : Word) : (h.setX r v).yielded = h.yielded := by unfold Hart.setX; split <;> rfl
@[simp] theorem Hart.setX_relay (h : Hart) (r : Fin 32) (v : Word) : (h.setX r v).relay = h.relay := by unfold Hart.setX; split <;> rfl
@[simp] theorem Hart.setX_reclaimAt (h : Hart) (r : Fin 32) (v : Word) : (h.setX r v).reclaimAt = h.reclaimAt := by unfold Hart.setX; split <;> rfl
@[simp] theorem Hart.setX_waited (h : Hart) (r : Fin 32) (v : Word) : (h.setX r v).waited = h.waited := by unfold Hart.setX; split <;> rfl
@[simp] theorem Hart.setX_kept (h : Hart) (r : Fin 32) (v : Word) : (h.setX r v).kept = h.kept := by unfold Hart.setX; split <;> rfl

end Sys2Proof.Machine
end

