-- ==== Sys2Proof/Laws/Access.lean ====
section
/-! SUPPORT. What the shared access operations can do, said once: an access has its value, or takes its trap, or waits (R47, R455); a load
or a store of the current hart (R187, R188). A proof about an instruction cites these and does not unfold the access. -/

namespace Sys2Proof.Machine

/-- An access goes on with its value, takes its trap, asks for a translation and waits, or waits. -/
theorem State.onReply_cases {α : Type} (s : State) (r : Reply α) (k : α → State) :
    (∃ a, r = .ok a ∧ s.onReply r k = k a) ∨ (∃ e, r = .trap e ∧ s.onReply r k = s.trapHere e)
      ∨ (∃ va acc, r = .miss va acc ∧ s.onReply r k = s.missed va acc) ∨ (r = .wait ∧ s.onReply r k = s.stall) := by
  cases r with
  | ok a => exact .inl ⟨a, rfl, rfl⟩
  | trap e => exact .inr (.inl ⟨e, rfl, rfl⟩)
  | miss va acc => exact .inr (.inr (.inl ⟨va, acc, rfl, rfl⟩))
  | wait => exact .inr (.inr (.inr ⟨rfl, rfl⟩))

@[simp] theorem State.onReply_ok {α : Type} (s : State) (a : α) (k : α → State) : s.onReply (.ok a) k = k a := rfl
@[simp] theorem State.onReply_trap {α : Type} (s : State) (e : Exc) (k : α → State) : s.onReply (.trap e) k = s.trapHere e := rfl
@[simp] theorem State.onReply_miss {α : Type} (s : State) (va : Nat) (acc : Acc) (k : α → State) :
    s.onReply (.miss va acc) k = s.missed va acc := rfl
@[simp] theorem State.onReply_wait {α : Type} (s : State) (k : α → State) : s.onReply .wait k = s.stall := rfl

/-- A scalar load whose bytes are read goes on with them. -/
theorem State.loading_ok {s : State} {d : Fin 32} {va : Word} {n : Nat} {bs : List Byte} (h : s.scalarRead va n .read = .ok bs)
    (k : State → List Byte → State) : s.loading d va n k = k (s.returns d va n) bs := by
  unfold State.loading; rw [h]

/-- A load whose bytes are read writes them, extended, to xd, and goes on. -/
theorem State.load_ok {s : State} {size n : Nat} {d : Fin 32} {va : Word} {signed : Bool} {bs : List Byte}
    (h : s.scalarRead va n .read = .ok bs) :
    s.load size d va n signed
      = (s.returns d va n).write size d (if signed then BitVec.ofInt 64 (sext (leNat bs) (8 * n)) else BitVec.ofNat 64 (leNat bs)) :=
  State.loading_ok h _

/-- A store whose write is accepted performs it and goes on. -/
theorem State.store_ok {s t : State} {size n : Nat} {b : Fin 32} {va : Word}
    (h : s.scalarWrite va (leBytes n (s.getX b).toNat) none false = .ok t) : s.store size b va n = t.retire size := by
  simp [State.store, h]

/-- The pieces of a read are read one after another; the first that has no value ends it. -/
theorem State.readPieces_ok {s : State} {i : HartId} {va : Nat} {acc : Acc} {p : Target × Nat} {ps : List (Target × Nat)} {l : List Byte}
    (h : s.readPieces i va acc (p :: ps) = .ok l) :
    ∃ bs bs', s.readPiece i va acc p = .ok bs ∧ s.readPieces i (va + p.2) acc ps = .ok bs' ∧ l = bs ++ bs' := by
  unfold State.readPieces at h
  split at h
  · next bs hb =>
    split at h
    · next bs' hb' =>
      injection h with h
      exact ⟨bs, bs', hb, hb', h.symm⟩
    · next r hne => exact absurd h (hne l)
  · next r hne => exact absurd h (hne l)

/-- An empty journal is not full (R440). -/
@[simp] theorem State.journalFull_empty {s : State} (h : s.journal = []) (d : Fin 8) : s.journalFull d = false := by
  simp [State.journalFull, h]

/-- A write is made now, or it waits for an earlier write of the hart or for a full journal (R125, R440). -/
theorem State.writable_cases {α : Type} (s : State) (i : HartId) (ps : List (Target × Nat)) (r : Reply α) :
    s.writable i ps r = r ∨ (s.writable i ps r = .wait ∧ (ps.any (s.awaits i) = true ∨ s.journalFull i.die = true)) := by
  unfold State.writable
  split
  · next h =>
    refine .inr ⟨rfl, ?_⟩
    simp only [Bool.or_eq_true, Bool.and_eq_true] at h
    exact h.imp id (·.1)
  · exact .inl rfl

/-- A hart with no write to perform waits for none (R125). -/
theorem State.awaits_none {s : State} {i : HartId} (h : (s.hart i).posted = []) (p : Target × Nat) : s.awaits i p = false := by
  unfold State.awaits
  split <;> simp [Hart.postedOver, h]

/-- With an empty journal and no write of the hart to perform, a write is made now (R125, R440). -/
theorem State.writable_now {α : Type} {s : State} {i : HartId} (hp : (s.hart i).posted = []) (hj : s.journal = [])
    (ps : List (Target × Nat)) (r : Reply α) : s.writable i ps r = r := by
  simp [State.writable, State.awaits_none hp, hj]

/-- An access to memory of this module other than a POOL does not go into the journal (R440). -/
theorem State.journals_here (s : State) (i : HartId) (loc : Nat) {ty : MemTy} (h : ty ≠ .pool) : s.journals i (.mem loc ty) = false := by
  cases ty <;> simp_all [State.journals]

end Sys2Proof.Machine
end

