-- ==== Sys2Proof/Laws/FjIns.lean ====
section
/-! SUPPORT. The words of the on-device loader's instructions are those of the encoder. -/

namespace Sys2Proof.Machine.Fj.Ins

theorem add_word (d a b : Fin 32) : (Ins.add d a b).word = encode (.add d a b) := rfl
theorem sub_word (d a b : Fin 32) : (Ins.sub d a b).word = encode (.sub d a b) := rfl
theorem sll_word (d a b : Fin 32) : (Ins.sll d a b).word = encode (.sll d a b) := rfl
theorem and_word (d a b : Fin 32) : (Ins.and d a b).word = encode (.and d a b) := rfl
theorem mul_word (d a b : Fin 32) : (Ins.mul d a b).word = encode (.mul d a b) := rfl
theorem remu_word (d a b : Fin 32) : (Ins.remu d a b).word = encode (.remu d a b) := rfl
theorem min_word (d a b : Fin 32) : (Ins.min d a b).word = encode (.min d a b) := rfl
theorem max_word (d a b : Fin 32) : (Ins.max d a b).word = encode (.max d a b) := rfl
theorem minu_word (d a b : Fin 32) : (Ins.minu d a b).word = encode (.minu d a b) := rfl
theorem maxu_word (d a b : Fin 32) : (Ins.maxu d a b).word = encode (.maxu d a b) := rfl
theorem clz_word (d a : Fin 32) : (Ins.clz d a).word = encode (.clz d a) := rfl
theorem addi_word (d a : Fin 32) (i : BitVec 11) : (Ins.addi d a i).word = encode (.addi d a i) := rfl
theorem slli_word (d a : Fin 32) (sh : BitVec 6) : (Ins.slli d a sh).word = encode (.slli d a sh) := rfl
theorem srli_word (d a : Fin 32) (sh : BitVec 6) : (Ins.srli d a sh).word = encode (.srli d a sh) := rfl
theorem srai_word (d a : Fin 32) (sh : BitVec 6) : (Ins.srai d a sh).word = encode (.srai d a sh) := rfl
theorem ori_word (d a : Fin 32) (i : BitVec 11) : (Ins.ori d a i).word = encode (.ori d a i) := rfl
theorem auipc_word (d : Fin 32) (i : BitVec 19) : (Ins.auipc d i).word = encode (.auipc d i) := rfl
theorem jal_word (d : Fin 32) (i : BitVec 19) : (Ins.jal d i).word = encode (.jal d i) := rfl
theorem jalr_word (d a : Fin 32) (i : BitVec 11) : (Ins.jalr d a i).word = encode (.jalr d a i) := rfl
theorem beq_word (a b : Fin 32) (i : BitVec 12) : (Ins.beq a b i).word = encode (.beq a b i) := rfl
theorem bne_word (a b : Fin 32) (i : BitVec 12) : (Ins.bne a b i).word = encode (.bne a b i) := rfl
theorem bgeu_word (a b : Fin 32) (i : BitVec 12) : (Ins.bgeu a b i).word = encode (.bgeu a b i) := rfl
theorem ld_word (d a : Fin 32) (i : BitVec 11) : (Ins.ld d a i).word = encode (.ld d a i) := rfl
theorem lwu_word (d a : Fin 32) (i : BitVec 11) : (Ins.lwu d a i).word = encode (.lwu d a i) := rfl
theorem sb_word (a b : Fin 32) (i : BitVec 11) : (Ins.sb a b i).word = encode (.sb a b i) := rfl
theorem sh_word (a b : Fin 32) (i : BitVec 11) : (Ins.sh a b i).word = encode (.sh a b i) := rfl
theorem sw_word (a b : Fin 32) (i : BitVec 11) : (Ins.sw a b i).word = encode (.sw a b i) := rfl
theorem sd_word (a b : Fin 32) (i : BitVec 11) : (Ins.sd a b i).word = encode (.sd a b i) := rfl
theorem fadd_word (d a b : Fin 32) (fmt : BitVec 2) (rm : BitVec 3) : (Ins.fadd d a b fmt rm).word = encode (.fadd d a b fmt rm) := rfl
theorem fmax_word (d a b : Fin 32) (fmt : BitVec 2) : (Ins.fmax d a b fmt).word = encode (.fmax d a b fmt) := rfl
theorem fence_word (sc : BitVec 3) (ord : BitVec 2) : (Ins.fence sc ord).word = encode (.fence sc ord) := rfl
theorem mfs_word (d : Fin 32) (n : BitVec 12) : (Ins.mfs d n).word = encode (.mfs d n) := rfl
theorem stop_word : (Ins.stop).word = encode (.stop) := rfl
theorem vsetvl_word (d a b : Fin 32) : (Ins.vsetvl d a b).word = encode (.vsetvl d a b) := rfl
theorem vmvVX_word (k m : Bool) (d : Fin 64) (b : Fin 32) : (Ins.vmvVX k m d b).word = encode (.vmvVX k m d b) := rfl
theorem vmvVI_word (k m : Bool) (d : Fin 64) (i : BitVec 6) : (Ins.vmvVI k m d i).word = encode (.vmvVI k m d i) := rfl
theorem vid_word (k m : Bool) (d : Fin 64) : (Ins.vid k m d).word = encode (.vid k m d) := rfl
theorem vmvVV_word (k m : Bool) (d a : Fin 64) : (Ins.vmvVV k m d a).word = encode (.vmvVV k m d a) := rfl
theorem vmvXE_word (k : Bool) (d : Fin 32) (a : Fin 64) (b : Fin 32) : (Ins.vmvXE k d a b).word = encode (.vmvXE k d a b) := rfl
theorem vmergeVvm_word (k : Bool) (d a b : Fin 64) : (Ins.vmergeVvm k d a b).word = encode (.vmergeVvm k d a b) := rfl
theorem vmergeVim_word (k : Bool) (d a : Fin 64) (i : BitVec 6) : (Ins.vmergeVim k d a i).word = encode (.vmergeVim k d a i) := rfl
theorem vmor_word (k : Bool) (d a b : Fin 8) : (Ins.vmor k d a b).word = encode (.vmor k d a b) := rfl
theorem vmcpop_word (k : Bool) (d : Fin 32) (a : Fin 8) : (Ins.vmcpop k d a).word = encode (.vmcpop k d a) := rfl
theorem vscfgr_word (k : Bool) (a c : Fin 32) (st : Fin 16) : (Ins.vscfgr k a c st).word = encode (.vscfgr k a c st) := rfl
theorem vld_word (k m : Bool) (d : Fin 64) (st : Fin 16) : (Ins.vld k m d st).word = encode (.vld k m d st) := rfl
theorem vstO_word (k m : Bool) (a : Fin 64) (st : Fin 16) : (Ins.vstO k m a st).word = encode (.vstO k m a st) := rfl
theorem vlx_word (k m : Bool) (d a : Fin 64) (b : Fin 32) : (Ins.vlx k m d a b).word = encode (.vlx k m d a b) := rfl
theorem vsxO_word (k m : Bool) (d a : Fin 64) (b : Fin 32) : (Ins.vsxO k m d a b).word = encode (.vsxO k m d a b) := rfl
theorem vsxU_word (k m : Bool) (d a : Fin 64) (b : Fin 32) : (Ins.vsxU k m d a b).word = encode (.vsxU k m d a b) := rfl
theorem vaddVv_word (k m : Bool) (d a b : Fin 64) : (Ins.vaddVv k m d a b).word = encode (.vaddVv k m d a b) := rfl
theorem vaddVx_word (k m : Bool) (d a : Fin 64) (b : Fin 32) : (Ins.vaddVx k m d a b).word = encode (.vaddVx k m d a b) := rfl
theorem vsubVv_word (k m : Bool) (d a b : Fin 64) : (Ins.vsubVv k m d a b).word = encode (.vsubVv k m d a b) := rfl
theorem vandVv_word (k m : Bool) (d a b : Fin 64) : (Ins.vandVv k m d a b).word = encode (.vandVv k m d a b) := rfl
theorem vorVv_word (k m : Bool) (d a b : Fin 64) : (Ins.vorVv k m d a b).word = encode (.vorVv k m d a b) := rfl
theorem vxorVv_word (k m : Bool) (d a b : Fin 64) : (Ins.vxorVv k m d a b).word = encode (.vxorVv k m d a b) := rfl
theorem vsllVv_word (k m : Bool) (d a b : Fin 64) : (Ins.vsllVv k m d a b).word = encode (.vsllVv k m d a b) := rfl
theorem vsrlVv_word (k m : Bool) (d a b : Fin 64) : (Ins.vsrlVv k m d a b).word = encode (.vsrlVv k m d a b) := rfl
theorem vsraVv_word (k m : Bool) (d a b : Fin 64) : (Ins.vsraVv k m d a b).word = encode (.vsraVv k m d a b) := rfl
theorem vmulVv_word (k m : Bool) (d a b : Fin 64) : (Ins.vmulVv k m d a b).word = encode (.vmulVv k m d a b) := rfl
theorem vmulhVv_word (k m : Bool) (d a b : Fin 64) : (Ins.vmulhVv k m d a b).word = encode (.vmulhVv k m d a b) := rfl
theorem vmulhuVv_word (k m : Bool) (d a b : Fin 64) : (Ins.vmulhuVv k m d a b).word = encode (.vmulhuVv k m d a b) := rfl
theorem vminVv_word (k m : Bool) (d a b : Fin 64) : (Ins.vminVv k m d a b).word = encode (.vminVv k m d a b) := rfl
theorem vmaxVv_word (k m : Bool) (d a b : Fin 64) : (Ins.vmaxVv k m d a b).word = encode (.vmaxVv k m d a b) := rfl
theorem vminuVv_word (k m : Bool) (d a b : Fin 64) : (Ins.vminuVv k m d a b).word = encode (.vminuVv k m d a b) := rfl
theorem vminuVi_word (k m : Bool) (d a : Fin 64) (i : BitVec 6) : (Ins.vminuVi k m d a i).word = encode (.vminuVi k m d a i) := rfl
theorem vmaxuVv_word (k m : Bool) (d a b : Fin 64) : (Ins.vmaxuVv k m d a b).word = encode (.vmaxuVv k m d a b) := rfl
theorem vsaddVv_word (k m : Bool) (d a b : Fin 64) : (Ins.vsaddVv k m d a b).word = encode (.vsaddVv k m d a b) := rfl
theorem vsadduVv_word (k m : Bool) (d a b : Fin 64) : (Ins.vsadduVv k m d a b).word = encode (.vsadduVv k m d a b) := rfl
theorem vssubVv_word (k m : Bool) (d a b : Fin 64) : (Ins.vssubVv k m d a b).word = encode (.vssubVv k m d a b) := rfl
theorem vssubuVv_word (k m : Bool) (d a b : Fin 64) : (Ins.vssubuVv k m d a b).word = encode (.vssubuVv k m d a b) := rfl
theorem vwaddVx_word (k m : Bool) (d a : Fin 64) (b : Fin 32) : (Ins.vwaddVx k m d a b).word = encode (.vwaddVx k m d a b) := rfl
theorem vwadduVx_word (k m : Bool) (d a : Fin 64) (b : Fin 32) : (Ins.vwadduVx k m d a b).word = encode (.vwadduVx k m d a b) := rfl
theorem vnclipVi_word (k m : Bool) (d a : Fin 64) (i : BitVec 6) : (Ins.vnclipVi k m d a i).word = encode (.vnclipVi k m d a i) := rfl
theorem vnclipuVi_word (k m : Bool) (d a : Fin 64) (i : BitVec 6) : (Ins.vnclipuVi k m d a i).word = encode (.vnclipuVi k m d a i) := rfl
theorem vfaddVv_word (k m : Bool) (d a b : Fin 64) : (Ins.vfaddVv k m d a b).word = encode (.vfaddVv k m d a b) := rfl
theorem vfsubVv_word (k m : Bool) (d a b : Fin 64) : (Ins.vfsubVv k m d a b).word = encode (.vfsubVv k m d a b) := rfl
theorem vfmulVv_word (k m : Bool) (d a b : Fin 64) : (Ins.vfmulVv k m d a b).word = encode (.vfmulVv k m d a b) := rfl
theorem vfdivVv_word (k m : Bool) (d a b : Fin 64) : (Ins.vfdivVv k m d a b).word = encode (.vfdivVv k m d a b) := rfl
theorem vfsqrt_word (k m : Bool) (d a : Fin 64) : (Ins.vfsqrt k m d a).word = encode (.vfsqrt k m d a) := rfl
theorem vfminVv_word (k m : Bool) (d a b : Fin 64) : (Ins.vfminVv k m d a b).word = encode (.vfminVv k m d a b) := rfl
theorem vfmaxVv_word (k m : Bool) (d a b : Fin 64) : (Ins.vfmaxVv k m d a b).word = encode (.vfmaxVv k m d a b) := rfl
theorem vfmaccVv_word (k m : Bool) (d a b : Fin 64) : (Ins.vfmaccVv k m d a b).word = encode (.vfmaccVv k m d a b) := rfl
theorem vfcvtFX_word (k m : Bool) (d a : Fin 64) : (Ins.vfcvtFX k m d a).word = encode (.vfcvtFX k m d a) := rfl
theorem vfcvtFXu_word (k m : Bool) (d a : Fin 64) : (Ins.vfcvtFXu k m d a).word = encode (.vfcvtFXu k m d a) := rfl
theorem vfcvtXF_word (k m : Bool) (d a : Fin 64) : (Ins.vfcvtXF k m d a).word = encode (.vfcvtXF k m d a) := rfl
theorem vfcvtXuF_word (k m : Bool) (d a : Fin 64) : (Ins.vfcvtXuF k m d a).word = encode (.vfcvtXuF k m d a) := rfl
theorem vfcvtFF_word (k m : Bool) (d a : Fin 64) (i : BitVec 3) : (Ins.vfcvtFF k m d a i).word = encode (.vfcvtFF k m d a i) := rfl
theorem vfexp_word (k m : Bool) (d a : Fin 64) : (Ins.vfexp k m d a).word = encode (.vfexp k m d a) := rfl
theorem vfrec_word (k m : Bool) (d a : Fin 64) : (Ins.vfrec k m d a).word = encode (.vfrec k m d a) := rfl
theorem vmseqVv_word (k m : Bool) (d : Fin 8) (a b : Fin 64) : (Ins.vmseqVv k m d a b).word = encode (.vmseqVv k m d a b) := rfl
theorem vmsneVv_word (k m : Bool) (d : Fin 8) (a b : Fin 64) : (Ins.vmsneVv k m d a b).word = encode (.vmsneVv k m d a b) := rfl
theorem vmsneVi_word (k m : Bool) (d : Fin 8) (a : Fin 64) (i : BitVec 6) : (Ins.vmsneVi k m d a i).word = encode (.vmsneVi k m d a i) := rfl
theorem vmsltVv_word (k m : Bool) (d : Fin 8) (a b : Fin 64) : (Ins.vmsltVv k m d a b).word = encode (.vmsltVv k m d a b) := rfl
theorem vmsleVv_word (k m : Bool) (d : Fin 8) (a b : Fin 64) : (Ins.vmsleVv k m d a b).word = encode (.vmsleVv k m d a b) := rfl
theorem vmsltuVv_word (k m : Bool) (d : Fin 8) (a b : Fin 64) : (Ins.vmsltuVv k m d a b).word = encode (.vmsltuVv k m d a b) := rfl
theorem vmsleuVv_word (k m : Bool) (d : Fin 8) (a b : Fin 64) : (Ins.vmsleuVv k m d a b).word = encode (.vmsleuVv k m d a b) := rfl
theorem vmfeqVv_word (k m : Bool) (d : Fin 8) (a b : Fin 64) : (Ins.vmfeqVv k m d a b).word = encode (.vmfeqVv k m d a b) := rfl
theorem vmfltVv_word (k m : Bool) (d : Fin 8) (a b : Fin 64) : (Ins.vmfltVv k m d a b).word = encode (.vmfltVv k m d a b) := rfl
theorem vmfleVv_word (k m : Bool) (d : Fin 8) (a b : Fin 64) : (Ins.vmfleVv k m d a b).word = encode (.vmfleVv k m d a b) := rfl
theorem vredsum_word (k m : Bool) (d a : Fin 64) : (Ins.vredsum k m d a).word = encode (.vredsum k m d a) := rfl
theorem vredmax_word (k m : Bool) (d a : Fin 64) : (Ins.vredmax k m d a).word = encode (.vredmax k m d a) := rfl
theorem vredmin_word (k m : Bool) (d a : Fin 64) : (Ins.vredmin k m d a).word = encode (.vredmin k m d a) := rfl
theorem vredmaxu_word (k m : Bool) (d a : Fin 64) : (Ins.vredmaxu k m d a).word = encode (.vredmaxu k m d a) := rfl
theorem vredminu_word (k m : Bool) (d a : Fin 64) : (Ins.vredminu k m d a).word = encode (.vredminu k m d a) := rfl
theorem vfredsum_word (k m : Bool) (d a : Fin 64) : (Ins.vfredsum k m d a).word = encode (.vfredsum k m d a) := rfl
theorem vfredmax_word (k m : Bool) (d a : Fin 64) : (Ins.vfredmax k m d a).word = encode (.vfredmax k m d a) := rfl

end Sys2Proof.Machine.Fj.Ins
end

