-- ==== Sys2Proof/Laws/Maps.lean ====
section
/-! SUPPORT. The laws of finite maps: what is written for a key is what is read, other keys are left alone, and every
operation keeps the keys rising and the form canonical. -/

namespace Sys2Proof.Machine

variable {α : Type}

theorem Map.risesFrom_mono {lo lo' : Nat} (hl : lo' ≤ lo) : ∀ {m : Map α}, Map.risesFrom lo m → Map.risesFrom lo' m
  | [], _ => trivial
  | (_, _) :: _, h => ⟨Nat.le_trans hl h.1, h.2⟩

/-- A map whose keys are all above `i` lists nothing for `i`. -/
theorem Map.get_below (d : α) {i : Nat} : ∀ {m : Map α} {lo : Nat}, Map.risesFrom lo m → i < lo → Map.get d m i = d
  | [], _, _, _ => rfl
  | (k, a) :: t, lo, h, hi => by
    have : i < k := Nat.lt_of_lt_of_le hi h.1
    simp [Map.get, Nat.ne_of_lt this, this]

variable [DecidableEq α]

theorem Map.set_risesFrom (d : α) {i : Nat} {a : α} : ∀ {m : Map α} {lo : Nat},
    Map.risesFrom lo m → lo ≤ i → Map.risesFrom lo (Map.set d m i a)
  | [], lo, _, hi => by
    unfold Map.set; split
    · trivial
    · exact ⟨hi, trivial⟩
  | (k, b) :: t, lo, h, hi => by
    unfold Map.set
    split
    · rename_i hik
      split
      · exact h
      · exact ⟨hi, hik, h.2⟩
    · split
      · rename_i hne heq
        subst heq
        split
        · exact Map.risesFrom_mono (by omega) h.2
        · exact ⟨hi, h.2⟩
      · exact ⟨h.1, Map.set_risesFrom d h.2 (by omega)⟩

theorem Map.set_rises (d : α) {i : Nat} {a : α} {m : Map α} (h : Map.rises m) : Map.rises (Map.set d m i a) :=
  Map.set_risesFrom d h (Nat.zero_le i)

theorem Map.get_set_same_from (d : α) {i : Nat} {a : α} : ∀ {m : Map α} {lo : Nat},
    Map.risesFrom lo m → Map.get d (Map.set d m i a) i = a
  | [], _, _ => by
    unfold Map.set; split
    · rename_i h; simp [Map.get, h]
    · simp [Map.get]
  | (k, b) :: t, lo, h => by
    unfold Map.set
    split
    · rename_i hik
      split
      · rename_i ha; simp [Map.get, Nat.ne_of_lt hik, hik, ha]
      · simp [Map.get]
    · split
      · rename_i heq
        subst heq
        split
        · rename_i ha; rw [ha]; exact Map.get_below d h.2 (by omega)
        · simp [Map.get]
      · rename_i h1 h2
        simp only [Map.get, h2, h1, if_false]
        exact Map.get_set_same_from d h.2

/-- What is written for a key is what is read for it. -/
theorem Map.get_set_same (d : α) {i : Nat} {a : α} {m : Map α} (h : Map.rises m) : Map.get d (Map.set d m i a) i = a :=
  Map.get_set_same_from d h

theorem Map.get_set_other_from (d e : α) {i j : Nat} {a : α} (hij : j ≠ i) : ∀ {m : Map α} {lo : Nat},
    Map.risesFrom lo m → Map.get e (Map.set d m i a) j = Map.get e m j
  | [], _, _ => by
    unfold Map.set; split
    · rfl
    · simp [Map.get, hij]
  | (k, b) :: t, lo, h => by
    unfold Map.set
    split
    · rename_i hik
      split
      · rfl
      · simp only [Map.get, hij, if_false]
        by_cases hj : j < i
        · simp [hj, show j ≠ k by omega, show j < k by omega]
        · simp [hj]
    · split
      · rename_i heq
        subst heq
        split
        · simp only [Map.get, hij, if_false]
          split
          · exact Map.get_below e h.2 (by omega)
          · rfl
        · simp [Map.get, hij]
      · simp only [Map.get, Map.get_set_other_from d e hij h.2]

/-- A write for one key leaves every other key alone, whatever each key's default is. -/
theorem Map.get_set_apart (d e : α) {i j : Nat} {a : α} {m : Map α} (h : Map.rises m) (hij : j ≠ i) :
    Map.get e (Map.set d m i a) j = Map.get e m j := Map.get_set_other_from d e hij h

/-- A write for one key leaves every other key alone. -/
theorem Map.get_set_other (d : α) {i j : Nat} {a : α} {m : Map α} (h : Map.rises m) (hij : j ≠ i) :
    Map.get d (Map.set d m i a) j = Map.get d m j := Map.get_set_apart d d h hij

theorem Map.wfFrom_mono (d : Nat → α) {lo lo' : Nat} (hl : lo' ≤ lo) : ∀ {m : Map α}, Map.wfFrom d lo m = true → Map.wfFrom d lo' m = true
  | [], _ => rfl
  | (_, _) :: _, h => by
    simp only [Map.wfFrom, Bool.and_eq_true, decide_eq_true_eq] at h ⊢
    exact ⟨⟨Nat.le_trans hl h.1.1, h.1.2⟩, h.2⟩

theorem Map.wfFrom_rises (d : Nat → α) : ∀ {m : Map α} {lo : Nat}, Map.wfFrom d lo m = true → Map.risesFrom lo m
  | [], _, _ => trivial
  | (_, _) :: _, _, h => by
    simp only [Map.wfFrom, Bool.and_eq_true, decide_eq_true_eq] at h
    exact ⟨h.1.1, Map.wfFrom_rises d h.2⟩

/-- A canonical map lists each key once. -/
theorem Map.wf_rises (d : Nat → α) {m : Map α} (h : Map.wf d m = true) : Map.rises m := Map.wfFrom_rises d h

theorem Map.set_wfFrom (d : Nat → α) {i : Nat} {a : α} : ∀ {m : Map α} {lo : Nat},
    Map.wfFrom d lo m = true → lo ≤ i → Map.wfFrom d lo (Map.set (d i) m i a) = true
  | [], lo, _, hi => by
    unfold Map.set; split
    · rfl
    · rename_i h; simp [Map.wfFrom, hi, h]
  | (k, b) :: t, lo, h, hi => by
    have h' := h
    simp only [Map.wfFrom, Bool.and_eq_true, decide_eq_true_eq] at h'
    unfold Map.set
    split
    · rename_i hik
      split
      · exact h
      · rename_i ha
        simp only [Map.wfFrom, Bool.and_eq_true, decide_eq_true_eq]
        exact ⟨⟨hi, ha⟩, ⟨hik, h'.1.2⟩, h'.2⟩
    · split
      · rename_i heq
        subst heq
        split
        · exact Map.wfFrom_mono d (by omega) h'.2
        · rename_i ha
          simp only [Map.wfFrom, Bool.and_eq_true, decide_eq_true_eq]
          exact ⟨⟨hi, ha⟩, h'.2⟩
      · simp only [Map.wfFrom, Bool.and_eq_true, decide_eq_true_eq]
        exact ⟨h'.1, Map.set_wfFrom d h'.2 (by omega)⟩

/-- A write keeps the canonical form. -/
theorem Map.set_wf (d : Nat → α) {i : Nat} {a : α} {m : Map α} (h : Map.wf d m = true) : Map.wf d (Map.set (d i) m i a) = true :=
  Map.set_wfFrom d h (Nat.zero_le i)

theorem Map.filter_wfFrom (d : Nat → α) (p : Nat × α → Bool) : ∀ {m : Map α} {lo : Nat},
    Map.wfFrom d lo m = true → Map.wfFrom d lo (m.filter p) = true
  | [], _, _ => rfl
  | (k, b) :: t, lo, h => by
    simp only [Map.wfFrom, Bool.and_eq_true, decide_eq_true_eq] at h
    rw [List.filter_cons]
    split
    · simp only [Map.wfFrom, Bool.and_eq_true, decide_eq_true_eq]
      exact ⟨h.1, Map.filter_wfFrom d p h.2⟩
    · exact Map.wfFrom_mono d (by omega) (Map.filter_wfFrom d p h.2)

/-- Leaving entries out keeps the canonical form. -/
theorem Map.filter_wf (d : Nat → α) (p : Nat × α → Bool) {m : Map α} (h : Map.wf d m = true) : Map.wf d (m.filter p) = true :=
  Map.filter_wfFrom d p h

omit [DecidableEq α] in
theorem Map.map_risesFrom {β : Type} (f : Nat × α → β) : ∀ {m : Map α} {lo : Nat},
    Map.risesFrom lo m → Map.risesFrom lo (m.map fun p => (p.1, f p))
  | [], _, _ => trivial
  | (_, _) :: _, _, h => ⟨h.1, Map.map_risesFrom f h.2⟩

omit [DecidableEq α] in
theorem Map.filter_risesFrom (p : Nat × α → Bool) : ∀ {m : Map α} {lo : Nat}, Map.risesFrom lo m → Map.risesFrom lo (m.filter p)
  | [], _, _ => trivial
  | (k, b) :: t, lo, h => by
    rw [List.filter_cons]
    split
    · exact ⟨h.1, Map.filter_risesFrom p h.2⟩
    · exact Map.risesFrom_mono (by have := h.1; omega) (Map.filter_risesFrom p h.2)

/-- The hart just written is the hart read, and every other hart is left alone. -/
theorem State.hart_setHart_same {s : State} (hm : Map.rises s.harts) (i : HartId) (h : Hart) : (s.setHart i h).hart i = h :=
  Map.get_set_same _ hm
theorem State.hart_setHart_other {s : State} (hm : Map.rises s.harts) {i j : HartId} (h : Hart) (hij : hartKey j ≠ hartKey i) :
    (s.setHart i h).hart j = s.hart j := Map.get_set_other _ hm hij
theorem State.h_setH {s : State} (hm : Map.rises s.harts) (h : Hart) : (s.setH h).h = h := Map.get_set_same _ hm

/-- Hart numbers tell harts apart. -/
theorem hartKey_inj {i j : HartId} (h : hartKey i = hartKey j) : i = j := by
  obtain ⟨⟨d, hd⟩, ⟨c, hc⟩, ⟨l, hl⟩⟩ := i
  obtain ⟨⟨d', hd'⟩, ⟨c', hc'⟩, ⟨l', hl'⟩⟩ := j
  simp only [hartKey] at h
  have h1 : d = d' := by omega
  have h2 : c = c' := by omega
  have h3 : l = l' := by omega
  subst h1; subst h2; subst h3; rfl

end Sys2Proof.Machine
end

