-- ==== Sys2Proof/Laws/Memory.lean ====
section
/-! SUPPORT. The laws of memory: every memory operation keeps the canonical form, a byte written is the byte read, and bytes not
written stay. -/

namespace Sys2Proof.Machine

theorem Memory.set_rises {m : List Host.Cell} {loc : Nat} {b : Byte} (h : Map.rises m) : Map.rises (Memory.set m loc b) :=
  Map.set_rises _ h

theorem pokeBytes_wf : ∀ (bs : List Byte) {m : List Host.Cell} (loc : Nat), Memory.wf m = true → Memory.wf (pokeBytes m loc bs) = true
  | [], _, _, h => h
  | b :: bs, m, loc, h => by
    unfold pokeBytes
    exact pokeBytes_wf bs (loc + 1) (Map.set_wf Memory.unlisted h)

/-- Bytes outside a write stay. -/
theorem pokeBytes_get_outside : ∀ (bs : List Byte) {m : List Host.Cell} (loc : Nat) {a : Nat}, Map.rises m →
    (a < loc ∨ loc + bs.length ≤ a) → Memory.get (pokeBytes m loc bs) a = Memory.get m a
  | [], _, _, _, _, _ => rfl
  | b :: bs, m, loc, a, h, ha => by
    unfold pokeBytes
    simp only [List.length_cons] at ha
    rw [pokeBytes_get_outside bs (loc + 1) (Memory.set_rises h) (by omega)]
    exact Map.get_set_apart _ _ h (by omega)

/-- A byte inside a write is the byte written. -/
theorem pokeBytes_get_inside : ∀ (bs : List Byte) {m : List Host.Cell} (loc : Nat) {k : Nat}, Map.rises m → (hk : k < bs.length) →
    Memory.get (pokeBytes m loc bs) (loc + k) = bs[k]
  | [], _, _, k, _, hk => by simp at hk
  | b :: bs, m, loc, k, h, hk => by
    unfold pokeBytes
    cases k with
    | zero =>
      rw [pokeBytes_get_outside bs (loc + 1) (Memory.set_rises h) (by omega)]
      exact Map.get_set_same (Memory.unlisted loc) h
    | succ k =>
      have := pokeBytes_get_inside bs (m := Memory.set m loc b) (loc + 1) (k := k) (Memory.set_rises h) (by simpa using hk)
      rw [show loc + (k + 1) = loc + 1 + k by omega, this]
      simp

theorem leBytes_length : ∀ (n w : Nat), (leBytes n w).length = n
  | 0, _ => rfl
  | n + 1, w => by simp [leBytes, leBytes_length n]

/-- The byte read after a write. -/
theorem State.peek_perform_inside {s : State} (hm : Memory.wf s.mem = true) (loc : Nat) (bs : List Byte) {k : Nat} (hk : k < bs.length) :
    (s.perform loc bs).peek (loc + k) = bs[k] := pokeBytes_get_inside bs loc (Map.wf_rises _ hm) hk
theorem State.peek_perform_outside {s : State} (hm : Memory.wf s.mem = true) (loc : Nat) (bs : List Byte) {a : Nat}
    (ha : a < loc ∨ loc + bs.length ≤ a) : (s.perform loc bs).peek a = s.peek a :=
  pokeBytes_get_outside bs loc (Map.wf_rises _ hm) ha

/-- The memory operations keep the canonical form. -/
theorem State.perform_wf {s : State} (hm : Memory.wf s.mem = true) (loc : Nat) (bs : List Byte) :
    Memory.wf (s.perform loc bs).mem = true := pokeBytes_wf bs loc hm
theorem State.zero_wf {s : State} (hm : Memory.wf s.mem = true) (lo n : Nat) : Memory.wf (s.zero lo n).mem = true :=
  Map.filter_wf Memory.unlisted _ hm
theorem State.pokeNat_wf {s : State} (hm : Memory.wf s.mem = true) (loc n v : Nat) : Memory.wf (s.pokeNat loc n v).mem = true :=
  State.perform_wf hm loc _
theorem State.reset_memory_wf : Memory.wf State.reset.mem = true := rfl

end Sys2Proof.Machine
end

