-- ==== Sys2Proof/Laws/Step.lean ====
section
/-! SUPPORT. What one step can do, said once (log 1): each way a step answers a next state, and what every step adds. An invariant of the
step follows from these and from what each meaning keeps. -/

namespace Sys2Proof.Machine

/-- What a row within a step leaves, and what the step adds. -/
theorem State.finished_next {s t : State} {o : Out} {f : State → State} :
    s.finished o f = .next t ↔ ∃ u, o = .next u ∧ t = s.finish (f u) := by
  unfold State.finished
  cases o with
  | next u => simp [eq_comm]
  | fault e => simp
  | refused r => simp

/-- What a step adds: a cycle of the scratchpad banks, and the fields of the step itself (log 1, 4, 5, 9). -/
theorem State.finish_eq (s t : State) :
    s.finish t = { t.bankCycle with
      cycle := t.cycle + 1, fresh := t.fresh + 1, stalled := if t.stalled = s.stalled then [] else t.stalled, focus := t.nextFocus } := rfl

/-- Every way a step answers a next state by its agenda: time passes, pairs begin or end to step as one, an event runs, an instruction
there is dropped, a core's turn, or none of these. -/
theorem step_cases {s t : State} (h : step s = .next t) :
    (∃ n l, s.agenda = .wait n :: l ∧ t = ({ s with agenda := l, stalled := [] } : State).bankCycles n)
    ∨ (∃ on l, s.agenda = .pace on :: l ∧ t = { s with agenda := l, paced := on, stalled := [] })
    ∨ (∃ b e l u, s.agenda = .event b e :: l ∧ e.isEvent = true ∧ exec e { s with agenda := l, cur := b } = .next u
        ∧ t = ({ s with agenda := l, cur := b } : State).finish (({ s with agenda := l, cur := b } : State).pairSteps u))
    ∨ (∃ b e l, s.agenda = .event b e :: l ∧ e.isEvent = false
        ∧ t = ({ s with agenda := l, cur := b } : State).finish { s with agenda := l, cur := b })
    ∨ (∃ c l, s.agenda = .core c :: l ∧ ({ s with agenda := l, focus := c } : State).runSlot = .next t)
    ∨ (s.agenda = [] ∧ s.runSlot = .next t) := by
  have h' : s.runStep = .next t := h
  unfold State.runStep at h'
  split at h'
  · next ha => exact .inr (.inr (.inr (.inr (.inr ⟨ha, h'⟩))))
  · next b e l ha =>
    simp only at h'
    split at h'
    · next he =>
      obtain ⟨u, hu, ht⟩ := State.finished_next.mp h'
      exact .inr (.inr (.inl ⟨b, e, l, u, ha, he, hu, ht⟩))
    · next he =>
      refine .inr (.inr (.inr (.inl ⟨b, e, l, ha, by simpa using he, ?_⟩)))
      injection h' with h'
      exact h'.symm
  · next on l ha =>
    injection h' with h'
    exact .inr (.inl ⟨on, l, ha, h'.symm⟩)
  · next c l ha => exact .inr (.inr (.inr (.inr (.inl ⟨c, l, ha, h'⟩))))
  · next n l ha =>
    injection h' with h'
    exact .inl ⟨n, l, ha, h'.symm⟩

/-- Every way an issue slot that no hart takes answers a next state: an event, or time alone. -/
theorem State.nobody_cases {s q t : State} (h : s.nobody q = .next t) :
    (∃ r u, q.otherRow = some r ∧ r q = .next u ∧ t = q.finish (q.pairSteps u)) ∨ (q.otherRow = none ∧ t = s.finish q) := by
  unfold State.nobody at h
  split at h
  · next r hr =>
    obtain ⟨u, hu, ht⟩ := State.finished_next.mp h
    exact .inl ⟨r, u, hr, hu, ht⟩
  · next hr =>
    injection h with h
    exact .inr ⟨hr, h.symm⟩

/-- Every way the issue slot answers a next state: nobody takes it, or the hart that the barrel picks among those that can issue. The
instruction behind its convoy in flight issues, or else its next one (R47, R51, R168). -/
theorem State.offerSlot_cases {s t : State} (h : s.offerSlot = .next t) :
    (∃ p : State, s.tried.barrel = (none, p) ∧ s.nobody p = .next t)
    ∨ (∃ (i : HartId) (p u : State), s.tried.barrel = (some i, p) ∧ u = { p with cur := i, stalled := s.stalled }
        ∧ (u.h.inFlight = true ∧ t = u.finish u.runBehind ∨ u.h.inFlight = false ∧ u.runIssue = .next t)) := by
  unfold State.offerSlot at h
  split at h
  · next i p hb =>
    refine .inr ⟨i, p, _, hb, rfl, ?_⟩
    simp only at h
    split at h
    · next hf =>
      obtain ⟨w, hw, ht⟩ := State.finished_next.mp h
      injection hw with hw
      exact .inl ⟨hf, by rw [ht, ← hw]; rfl⟩
    · next hf => exact .inr ⟨by simpa using hf, h⟩
  · next p hb => exact .inl ⟨p, hb, h⟩

/-- Every way a step without a turn of the agenda answers a next state: boot, an event of the core in focus or of another unit, or what
the issue slot leaves. -/
theorem State.runSlot_cases {s t : State} (h : s.runSlot = .next t) :
    (s.booted = false ∧ t = s.finish s.coldBoot)
    ∨ (s.booted = true ∧ ∃ r u, (s.coreRow = some r ∨ (s.coreRow = none ∧ s.otherRow = some r)) ∧ r s = .next u ∧ t = s.finish (s.pairSteps u))
    ∨ (s.booted = true ∧ s.coreRow = none ∧ s.offerSlot = .next t) := by
  unfold State.runSlot at h
  split at h
  · next hb =>
    obtain ⟨u, hu, ht⟩ := State.finished_next.mp h
    unfold execColdBoot at hu
    injection hu with hu
    exact .inl ⟨by simpa using hb, by rw [ht, ← hu]; rfl⟩
  · next hb =>
    have hb : s.booted = true := by simpa using hb
    split at h
    · next r hr =>
      obtain ⟨u, hu, ht⟩ := State.finished_next.mp h
      exact .inr (.inl ⟨hb, r, u, .inl hr, hu, ht⟩)
    · next hr =>
      split at h
      · next r ho =>
        obtain ⟨u, hu, ht⟩ := State.finished_next.mp h
        refine .inr (.inl ⟨hb, r, u, .inr ⟨hr, ?_⟩, hu, ht⟩)
        split at ho
        · exact ho
        · simp at ho
      · exact .inr (.inr ⟨hb, hr, h⟩)

/-- Every way an issue slot answers a next state, where the hart has no convoy in flight. -/
theorem State.runIssue_cases {s t : State} (h : s.runIssue = .next t) :
    (∃ w n u, s.issue = .run w n ∧ exec (decoded w n) s = .next u
        ∧ t = s.finish (s.pairSteps (s.pairStep s.cur (checkpoints (decoded w n) || convoyClass w) u)))
    ∨ (s.issue = .close ∧ t = s.finish (s.pairSteps s.closeConvoy))
    ∨ (∃ va u, s.issue = .verify va ∧ execCodeGranuleVerify s.cur va s = .next u ∧ t = s.finish u)
    ∨ (∃ va, s.issue = .miss va ∧ t = s.finish (s.missed va .fetch))
    ∨ (∃ e, s.issue = .trap e
        ∧ t = s.finish (if s.h.convoy = [] then s.trapHere e else s.takeTrap e s.h.pc true s.h.convoy.length))
    ∨ (s.issue = .wait ∧ t = s.finish s.stall) := by
  obtain ⟨u, hu, ht⟩ := State.finished_next.mp h
  unfold State.issued at hu
  unfold State.issuePairs at ht
  split at hu
  · next w n hi => rw [hi] at ht; exact .inl ⟨w, n, u, hi, hu, ht⟩
  · next hi => rw [hi] at ht; injection hu with hu; exact .inr (.inl ⟨hi, by rw [ht, ← hu]⟩)
  · next va hi => rw [hi] at ht; exact .inr (.inr (.inl ⟨va, u, hi, hu, ht⟩))
  · next va hi => rw [hi] at ht; injection hu with hu; exact .inr (.inr (.inr (.inl ⟨va, hi, by rw [ht, ← hu]; rfl⟩)))
  · next e hi => rw [hi] at ht; injection hu with hu; exact .inr (.inr (.inr (.inr (.inl ⟨e, hi, by rw [ht, ← hu]; rfl⟩))))
  · next hi => rw [hi] at ht; injection hu with hu; exact .inr (.inr (.inr (.inr (.inr ⟨hi, by rw [ht, ← hu]; rfl⟩))))

end Sys2Proof.Machine
end

