-- ==== Sys2Proof/Laws/Traps.lean ====
section
/-! SUPPORT. Taking a trap and returning from one: where each route leaves the machine (R331-R333, R447). A proof cites these and does not
unfold `State.takeTrap`. -/

namespace Sys2Proof.Machine

/-- Everything that taking a trap can do: the user handler, the firmware handler, the firmware handler with the gang stopped, and the
hart stopped without a handler, with its gang or, in slot 7, with its die. -/
theorem State.takeTrap_cases (s : State) (e : Exc) (tpc : BitVec 56) (conv : Bool) (member : Nat) :
    let u := s.countError e
    let h := u.h.reported e
    (h.route e.cause = .user ∧ s.takeTrap e tpc conv member = u.setH (h.userTrap e tpc conv member))
    ∨ (h.route e.cause = .firmware ∧ s.takeTrap e tpc conv member = u.setH (h.fwTrap e tpc conv member))
    ∨ (h.route e.cause = .firmwareStop ∧ s.takeTrap e tpc conv member
        = ((u.recordFault u.cur e tpc.toNat).setH (h.fwTrap e tpc conv member)).stopGang u.cur.die h.id.gangId e.cause.stopsWhole)
    ∨ (h.route e.cause = .untaken ∧ s.takeTrap e tpc conv member
        = ((u.recordFault u.cur e tpc.toNat).setH { h.dropConvoy with pc := tpc, st := .stopping, wait := none }).stopGang
            u.cur.die h.id.gangId false)
    ∨ (h.route e.cause = .halt ∧ u.cur.slot ≠ 7 ∧ s.takeTrap e tpc conv member
        = ((u.recordFault u.cur e tpc.toNat).setH { h.dropConvoy with pc := tpc, st := .stopping, wait := none }).stopGang
            u.cur.die h.id.gangId e.cause.stopsWhole)
    ∨ (h.route e.cause = .halt ∧ u.cur.slot = 7 ∧
        let t := ((u.recordFault u.cur e tpc.toNat).setH { h.dropConvoy with pc := tpc, st := .stopping, wait := none }).mclog
          u.cur.die 1 u.cur.core.val 0
        s.takeTrap e tpc conv member = t.setDie u.cur.die { t.die u.cur.die with halted := true }) := by
  simp only
  unfold State.takeTrap
  have hc : ∀ (w : State) i e n, (w.recordFault i e n).cur = w.cur := by
    intro w i e n; unfold State.recordFault; split <;> rfl
  have hm : ∀ (w : State) d k c l, (w.mclog d k c l).cur = w.cur := fun _ _ _ _ _ => rfl
  have hs : ∀ (w : State) g, (w.setH g).cur = w.cur := fun _ _ => rfl
  cases hr : ((s.countError e).h.reported e).route e.cause <;> simp only [hr]
  · simp
  · simp
  · simp [hc]
  · simp [hc]
  · by_cases h7 : (s.countError e).cur.slot = 7
    · simp [hs, hc, hm, h7]
    · simp [hs, hc, h7]

/-- Where a cause goes (R332, R447): firmware's causes, and any in firmware, stop the hart while INF = 1; the others go to the user
handler while EN = 1 and INH = 0. -/
theorem Hart.route_cases (h : Hart) (c : Cause) :
    (h.route c = .halt ∧ h.inf = true ∧ (h.priv = true ∨ c = .page ∨ c = .integrity ∨ c = .mcheck))
    ∨ (h.route c = .firmwareStop ∧ h.inf = false ∧ (c = .integrity ∨ c = .mcheck))
    ∨ (h.route c = .firmware ∧ h.inf = false ∧ c ≠ .integrity ∧ c ≠ .mcheck ∧ (h.priv = true ∨ c = .page))
    ∨ (h.priv = false ∧ c ≠ .page ∧ c ≠ .integrity ∧ c ≠ .mcheck
        ∧ ((h.route c = .firmwareStop ∧ h.inh = true) ∨ (h.route c = .user ∧ h.inh = false ∧ h.trap.en = true)
          ∨ (h.route c = .untaken ∧ h.inh = false ∧ h.trap.en = false))) := by
  unfold Hart.route
  cases hp : h.priv <;> cases hf : h.inf <;> cases hh : h.inh <;> cases he : h.trap.en <;> cases c <;> simp

/-- Returning from a trap restores the PC of the level being handled, and the mode where that is firmware's (R213, R333, R447). -/
theorem Hart.trapReturn_cases (h : Hart) :
    (h.inf = true ∧ h.trapReturn = some { h with
        pc := h.fw.pc, priv := h.ppriv, inf := false, faulted := h.faulted.filter fun f => f.1 == h.fw.pc })
    ∨ (h.inf = false ∧ h.inh = true ∧ h.trapReturn = some { h with pc := h.trap.pc, inh := false })
    ∨ (h.inf = false ∧ h.inh = false ∧ h.trapReturn = none) := by
  unfold Hart.trapReturn
  cases hf : h.inf <;> cases hh : h.inh <;> simp

end Sys2Proof.Machine
end

