-- ==== Sys2Proof/Tests/Slice0.lean ====
section
/-! SUPPORT. Tests of this model: words of the spec's encodings decode to the instructions they stand for, ill-formed terms are
refused, worked examples of the spec run as it says, and for every statement with hypotheses a concrete state meets them. -/

namespace Sys2Proof.Tests

set_option Elab.async false

open Sys2Proof.Machine Sys2Proof.Claims

/- STATES. -/

/-- A module with one USER hart that issues at VA 0x1_0000, its page readable, writable and executable, at PA 0x100_0000. -/
def demo : State := State.reset.loadBytes []
/-- That module with its hart changed. -/
def demoWith (f : Hart → Hart) : State := demo.setHart demo.cur (f demo.h)
/-- That module with its die changed. -/
def dieWith (f : Die → Die) : State := demo.setDie 0 (f (demo.die 0))
/-- That module with an instruction at its PC. -/
def demoCode (w : Nat) : State := State.reset.withFetchWord 64 w
/-- Slot 1 of the same core. -/
def slot1 : HartId := { die := 0, core := 0, slot := 1 }
/-- A hart with some x registers set. -/
def withX (h : Hart) (l : List (Fin 32 × Word)) : Hart := l.foldl (fun h p => h.setX p.1 p.2) h

/- CHECKS that a state meets a predicate. -/

def risesB {α : Type} : Nat → Map α → Bool
  | _, [] => true
  | lo, (k, _) :: t => decide (lo ≤ k) && risesB (k + 1) t

theorem rises_of {α : Type} : ∀ {m : Map α} {lo : Nat}, risesB lo m = true → Map.risesFrom lo m
  | [], _, _ => trivial
  | (k, _) :: t, lo, h => by
    simp only [risesB, Bool.and_eq_true, decide_eq_true_eq] at h
    exact ⟨h.1, rises_of h.2⟩

/-- The maps and the memory of a state, checked. -/
def soundB (s : State) : Bool :=
  risesB 0 s.harts && risesB 0 s.cores && risesB 0 s.dies && risesB 0 s.chans && risesB 0 s.leases
    && risesB 0 s.scratch && risesB 0 s.rewritten && risesB 0 s.bar2 && (s.ckpt.all fun c => risesB 0 c.dies && Memory.wf c.mem) && (s.ckDrain.all fun c => risesB 0 c.dies && Memory.wf c.mem)
    && (s.chans.all fun p => risesB 0 p.2.banks && risesB 0 p.2.t0 && risesB 0 p.2.lastArrival && risesB 0 p.2.armed && risesB 0 p.2.forced)
    && Memory.wf s.mem

theorem sound_of {s : State} (h : soundB s = true) : s.Sound := by
  simp only [soundB, Bool.and_eq_true, List.all_eq_true, Option.all_eq_true] at h
  obtain ⟨⟨⟨⟨⟨⟨⟨⟨⟨⟨⟨h1, h2⟩, h3⟩, h4⟩, h5⟩, ha⟩, hb⟩, hc⟩, h6⟩, h7⟩, h8⟩, h9⟩ := h
  exact ⟨⟨rises_of h1, rises_of h2, rises_of h3, rises_of h4, rises_of h5, rises_of ha, rises_of hb, rises_of hc, fun c hc => rises_of (h6 c hc).1,
      fun c hc => rises_of (h7 c hc).1, fun p hp => ⟨rises_of (h8 p hp).1.1.1.1, rises_of (h8 p hp).1.1.1.2, rises_of (h8 p hp).1.1.2,
        rises_of (h8 p hp).1.2, rises_of (h8 p hp).2⟩⟩,
    h9, fun c hc => (h6 c hc).2, fun c hc => (h7 c hc).2⟩

theorem quiet_of {s : State} (h : s.h.ilock = [] ∧ (∀ st : Fin 16, s.h.stm[st].err = none) ∧ s.h.posted = [] ∧ s.journal = []
    ∧ s.h.wfail = none ∧ s.poison = []) : s.Quiet := ⟨h.1, h.2.1, h.2.2.1, h.2.2.2.1, h.2.2.2.2.1, h.2.2.2.2.2⟩

/-- Each piece of an access lies in memory of this module other than a POOL. -/
def hereB (ps : List (Target × Nat)) : Bool := ps.all fun p => match p.1 with | .mem _ ty => ty != .pool | _ => false

theorem reaches_of {s : State} {va : Word} {n : Nat} {acc : Acc} {ps : List (Target × Nat)}
    (h : s.pieces s.cur va.toNat n acc = .ok ps ∧ hereB ps = true) : s.Reaches va n acc ps :=
  ⟨h.1, fun p hp => by
    have := List.all_eq_true.mp h.2 p hp
    split at this
    · rename_i loc ty hm; exact ⟨loc, ty, hm, by simpa using this⟩
    · simp at this⟩

theorem getV_good {h : Hart} (g : ∀ k : Fin 64, h.v[k].bad = []) (k : Nat) : (h.getV k).bad = [] := by
  by_cases hk : k < 64
  · simpa [Hart.getV, Vector.getD, Array.getD, hk] using g ⟨k, hk⟩
  · simp [Hart.getV, Vector.getD, Array.getD, hk, VReg.reset]

theorem getM_good {h : Hart} (g : ∀ k : Fin 8, h.m[k].bad = []) (k : Nat) : (h.getM k).bad = [] := by
  by_cases hk : k < 8
  · simpa [Hart.getM, Vector.getD, Array.getD, hk] using g ⟨k, hk⟩
  · simp [Hart.getM, Vector.getD, Array.getD, hk, Mask.reset]

/-- What `State.Single` and `State.Alone` ask, checked. -/
def singleB (s : State) (i : Instr) (masked : Bool) (op : MOp) : Bool :=
  decide (s.h.phase = .open ∧ s.h.convoy = [] ∧ s.h.waited = Waited.reset ∧ s.h.keptHere = none
      ∧ (∀ c ∈ s.crucibleCores, s.cur.slot.val ∉ (s.core c).crucWait) ∧ s.h.relay = false ∧ s.paced = false ∧ s.h.ahead = none)
    && !(memberOf i masked op).illegal s.h s.cur.slot && !op.badPair
    && ((op.info s.h masked).closes || (match s.fetch s.cur (s.h.pc.toNat + i.size) with | .ok (w, _) => !joins w | _ => false))
@[inherit_doc singleB] def aloneB (s : State) (i : Instr) (masked : Bool) (op : MOp) : Bool :=
  singleB s i masked op && decide (s.poison = [] ∧ (∀ k : Fin 64, s.h.v[k].bad = []) ∧ (∀ k : Fin 8, s.h.m[k].bad = []) ∧ ∀ b : Fin 8, s.h.blkBad[b] = [])

theorem single_of {s : State} {i : Instr} {masked : Bool} {op : MOp} (h : singleB s i masked op = true) : s.Single i masked op := by
  simp only [singleB, Bool.and_eq_true, Bool.not_eq_true', Bool.or_eq_true, decide_eq_true_eq] at h
  obtain ⟨⟨⟨⟨h1, h2, h3, h4, h5, h6, h7, h8⟩, h9⟩, h10⟩, h11⟩ := h
  refine ⟨h1, h2, h3, h4, h5, h6, h7, h8, h9, h10, h11.imp id ?_⟩
  intro h
  split at h
  · rename_i w n hf; exact ⟨w, n, hf, by simpa using h⟩
  · simp at h

theorem alone_of {s : State} {i : Instr} {masked : Bool} {op : MOp} (h : aloneB s i masked op = true) : s.Alone i masked op := by
  simp only [aloneB, Bool.and_eq_true, decide_eq_true_eq] at h
  exact ⟨single_of h.1, h.2.1, getV_good h.2.2.1, getM_good h.2.2.2.1, h.2.2.2.2⟩

/-- What `State.Walks` asks, checked. -/
def walksB (s : State) (st : Fin 16) : Bool :=
  (List.range s.h.stm[st].count).all fun n =>
    match s.translate s.cur (s.h.stm[st].elemAddr n).1 (if s.h.stm[st].mode = 0 then .read else .write) with | .miss _ _ => false | _ => true

theorem walks_of {s : State} {st : Fin 16} (h : walksB s st = true) : s.Walks st := by
  intro _ n hn va acc he
  have hs := List.all_eq_true.mp h n (List.mem_range.mpr hn)
  split at hs
  · simp at hs
  · rename_i hm; exact hm va acc he

/- DECODING. -/

/-- A word decodes to an instruction. -/
noncomputable def decodesTo (p : Nat × Instr) : Bool := match decodeBits p.1 with | .ok i => decide (i = p.2) | .error _ => false

/-- Words of `ADD` to `BEQ`, each written from the opcode table's fields with its operands. -/
theorem test_decode_1 : ([
    (0x2CC517, .add 5 6 11), (0xACC517, .sub 5 6 11), (0x12CC517, .sll 5 6 11), (0x1ACC517, .slt 5 6 11), (0x22CC517, .sltu 5 6 11),
    (0x2ACC517, .xor 5 6 11), (0x32CC517, .srl 5 6 11), (0x3ACC517, .sra 5 6 11), (0x42CC517, .or 5 6 11), (0x4ACC517, .and 5 6 11),
    (0x52CC517, .mul 5 6 11), (0x5ACC517, .mulh 5 6 11), (0x62CC517, .mulhsu 5 6 11), (0x6ACC517, .mulhu 5 6 11),
    (0x72CC517, .div 5 6 11), (0x7ACC517, .divu 5 6 11), (0x82CC517, .rem 5 6 11), (0x8ACC517, .remu 5 6 11), (0x92CC517, .min 5 6 11),
    (0x9ACC517, .max 5 6 11), (0xA2CC517, .minu 5 6 11), (0xAACC517, .maxu 5 6 11), (0xB2CC517, .andn 5 6 11), (0xBACC517, .orn 5 6 11),
    (0xC2CC517, .rol 5 6 11), (0xCACC517, .ror 5 6 11), (0xD2CC517, .sh1add 5 6 11), (0xDACC517, .sh2add 5 6 11),
    (0xE2CC517, .sh3add 5 6 11), (0xE80C517, .clz 5 6), (0xF00C517, .ctz 5 6), (0xF80C517, .cpop 5 6), (0xB380C513, .addi 5 6 1436),
    (0x2A4C513, .slli 5 6 21), (0xB388C513, .slti 5 6 1436), (0xB38CC513, .sltiu 5 6 1436), (0xB390C513, .xori 5 6 1436),
    (0x2B4C513, .srli 5 6 21), (0x82B4C513, .srai 5 6 21), (0xB398C513, .ori 5 6 1436), (0xB39CC513, .andi 5 6 1436),
    (0x2CC51F, .addw 5 6 11), (0xACC51F, .subw 5 6 11), (0x12CC51F, .sllw 5 6 11), (0x32CC51F, .srlw 5 6 11), (0x3ACC51F, .sraw 5 6 11),
    (0x52CC51F, .mulw 5 6 11), (0x72CC51F, .divw 5 6 11), (0x7ACC51F, .divuw 5 6 11), (0x82CC51F, .remw 5 6 11),
    (0x8ACC51F, .remuw 5 6 11), (0xB380C51B, .addiw 5 6 1436), (0x2A4C51B, .slliw 5 6 21), (0x2B4C51B, .srliw 5 6 21),
    (0x82B4C51B, .sraiw 5 6 21), (0xB38BA523, .lui 5 367709), (0xB38BA527, .auipc 5 367709), (0xB38BA52B, .jal 5 367709),
    (0xB380C52F, .jalr 5 6 1436), (0xB22CD833, .beq 6 11 2872)] : List (Nat × Instr)).all decodesTo = true := by decide +kernel

/-- Words of `BNE` to `FNMADD`, each written from the opcode table's fields with its operands. -/
theorem test_decode_2 : ([
    (0xB2ACD833, .bne 6 11 2872), (0xB32CD833, .blt 6 11 2872), (0xB3ACD833, .bge 6 11 2872), (0xB22CD837, .bltu 6 11 2872),
    (0xB2ACD837, .bgeu 6 11 2872), (0xB32CD837, .bbs 6 11 2872), (0xB3ACD837, .bbc 6 11 2872), (0xB380C503, .lb 5 6 1436),
    (0xB384C503, .lh 5 6 1436), (0xB388C503, .lw 5 6 1436), (0xB38CC503, .ld 5 6 1436), (0xB390C503, .lbu 5 6 1436),
    (0xB394C503, .lhu 5 6 1436), (0xB398C503, .lwu 5 6 1436), (0xB02CDC07, .sb 6 11 1436), (0xB0ACDC07, .sh 6 11 1436),
    (0xB12CDC07, .sw 6 11 1436), (0xB1ACDC07, .sd 6 11 1436), (0x8000C50B, .lbOrd 5 6 4 0), (0x8080C50B, .lhOrd 5 6 4 0),
    (0x8100C50B, .lwOrd 5 6 4 0), (0x8180C50B, .ldOrd 5 6 4 0), (0x8200C50B, .lbuOrd 5 6 4 0), (0x8280C50B, .lhuOrd 5 6 4 0),
    (0x8300C50B, .lwuOrd 5 6 4 0), (0x842CC00B, .sbOrd 6 11 4 0), (0x84ACC00B, .shOrd 6 11 4 0), (0x852CC00B, .swOrd 6 11 4 0),
    (0x85ACC00B, .sdOrd 6 11 4 0), (0x902CC50F, .amoswap 5 6 11 4 2), (0x90ACC50F, .amoadd 5 6 11 4 2), (0x912CC50F, .amoand 5 6 11 4 2),
    (0x91ACC50F, .amoor 5 6 11 4 2), (0x922CC50F, .amoxor 5 6 11 4 2), (0x92ACC50F, .amomin 5 6 11 4 2),
    (0x932CC50F, .amomax 5 6 11 4 2), (0x93ACC50F, .amominu 5 6 11 4 2), (0x942CC50F, .amomaxu 5 6 11 4 2),
    (0x94ACC50F, .amocas 5 6 11 4 2), (0x952CC50F, .amofxL 5 6 11 4 2), (0x95ACC50F, .amofxD 5 6 11 4 2),
    (0x962CC50F, .amofxS 5 6 11 4 2), (0x9ACC53B, .fadd 5 6 11 2 3), (0x19ACC53B, .fsub 5 6 11 2 3), (0x29ACC53B, .fmul 5 6 11 2 3),
    (0x39ACC53B, .fdiv 5 6 11 2 3), (0x4980C53B, .fsqrt 5 6 2 3), (0x582CC53B, .fmin 5 6 11 2), (0x682CC53B, .fmax 5 6 11 2),
    (0x782CC53B, .feq 5 6 11 2), (0x882CC53B, .flt 5 6 11 2), (0x982CC53B, .fle 5 6 11 2), (0xA800C53B, .fclass 5 6 2),
    (0xB988C53B, .fcvtItFmt 5 6 2 2 3), (0xC988C53B, .fcvtFmtIt 5 6 2 2 3), (0xD988C53B, .fcvtFmtSf 5 6 2 2 3),
    (0x26ACC53F, .fmadd 5 6 11 13 2), (0x66ACC53F, .fmsub 5 6 11 13 2), (0xA6ACC53F, .fnmsub 5 6 11 13 2),
    (0xE6ACC53F, .fnmadd 5 6 11 13 2)] : List (Nat × Instr)).all decodesTo = true := by decide +kernel

/-- Words of `FENCE` to `VMCPOP`, each written from the opcode table's fields with its operands. -/
theorem test_decode_3 : ([
    (0x90000043, .fence 4 2), (0x80C043, .mon 6), (0x100C543, .mwait 5 6), (0x9180C543, .barArrive 5 6 4 0),
    (0x8A2CC043, .barWait 6 11 4), (0x92ACC543, .claim 5 6 11 4 2), (0x3000043, .yield), (0xC4C0547, .mfs 5 787),
    (0x4C4CC047, .mts 6 787), (0x80000047, .tcall), (0x80040047, .brk), (0x80080047, .tret), (0x4B, .stop), (0x80C54B, .spawn 5 6),
    (0x100C54B, .hstop 5 6), (0x1ACC54B, .gsusp 5 6 11), (0x22CC54B, .qlease 5 6 11), (0x2CC54F, .nop 5 6 11), (0xACC54F, .prefR 5 6 11),
    (0x12CC54F, .prefW 5 6 11), (0x3754, .cLd 5 6 22), (0x5754, .cLw 5 6 22), (0x774C, .cSd 6 3 22), (0x974C, .cSw 6 3 22),
    (0xB674, .cAddisp 5 179), (0x12B1, .cAddi 5 44), (0x32B1, .cLi 5 44), (0x5671, .cJ 1436), (0x774D, .cBeqz 6 179),
    (0x974D, .cBnez 6 179), (0x2AE, .cMv 5 11), (0x22AE, .cAdd 5 11), (0x4302, .cJr 6), (0x6302, .cJalr 6), (0x92B2, .cLdsp 5 44),
    (0xB62E, .cSdsp 11 44), (0x2CC563, .vsetvl 5 6 11), (0xACC563, .vsetvlK 5 6 11), (0x100C563, .vrows 5 6),
    (0x9606B67, .vmvVX true true 53 11), (0x1D806B67, .vmvVI true true 53 44), (0x28006B67, .vid true true 53),
    (0x38136B67, .vmvVV true true 53 38), (0x40130B67, .vshape true 5 38), (0x50130B67, .vshapeU true 5 38),
    (0x60130B67, .vshapeS true 5 38), (0x70130167, .vmat true 38), (0x81730B67, .vmvXE true 5 38 11),
    (0x95736B67, .vmergeVvm true 53 38 43), (0xA1736B67, .vmergeVxm true 53 38 11), (0xB5936B67, .vmergeVim true 53 38 44),
    (0x630B6B, .vmand true 5 6 3), (0x10630B6B, .vmnand true 5 6 3), (0x20630B6B, .vmandn true 5 6 3), (0x30630B6B, .vmor true 5 6 3),
    (0x40630B6B, .vmnor true 5 6 3), (0x50630B6B, .vmorn true 5 6 3), (0x60630B6B, .vmxor true 5 6 3), (0x70630B6B, .vmxnor true 5 6 3),
    (0x80030B6B, .vmcpop true 5 6)] : List (Nat × Instr)).all decodesTo = true := by decide +kernel

/-- Words of `VMFIRST` to `VOR_VI`, each written from the opcode table's fields with its operands. -/
theorem test_decode_4 : ([
    (0x90030B6B, .vmfirst true 5 6), (0xA0000B6B, .vmset true 5), (0xB0000B6B, .vmclr true 5), (0x123016F, .vscfg true 6 9),
    (0x11231B6F, .vscfgr true 6 13 9), (0x2123176F, .vcopy true 6 11 9), (0x3123176F, .vcopyT true 6 11 9),
    (0x4123176F, .vcopyAddl true 6 11 9), (0x5123176F, .vcopyAddd true 6 11 9), (0x6123176F, .vcopyAdds true 6 11 9),
    (0x7123176F, .vchsend true 6 11 9), (0x8123016F, .vchrecv true 6 9), (0x9133016F, .vsend true 38 9),
    (0xA133016F, .vsendEom true 38 9), (0xB120016F, .veom true 9), (0xC1268B6F, .vsget true 5 9 13), (0xD120016F, .vsidle true 9),
    (0x1230173, .kswage true 6 9), (0x11230173, .kpool true 6 9), (0x21230173, .ktongs true 6 9), (0x41630B73, .seal true 5 6 11),
    (0x51630B73, .unseal true 5 6 11), (0x9206BEB, .vld true true 53 9), (0x193301EB, .vstO true true 38 9),
    (0x293301EB, .vstU true true 38 9), (0x9736BE7, .vlx true true 53 38 11), (0x19736BE7, .vsxO true true 53 38 11),
    (0x29736BE7, .vsxU true true 53 38 11), (0xCB36BEF, .vamoswap true true 53 38 4 2 true),
    (0x1CB36BEF, .vamoadd true true 53 38 4 2 true), (0x2CB36BEF, .vamoand true true 53 38 4 2 true),
    (0x3CB36BEF, .vamoor true true 53 38 4 2 true), (0x4CB36BEF, .vamoxor true true 53 38 4 2 true),
    (0x5CB36BEF, .vamomin true true 53 38 4 2 true), (0x6CB36BEF, .vamomax true true 53 38 4 2 true),
    (0x7CB36BEF, .vamominu true true 53 38 4 2 true), (0x8CB36BEF, .vamomaxu true true 53 38 4 2 true),
    (0x9CB36BEF, .vamofxL true true 53 38 4 2 true), (0xACB36BEF, .vamofxD true true 53 38 4 2 true),
    (0xBCB36BEF, .vamofxS true true 53 38 4 2 true), (0xD736B83, .vaddVv true true 53 38 43), (0x9736B87, .vaddVx true true 53 38 11),
    (0x9336B8B, .vaddVs true true 53 38 9), (0xD936B8F, .vaddVi true true 53 38 44), (0x1D736B83, .vsubVv true true 53 38 43),
    (0x19736B87, .vsubVx true true 53 38 11), (0x19336B8B, .vsubVs true true 53 38 9), (0x1D936B8F, .vsubVi true true 53 38 44),
    (0x2D736B83, .vrsubVv true true 53 38 43), (0x29736B87, .vrsubVx true true 53 38 11), (0x29336B8B, .vrsubVs true true 53 38 9),
    (0x2D936B8F, .vrsubVi true true 53 38 44), (0x3D736B83, .vandVv true true 53 38 43), (0x39736B87, .vandVx true true 53 38 11),
    (0x39336B8B, .vandVs true true 53 38 9), (0x3D936B8F, .vandVi true true 53 38 44), (0x4D736B83, .vorVv true true 53 38 43),
    (0x49736B87, .vorVx true true 53 38 11), (0x49336B8B, .vorVs true true 53 38 9), (0x4D936B8F, .vorVi true true 53 38 44)] : List (Nat × Instr)).all decodesTo = true := by decide +kernel

/-- Words of `VXOR_VV` to `VSSUBU_VI`, each written from the opcode table's fields with its operands. -/
theorem test_decode_5 : ([
    (0x5D736B83, .vxorVv true true 53 38 43), (0x59736B87, .vxorVx true true 53 38 11), (0x59336B8B, .vxorVs true true 53 38 9),
    (0x5D936B8F, .vxorVi true true 53 38 44), (0x6D736B83, .vsllVv true true 53 38 43), (0x69736B87, .vsllVx true true 53 38 11),
    (0x69336B8B, .vsllVs true true 53 38 9), (0x6D936B8F, .vsllVi true true 53 38 44), (0x7D736B83, .vsrlVv true true 53 38 43),
    (0x79736B87, .vsrlVx true true 53 38 11), (0x79336B8B, .vsrlVs true true 53 38 9), (0x7D936B8F, .vsrlVi true true 53 38 44),
    (0x8D736B83, .vsraVv true true 53 38 43), (0x89736B87, .vsraVx true true 53 38 11), (0x89336B8B, .vsraVs true true 53 38 9),
    (0x8D936B8F, .vsraVi true true 53 38 44), (0x9D736B83, .vmulVv true true 53 38 43), (0x99736B87, .vmulVx true true 53 38 11),
    (0x99336B8B, .vmulVs true true 53 38 9), (0x9D936B8F, .vmulVi true true 53 38 44), (0xAD736B83, .vmulhVv true true 53 38 43),
    (0xA9736B87, .vmulhVx true true 53 38 11), (0xA9336B8B, .vmulhVs true true 53 38 9), (0xAD936B8F, .vmulhVi true true 53 38 44),
    (0xBD736B83, .vmulhuVv true true 53 38 43), (0xB9736B87, .vmulhuVx true true 53 38 11), (0xB9336B8B, .vmulhuVs true true 53 38 9),
    (0xBD936B8F, .vmulhuVi true true 53 38 44), (0xCD736B83, .vminVv true true 53 38 43), (0xC9736B87, .vminVx true true 53 38 11),
    (0xC9336B8B, .vminVs true true 53 38 9), (0xCD936B8F, .vminVi true true 53 38 44), (0xDD736B83, .vmaxVv true true 53 38 43),
    (0xD9736B87, .vmaxVx true true 53 38 11), (0xD9336B8B, .vmaxVs true true 53 38 9), (0xDD936B8F, .vmaxVi true true 53 38 44),
    (0xED736B83, .vminuVv true true 53 38 43), (0xE9736B87, .vminuVx true true 53 38 11), (0xE9336B8B, .vminuVs true true 53 38 9),
    (0xED936B8F, .vminuVi true true 53 38 44), (0xFD736B83, .vmaxuVv true true 53 38 43), (0xF9736B87, .vmaxuVx true true 53 38 11),
    (0xF9336B8B, .vmaxuVs true true 53 38 9), (0xFD936B8F, .vmaxuVi true true 53 38 44), (0xD736B93, .vsaddVv true true 53 38 43),
    (0x9736B97, .vsaddVx true true 53 38 11), (0x9336B9B, .vsaddVs true true 53 38 9), (0xD936B9F, .vsaddVi true true 53 38 44),
    (0x1D736B93, .vsadduVv true true 53 38 43), (0x19736B97, .vsadduVx true true 53 38 11), (0x19336B9B, .vsadduVs true true 53 38 9),
    (0x1D936B9F, .vsadduVi true true 53 38 44), (0x2D736B93, .vssubVv true true 53 38 43), (0x29736B97, .vssubVx true true 53 38 11),
    (0x29336B9B, .vssubVs true true 53 38 9), (0x2D936B9F, .vssubVi true true 53 38 44), (0x3D736B93, .vssubuVv true true 53 38 43),
    (0x39736B97, .vssubuVx true true 53 38 11), (0x39336B9B, .vssubuVs true true 53 38 9), (0x3D936B9F, .vssubuVi true true 53 38 44)] : List (Nat × Instr)).all decodesTo = true := by decide +kernel

/-- Words of `VAADD_VV` to `VFRDIV_VV`, each written from the opcode table's fields with its operands. -/
theorem test_decode_6 : ([
    (0x4D736B93, .vaaddVv true true 53 38 43), (0x49736B97, .vaaddVx true true 53 38 11), (0x49336B9B, .vaaddVs true true 53 38 9),
    (0x4D936B9F, .vaaddVi true true 53 38 44), (0x5D736B93, .vaadduVv true true 53 38 43), (0x59736B97, .vaadduVx true true 53 38 11),
    (0x59336B9B, .vaadduVs true true 53 38 9), (0x5D936B9F, .vaadduVi true true 53 38 44), (0x6D736B93, .vsmulVv true true 53 38 43),
    (0x69736B97, .vsmulVx true true 53 38 11), (0x69336B9B, .vsmulVs true true 53 38 9), (0x6D936B9F, .vsmulVi true true 53 38 44),
    (0x7D736B93, .vssrlVv true true 53 38 43), (0x79736B97, .vssrlVx true true 53 38 11), (0x79336B9B, .vssrlVs true true 53 38 9),
    (0x7D936B9F, .vssrlVi true true 53 38 44), (0x8D736B93, .vssraVv true true 53 38 43), (0x89736B97, .vssraVx true true 53 38 11),
    (0x89336B9B, .vssraVs true true 53 38 9), (0x8D936B9F, .vssraVi true true 53 38 44), (0x9D736B93, .vwaddVv true true 53 38 43),
    (0x99736B97, .vwaddVx true true 53 38 11), (0x99336B9B, .vwaddVs true true 53 38 9), (0x9D936B9F, .vwaddVi true true 53 38 44),
    (0xAD736B93, .vwadduVv true true 53 38 43), (0xA9736B97, .vwadduVx true true 53 38 11), (0xA9336B9B, .vwadduVs true true 53 38 9),
    (0xAD936B9F, .vwadduVi true true 53 38 44), (0xBD736B93, .vwmulVv true true 53 38 43), (0xB9736B97, .vwmulVx true true 53 38 11),
    (0xB9336B9B, .vwmulVs true true 53 38 9), (0xBD936B9F, .vwmulVi true true 53 38 44), (0xCD736B93, .vwmuluVv true true 53 38 43),
    (0xC9736B97, .vwmuluVx true true 53 38 11), (0xC9336B9B, .vwmuluVs true true 53 38 9), (0xCD936B9F, .vwmuluVi true true 53 38 44),
    (0xDD736B93, .vnclipVv true true 53 38 43), (0xD9736B97, .vnclipVx true true 53 38 11), (0xD9336B9B, .vnclipVs true true 53 38 9),
    (0xDD936B9F, .vnclipVi true true 53 38 44), (0xED736B93, .vnclipuVv true true 53 38 43), (0xE9736B97, .vnclipuVx true true 53 38 11),
    (0xE9336B9B, .vnclipuVs true true 53 38 9), (0xED936B9F, .vnclipuVi true true 53 38 44), (0xD736BA3, .vfaddVv true true 53 38 43),
    (0x9736BA7, .vfaddVx true true 53 38 11), (0x9336BAB, .vfaddVs true true 53 38 9), (0x1D736BA3, .vfsubVv true true 53 38 43),
    (0x19736BA7, .vfsubVx true true 53 38 11), (0x19336BAB, .vfsubVs true true 53 38 9), (0x2D736BA3, .vfrsubVv true true 53 38 43),
    (0x29736BA7, .vfrsubVx true true 53 38 11), (0x29336BAB, .vfrsubVs true true 53 38 9), (0x3D736BA3, .vfmulVv true true 53 38 43),
    (0x39736BA7, .vfmulVx true true 53 38 11), (0x39336BAB, .vfmulVs true true 53 38 9), (0x4D736BA3, .vfdivVv true true 53 38 43),
    (0x49736BA7, .vfdivVx true true 53 38 11), (0x49336BAB, .vfdivVs true true 53 38 9), (0x5D736BA3, .vfrdivVv true true 53 38 43)] : List (Nat × Instr)).all decodesTo = true := by decide +kernel

/-- Words of `VFRDIV_VX` to `VMSLEU_VX`, each written from the opcode table's fields with its operands. -/
theorem test_decode_7 : ([
    (0x59736BA7, .vfrdivVx true true 53 38 11), (0x59336BAB, .vfrdivVs true true 53 38 9), (0x68136BA3, .vfsqrt true true 53 38),
    (0x7D736BA3, .vfminVv true true 53 38 43), (0x79736BA7, .vfminVx true true 53 38 11), (0x79336BAB, .vfminVs true true 53 38 9),
    (0x8D736BA3, .vfmaxVv true true 53 38 43), (0x89736BA7, .vfmaxVx true true 53 38 11), (0x89336BAB, .vfmaxVs true true 53 38 9),
    (0x9D736BA3, .vfsgnjVv true true 53 38 43), (0x99736BA7, .vfsgnjVx true true 53 38 11), (0x99336BAB, .vfsgnjVs true true 53 38 9),
    (0xAD736BA3, .vfsgnjnVv true true 53 38 43), (0xA9736BA7, .vfsgnjnVx true true 53 38 11), (0xA9336BAB, .vfsgnjnVs true true 53 38 9),
    (0xBD736BA3, .vfsgnjxVv true true 53 38 43), (0xB9736BA7, .vfsgnjxVx true true 53 38 11), (0xB9336BAB, .vfsgnjxVs true true 53 38 9),
    (0xC8136BA3, .vfclass true true 53 38), (0xD736BB3, .vfmaccVv true true 53 38 43), (0x9736BB7, .vfmaccVx true true 53 38 11),
    (0x9336BBB, .vfmaccVs true true 53 38 9), (0x1D736BB3, .vfnmaccVv true true 53 38 43), (0x19736BB7, .vfnmaccVx true true 53 38 11),
    (0x19336BBB, .vfnmaccVs true true 53 38 9), (0x2D736BB3, .vfmsacVv true true 53 38 43), (0x29736BB7, .vfmsacVx true true 53 38 11),
    (0x29336BBB, .vfmsacVs true true 53 38 9), (0x3D736BB3, .vfnmsacVv true true 53 38 43), (0x39736BB7, .vfnmsacVx true true 53 38 11),
    (0x39336BBB, .vfnmsacVs true true 53 38 9), (0x48136BB3, .vfcvtFX true true 53 38), (0x58136BB3, .vfcvtFXu true true 53 38),
    (0x68136BB3, .vfcvtXF true true 53 38), (0x78136BB3, .vfcvtXuF true true 53 38), (0x88B36BBF, .vfcvtFF true true 53 38 5),
    (0x98136BB3, .vfexp true true 53 38), (0xA8136BB3, .vfrec true true 53 38), (0xD730BC3, .vmseqVv true true 5 38 43),
    (0x9730BC7, .vmseqVx true true 5 38 11), (0x9330BCB, .vmseqVs true true 5 38 9), (0xD930BCF, .vmseqVi true true 5 38 44),
    (0x1D730BC3, .vmsneVv true true 5 38 43), (0x19730BC7, .vmsneVx true true 5 38 11), (0x19330BCB, .vmsneVs true true 5 38 9),
    (0x1D930BCF, .vmsneVi true true 5 38 44), (0x2D730BC3, .vmsltVv true true 5 38 43), (0x29730BC7, .vmsltVx true true 5 38 11),
    (0x29330BCB, .vmsltVs true true 5 38 9), (0x2D930BCF, .vmsltVi true true 5 38 44), (0x3D730BC3, .vmsleVv true true 5 38 43),
    (0x39730BC7, .vmsleVx true true 5 38 11), (0x39330BCB, .vmsleVs true true 5 38 9), (0x3D930BCF, .vmsleVi true true 5 38 44),
    (0x4D730BC3, .vmsltuVv true true 5 38 43), (0x49730BC7, .vmsltuVx true true 5 38 11), (0x49330BCB, .vmsltuVs true true 5 38 9),
    (0x4D930BCF, .vmsltuVi true true 5 38 44), (0x5D730BC3, .vmsleuVv true true 5 38 43), (0x59730BC7, .vmsleuVx true true 5 38 11)] : List (Nat × Instr)).all decodesTo = true := by decide +kernel

/-- Words of `VMSLEU_VS` to `HINT_OTHER`, each written from the opcode table's fields with its operands. -/
theorem test_decode_8 : ([
    (0x59330BCB, .vmsleuVs true true 5 38 9), (0x5D930BCF, .vmsleuVi true true 5 38 44), (0x6D730BC3, .vmsgtVv true true 5 38 43),
    (0x69730BC7, .vmsgtVx true true 5 38 11), (0x69330BCB, .vmsgtVs true true 5 38 9), (0x6D930BCF, .vmsgtVi true true 5 38 44),
    (0x7D730BC3, .vmsgtuVv true true 5 38 43), (0x79730BC7, .vmsgtuVx true true 5 38 11), (0x79330BCB, .vmsgtuVs true true 5 38 9),
    (0x7D930BCF, .vmsgtuVi true true 5 38 44), (0x8D730BC3, .vmfeqVv true true 5 38 43), (0x89730BC7, .vmfeqVx true true 5 38 11),
    (0x89330BCB, .vmfeqVs true true 5 38 9), (0x9D730BC3, .vmfneVv true true 5 38 43), (0x99730BC7, .vmfneVx true true 5 38 11),
    (0x99330BCB, .vmfneVs true true 5 38 9), (0xAD730BC3, .vmfltVv true true 5 38 43), (0xA9730BC7, .vmfltVx true true 5 38 11),
    (0xA9330BCB, .vmfltVs true true 5 38 9), (0xBD730BC3, .vmfleVv true true 5 38 43), (0xB9730BC7, .vmfleVx true true 5 38 11),
    (0xB9330BCB, .vmfleVs true true 5 38 9), (0xCD730BC3, .vmfgtVv true true 5 38 43), (0xC9730BC7, .vmfgtVx true true 5 38 11),
    (0xC9330BCB, .vmfgtVs true true 5 38 9), (0xDD730BC3, .vmfgeVv true true 5 38 43), (0xD9730BC7, .vmfgeVx true true 5 38 11),
    (0xD9330BCB, .vmfgeVs true true 5 38 9), (0x8136BD3, .vredsum true true 53 38), (0x18136BD3, .vredmax true true 53 38),
    (0x28136BD3, .vredmin true true 53 38), (0x38136BD3, .vredmaxu true true 53 38), (0x48136BD3, .vredminu true true 53 38),
    (0x58136BD3, .vredand true true 53 38), (0x68136BD3, .vredor true true 53 38), (0x70006BD3, .viota true 53),
    (0x88136BD3, .vfredsum true true 53 38), (0x98136BD3, .vfredmax true true 53 38), (0xA5736BD3, .vrgatherVv true 53 38 43),
    (0xA1736BD7, .vrgatherVx true 53 38 11), (0xB1736BD7, .vslideupVx true 53 38 11), (0xB5936BDF, .vslideupVi true 53 38 44),
    (0xC1736BD7, .vslidedownVx true 53 38 11), (0xC5936BDF, .vslidedownVi true 53 38 44), (0xD0136BD3, .vcompress true 53 38),
    (0xE0136BD3, .vexpand true 53 38), (0xF8136BD3, .vscanadd true true 53 38), (0x170CB36B77, .vmm true true 53 38 37 7 2),
    (0x94014B31777, .copr true 5 38 37 11 4), (0x74021630177, .coprM true 5 6 11 3), (0x14030131777, .cmvBv true 5 38 11),
    (0x1404005EB77, .cmvVb true 53 5 11), (0x14051630177, .cld true 5 6 11), (0x14061630177, .cst true 5 6 11),
    (0x14070000177, .czero true 5), (0x6178CB36B77, .ccvt true true 53 38 37 7 2 3), (0x962CC54F, .hintOther 300 11 6 5)] : List (Nat × Instr)).all decodesTo = true := by decide +kernel

/- ILL-FORMED TERMS, one for each check of `Instr.wf`, which refuses it; beside it the nearest term that it accepts. -/

/-- A scope above 5 (R119, R190), the rounding modes 5 and 6 (R196), an integer type above 3 and a source format 0 (R197). -/
theorem test_wf_scalar :
    (Instr.lbOrd 1 2 6 0).wf = false ∧ (Instr.sdOrd 1 2 7 0).wf = false ∧ (Instr.amoadd 1 2 3 6 0).wf = false ∧ (Instr.fence 6 1).wf = false
      ∧ (Instr.barArrive 1 2 6 0).wf = false ∧ (Instr.barWait 1 2 7).wf = false ∧ (Instr.claim 1 2 3 6 0).wf = false
      ∧ (Instr.lbOrd 1 2 5 0).wf = true ∧ (Instr.fence 5 1).wf = true
      ∧ (Instr.fadd 1 2 3 0 5).wf = false ∧ (Instr.fsqrt 1 2 0 6).wf = false ∧ (Instr.fadd 1 2 3 0 7).wf = true
      ∧ (Instr.fcvtItFmt 1 2 4 0 0).wf = false ∧ (Instr.fcvtFmtIt 1 2 3 0 5).wf = false ∧ (Instr.fcvtFmtIt 1 2 3 0 0).wf = true
      ∧ (Instr.fcvtFmtSf 1 2 0 0 0).wf = false ∧ (Instr.fcvtFmtSf 1 2 7 0 0).wf = true := by
  decide +kernel

/-- A compressed jump to x0 (R222), a hint that another instruction has (R161), a vsget selector above 15 (R255), a vfcvt.f.f source format
0 (R241), and an OPF above 5 (R279). -/
theorem test_wf_others :
    (Instr.cJr 0).wf = false ∧ (Instr.cJalr 0).wf = false ∧ (Instr.cJr 1).wf = true ∧ (Instr.hintOther 2 0 0 0).wf = false
      ∧ (Instr.hintOther 3 0 0 0).wf = true ∧ (Instr.vsget true 1 2 16).wf = false ∧ (Instr.vsget true 1 2 15).wf = true
      ∧ (Instr.vfcvtFF true false 1 2 0).wf = false ∧ (Instr.vfcvtFF true false 1 2 1).wf = true
      ∧ (Instr.copr true 0 1 2 3 6).wf = false ∧ (Instr.copr true 0 1 2 3 5).wf = true ∧ (Instr.coprM true 0 1 2 7).wf = false := by
  decide +kernel

/- WITNESSES: for each statement with hypotheses, concrete states and operands that meet them; where a statement has several clauses,
one state for each. -/

/-- The location of VA 0x1_8000 of the demo hart. -/
def loc8 : Nat := 0x1008000
/-- A state with `n` bytes of memory written. -/
def withMem (s : State) (loc n v : Nat) : State := { s with mem := pokeBytes s.mem loc (leBytes n v) }
/-- x2 = 0x1_8000, x3 = -1, x4 = -2^63, x5 = 0x1_8001, x8 = x9 = 0x1_8000. -/
def addressed : State :=
  demoWith fun h => withX h [(2, 0x18000), (3, -1), (4, 0x8000000000000000), (5, 0x18001), (8, 0x18000), (9, 0x18000)]
/-- x2 = 0x2_8000, in a granule that has no translation: the Lamplighter has answered for it with none, or has not answered. -/
def faulting : State := demoWith fun h => { withX h [(2, 0x28000)] with xnone := some 2 }
@[inherit_doc faulting] def missing : State := demoWith fun h => withX h [(2, 0x28000)]
/-- One piece of `n` bytes at `loc8`. -/
def piece (n : Nat) : List (Target × Nat) := [(.mem loc8 .normal, n)]

/-- The three cases: a divisor 0, the overflow, and neither, in which the remainder is negative. -/
theorem witness_DivisionNeverTraps :
    (addressed.getX 0).toInt = 0 ∧ ((addressed.getX 4).toInt = -2 ^ 63 ∧ (addressed.getX 3).toInt = -1)
      ∧ ((addressed.getX 4).toInt ≠ 0 ∧ ¬((addressed.getX 3).toInt = -2 ^ 63 ∧ (addressed.getX 4).toInt = -1)) := by decide +kernel

/-- Each load at the first address of the page, and at the last aligned one below it by the immediate. -/
theorem witness_LoadsReadMemory : addressed.Quiet ∧ addressed.Sound
    ∧ (∀ p ∈ loads, addressed.Reaches (addressed.getX 2 + (0 : BitVec 11).signExtend 64) p.2.1 .read (piece p.2.1))
    ∧ (∀ p ∈ orderedLoads, (addressed.getX 2).toNat % p.2.1 = 0 ∧ addressed.Reaches (addressed.getX 2) p.2.1 .read (piece p.2.1))
    ∧ addressed.Reaches (addressed.getX 8 + BitVec.ofNat 64 (8 * 0)) 8 .read (piece 8)
    ∧ addressed.Reaches (addressed.getX 8 + BitVec.ofNat 64 (4 * 0)) 4 .read (piece 4)
    ∧ addressed.Reaches (addressed.getX 2 + BitVec.ofNat 64 (8 * 63)) 8 .read [(.mem (loc8 + 504) .normal, 8)] := by
  refine ⟨quiet_of (by decide +kernel), sound_of (by decide +kernel), fun p hp => reaches_of ?_, fun p hp => ⟨?_, reaches_of ?_⟩,
    reaches_of (by decide +kernel), reaches_of (by decide +kernel), reaches_of (by decide +kernel)⟩
  all_goals revert p; decide +kernel

theorem witness_StoresWriteMemory : addressed.Quiet ∧ addressed.Sound ∧ ordinary (piece 8)
    ∧ (∀ p ∈ stores, addressed.Reaches (addressed.getX 2 + (0 : BitVec 11).signExtend 64) p.2 .write (piece p.2))
    ∧ (∀ p ∈ orderedStores, (addressed.getX 2).toNat % p.2 = 0 ∧ addressed.Reaches (addressed.getX 2) p.2 .write (piece p.2))
    ∧ addressed.Reaches (addressed.getX 8 + BitVec.ofNat 64 (8 * 0)) 8 .write (piece 8)
    ∧ addressed.Reaches (addressed.getX 8 + BitVec.ofNat 64 (4 * 0)) 4 .write (piece 4)
    ∧ addressed.Reaches (addressed.getX 2 + BitVec.ofNat 64 (8 * 0)) 8 .write (piece 8) := by
  refine ⟨quiet_of (by decide +kernel), sound_of (by decide +kernel), ?_, fun p hp => reaches_of ?_, fun p hp => ⟨?_, reaches_of ?_⟩,
    reaches_of (by decide +kernel), reaches_of (by decide +kernel), reaches_of (by decide +kernel)⟩
  · intro p hp loc ty h
    simp only [piece, List.mem_singleton] at hp
    subst hp
    cases h
    decide
  all_goals revert p; decide +kernel

/-- amocas where the old value is that of xd (x0) and where it is not (x3), at the lowest location that the statement covers too. -/
theorem witness_AtomicsExchange : addressed.Quiet ∧ addressed.Sound ∧ 0xB8000 ≤ loc8 ∧ (addressed.getX 2).toNat % 8 = 0
    ∧ addressed.Reaches (addressed.getX 2) 8 .rmw (piece 8) ∧ BitVec.ofNat 64 (addressed.peekNat loc8 8) = addressed.getX 0
    ∧ BitVec.ofNat 64 (addressed.peekNat loc8 8) ≠ addressed.getX 3 :=
  ⟨quiet_of (by decide +kernel), sound_of (by decide +kernel), by decide, by decide +kernel, reaches_of (by decide +kernel),
    by decide +kernel, by decide +kernel⟩

theorem witness_FixedPointAdds : addressed.Quiet ∧ addressed.Sound ∧ 0xB8000 ≤ loc8 ∧ (addressed.getX 2).toNat % 16 = 0
    ∧ addressed.Reaches (addressed.getX 2) 16 .rmw (piece 16) :=
  ⟨quiet_of (by decide +kernel), sound_of (by decide +kernel), by decide, by decide +kernel, reaches_of (by decide +kernel)⟩

/-- A fault and a miss of each access, and an odd address for each ordered access and atomic of more than a byte. -/
theorem witness_AccessFaultsTrap : faulting.Quiet ∧ missing.Quiet ∧ addressed.Quiet ∧ faulting.Sound ∧ missing.Sound ∧ addressed.Sound
    ∧ (∀ p ∈ loads, (faulting.pieces faulting.cur (faulting.getX 2 + (0 : BitVec 11).signExtend 64).toNat p.2.1 .read
          = .trap { cause := .page, acc := .read, tval := 0x28000 })
        ∧ missing.pieces missing.cur (missing.getX 2 + (0 : BitVec 11).signExtend 64).toNat p.2.1 .read = .miss 0x28000 .read)
    ∧ (∀ p ∈ stores, (faulting.pieces faulting.cur (faulting.getX 2 + (0 : BitVec 11).signExtend 64).toNat p.2 .write
          = .trap { cause := .page, acc := .write, tval := 0x28000 })
        ∧ missing.pieces missing.cur (missing.getX 2 + (0 : BitVec 11).signExtend 64).toNat p.2 .write = .miss 0x28000 .write)
    ∧ (∀ p ∈ orderedLoads, p.2.1 ≠ 1 → (addressed.getX 5).toNat % p.2.1 ≠ 0)
    ∧ (∀ p ∈ orderedStores, p.2 ≠ 1 → (addressed.getX 5).toNat % p.2 ≠ 0)
    ∧ (addressed.getX 5).toNat % 8 ≠ 0 ∧ (addressed.getX 5).toNat % 16 ≠ 0 := by
  refine ⟨quiet_of (by decide +kernel), quiet_of (by decide +kernel), quiet_of (by decide +kernel), sound_of (by decide +kernel),
    sound_of (by decide +kernel), sound_of (by decide +kernel), ?_, ?_, ?_, ?_, ?_, ?_⟩ <;>
    decide +kernel

/-- The first and the last integer type, and every source format. -/
theorem witness_FloatResults : (0 : BitVec 5).toNat < 4 ∧ (3 : BitVec 5).toNat < 4
    ∧ ∀ ty : Fin 8, ty ≠ 0 → (Fmt.ofCode ty.val).isSome = true := by decide

/-- 1.0 and the largest number of FP32. -/
theorem witness_RoundingKeepsValues : (0x3F800000 < 2 ^ Fmt.f32.width ∧ Fmt.f32.value 0x3F800000 = .fin false 0x800000 (-23))
    ∧ (0x7F7FFFFF < 2 ^ Fmt.f32.width ∧ Fmt.f32.value 0x7F7FFFFF = .fin false 0xFFFFFF 104) := by decide +kernel

/-- A copy in flight. -/
def inFlight : Entry := { no := 0, kind := .copy, stream := 0, rdlo := 0, rdhi := 0, wrlo := 0, wrhi := 0, progress := 0 }

theorem witness_FencesAndYield : demo.Quiet ∧ (let s := demoWith fun h => { h with ilock := [inFlight] }
    s.h.ilock ≠ [] ∧ s.h.wfail = none ∧ (∀ st : Fin 16, s.h.stm[st].state ≠ .error) ∧ (3 : BitVec 2) ≠ 1) :=
  ⟨quiet_of (by decide +kernel), by decide +kernel⟩

/-- The hart of `addressed` with a monitor. -/
def watching (hit rearm : Bool) : State :=
  addressed.setHart demo.cur { addressed.h with mon := some { va := 0x18000, sector := loc8 / 64, hit := hit, rearm := rearm } }

theorem witness_MonitorAndWait : addressed.Quiet ∧ (watching true false).Quiet ∧ (watching false true).Quiet ∧ (watching false false).Quiet
    ∧ (addressed.getX 2).toNat % 8 = 0 ∧ addressed.translate addressed.cur (addressed.getX 2).toNat .read = .ok (.mem loc8 .normal)
    ∧ addressed.h.mon = none ∧ (watching true false).h.mon.isSome ∧ (watching false true).h.mon.isSome := by
  refine ⟨quiet_of ?_, quiet_of ?_, quiet_of ?_, quiet_of ?_, ?_⟩ <;> decide +kernel

/-- A counter at its limit, and one below it, for a scalar-only hart and for one with lanes. -/
theorem witness_ClaimTakesElements : addressed.Quiet ∧ addressed.Sound ∧ 0xB8000 ≤ loc8 ∧ (addressed.getX 2).toNat % 16 = 0
    ∧ (addressed.h.vs.qcount ≠ 0 → addressed.h.vs.cfg.ill = false)
    ∧ addressed.translate addressed.cur (addressed.getX 2).toNat .rmw = .ok (.mem loc8 .normal)
    ∧ (withMem addressed (loc8 + 8) 8 1).peekNat loc8 8 < (withMem addressed (loc8 + 8) 8 1).peekNat (loc8 + 8) 8 := by
  refine ⟨quiet_of (by decide +kernel), sound_of (by decide +kernel), ?_⟩
  decide +kernel

/-- A hart whose user handler is enabled, one in the handler, one at FIRMWARE, and one in the firmware handler. -/
def trapping : State := demoWith fun h => { h with trap := { h.trap with en := true, base := 0x4000 } }
@[inherit_doc trapping] def handling : State := demoWith fun h => { h with trap := { h.trap with en := true }, inh := true }
@[inherit_doc trapping] def firmware : State := demoWith fun h => { withX h [(2, 0x18000)] with priv := true }
@[inherit_doc trapping] def inFirmware : State := demoWith fun h => { h with priv := true, inf := true }
/-- Exceptions of the user handler, with and without an error to count, and one of the firmware. -/
def arith : Exc := { cause := .arith, acc := .read, tval := 1 }
@[inherit_doc arith] def dataerr : Exc := { cause := .dataerr, acc := .read, tval := 1 }
@[inherit_doc arith] def page : Exc := { cause := .page, acc := .write, tval := 1 }
@[inherit_doc arith] def mcheck : Exc := { cause := .mcheck, acc := .read, tval := 1 }

theorem witness_UserTrapEntry : userCause arith.cause ∧ userCause dataerr.cause ∧ trapping.h.priv = false ∧ trapping.h.inh = false
    ∧ trapping.h.trap.en = true ∧ arith.cause ≠ .dataerr ∧ arith.stream = none := by
  unfold userCause
  decide +kernel

theorem witness_FirmwareTrapAndReturn : (page.cause ≠ .dataerr ∧ page.stream = none ∧ ¬userCause page.cause)
    ∧ (mcheck.cause = .mcheck ∧ mcheck.stream = none ∧ ¬userCause mcheck.cause) ∧ demo.h.inf = false ∧ demo.Sound
    ∧ demo.launchOf demo.cur = none ∧ inFirmware.h.inf = true ∧ inFirmware.Sound ∧ (firmware.h.priv = true ∧ firmware.h.inf = false)
    ∧ (handling.h.inf = false ∧ handling.h.inh = true) ∧ (demo.h.inf = false ∧ demo.h.inh = false) := by
  unfold userCause
  refine ⟨by decide, by decide, by decide +kernel, sound_of (by decide +kernel), by decide +kernel, by decide +kernel,
    sound_of (by decide +kernel), ?_⟩
  decide +kernel

theorem witness_UntakenTrapStops : demo.Sound ∧ handling.Sound ∧ userCause arith.cause ∧ arith.cause ≠ .dataerr ∧ arith.stream = none
    ∧ demo.cur.slot ≠ 7 ∧ demo.h.st = .running ∧ demo.h.priv = false ∧ (demo.h.inh = false ∧ demo.h.trap.en = false)
    ∧ handling.h.st = .running ∧ handling.h.priv = false ∧ handling.h.inh = true :=
  ⟨sound_of (by decide +kernel), sound_of (by decide +kernel), by unfold userCause; decide +kernel⟩

theorem witness_CallAndBreakTrap : (trapping.h.priv = false ∧ trapping.h.inh = false ∧ trapping.h.trap.en = true)
    ∧ (firmware.h.priv = true ∧ firmware.h.inf = false) := by decide +kernel

/-- The Lamplighter of die 0: slot 7 of core 0, at FIRMWARE. -/
def lamp : State := { demo with cur := { die := 0, core := 0, slot := 7 } }.setHart { die := 0, core := 0, slot := 7 }
  { withX Hart.reset [(2, 0x18000)] with st := .running, priv := true, space := demo.h.space }

/-- The Lamplighter in its firmware handler: a firmware trap halts its die. -/
theorem witness_FirmwareTrapAndReturn_lamp : let s := lamp.setHart lamp.cur { lamp.h with inf := true }
    s.Sound ∧ s.h.priv = true ∧ s.h.inf = true ∧ s.cur.slot = 7 :=
  ⟨sound_of (by decide +kernel), by decide +kernel⟩

theorem witness_StatusReads : firmware.h.priv = true ∧ lamp.Sound ∧ lamp.h.priv = true ∧ lamp.cur.slot = 7 :=
  ⟨by decide +kernel, sound_of (by decide +kernel), by decide +kernel⟩

/-- Each writable register reads something in a hart that may write it. -/
theorem witness_StatusWrites : demo.Sound ∧ firmware.Sound ∧ lamp.Sound ∧ (userWritable.all fun p => (demo.status p.1.toNat).isSome) = true
    ∧ (demo.status 0x044).isSome = true ∧ (firmwareWritable.all fun p => firmware.h.priv && (firmware.status p.1.toNat).isSome) = true
    ∧ (lamplighterWritable.all fun p => lamp.h.priv && lamp.cur.slot == 7 && (lamp.status p.1.toNat).isSome) = true :=
  ⟨sound_of (by decide +kernel), sound_of (by decide +kernel), sound_of (by decide +kernel), by decide +kernel⟩

theorem witness_PrivilegeRefusals : demo.h.priv = false ∧ 0x800 ≤ (0x800 : BitVec 12).toNat ∧ (0x829 : BitVec 12).toNat ∉ assigned
    ∧ (0x810 ≤ (0x814 : BitVec 12).toNat ∧ (0x814 : BitVec 12).toNat ≤ 0x814 ∧ demo.cur.slot ≠ 7) := by decide +kernel

/-- A FIRMWARE hart with another running in slot 1, whose number is in x6 of it; x7 names slot 7 and x8 an empty slot. -/
def withPeer : State :=
  (demoWith fun h => { withX h [(6, 1), (7, 7), (8, 2)] with priv := true }).setHart slot1 { Hart.reset with st := .running }

theorem witness_StopAndHstop : (demo.Quiet ∧ demo.h.convoy = [] ∧ demo.h.st = .running)
    ∧ withPeer.h.priv = true
    ∧ (slot1.die = withPeer.cur.die ∧ slot1.slot.val = (withPeer.getX 6).toNat % 8 ∧ slot1.core.val = (withPeer.getX 6).toNat / 8 % 256
        ∧ slot1 ≠ withPeer.cur ∧ (withPeer.hart slot1).st = .running ∧ (withPeer.hart slot1).wfail = none
        ∧ ∀ st : Fin 16, (withPeer.hart slot1).stm[st].state ≠ .error)
    ∧ (withPeer.getX 7).toNat % 8 = 7 ∧ (withPeer.hart { die := 0, core := 0, slot := 2 }).st = .empty :=
  ⟨⟨quiet_of (by decide +kernel), by decide +kernel⟩, by decide +kernel⟩

/-- A FIRMWARE hart with a descriptor at x2 whose GANGSIZE is 1 hart and 1 gang, and PLACE `place`. -/
def spawning (place : Nat) : State := withMem firmware (loc8 + 40) 16 (1 + 2 ^ 16 + place * 2 ^ 64)
/-- The descriptor read there. -/
def described (s : State) : Option Descriptor :=
  match s.readBytes s.cur (s.getX 2).toNat 128 .read with | .ok bs => some (Descriptor.ofNat (leNat bs)) | _ => none

/-- A bad descriptor (slot 7), an occupied slot (slot 0), a partition that overlaps the parent's, and one that can be made. -/
theorem witness_SpawnAnswers : (spawning 0).Quiet ∧ (spawning 0).Sound ∧ (spawning 0).h.priv = true ∧ (spawning 0).h.st = .running
    ∧ ((spawning 0).getX 2).toNat % 128 = 0
    ∧ (∃ k ∈ described (spawning 0x700), k.bad = true)
    ∧ (∃ k ∈ described (spawning 0), k.bad = false ∧ (spawning 0).vacant (k.place? 0) = false)
    ∧ (let s := spawning 0x10100; ∃ k ∈ described s, k.bad = false ∧ s.vacant (k.place? 0) = true ∧ s.noLanes (k.place? 0) k = true)
    ∧ (let s := spawning 0x100; ∃ k ∈ described s, k.bad = false ∧ s.vacant (k.place? 0) = true ∧ s.noLanes (k.place? 0) k = false
        ∧ k.image = 0) :=
  ⟨quiet_of (by decide +kernel), sound_of (by decide +kernel), by decide +kernel⟩

/-- The Lamplighter with a running hart of gang 0 beside it; x2 names a gang with no hart. -/
theorem witness_GangSuspendBegins : lamp.Sound ∧ lamp.h.priv = true ∧ lamp.cur.slot = 7 ∧ (lamp.getX 2).toNat % 8 = 0
    ∧ lamp.members 0 (lamp.getX 2) = [] ∧ lamp.members 0 (lamp.getX 0) ≠ [] ∧ lamp.suspending 0 (lamp.getX 0) = false
    ∧ (∀ q ∈ lamp.harts, q.2.wfail = none ∧ q.2.phase ≠ .drain ∧ q.2.phase ≠ .empty)
    ∧ (match lamp.readTable (lamp.getX 2).toNat (lamp.members 0 (lamp.getX 0)) with | .ok _ => true | _ => false) = true :=
  ⟨sound_of (by decide +kernel), by decide +kernel⟩

/-- Reserved bits, a stack with no quarters, one held by another gang, and one that is free. -/
def leasing : State := { demoWith fun h => { withX h [(6, 0x10), (7, 1), (8, 0x101), (9, 0x100)] with priv := true } with
  quarters := [(0, 1), (1, 1)], leases := [(1, { die := 0, gang := 9, ends := 100 })] }

theorem witness_QuarterLeases : leasing.h.priv = true ∧ leasing.mapsOk ∧ (leasing.getX 6).toNat / 16 % 16 ≠ 0
    ∧ leasing.quarterCount 2 = 0 ∧ (leasing.quarterCount 1 ≠ 0 ∧ (leasing.leaseOf 1).any (fun l => l.gang != leasing.getX 0) = true)
    ∧ (leasing.quarterCount 0 ≠ 0 ∧ leasing.leaseOf 0 = none) :=
  ⟨by decide +kernel, (sound_of (s := leasing) (by decide +kernel)).1, by decide +kernel⟩

theorem witness_HintsDoNothing : convoyClass (0 : Word).toNat = false := by decide +kernel

/-- TLBINV while an invalidation is under way, and while none is. -/
theorem witness_StatusWrites_busy : let s := lamp.setDie 0 { lamp.die 0 with tlbinv := 1 }
    s.Sound ∧ s.h.priv = true ∧ s.cur.slot = 7 ∧ (s.die 0).tlbinv.getLsbD 0 = true ∧ (lamp.die 0).tlbinv.getLsbD 0 = false :=
  ⟨sound_of (by decide +kernel), by decide +kernel⟩

/-- A firmware hart of slot 0 with a gang 0 about it, and a table at an odd address. -/
theorem witness_GangSuspendBegins_slot0 : let s := withPeer.setHart withPeer.cur (withX withPeer.h [(2, 0x18000)])
    s.Sound ∧ s.h.priv = true ∧ s.cur.slot = 0 ∧ (s.getX 6).toNat % 8 ≠ 0 ∧ (s.getX 2).toNat % 8 = 0 ∧ s.members 0 (s.getX 0) ≠ []
    ∧ s.suspending 0 (s.getX 0) = false ∧ (∀ q ∈ s.harts, q.2.wfail = none ∧ q.2.phase ≠ .drain ∧ q.2.phase ≠ .empty)
    ∧ (match s.readTable (s.getX 2).toNat (s.members 0 (s.getX 0)) with | .ok _ => true | _ => false) = true :=
  ⟨sound_of (by decide +kernel), by decide +kernel⟩

/-- The pieces of an access to NORMAL memory from a location on, of these sizes. -/
def runOf : Nat → List Nat → List (Target × Nat)
  | _, [] => []
  | loc, n :: ns => (.mem loc .normal, n) :: runOf (loc + n) ns

theorem peekN_add (s : State) : ∀ (a loc b : Nat), s.peekN loc (a + b) = s.peekN loc a ++ s.peekN (loc + a) b
  | 0, loc, b => by simp [State.peekN]
  | a + 1, loc, b => by
    rw [show a + 1 + b = (a + b) + 1 by omega, State.peekN, State.peekN, peekN_add s a (loc + 1) b, show loc + 1 + a = loc + (a + 1) by omega]
    rfl

theorem peekN_length (s : State) : ∀ n loc, (s.peekN loc n).length = n
  | 0, _ => rfl
  | n + 1, loc => congrArg (· + 1) (peekN_length s n (loc + 1))

theorem readPieces_run {s : State} (hq : s.Quiet) : ∀ (ns : List Nat) (va loc : Nat),
    s.readPieces s.cur va .read (runOf loc ns) = .ok (s.peekN loc ns.sum)
  | [], _, _ => rfl
  | n :: ns, va, loc => by
    have hp : (s.hart s.cur).posted = [] := hq.writes
    have h1 : s.readPiece s.cur va .read (.mem loc .normal, n) = .ok (s.peekN loc n) := by
      have ho : s.ownWrites s.cur = [] := by unfold State.ownWrites; cases s.launchOf s.cur <;> simp [hq.journal]
      simp [State.readPiece, State.awaits_none hp, State.badByte, hq.sectors, State.overlay, ho]
    unfold runOf State.readPieces
    simp only [h1, readPieces_run hq ns (va + n) (loc + n), List.sum_cons, peekN_add]

theorem peekN_poked {s : State} {m : List Host.Cell} {loc : Nat} {bs : List Byte} (hm : Map.rises m) (h : s.mem = pokeBytes m loc bs) :
    s.peekN loc bs.length = bs := by
  have hk : ∀ k (h : k < bs.length), s.peek (loc + k) = bs[k] := fun k hk => by
    unfold State.peek; rw [h]; exact pokeBytes_get_inside bs loc hm hk
  clear h
  revert hk
  generalize loc = l
  induction bs generalizing l with
  | nil => intro _; rfl
  | cons b bs ih =>
    intro hk
    rw [List.length_cons, State.peekN, ih (l + 1) fun k h => by
      rw [show l + 1 + k = l + (k + 1) by omega, hk (k + 1) (by simpa using h)]; rfl]
    have := hk 0 (by simp)
    simp_all

theorem peekN_apart {s s₀ : State} {at_ : Nat} {bs : List Byte} (hm : Map.rises s₀.mem) (h : s.mem = pokeBytes s₀.mem at_ bs) :
    ∀ (n loc : Nat), loc + n ≤ at_ → s.peekN loc n = s₀.peekN loc n
  | 0, _, _ => rfl
  | n + 1, loc, hl => by
    unfold State.peekN
    rw [peekN_apart hm h n (loc + 1) (by omega)]
    unfold State.peek
    rw [h, pokeBytes_get_outside bs at_ hm (by omega)]

/-- A read of a run is the bytes that lie there. -/
theorem readBytes_run {s : State} {va n loc : Nat} {ns : List Nat} (hq : s.Quiet) (hp : s.pieces s.cur va n .read = .ok (runOf loc ns)) :
    s.readBytes s.cur va n .read = .ok (s.peekN loc ns.sum) := by
  unfold State.readBytes; rw [hp]; exact readPieces_run hq ns va loc

theorem leNat_leBytes : ∀ (n w : Nat), leNat (leBytes n w) = w % 2 ^ (8 * n)
  | 0, w => by simp [leBytes, leNat, Nat.mod_one]
  | n + 1, w => by
    have h := leNat_leBytes n (w / 256)
    unfold leBytes leNat
    rw [h]
    rw [BitVec.toNat_ofNat, show 8 * (n + 1) = 8 + 8 * n by omega, Nat.pow_add, Nat.mod_mul]

theorem inBytes_length : ∀ ws : List Nat, (inBytes ws).length = 8 * ws.length
  | [] => rfl
  | w :: ws => by
    have h := inBytes_length ws
    simp only [inBytes, List.flatMap_cons, List.length_append, leBytes_length, List.length_cons] at h ⊢
    omega

/-- A doubleword of bytes made from doublewords. -/
theorem imageWord_inBytes : ∀ (ws : List Nat) (k : Nat), imageWord (inBytes ws) (8 * k) = ws.getD k 0 % 2 ^ 64
  | [], k => by simp [inBytes, imageWord, leNat]
  | w :: ws, 0 => by
    simp only [imageWord, inBytes, List.flatMap_cons, Nat.mul_zero, List.drop_zero, List.take_left' (leBytes_length 8 w), leNat_leBytes]
    rfl
  | w :: ws, k + 1 => by
    have h := imageWord_inBytes ws k
    simp only [imageWord, inBytes, List.flatMap_cons] at h ⊢
    rw [show 8 * (k + 1) = 8 + 8 * k by omega, ← List.drop_drop, List.drop_left' (leBytes_length 8 w), h]
    rfl

/-- The doublewords of an image of a scalar-only hart with nothing in it, with a CHECK, and the one that it must have. -/
def imageAt (check k : Nat) : Nat :=
  if k = 0 then 0x48454154 + 2 ^ 32 else if k = 3 then 2 ^ 38 else if k = 5 then check
  else if k = 1 ∨ 6 ≤ k ∧ k < 9 then 6880 else if 592 ≤ k ∧ k < 848 ∧ k % 4 = 0 then 0x80 else 0
@[inherit_doc imageAt] def imageWords (check : Nat) : List Nat := (List.range 860).map (imageAt check)
@[inherit_doc imageAt] noncomputable def goodCheck : Nat := leNat (Config.shake256 8 (inBytes (imageWords 0))) % 2 ^ 64
@[inherit_doc imageAt] noncomputable def imaged : List Byte := inBytes (imageWords goodCheck)
/-- A spawn from that image, at VA 0x1_9000. -/
def described128 : State := withMem (spawning 0x100) (loc8 + 56) 8 0x19000
@[inherit_doc described128] noncomputable def restoring : State := { described128 with mem := pokeBytes described128.mem 0x1009000 imaged }
/-- Its descriptor: GANGSIZE 1 hart and 1 gang, PLACE slot 1 with no quartets, IMAGE. -/
def restored128 : Descriptor := Descriptor.ofNat ((1 + 2 ^ 16 + 0x100 * 2 ^ 64) * 2 ^ 320 + 0x19000 * 2 ^ 448)

theorem described_word : leNat (described128.peekN loc8 128) = (1 + 2 ^ 16 + 0x100 * 2 ^ 64) * 2 ^ 320 + 0x19000 * 2 ^ 448 := by
  decide +kernel

theorem imaged_word (k : Nat) : imageWord imaged (8 * k) = (if k < 860 then imageAt goodCheck k else 0) % 2 ^ 64 := by
  rw [imaged, imageWord_inBytes, imageWords, List.getD_eq_getElem?_getD, List.getElem?_map]
  by_cases h : k < 860
  · rw [List.getElem?_range h, if_pos h]; rfl
  · rw [List.getElem?_eq_none (by rw [List.length_range]; omega), if_neg h]; rfl

theorem imaged_length : imaged.length = 6880 := by simp [imaged, inBytes_length, imageWords]

theorem range_split (f : Nat → Nat) (n : Nat) :
    (List.range (6 + n)).map f = (List.range 5).map f ++ f 5 :: (List.range n).map fun k => f (6 + k) := by
  rw [List.range_add, List.map_append, List.map_map, List.range_succ, List.map_append, List.append_assoc]
  rfl

theorem imageWords_split (c : Nat) : imageWords c = (List.range 5).map (imageAt 0) ++ c :: (List.range 854).map fun k => imageAt 0 (6 + k) := by
  rw [imageWords, show 860 = 6 + 854 by decide, range_split, show (fun k => imageAt c (6 + k)) = fun k => imageAt 0 (6 + k) by
    funext k; simp [imageAt, show 6 + k ≠ 5 by omega]]
  rfl

theorem imaged_check : imageWord imaged 40
    = leNat (Config.shake256 8 (imaged.take 40 ++ List.replicate 8 0 ++ imaged.drop 48)) % 2 ^ 64 := by
  have hi (c : Nat) : inBytes (imageWords c) = inBytes ((List.range 5).map (imageAt 0))
      ++ (leBytes 8 c ++ inBytes ((List.range 854).map fun k => imageAt 0 (6 + k))) := by
    rw [imageWords_split]; simp only [inBytes, List.flatMap_append, List.flatMap_cons]
  have h40 : (inBytes ((List.range 5).map (imageAt 0))).length = 40 := by rw [inBytes_length]; rfl
  have hz : imaged.take 40 ++ List.replicate 8 0 ++ imaged.drop 48 = inBytes (imageWords 0) := by
    unfold imaged
    rw [hi, hi, List.take_left' h40, show 48 = 40 + 8 by rfl, ← List.drop_drop, List.drop_left' h40, List.drop_left' (leBytes_length 8 _),
      List.append_assoc]
    rfl
  rw [hz, show 40 = 8 * 5 by rfl, imaged_word, show (if 5 < 860 then imageAt goodCheck 5 else 0) = goodCheck by rfl, goodCheck, Nat.mod_mod]

theorem imaged_tags : ∀ r < 64, tagWord imaged r = 0x80 := by
  intro r hr
  unfold tagWord
  rw [show 4736 + 32 * r = 8 * (592 + 4 * r) by omega, imaged_word]
  revert r
  decide +kernel

theorem imaged_masks : ∀ m < 8, maskExt imaged m = 0 := by
  intro m hm
  unfold maskExt
  rw [show 6784 + 8 * m = 8 * (848 + m) by omega, imaged_word]
  revert m
  decide +kernel

theorem imaged_channels : ∀ c ≤ 4, channelAt imaged c = 6848 + 8 * c
  | 0, _ => rfl
  | c + 1, hc => by
    unfold channelAt
    rw [imaged_channels c (by omega), show 6848 + 8 * c = 8 * (856 + c) by omega, imaged_word]
    have : ∀ c < 4, (if 856 + c < 860 then imageAt goodCheck (856 + c) else 0) % 2 ^ 64 = 0 := by decide +kernel
    rw [this c (by omega)]
    simp; omega

theorem imaged_fields : ∀ p ∈ imageFields, imageWord imaged p.1 &&& p.2 = imageWord imaged p.1 := by
  have h : (imageFields.all fun p => decide (p.1 % 8 = 0 ∧ p.1 / 8 ≠ 5 ∧ p.1 / 8 < 860) && (imageAt 0 (p.1 / 8) &&& p.2) == imageAt 0 (p.1 / 8)
      && decide (imageAt 0 (p.1 / 8) < 2 ^ 64)) = true := by decide +kernel
  intro p hp
  have := List.all_eq_true.mp h p hp
  simp only [Bool.and_eq_true, beq_iff_eq, decide_eq_true_eq] at this
  obtain ⟨⟨⟨h8, h5, hl⟩, hm⟩, hs⟩ := this
  rw [show p.1 = 8 * (p.1 / 8) by omega, imaged_word, if_pos hl, show imageAt goodCheck (p.1 / 8) = imageAt 0 (p.1 / 8) by simp [imageAt, h5],
    Nat.mod_eq_of_lt hs]
  simpa [show 8 * (p.1 / 8) = p.1 by omega] using hm

theorem imaged_good : ¬BadImage restored128 imaged := by
  have w := imaged_word
  have hs : ((List.range 8).map fun k => imageSpan 1 (maskExt imaged k)).sum = 0 := by
    rw [List.map_congr_left fun m hm => by rw [imaged_masks m (List.mem_range.mp hm)]]; rfl
  have ht : ∀ n ≤ 64, ((List.range n).map (tagBytes imaged)).sum = 0 := by
    intro n hn
    rw [List.map_congr_left (g := fun _ => 0) fun r hr => by
      unfold tagBytes; rw [imaged_tags r (by have := List.mem_range.mp hr; omega)]; rfl]
    simp
  have h58 : imageWord imaged 464 = 0 := by rw [show 464 = 8 * 58 by rfl, w]; decide +kernel
  have hb : ((List.range 8).map (blockBytes imaged)).sum = 0 := by
    rw [List.map_congr_left (g := fun _ => 0) fun b _ => by simp [blockBytes, blockWide, h58]]; rfl
  have h0 : imageWord imaged 0 = 0x48454154 + 2 ^ 32 := by rw [show 0 = 8 * 0 by rfl, w]; decide +kernel
  have h8 : imageWord imaged 8 = 6880 := by rw [show 8 = 8 * 1 by rfl, w]; decide +kernel
  have h16 : imageWord imaged 16 = 0 := by rw [show 16 = 8 * 2 by rfl, w]; decide +kernel
  have h24 : imageWord imaged 24 = 2 ^ 38 := by rw [show 24 = 8 * 3 by rfl, w]; decide +kernel
  have h48 : imageWord imaged 48 = 6880 := by rw [show 48 = 8 * 6 by rfl, w]; decide +kernel
  have h56 : imageWord imaged 56 = 6880 := by rw [show 56 = 8 * 7 by rfl, w]; decide +kernel
  have h64 : imageWord imaged 64 = 6880 := by rw [show 64 = 8 * 8 by rfl, w]; decide +kernel
  have h384 : imageWord imaged 384 = 0 := by rw [show 384 = 8 * 48 by rfl, w]; decide +kernel
  have hk : restored128.gangId = 0 ∧ restored128.index = 0 ∧ restored128.gen = 0 ∧ restored128.qcount = 0 ∧ restored128.nslot = 0
      ∧ restored128.pair = false := by decide +kernel
  obtain ⟨hg, hx, hn, hc, hl, hp⟩ := hk
  have e3 : blockAt imaged 8 = 6880 := by rw [blockAt, hb, h64]
  have e5 : maskAt imaged 8 = 6880 := by rw [maskAt, hs, h48]
  have e6 : dataAt imaged 64 = 6880 := by rw [dataAt, ht 64 (Nat.le_refl _), h56]
  unfold BadImage
  simp only [not_or, ne_eq, not_not]
  refine ⟨h0, h8.trans imaged_length.symm, h8.trans e3.symm, h48.trans (imaged_channels 4 (Nat.le_refl _)).symm, h56.trans e5.symm,
    h64.trans e6.symm, imaged_check, by rw [h16, hg]; rfl, by rw [h24, hx]; rfl, by rw [h24, hn]; rfl, by rw [h24, hc]; rfl,
    by rw [h24, hl]; rfl, by rw [h384, hl]; rfl, by rw [h24, hc]; rfl, by rw [h24, hp]; rfl, ?_, ?_, ?_, ?_, ?_⟩
  · rintro ⟨p, hp, h⟩; exact h (imaged_fields p hp)
  · rintro ⟨r, hr, h⟩
    simp only [tagEw, tagExtent, imaged_tags r hr] at h
    norm_num at h
  · rintro ⟨c, hc, h⟩
    have : imageWord imaged (channelAt imaged c) = 0 := by
      rw [imaged_channels c (by omega), show 6848 + 8 * c = 8 * (856 + c) by omega, w]
      revert c; decide +kernel
    omega
  · rintro ⟨n, hn, h⟩
    rw [show 2688 + 64 * n = 8 * (336 + 8 * n) by omega, w] at h
    revert h; revert n; decide +kernel
  · rintro ⟨m, hm, h⟩
    rw [imaged_masks m hm] at h
    omega

/-- What a state and the same with these bytes in memory have in common, and what it reads. -/
theorem poked_reads {s₀ s : State} {bs : List Byte} {n at_ va n₀ loc : Nat} {ns ns₀ : List Nat} (hs : s = { s₀ with mem := pokeBytes s₀.mem at_ bs })
    (hq₀ : s₀.Quiet) (hs₀ : s₀.Sound) (hl : bs.length = ns.sum) (hn : 128 ≤ ns.sum) (hb : loc + ns₀.sum ≤ at_)
    (h₀ : s.pieces s.cur n₀ ns₀.sum .read = .ok (runOf loc ns₀)) (h₁ : s.pieces s.cur va ns.sum .read = .ok (runOf at_ ns))
    (h₂ : s.pieces s.cur va 128 .read = .ok (runOf at_ [64, 64])) (hn : ns.sum = n) :
    s.Quiet ∧ s.Sound ∧ s.readBytes s.cur n₀ ns₀.sum .read = .ok (s₀.peekN loc ns₀.sum)
      ∧ s.readBytes s.cur va n .read = .ok bs
      ∧ ∃ hd, s.readBytes s.cur va 128 .read = .ok hd ∧ imageWord hd 8 = imageWord bs 8 := by
  have hr := Map.wf_rises _ hs₀.2.1
  have hp : s.mem = pokeBytes s₀.mem at_ bs := by rw [hs]
  have hq : s.Quiet := by rw [hs]; exact ⟨hq₀.1, hq₀.2, hq₀.3, hq₀.4, hq₀.5, hq₀.6⟩
  have hi : s.peekN at_ ns.sum = bs := by rw [← hl]; exact peekN_poked hr hp
  refine ⟨hq, by rw [hs]; exact ⟨hs₀.1, pokeBytes_wf bs _ hs₀.2.1, hs₀.2.2⟩, ?_, ?_, s.peekN at_ 128, readBytes_run hq h₂, ?_⟩
  · rw [readBytes_run hq h₀, peekN_apart hr hp _ _ hb]
  · subst hn; rw [readBytes_run hq h₁, hi]
  · have h := peekN_add s 128 at_ (ns.sum - 128)
    rw [show 128 + (ns.sum - 128) = ns.sum by omega, hi] at h
    rw [h, imageWord, imageWord, List.drop_append_of_le_length (by rw [peekN_length]; omega), List.take_append_of_le_length (by
      rw [List.length_drop, peekN_length]; omega)]

theorem pieces_mem (s : State) (m : List Host.Cell) (i : HartId) (acc : Acc) : ∀ va n,
    ({ s with mem := m } : State).pieces i va n acc = s.pieces i va n acc := by
  have hp : ∀ a b c d, ({ s with mem := m } : State).physTarget a b c acc d = s.physTarget a b c acc d := fun _ _ _ _ => rfl
  have ht : ∀ va, ({ s with mem := m } : State).translate i va acc = s.translate i va acc := fun va => by
    have h1 : ({ s with mem := m } : State).hart i = s.hart i := rfl
    have h2 : ({ s with mem := m } : State).pairedCore (coreOf i) = s.pairedCore (coreOf i) := rfl
    have h3 : ({ s with mem := m } : State).launchOf i = s.launchOf i := rfl
    have h4 : ∀ va, ({ s with mem := m } : State).workAt i va = s.workAt i va := fun _ => rfl
    have h5 : ({ s with mem := m } : State).die i.die = s.die i.die := rfl
    have h6 : ∀ a b c, ({ s with mem := m } : State).permits a b c = s.permits a b c := fun _ _ _ => rfl
    unfold State.translate
    simp only [h1, h2, h3, h4, h5, h6, hp]
  have : ∀ k va n, ({ s with mem := m } : State).piecesFrom i acc k va n = s.piecesFrom i acc k va n := by
    intro k
    induction k with
    | zero => intros; rfl
    | succ k ih => intro va n; simp only [State.piecesFrom, ih, ht]
  exact fun va n => this _ va n

theorem vacant_mem (s : State) (m : List Host.Cell) (i : HartId) : ({ s with mem := m } : State).vacant i = s.vacant i := rfl
theorem noLanes_mem {s : State} {bs : List Byte} {at_ : Nat} {i : HartId} {k : Descriptor} (hm : Map.rises s.mem) (hk : k.pair = false)
    (hl : fleetBlock (coreOf i).die.val + 0x400 + 8 * (coreOf i).core.val + 8 ≤ at_) :
    ({ s with mem := pokeBytes s.mem at_ bs } : State).noLanes i k = s.noLanes i k := by
  have h1 : ({ s with mem := pokeBytes s.mem at_ bs } : State).coreDown (coreOf i) = s.coreDown (coreOf i) :=
    congrArg (fun bs => bitAt (leNat bs) 8) (peekN_apart hm rfl _ _ hl)
  have h2 : ∀ c a b, ({ s with mem := pokeBytes s.mem at_ bs } : State).lanesFree c a b = s.lanesFree c a b := fun _ _ _ => rfl
  unfold State.noLanes
  simp only [h1, h2, hk, Bool.false_and]

theorem restores {s₀ s : State} {bs : List Byte} {k₀ : Descriptor} {ns : List Nat} (he : s = { s₀ with mem := pokeBytes s₀.mem 0x1009000 bs })
    (hq : s₀.Quiet) (hs : s₀.Sound) (hn : ns.sum = 6880) (hl : bs.length = 6880) (h8 : imageWord bs 8 = 6880) (hg : ¬BadImage k₀ bs)
    (hd : s₀.h.priv = true ∧ s₀.h.st = .running ∧ (s₀.getX 2).toNat % 128 = 0
      ∧ s₀.vacant (k₀.place? 0) = true ∧ s₀.noLanes (k₀.place? 0) k₀ = false)
    (hk : k₀.image = 0x19000 ∧ k₀.bad = false ∧ k₀.pair = false
      ∧ fleetBlock (coreOf (k₀.place? 0)).die.val + 0x400 + 8 * (coreOf (k₀.place? 0)).core.val + 8 ≤ 0x1009000)
    (hp : s₀.pieces s₀.cur (s₀.getX 2).toNat 128 .read = .ok (runOf loc8 [64, 64])
      ∧ s₀.pieces s₀.cur 0x19000 6880 .read = .ok (runOf 0x1009000 ns)
      ∧ s₀.pieces s₀.cur 0x19000 128 .read = .ok (runOf 0x1009000 [64, 64]))
    (hw : Descriptor.ofNat (leNat (s₀.peekN loc8 128)) = k₀) :
    s.Quiet ∧ s.Sound ∧ s.h.priv = true ∧ s.h.st = .running ∧ (s.getX 2).toNat % 128 = 0 ∧
    ∃ ws hd, s.readBytes s.cur (s.getX 2).toNat 128 .read = .ok ws ∧ (let k := Descriptor.ofNat (leNat ws)
      k.bad = false ∧ s.vacant (k.place? 0) = true ∧ s.noLanes (k.place? 0) k = false ∧ k.image ≠ 0
        ∧ s.readBytes s.cur k.image.toNat 128 .read = .ok hd ∧ imageWord hd 8 = 6880
        ∧ s.readBytes s.cur k.image.toNat 6880 .read = .ok bs ∧ k.image.toNat % 4096 = 0 ∧ ¬BadImage k bs) := by
  subst he
  obtain ⟨r1, r2, r3, r4, w, r5, r6⟩ := poked_reads (s := { s₀ with mem := pokeBytes s₀.mem 0x1009000 bs }) (ns := ns)
    (n := 6880) (ns₀ := [64, 64]) rfl hq hs (hl.trans hn.symm) (by omega) (by decide) ((pieces_mem ..).trans hp.1)
    ((pieces_mem ..).trans (by rw [hn]; exact hp.2.1)) ((pieces_mem ..).trans hp.2.2) hn
  refine ⟨r1, r2, hd.1, hd.2.1, hd.2.2.1, s₀.peekN loc8 [64, 64].sum, w, r3, ?_⟩
  have hw' : Descriptor.ofNat (leNat (s₀.peekN loc8 [64, 64].sum)) = k₀ := hw
  rw [hw']
  have he : k₀.image.toNat = 0x19000 := by rw [hk.1]; rfl
  dsimp only
  rw [vacant_mem, noLanes_mem (Map.wf_rises _ hs.2.1) hk.2.2.1 hk.2.2.2, he, hk.1]
  exact ⟨hk.2.1, hd.2.2.2.1, hd.2.2.2.2, by decide, r5, r6.trans h8, r4, by decide, hg⟩

/-- An image that restores the hart of its descriptor (R349, R350). -/
theorem witness_SpawnAnswers_image : let s := restoring
    s.Quiet ∧ s.Sound ∧ s.h.priv = true ∧ s.h.st = .running ∧ (s.getX 2).toNat % 128 = 0 ∧
    ∃ ws hd, s.readBytes s.cur (s.getX 2).toNat 128 .read = .ok ws ∧ (let k := Descriptor.ofNat (leNat ws)
      k.bad = false ∧ s.vacant (k.place? 0) = true ∧ s.noLanes (k.place? 0) k = false ∧ k.image ≠ 0
        ∧ s.readBytes s.cur k.image.toNat 128 .read = .ok hd ∧ imageWord hd 8 = 6880
        ∧ s.readBytes s.cur k.image.toNat 6880 .read = .ok imaged ∧ k.image.toNat % 4096 = 0 ∧ ¬BadImage k imaged) := by
  have hd : described128.h.priv = true ∧ described128.h.st = .running ∧ (described128.getX 2).toNat % 128 = 0
      ∧ described128.vacant (restored128.place? 0) = true ∧ described128.noLanes (restored128.place? 0) restored128 = false := by decide +kernel
  have hk : restored128.image = 0x19000 ∧ restored128.bad = false ∧ restored128.pair = false
      ∧ fleetBlock (coreOf (restored128.place? 0)).die.val + 0x400 + 8 * (coreOf (restored128.place? 0)).core.val + 8 ≤ 0x1009000 := by decide +kernel
  have hp : described128.pieces described128.cur (described128.getX 2).toNat 128 .read = .ok (runOf loc8 [64, 64])
      ∧ described128.pieces described128.cur 0x19000 6880 .read = .ok (runOf 0x1009000 (List.replicate 107 64 ++ [32]))
      ∧ described128.pieces described128.cur 0x19000 128 .read = .ok (runOf 0x1009000 [64, 64]) := by decide +kernel
  have hq : described128.Quiet := quiet_of (by decide +kernel)
  have hs : described128.Sound := sound_of (by decide +kernel)
  have hw : Descriptor.ofNat (leNat (described128.peekN loc8 128)) = restored128 := by rw [described_word]; rfl
  have h8 : imageWord imaged 8 = 6880 := (imaged_word 1).trans (by decide +kernel)
  have hn : (List.replicate 107 64 ++ [32]).sum = 6880 := by rw [List.sum_append, List.sum_replicate]; rfl
  have hl := imaged_length
  have hg := imaged_good
  exact restores rfl hq hs hn hl h8 hg hd hk hp hw

/-- An image with no MAGIC (and SIZE 0), and one whose SIZE is past the largest. -/
theorem witness_SpawnAnswers_badImage : let s := described128; let t := withMem described128 0x1009008 8 (2 ^ 40)
    s.Quiet ∧ t.Quiet ∧ s.Sound ∧ t.Sound ∧ restored128.image ≠ 0 ∧ described s = some restored128 ∧ described t = some restored128
    ∧ (match t.readBytes t.cur restored128.image.toNat 128 .read with | .ok hd => decide (56288 + 9 * 8388608 < imageWord hd 8) | _ => false) = true
    ∧ (match s.readBytes s.cur restored128.image.toNat 128 .read with | .ok hd => decide (imageWord hd 8 = 0) | _ => false) = true
    ∧ s.readBytes s.cur restored128.image.toNat 0 .read = .ok [] ∧ BadImage restored128 [] :=
  ⟨quiet_of (by decide +kernel), quiet_of (by decide +kernel), sound_of (by decide +kernel), sound_of (by decide +kernel),
    by decide +kernel, by decide +kernel, by decide +kernel, by decide +kernel, by decide +kernel, by decide +kernel,
    Or.inl (by decide +kernel)⟩

/-- A hart with `vl` elements of `sew` bits in `rows` rows; streams 0 and 1 of 16 bytes at VA 0x1_8000, read and written, stream 2 a sender. -/
def vec (sew vl rows : Nat) (f : Hart → Hart) : State :=
  demoWith fun h => f { withX h [(2, 0x18000), (3, 7), (4, 1)] with
    vs := { h.vs with cfg := { h.vs.cfg with sew := BitVec.ofNat 7 sew }, vl := vl, rows := rows }
    stm := (h.stm.set 0 (walking 0x18000 [16, 0, 0, 0] [1, 0, 0, 0] 8 0)).set 1 (walking 0x18000 [16, 0, 0, 0] [1, 0, 0, 0] 8 1) }
/-- No element of a source is bad, and every element is 0. -/
def vec8 : State := vec 8 4 1 id

theorem witness_VectorLengthGrants :
    vec8.Sound ∧ vec8.h.relay = false ∧ vec8.h.vs.qcount ≠ 0 ∧ ¬requestLegal (vec8.getX 0)
      ∧ requestLegal 0x20 ∧ requestLegal 0x100 ∧ (demoWith fun h => { h with vs := { h.vs with qcount := 0 } }).h.vs.qcount = 0 := by
  refine ⟨sound_of (by decide +kernel), ?_⟩
  unfold requestLegal
  decide +kernel

/-- A convoy of six members, with a seventh to join and an eighth after it. -/
def joining : State :=
  let member := fun (k : Fin 64) (first : Bool) => memberOf (.vaddVv first false k 60 61) false (.ew .add k 60 (.v 61))
  withMem (vec 8 4 1 fun h => { h with convoy := [member 1 true, member 2 false, member 3 false, member 4 false, member 5 false, member 6 false] })
    0x1000000 32 (leNat ((List.replicate 8 (encode (.vaddVv false false 7 60 61))).flatMap (leBytes 4)))

/-- The first and the seventh member of a convoy; a word with K = 0 and no convoy, and one with K = 1 in a convoy. -/
theorem witness_VectorWordsJoin :
    brings (.vaddVv false false 7 60 61) = some (false, false, .ew .add 7 60 (.v 61))
    ∧ brings (.vaddVv true false 7 60 61) = some (true, false, .ew .add 7 60 (.v 61))
    ∧ (vec8.h.phase = .open ∧ vec8.h.convoy = []) ∧ (joining.h.phase = .open ∧ joining.h.convoy ≠ [])
    ∧ (let m := memberOf (.vaddVv false false 7 60 61) false (.ew .add 7 60 (.v 61))
       joining.joinCheck m = .ok m ∧ (m.op.info joining.h false).closes = false ∧ joining.h.convoy.length = 6
        ∧ (match joining.fetch joining.cur (joining.h.pc.toNat + convoyBytes (joining.h.convoy ++ [m])) with
            | .ok (w, _) => joins w | _ => false) = true) :=
  ⟨rfl, rfl, by decide +kernel⟩

/-- The second row of a tile, from its third position on. -/
def tile : State := vec 8 4 2 fun h => { h with vs := { h.vs with vstart := 6 } }

/-- Masked, with a register, an x register and an immediate; and with a stream. -/
theorem witness_ElementwiseResults :
    (brings (.vaddVv true true 2 4 6) = some (true, true, .ew .add 2 4 (.v 6)) ∧ tile.Sound
      ∧ tile.Alone (.vaddVv true true 2 4 6) true (.ew .add 2 4 (.v 6)) ∧ tile.Gives (.v 6) 8 false (fun j e => tile.h.elem (6 + j) 8 e)
      ∧ tile.Gives (.x 3) 8 false (fun _ _ => 7) ∧ tile.Gives (.imm 63) 8 true (fun _ _ => 63) ∧ tile.h.vs.en = 0)
    ∧ vec8.Alone (.vaddVs true false 1 2 0) false (.ew .add 1 2 (.st 0))
    ∧ vec8.Gives (.st 0) 8 false (fun _ _ => 0) := by
  refine ⟨⟨rfl, sound_of (by decide +kernel), alone_of (by decide +kernel), fun _ _ => rfl,
    fun _ _ => (by decide +kernel : 7 = (tile.getX 3).toNat % 2 ^ 8), fun _ _ => (by decide : 63 = (63 : BitVec 6).toNat % 2 ^ 8),
    by decide +kernel⟩, alone_of (by decide +kernel),
    ⟨by unfold State.Clean; decide +kernel, walks_of (by decide +kernel), by decide +kernel, by decide +kernel, by decide +kernel⟩, fun _ _ => rfl⟩

theorem witness_CompareResults :
    brings (.vmseqVv true false 1 2 4) = some (true, false, .cmp .eq 1 2 (.v 4)) ∧ vec8.Sound
      ∧ vec8.Alone (.vmseqVv true false 1 2 4) false (.cmp .eq 1 2 (.v 4)) ∧ vec8.Gives (.v 4) 8 false (fun j e => vec8.h.elem (4 + j) 8 e)
      ∧ vec8.h.vs.en = 0 :=
  ⟨rfl, sound_of (by decide +kernel), alone_of (by decide +kernel), fun _ _ => rfl, by decide +kernel⟩

theorem witness_MaskLogicResults : (MaskOp.and, fun a b => a && b) ∈ maskOps
    ∧ brings (.vmand true 1 2 3) = some (true, false, .mask .and 1 2 3) ∧ vec8.Sound ∧ vec8.Alone (.vmand true 1 2 3) false (.mask .and 1 2 3) :=
  ⟨List.mem_cons_self .., rfl, sound_of (by decide +kernel), alone_of (by decide +kernel)⟩

/-- Each scalar result; vsget at the last selector. -/
theorem witness_ScalarResultsOfVectors : vec8.Sound ∧ vec8.Alone (.vmcpop true 5 1) false (.mcpop 5 1)
    ∧ vec8.Alone (.vmfirst true 5 1) false (.mfirst 5 1) ∧ vec8.Alone (.vmvXE true 5 2 3) false (.elem 5 2 3)
    ∧ vec8.Alone (.vshape true 5 2) false (.shape 5 2) ∧ vec8.Alone (.vshapeU true 5 2) false (.shapeU 5 2)
    ∧ vec8.Alone (.vshapeS true 5 2) false (.shapeS 5 2) ∧ vec8.Clean 0 ∧ (15 : BitVec 6).toNat < 16
    ∧ vec8.Alone (.vsget true 5 0 15) false (.sget 5 0 15) ∧ vec8.Alone (.vmat true 2) false (.mat 2) := by
  refine ⟨sound_of ?_, alone_of ?_, alone_of ?_, alone_of ?_, alone_of ?_, alone_of ?_, alone_of ?_, ?_, ?_, alone_of ?_, alone_of ?_⟩ <;>
    first | decide +kernel | (unfold State.Clean; decide +kernel)

theorem witness_StreamLoadsAndStores : vec8.Sound
    ∧ (brings (.vld true false 1 0) = some (true, false, .load 1 0) ∧ vec8.Alone (.vld true false 1 0) false (.load 1 0) ∧ vec8.Feeds 0 (fun _ => 0))
    ∧ (brings (.vstO true false 2 1) = some (true, false, .store true 2 1) ∧ vec8.Alone (.vstO true false 2 1) false (.store true 2 1) ∧ vec8.Quiet
      ∧ vec8.Clean 1 ∧ (vec8.die vec8.cur.die).heat.getLsbD 0 = false ∧ 4 - 0 ≤ vec8.h.stm[(1 : Fin 16)].remain
      ∧ ∀ e < 4, vec8.elemAt vec8.h.stm[(1 : Fin 16)] (0 + e - 0) .write (loc8 + e)) := by
  refine ⟨sound_of (by decide +kernel), ⟨rfl, alone_of (by decide +kernel), by unfold State.Clean; decide +kernel, walks_of (by decide +kernel), by decide +kernel, by decide +kernel, by decide +kernel⟩,
    rfl, alone_of (by decide +kernel), quiet_of (by decide +kernel), by unfold State.Clean; decide +kernel, by decide +kernel, by decide +kernel, fun e he => ⟨.normal, ?_⟩⟩
  revert e
  decide +kernel

/-- Indices 0, 1, 2, 3 of 32 bits. -/
def vecI : State := vec 8 4 1 fun h => { h with v := h.v.set 3 { VReg.reset with shape := .a 0 1, ew := 32, extent := 4 } }

theorem witness_IndexedLoadsAndStores : vecI.Sound ∧ vecI.Quiet ∧ (vecI.die vecI.cur.die).heat.getLsbD 0 = false
    ∧ (brings (.vlx true false 1 3 2) = some (true, false, .gather 1 3 2) ∧ vecI.Alone (.vlx true false 1 3 2) false (.gather 1 3 2))
    ∧ (brings (.vsxU true false 1 3 2) = some (true, false, .scatter false 1 3 2) ∧ vecI.Alone (.vsxU true false 1 3 2) false (.scatter false 1 3 2))
    ∧ ∀ p ∈ vecI.positions false, ∀ acc ∈ [Acc.read, .write],
        vecI.indexedAt (((vecI.getX 2).toNat + vecI.h.elem (3 + p / 4) 32 (p % 4) * 1) % 2 ^ 56) 1 acc (loc8 + p) := by
  refine ⟨sound_of (by decide +kernel), quiet_of (by decide +kernel), by decide +kernel, ⟨rfl, alone_of (by decide +kernel)⟩,
    ⟨rfl, alone_of (by decide +kernel)⟩, fun p hp acc ha => ⟨Nat.mod_one _, ?_, .normal, by decide, ?_⟩⟩
  · exact Nat.le_trans (by decide : 0xB8000 ≤ loc8) (Nat.le_add_right _ _)
  · revert p acc; decide +kernel

/-- Addresses of doublewords and of cells. -/
def vecA : State := vec 64 4 1 fun h => { h with v := h.v.set 3 { VReg.reset with shape := .a 0x18000 16, ew := 64, extent := 4 } }

theorem witness_VectorAtomicResults : vecA.Sound ∧ vecA.Quiet ∧ (vecA.die vecA.cur.die).heat.getLsbD 0 = false
    ∧ (brings (.vamoadd true false 1 3 0 0 true) = some (true, false, .amo .add 1 3 0 true)
        ∧ vecA.Alone (.vamoadd true false 1 3 0 0 true) false (.amo .add 1 3 0 true))
    ∧ (brings (.vamofxL true false 1 3 0 0 false) = some (true, false, .amo .fxL 1 3 0 false)
        ∧ vecA.Alone (.vamofxL true false 1 3 0 0 false) false (.amo .fxL 1 3 0 false))
    ∧ ∀ p ∈ vecA.positions false, ∀ n ∈ [8, 16], vecA.indexedAt (vecA.h.elem (3 + p / 4) 64 (p % 4) % 2 ^ 56) n .rmw (loc8 + 16 * p) := by
  refine ⟨sound_of (by decide +kernel), quiet_of (by decide +kernel), by decide +kernel, ⟨rfl, alone_of (by decide +kernel)⟩,
    ⟨rfl, alone_of (by decide +kernel)⟩, fun p hp n hn => ⟨?_, Nat.le_trans (by decide : 0xB8000 ≤ loc8) (Nat.le_add_right _ _), .normal, by decide, ?_⟩⟩
  all_goals revert p n; decide +kernel

theorem witness_CrossroadsResults : vec8.Sound ∧ vec8.h.vs.en = 0
    ∧ (brings (.vredsum true true 1 2) = some (true, true, .xr .redsum 1 2 (.imm 0)) ∧ vec8.Alone (.vredsum true true 1 2) true (.xr .redsum 1 2 (.imm 0)))
    ∧ (brings (.vslideupVi true 1 2 63) = some (true, false, .xr .slideup 1 2 (.imm 63)) ∧ vec8.Alone (.vslideupVi true 1 2 63) false (.xr .slideup 1 2 (.imm 63))) :=
  ⟨sound_of (by decide +kernel), by decide +kernel, ⟨rfl, alone_of (by decide +kernel)⟩, rfl, alone_of (by decide +kernel)⟩

/-- A pending reclaim from 4 quartets to 2 with a new NSLOT: two relays. -/
theorem witness_VectorLengthGrants_reclaim : let s := vec 16 4 1 fun h => { h with vs := { h.vs with qcount := 4, rq := 2 } }
    s.Sound ∧ s.h.relay = false ∧ s.h.vs.qcount ≠ 0 ∧ requestLegal 0x42 ∧ s.h.vs.rq ≠ 0 ∧ s.h.vs.cfg.nslot.toNat ≠ cfgField 0x42 0 2 := by
  refine ⟨sound_of (by decide +kernel), ?_⟩
  unfold requestLegal
  decide +kernel

/-- A member that writes a register that the second member writes, and the eighth member of a convoy. -/
theorem witness_VectorWordsJoin_conflict : let q := memberOf (.vaddVv false false 2 60 61) false (.ew .add 2 60 (.v 61))
    let m := memberOf (.vaddVv false false 8 60 61) false (.ew .add 8 60 (.v 61))
    let full := joining.setHart joining.cur { joining.h with convoy := joining.h.convoy ++ [memberOf (.vaddVv false false 7 60 61) false (.ew .add 7 60 (.v 61))] }
    q.illegal joining.h 0 = false ∧ joining.sealAbsent q.op = false ∧ q.op.badPair = false ∧ (∃ m, joining.memberChecks q = .ok m)
    ∧ (∃ p ∈ joining.h.convoy, clashes joining.h p q) ∧ full.joinCheck m = .ok m ∧ 7 ≤ full.h.convoy.length := by
  refine ⟨by decide +kernel, by decide +kernel, by decide +kernel, ⟨_, (by decide +kernel : joining.memberChecks (memberOf (.vaddVv false false 2 60 61) false (.ew .add 2 60 (.v 61))) = .ok (memberOf (.vaddVv false false 2 60 61) false (.ew .add 2 60 (.v 61))))⟩,
    ⟨memberOf (.vaddVv false false 2 60 61) false (.ew .add 2 60 (.v 61)), by decide +kernel, Or.inl ?_⟩, by decide +kernel, by decide +kernel⟩
  exact ⟨(2, 8), by decide +kernel, (2, 8), by decide +kernel, rfl⟩

/-- A convoy of two members of which the second reads what the first writes. -/
theorem witness_VectorWordsJoin_chain : let i : Instr := .vaddVv true false 2 4 6; let i' : Instr := .vsubVv false false 3 2 4
    let s := vec 8 4 1 fun h => { h with convoy := [memberOf i false (.ew .add 2 4 (.v 6))] }
    EwOp.add ∈ plainOps ∧ EwOp.sub ∈ plainOps ∧ brings i = some (true, false, .ew .add 2 4 (.v 6)) ∧ brings i' = some (false, false, .ew .sub 3 2 (.v 4))
    ∧ s.Sound ∧ ClosesWith s i (.ew .add 2 4 (.v 6)) i' (.ew .sub 3 2 (.v 4)) := by
  refine ⟨by decide, by decide, rfl, rfl, sound_of (by decide +kernel), by decide +kernel, by decide +kernel, by decide +kernel,
    by decide +kernel, ⟨0, 2, by decide +kernel, by decide +kernel⟩, by decide +kernel, by decide +kernel, by decide +kernel, by decide +kernel,
    by decide +kernel, getV_good (by decide +kernel)⟩

/-- An uncorrectable error in element 2 of v4. -/
def vecB : State := vec 8 4 1 fun h => { h with v := h.v.set 4 { VReg.reset with shape := .u 0, ew := 8, extent := 4, bad := [2] } }

/-- 1.0 divided by 0 with DZ enabled: the first position stops, and none before it. A bad element of the first source does likewise. -/
theorem witness_ElementwiseResults_stop :
    (let s := vec 32 4 1 fun h => { h with
       vs := { h.vs with cfg := { h.vs.cfg with fmt := 2 }, en := 8 }, v := h.v.set 4 { VReg.reset with shape := .u 0x3F800000, ew := 32, extent := 4 } }
     brings (.vfdivVv true false 2 4 6) = some (true, false, .ew .fdiv 2 4 (.v 6)) ∧ s.Sound
      ∧ s.Alone (.vfdivVv true false 2 4 6) false (.ew .fdiv 2 4 (.v 6))
      ∧ (EwOp.fdiv.eval s.h.vs.cfg s.h.vrnd s.h.sew (s.h.elem 4 32 0) (s.h.elem 6 32 0) 0 0).fl &&& s.h.vs.en ≠ 0)
    ∧ (let s := vecB
       s.Sound ∧ s.Single (.vaddVv true false 2 4 6) false (.ew .add 2 4 (.v 6)) ∧ s.poison = []
      ∧ (∀ r, r ≠ 4 → (s.h.getV r).bad = []) ∧ (∀ r, (s.h.getM r).bad = []) ∧ (s.h.getV 4).ew = 8 ∧ 2 ∈ (s.h.getV 4).bad
      ∧ (s.h.getV 4).refilled = false ∧ ∀ e ∈ (s.h.getV 4).bad, s.on false 0 e = true → 2 ≤ e) := by
  refine ⟨⟨rfl, sound_of (by decide +kernel), alone_of (by decide +kernel), by decide +kernel⟩,
    ⟨sound_of (by decide +kernel), single_of (by decide +kernel), by decide +kernel, ?_, getM_good (by decide +kernel), by decide +kernel⟩⟩
  have h64 : (List.range 64).all fun r => decide (r = 4) || decide ((vecB.h.getV r).bad = []) := by decide +kernel
  intro r hr
  by_cases h : r < 64
  · simpa [hr] using List.all_eq_true.mp h64 r (List.mem_range.mpr h)
  · simp [Hart.getV, Vector.getD, Array.getD, h, VReg.reset]

/-- A read stream whose third element lies in a granule that has no translation. -/
def vecF : State := vec 8 4 1 fun h => { h with xnone := some 2, stm := h.stm.set 0 (walking 0x1FFFE [16, 0, 0, 0] [1, 0, 0, 0] 8 0) }

def okB {α : Type} : Reply α → Bool | .ok _ => true | _ => false
theorem ok_of {α : Type} {r : Reply α} (h : okB r = true) : ∃ a, r = .ok a := by
  cases r <;> simp_all [okB]

theorem witness_StreamLoadsAndStores_fault : let q := vecF.h.stm[(0 : Fin 16)]
    let reach := fun (k : Nat) => vecF.streamPieces vecF.cur q (q.elemAddr (q.pos + k)).1 (max 1 (q.width / 8)) .read
    vecF.Sound ∧ vecF.Alone (.vld true false 1 0) false (.load 1 0) ∧ vecF.Clean 0 ∧ q.mode = 0 ∧ vecF.h.trim [0] (4 - 0) = some (4 - 0)
    ∧ reach 2 = .trap { cause := .page, acc := .read, tval := 0x20000 } ∧ ∀ k < 2, ∃ ps, reach k = .ok ps := by
  refine ⟨sound_of (by decide +kernel), alone_of (by decide +kernel), by unfold State.Clean; decide +kernel, by decide +kernel, by decide +kernel,
    by decide +kernel, fun k hk => ok_of ?_⟩
  revert k
  decide +kernel

/-- A hart at SEW 64, as vmm and ccvt need it. -/
def vec64 : State := vec 64 4 1 id
/-- The two sectors of 128 bytes at `loc8`. -/
def sectors : List (Target × Nat) := [(.mem loc8 .normal, 64), (.mem (loc8 + 64) .normal, 64)]

/-- vmm with its A operand of INT8, and ccvt with a scale register (OUT 0) and choosing the scales (OUT 2) beside its source. -/
theorem witness_MatrixResults : vec64.Sound ∧ vec64.h.vs.en = 0 ∧ vec64.crucibleFree
    ∧ (brings (.vmm true false 1 2 8 0 0) = some (true, false, .vmm 1 2 8 0 0) ∧ vec64.Alone (.vmm true false 1 2 8 0 0) false (.vmm 1 2 8 0 0))
    ∧ (brings (.ccvt true true 1 2 3 0 0 0) = some (true, true, .ccvt 1 2 3 0 0 0) ∧ vec64.Alone (.ccvt true true 1 2 3 0 0 0) true (.ccvt 1 2 3 0 0 0))
    ∧ (brings (.ccvt true false 1 2 3 0 0 2) = some (true, false, .ccvt 1 2 3 0 0 2) ∧ vec64.Alone (.ccvt true false 1 2 3 0 0 2) false (.ccvt 1 2 3 0 0 2)
      ∧ 2 + vec64.h.vs.rows ≤ 3) :=
  ⟨sound_of (by decide +kernel), by decide +kernel, by unfold State.crucibleFree; decide +kernel, ⟨rfl, alone_of (by decide +kernel)⟩,
    ⟨rfl, alone_of (by decide +kernel)⟩, rfl, alone_of (by decide +kernel), by decide +kernel⟩

/-- A block of FP32 elements, all zero; x2 = 0x1_8000, and x0 as the stride. -/
theorem witness_CrucibleResults : vec8.Sound ∧ vec8.Quiet ∧ vec8.h.vs.en = 0 ∧ vec8.crucibleFree
    ∧ (brings (.copr true 0 2 3 4 0) = some (true, false, .copr 0 2 3 4 0) ∧ vec8.Alone (.copr true 0 2 3 4 0) false (.copr 0 2 3 4 0))
    ∧ (brings (.coprM true 0 2 2 3) = some (true, false, .coprM 0 2 2 3) ∧ vec8.Alone (.coprM true 0 2 2 3) false (.coprM 0 2 2 3)
      ∧ (vec8.getX 2).toNat % operandSize 3 = 0 ∧ vec8.Reaches (vec8.getX 2) (operandLen 3 * operandSize 3) .read (piece 64))
    ∧ vec8.Alone (.cmvBv true 0 2 0) false (.cmvBv 0 2 0) ∧ vec8.Alone (.cmvVb true 5 0 0) false (.cmvVb 5 0 0)
    ∧ vec8.Alone (.czero true 0) false (.czero 0) ∧ vec8.h.blockWidth 0 = 32
    ∧ (vec8.Alone (.cld true 0 2 0) false (.cld 0 2 0) ∧ (vec8.getX 2).toNat % 4 = 0
      ∧ ∀ k < 32, vec8.Reaches (vec8.getX 2 + BitVec.ofNat 64 k * vec8.getX 0) 128 .read sectors)
    ∧ (vec8.Alone (.cst true 0 2 0) false (.cst 0 2 0)
      ∧ (∀ k < 32, vec8.pieces vec8.cur (vec8.getX 2 + BitVec.ofNat 64 k * vec8.getX 0).toNat 128 .write = .ok sectors)
      ∧ ∀ n < 32, vec8.pieces vec8.cur (vec8.getX 2 + BitVec.ofNat 64 (n / 32) * vec8.getX 0 + BitVec.ofNat 64 (n % 32 * 4)).toNat 4 .write
          = .ok [(.mem (loc8 + 4 * n) .normal, 4)]) := by
  refine ⟨sound_of (by decide +kernel), quiet_of (by decide +kernel), by decide +kernel, by unfold State.crucibleFree; decide +kernel,
    ⟨rfl, alone_of (by decide +kernel)⟩,
    ⟨rfl, alone_of (by decide +kernel), by decide +kernel, reaches_of (by decide +kernel)⟩, alone_of (by decide +kernel),
    alone_of (by decide +kernel), alone_of (by decide +kernel), by decide +kernel,
    ⟨alone_of (by decide +kernel), by decide +kernel, fun k hk => reaches_of ?_⟩, alone_of (by decide +kernel), by decide +kernel,
    by decide +kernel⟩
  revert k
  decide +kernel

/-- A shape record at VA 0x1_8000 for `count` bytes from VA 0x1_8040, in a MODE. -/
def recorded (count mode : Nat) : State :=
  withMem vec8 loc8 64 (0x18040 + 2 ^ 64 * (8 + 2 ^ 8 * mode) + 2 ^ 128 * count + 2 ^ 256)
/-- A hart that may bind: x2 = the record or channel word, its gang 5 in x6, an operand word for vscfgr in x11. -/
def binding (x2 : Word) : State :=
  vec 8 4 1 fun h => { withX h [(2, x2), (6, 5), (10, 1), (11, 8 * 2 ^ 48 + 16)] with id := { h.id with gangId := 5 }
                                                                                      trap := { h.trap with en := true } }

theorem witness_StreamConfiguration :
    (let s := recorded 16 1; let w := leNat (s.bytesOf (piece 64))
      s.Sound ∧ s.Clean 3 ∧ s.h.entryOf 3 = false ∧ s.Alone (.vscfg true 2 3) false (.scfg 2 3) ∧ s.Quiet ∧ (s.getX 2).toNat % 64 = 0
      ∧ s.Reaches (s.getX 2) 64 .read (piece 64)
      ∧ walkLegal (recBits w 0 64) (recExtents w) (recStrides w) (recBits w 64 7) ∧ recBits w 72 3 ≤ 1 ∧ recBits w 71 1 = 0 ∧ recBits w 75 53 = 0)
    ∧ (let s := binding 0x18000; let w := (s.getX 11).toNat
      s.Alone (.vscfgr true 2 10 3) false (.scfgr 2 10 3) ∧ walkLegal (s.getX 2).toNat [recBits w 0 48, 0, 0, 0] [s.getX 10, 0, 0, 0] (recBits w 48 7)
      ∧ recBits w 56 3 ≤ 1 ∧ recBits w 55 1 = 0 ∧ recBits w 59 5 = 0)
    ∧ (let s := binding (8 * 2 ^ 32); let xa := (s.getX 2).toNat
      s.Alone (.vchsend true 2 6 3) false (.chsend 2 6 3) ∧ recBits xa 13 3 = 0 ∧ recBits xa 39 25 = 0 ∧ recBits xa 32 7 ∈ [8, 16, 32, 64]
      ∧ s.getX 6 = s.h.id.gangId ∧ s.getX 10 ≠ s.h.id.gangId ∧ s.Alone (.vchsend true 2 10 3) false (.chsend 2 10 3)
      ∧ s.h.priv = false ∧ s.h.inh = false ∧ s.h.trap.en = true)
    ∧ (let s := binding (4 * 8); let xa := (s.getX 2).toNat
      s.Alone (.vchrecv true 2 3) false (.chrecv 2 3) ∧ recBits xa 9 55 = 0 ∧ recBits xa 2 7 ∈ [8, 16, 32, 64]
      ∧ ¬(recBits xa 32 7 ∈ [8, 16, 32, 64]) ∧ s.Alone (.vchsend true 2 6 3) false (.chsend 2 6 3))
    ∧ (let s := binding 0
      s.Alone (.vchrecv true 2 3) false (.chrecv 2 3) ∧ ¬(recBits (s.getX 2).toNat 2 7 ∈ [8, 16, 32, 64]))
    ∧ vec8.Alone (.vsidle true 3) false (.sidle 3) := by
  unfold walkLegal State.Clean
  refine ⟨⟨sound_of ?_, ?_, ?_, alone_of ?_, quiet_of ?_, ?_, reaches_of ?_, ?_⟩, ⟨alone_of ?_, ?_⟩, ⟨alone_of ?_, ?_, ?_, ?_, ?_, ?_, alone_of ?_, ?_⟩,
    ⟨alone_of ?_, ?_, ?_, ?_, alone_of ?_⟩, ⟨alone_of ?_, ?_⟩, alone_of ?_⟩ <;> decide +kernel

/-- The record of `recorded 4 2` as the hart reads it. -/
def copied : Nat := leNat ((recorded 4 2).bytesOf (piece 64))

/-- A copy of 4 bytes from VA 0x1_8040 to VA 0x1_8000, and one of none. -/
theorem witness_CopyDeclarations : (Instr.vcopy, CopyForm.plain) ∈ copies
    ∧ ((recorded 4 2).Sound ∧ (recorded 4 2).Quiet ∧ (recorded 4 2).Alone (.vcopy true 2 2 3) false (.copy .plain 2 2 3)
      ∧ ((recorded 4 2).getX 2).toNat % 64 = 0 ∧ (recorded 4 2).Reaches ((recorded 4 2).getX 2) 64 .read (piece 64))
    ∧ walkLegal (recBits copied 0 64) (recExtents copied) (recStrides copied) (recBits copied 64 7)
    ∧ (recBits copied 72 3 = 2 ∧ recBits copied 71 1 = 0 ∧ recBits copied 75 53 = 0 ∧ walkCount (recExtents copied) = 4
      ∧ (recorded 4 2).h.stm[(3 : Fin 16)].sameCopy .plain 0x18000 0x18000 = false)
    ∧ (∀ e < 4, (recorded 4 2).pieces demo.cur ((walking (recBits copied 0 64) (recExtents copied) (recStrides copied) 8 2).elemAddr e).1 1 .read
          = .ok [(.mem (loc8 + 64 + e) .normal, 1)]
        ∧ (recorded 4 2).pieces demo.cur ((0x18000 + e * 8 / 8) % 2 ^ 56) 1 .write = .ok [(.mem (loc8 + e) .normal, 1)])
    ∧ walkCount (recExtents (leNat ((recorded 0 2).bytesOf (piece 64)))) = 0 := by
  unfold walkLegal
  refine ⟨List.mem_cons_self .., ⟨sound_of ?_, quiet_of ?_, alone_of ?_, ?_, reaches_of ?_⟩, ?_, ?_, ?_, ?_⟩ <;> decide +kernel

/-- A bound sender, its group at every position but the first. -/
def sender : State := vec 8 4 2 fun h => { h with vs := { h.vs with vstart := 1 }, stm := h.stm.set 3 (bound 0 8 true) }

theorem witness_ChannelSends : sender.Sound ∧ sender.Clean 3 ∧ sender.h.entryOf 3 = false ∧ sender.h.ilock.length < 32
    ∧ sender.h.stm[(3 : Fin 16)].partway = false ∧ sender.Alone (.vsend true 2 3) false (.send 2 false 3)
    ∧ sender.Alone (.vsendEom true 2 3) false (.send 2 true 3) ∧ sender.Alone (.veom true 3) false (.eom 3)
    ∧ 2 * 4 - 1 < 2 * (131072 / sender.h.stm[(3 : Fin 16)].width) ∧ sender.h.stm[(3 : Fin 16)].width ≤ 64 := by
  unfold State.Clean
  refine ⟨sound_of ?_, ?_, ?_, ?_, ?_, alone_of ?_, alone_of ?_, alone_of ?_, ?_, ?_⟩ <;> decide +kernel

/-- A bound sender with no position left. -/
theorem witness_ChannelSends_none :
    let s := vec 8 4 2 fun h => { h with vs := { h.vs with vstart := 8 }, stm := h.stm.set 3 (bound 0 8 true) }
    s.Sound ∧ s.Clean 3 ∧ s.Alone (.vsend true 2 3) false (.send 2 false 3) ∧ s.h.vs.rows * s.h.vs.vl - s.h.vs.vstart = 0
      ∧ holdsNothing s 3 := by
  unfold State.Clean holdsNothing
  refine ⟨sound_of ?_, ?_, alone_of ?_, ?_, ?_⟩ <;> decide +kernel

/-- A hart whose VA 0x3_0000 maps a page of the quarter of stack 0, held under a lease, with the command record of a swage of `count`
rows of 64 bytes at VA 0x1_8000, its query at VA 0x1_8040. -/
def commanding (count : Nat) : State :=
  let quarter := { loadedLeaf false with vpn := 3, w0 := BitVec.ofNat 64 (2 ^ 40 + 0x3E3 + 4) }
  let s := withMem vec8 loc8 64 (0x30000 + 2 ^ 64 * (6 * 2 ^ 32) + 2 ^ 128 * count + 2 ^ 192 * 0x18040)
  ({ s with quarters := [(0, 1)], leases := [(0, { die := 0, gang := s.h.id.gangId, ends := 1000 })],
            acc := { s.acc with perm := Map.set (permDefault 64 1) s.acc.perm (64 * 65536 + 1) 15 } } : State).setDie 0
    { s.die 0 with tlb := quarter :: (s.die 0).tlb }

/-- A swage of no row, and of one. -/
theorem witness_KerbCommandsAccepted : (Instr.kswage, (0 : Fin 3)) ∈ commands ∧ ∀ count ∈ [0, 1], let s := commanding count
    s.Sound ∧ s.Clean 3 ∧ s.Alone (.kswage true 2 3) false (.kerb 0 2 3 0) ∧ s.h.entryOf 3 = false ∧ s.h.ilock.length + 2 ≤ 32
      ∧ s.kerbRecord 0 (s.getX 2) (encode (.kswage true 2 3)) = .ok (s.peekNat loc8 64)
      ∧ s.kerbProbe s.cur 0 (Cmd.ofNat (s.peekNat loc8 64)) = .ok () ∧ (Cmd.ofNat (s.peekNat loc8 64)).count = count
      ∧ s.commandUnits s.cur (Cmd.ofNat (s.peekNat loc8 64)) 0 = .ok (if count = 0 then [] else [31])
      ∧ (s.unitQueue 31 < 16 ∧ (s.channel 31).power / 2 ^ 5 % 2 = 0 ∧ (s.channel 31).power % 4 = 0)
      ∧ s.readArrays s.cur none ((Cmd.ofNat (s.peekNat loc8 64)).arrays 0) = .ok [0] := by
  unfold State.Clean
  refine ⟨List.mem_cons_self .., fun count hc => ⟨sound_of ?_, ?_, alone_of ?_, ?_⟩⟩ <;> revert count <;> decide +kernel

/-- A hart with granule 1 mapped, and granule 2 to the next, which seals `xb` granules from VA 0x1_0000; with some seals. -/
def sealing (xb : Word) (seals : List Seal) (count next : Nat) : State :=
  let s := vec 8 4 1 fun h => withX h [(6, 0x10000), (7, xb)]
  ({ s with seals := seals, sealCount := count } : State).setDie 0
    { s.die 0 with tlb := { loadedLeaf false with vpn := 2, w0 := BitVec.ofNat 64 (next + 0x3E3) } :: (s.die 0).tlb }
/-- A seal of one granule elsewhere, and one of the granule at 0x100_0000. -/
def otherSeal : Seal := { base := 0x2000000, len := 65536, version := 1 }
@[inherit_doc otherSeal] def sameSeal : Seal := { base := 0x1000000, len := 65536, version := 2 }

/-- The table full, an overlap, no granule, granules apart, the last version used, and success; a bad version word, one that no seal
has, and one that names the seal. -/
theorem witness_SealsRecorded :
    (∀ s ∈ [sealing 1 (List.replicate 64 otherSeal) 0 0x1010000, sealing 1 [sameSeal] 0 0x1010000, sealing 2 [otherSeal] 0 0x2010000,
        sealing 2 [otherSeal] (2 ^ 32 - 1) 0x1010000, sealing 2 [otherSeal] 0 0x1010000],
      s.Sound ∧ s.bootEpoch ≠ 65535 ∧ s.h.ilock.length < 32 ∧ s.Alone (.seal true 5 6 7) false (.seal 5 6 7) ∧ (s.getX 6).toNat % 65536 = 0
      ∧ (match s.sealGranules s.cur (s.getX 6).toNat ((s.getX 7).toNat % 2 ^ 32) with
          | .ok ps => ps.headD 0 == 0x1000000 && ps.length == (s.getX 7).toNat | _ => false) = true)
    ∧ (let s := sealing 0 [] 0 0; s.Alone (.seal true 5 6 7) false (.seal 5 6 7) ∧ (s.getX 7).toNat % 2 ^ 32 = 0
        ∧ s.sealGranules s.cur (s.getX 6).toNat 0 = .ok [])
    ∧ (let s := sealing (2 ^ 48) [sameSeal] 2 0; s.Alone (.unseal true 5 6 7) false (.unseal 5 6 7)
        ∧ s.unsealTarget s.cur (s.getX 6).toNat = .ok (some 0x1000000) ∧ (s.getX 7).toNat / 2 ^ 48 ≠ 0)
    ∧ (let s := sealing 3 [sameSeal] 2 0; s.Alone (.unseal true 5 6 7) false (.unseal 5 6 7)
        ∧ ∀ l ∈ s.seals, ¬(l.base = 0x1000000 ∧ l.version = (s.getX 7).toNat))
    ∧ (let s := sealing 2 [sameSeal] 2 0; s.Alone (.unseal true 5 6 7) false (.unseal 5 6 7)
        ∧ s.seals.find? (fun l => some 0x1000000 == some l.base && l.version == (s.getX 7).toNat) = some sameSeal) := by
  refine ⟨fun s hs => ⟨sound_of ?_, ?_, ?_, alone_of ?_, ?_⟩, ⟨alone_of ?_, ?_⟩, ⟨alone_of ?_, ?_⟩, ⟨alone_of ?_, ?_⟩, ⟨alone_of ?_, ?_⟩⟩
  any_goals revert s
  all_goals decide +kernel

/-- A buffer with nothing outstanding in it; and the last boot epoch, in which both instructions trap. -/
theorem witness_SealsRecorded_free : (let s := sealing 2 [otherSeal] 0 0x1010000
      s.h.guard .read (s.getX 6).toNat (65536 * 2) (.ok ()) = .ok () ∧ s.writesHeld [0x1000000, 0x1010000] = false)
    ∧ (let s := sealing 2 [sameSeal] 2 0; s.h.guard .write (s.getX 6).toNat sameSeal.len (.ok ()) = .ok ())
    ∧ (let s := { sealing 1 [] 0 0x1010000 with bootEpoch := 65535 }
      s.Sound ∧ s.Alone (.seal true 5 6 7) false (.seal 5 6 7) ∧ s.Alone (.unseal true 5 6 7) false (.unseal 5 6 7)) :=
  ⟨by decide +kernel, by decide +kernel, sound_of (by decide +kernel), alone_of (by decide +kernel), alone_of (by decide +kernel)⟩

/-- The demo hart with some fields changed, at cycle 1000. -/
def at1000 (f : Hart → Hart) : State := { demoWith f with cycle := 1000 }
/-- A hart in mwait since cycle `since` with a timeout of 10 cycles. -/
def mwaiting (since : Nat) (hit : Bool) : State := at1000 fun h => { h with
  st := .waiting, wait := some (.mwait 5 since 10), mon := some { va := 0x18000, sector := loc8 / 64, hit := hit, rearm := false } }
/-- A hart in bar.wait. -/
def barred (released : Bool) : State := at1000 fun h => { h with st := .waiting, wait := some (.barrier 0x18000 loc8 1 released) }
/-- A hart with a fence, and the transfers `l`. -/
def fenced (l : List Entry) : State := at1000 fun h => { h with fence := some (3, 0), ilock := l }

/-- A line under way. -/
def late : Read := { pa := loc8, arrives := 5, counts := true, dest := none, queued := false, usable := none }
/-- A timeout that ends in this cycle, and one that does not, each with and without a write; a barrier released and not; a fence with
nothing in flight, and one with a copy. -/
theorem witness_WaitsEnd : (∀ since ∈ [990, 991], ∀ hit, (mwaiting since hit).Sound ∧ ((mwaiting since hit).hart demo.cur).wait = some (.mwait 5 since 10)
        ∧ ((mwaiting since hit).hart demo.cur).mon.isSome)
    ∧ (∀ released, (barred released).Sound ∧ ((barred released).hart demo.cur).wait = some (.barrier 0x18000 loc8 1 released))
    ∧ (at1000 fun h => { h with reads := [late] }).h.reads ≠ [] ∧ demo.h.reads = []
    ∧ ∀ l ∈ [[], [inFlight]], (fenced l).Sound ∧ ((fenced l).hart demo.cur).fence = some (3, 0) ∧ ((fenced l).hart demo.cur).st = .running
      ∧ spotless ((fenced l).hart demo.cur) ∧ ((fenced l).hart demo.cur).ilock = l ∧ ((fenced l).hart demo.cur).posted = [] ∧ (3 : BitVec 2) ≠ 1 := by
  unfold spotless
  refine ⟨fun since hs hit => ⟨sound_of ?_, ?_⟩, fun released => ⟨sound_of ?_, ?_⟩, ?_, ?_, fun l hl => ⟨sound_of ?_, ?_⟩⟩
  · revert since hit; decide +kernel
  · revert since hit; decide +kernel
  · revert released; decide +kernel
  · revert released; decide +kernel
  · decide +kernel
  · decide +kernel
  · revert l; decide +kernel
  · revert l; decide +kernel

/-- A gang of launch 1 being placed, its hart CREATING in slot 0, and in slot 1 a hart of it in state `st`. -/
def placing (st : SlotState) (suspends : List Suspend) : State :=
  let s := (demoWith fun h => { h with st := .creating, id := { h.id with gangId := 0x100000000 } }).setHart slot1
    { Hart.reset with st := st, id := { Hart.reset.id with gangId := 0x100000000, index := 1 } }
  s.setDie 0 { s.die 0 with gangs := [{ seq := 1, gindex := 0, st := .placing, placedAt := 0, saved := [], stopped := 0 }], suspends := suspends }
/-- A suspend of that gang, begun by the dispatcher. -/
def suspendIt : Suspend := { gang := 0x100000000, issuer := 7, table := none, images := [], marked := 2 }
/-- A hart under reclaim since cycle `since`, with a deadline of 100 cycles. -/
def reclaimed (since : Nat) : State := at1000 fun h => { h with
  rwarn := true, trap := { h.trap with en := true }, reclaimAt := some { since := since, length := 100, warned := false, resv := false } }
/-- A paired CREATING hart whose restored monitor lacks its translation. -/
def rearming : State :=
  let s := placing .running []
  s.setHart s.cur { s.h with id := { s.h.id with paired := true }, mon := some { va := 0x28000, sector := 2 ^ 58, hit := false, rearm := true } }
/-- Both harts of the gang SUSPENDING. -/
def suspended : State :=
  let s := placing .suspending [suspendIt]
  s.setHart s.cur { s.h with st := .suspending }

/-- CREATING alone, beside another CREATING hart, and in a suspend; STOPPING with and without a transfer; a warning at its first cycle; a
deadline at its last cycle before, and at its end; a reservation, a lease, and a suspend that has ended. -/
theorem witness_HartsComeAndGo :
    (∀ s ∈ [placing .running [], placing .creating [], placing .running [suspendIt]], s.Sound ∧ demo.cur.slot ≠ 7
      ∧ (s.hart demo.cur).st = .creating ∧ spotless (s.hart demo.cur) ∧ (s.hart demo.cur).id.paired = false)
    ∧ ((placing .running []).suspending 0 0x100000000 = false ∧ (placing .running [suspendIt]).suspending 0 0x100000000 = true
      ∧ ((placing .creating []).hart slot1).st = .creating)
    ∧ (rearming.Sound ∧ (rearming.hart demo.cur).st = .creating ∧ rearming.suspending 0 0x100000000 = false
      ∧ rearming.translate demo.cur 0x28000 .read = .miss 0x28000 .read ∧ (rearming.hart demo.cur).id.paired = true)
    ∧ (∀ l ∈ [[], [inFlight]], let x := (at1000 fun h => { h with st := .stopping, ilock := l }).h
      x.st = .stopping ∧ x.convoy = [] ∧ x.ilock = l ∧ x.posted = [] ∧ x.reports = false)
    ∧ (let s := reclaimed 950; s.Sound ∧ s.h.rwarn = true ∧ s.h.inh = false ∧ s.h.priv = false ∧ s.h.st = .running ∧ s.h.trap.en = true
        ∧ 950 + 100 / 2 ≤ s.cycle ∧ s.cycle < 950 + 100 ∧ s.atBoundary demo.cur = true)
    ∧ (900 + 100 ≤ (reclaimed 900).cycle ∧ (reclaimed 901).cycle < 901 + 100 ∧ (reclaimed 900).suspending 0 0 = false
        ∧ ∀ q ∈ (reclaimed 900).harts, q.2.wfail = none ∧ q.2.phase ≠ .drain ∧ q.2.phase ≠ .empty)
    ∧ (suspended.Sound ∧ (suspended.die 0).suspends.find? (fun q => q.gang == 0x100000000) = some suspendIt
        ∧ ∀ k < 7, let i : HartId := { die := 0, core := 0, slot := Fin.ofNat 8 k }
          (suspended.hart i).st ≠ .empty → (suspended.hart i).st = .suspending ∧ (suspended.hart i).posted = [] ∧ (suspended.hart i).wfail = none) := by
  unfold spotless
  refine ⟨fun s hs => ⟨sound_of ?_, ?_⟩, ?_, ⟨sound_of ?_, ?_⟩, ?_, ⟨sound_of ?_, ?_⟩, ?_, ⟨sound_of ?_, ?_⟩⟩
  any_goals revert s
  all_goals decide +kernel

/-- The deadline of R343's example, marked at cycle 100,000, at its end and a cycle before; and one of a gang that is suspended anyway. -/
theorem witness_HartsComeAndGo_deadline : let example_ := fun (cycle : Nat) => { (demoWith fun h => { h with
      reclaimAt := some { since := 100000, length := 65536, warned := false, resv := false } }) with cycle := cycle }
    (example_ 165536).Sound ∧ 100000 + 65536 ≤ (example_ 165536).cycle ∧ (example_ 165535).cycle < 100000 + 65536
    ∧ (example_ 165536).h.st = .running ∧ (example_ 165536).suspending 0 0 = false
    ∧ (∀ q ∈ (example_ 165536).harts, q.2.wfail = none ∧ q.2.phase ≠ .drain ∧ q.2.phase ≠ .empty)
    ∧ (let s := suspended.setHart demo.cur { suspended.h with reclaimAt := some { since := 0, length := 100, warned := false, resv := false } };
      (s.hart demo.cur).st ≠ .running ∧ s.suspending 0 0x100000000 = true) :=
  ⟨sound_of (by decide +kernel), by decide +kernel⟩

/-- A warning behind a convoy that is in flight. -/
theorem witness_HartsComeAndGo_behind : let s := (reclaimed 950).setHart demo.cur { (reclaimed 950).h with
      phase := .drain, convoy := [{ enc := 0, size := 8, masked := false, op := .czero 2, acted := false }] }
    s.Sound ∧ s.h.reclaimAt = some { since := 950, length := 100, warned := false, resv := false } ∧ s.h.front.warned = false ∧ s.h.rwarn = true
      ∧ s.h.front.inh = false ∧ s.h.priv = false ∧ s.h.st = .running ∧ 950 + 100 / 2 ≤ s.cycle ∧ s.cycle < 950 + 100 ∧ s.atBoundary demo.cur = true
      ∧ s.h.inFlight = true ∧ s.h.inf = false ∧ s.h.front.trap.en = true ∧ s.h.xwait = none ∧ s.h.xnone = none :=
  ⟨sound_of (by decide +kernel), by decide +kernel⟩

/-- A suspend that a gsusp of the Lamplighter began, its table at VA 0x1_8000: it names a place for the image of index 0, or none. -/
def tabled (images : List (Nat × Nat)) : Suspend := { suspendIt with table := some 0x18000, images := images }
@[inherit_doc tabled] def parking : State :=
  let i : HartId := { die := 0, core := 0, slot := 7 }
  (suspended.setHart i { Hart.reset with st := .running, priv := true, space := demo.h.space }).setDie 0
    { suspended.die 0 with suspends := [tabled []] }

theorem writes_ok {s : State} {i : HartId} {va : Nat} {bs : List Byte} (h : okB (s.pieces i va bs.length .write) = true)
    (hp : (s.hart i).posted = []) (hj : s.journal = []) : ∃ t, s.writeBytes i va 0xFF bs = .ok t := by
  obtain ⟨ps, hps⟩ := ok_of h
  exact ⟨_, by unfold State.writeBytes; rw [hps]; exact State.writable_now hp hj ..⟩

theorem witness_HartsComeAndGo_table : let l := slotsOfGang parking 0 0x100000000
    parking.Sound ∧ (parking.die 0).suspends.find? (fun q => q.gang == 0x100000000) = some (tabled []) ∧ l.length = 2
    ∧ (∀ q ∈ l, q.2.st = .suspending ∧ q.2.posted = [] ∧ q.2.wfail = none) ∧ ImagesWritten (tabled []) parking (l.map (·.2)) parking
    ∧ ∃ w, parking.writeBytes (hartIdOf 7) 0x18000 0xFF (leBytes 8 l.length) = .ok w :=
  ⟨sound_of (by decide +kernel), by decide +kernel, by decide +kernel, by decide +kernel, rfl, writes_ok (by decide +kernel) (by decide +kernel) (by decide +kernel)⟩

theorem contextImage_length (x : Hart) : (contextImage x).length = (imageWithCheck x 0).length := by
  simp only [contextImage, imageWithCheck, List.length_append, inBytes_length, List.length_cons]

theorem witness_HartsComeAndGo_image : ∃ u, ImagesWritten (tabled [(0, 0x18080)]) parking [parking.hart demo.cur] u := by
  obtain ⟨u, hu⟩ := writes_ok (s := parking) (i := hartIdOf 7) (va := 0x18080) (bs := contextImage (parking.hart demo.cur))
    (by rw [contextImage_length]; decide +kernel) (by decide +kernel) (by decide +kernel)
  exact ⟨u, u, hu, rfl⟩

/-- A request of slot 0 for granule 2, waiting in the mailbox of core 0, or taken out of it. -/
def request : Request := { tag := 3, acc := .read, slot := 0, engine := false, prefetch := false, vpn := 2, space := demo.h.space }
@[inherit_doc request] def mailed : State := demo.setCore { die := 0, core := 0 } { Core.reset with mbox := [request] }
@[inherit_doc request] def answering : State :=
  demo.setCore { die := 0, core := 0 } { Core.reset with outstanding := [request], tlbw0 := (loadedLeaf false).w0 }
/-- An invalidation of ASID 1 under way on die 0, with a transfer of one of its harts in the range or not. -/
def invalidating (l : List Entry) : State :=
  let s := at1000 fun h => { h with ilock := l }
  s.setDie 0 { s.die 0 with tlbinv := 0x13, invRange := (0, 2 ^ 56) }
/-- A copy that reads 8 bytes of granule 1, and the hart with its stream. -/
def reading : Entry := { inFlight with rdlo := 0x10000, rdhi := 0x10008 }
@[inherit_doc reading] def copies1 : State :=
  let s := invalidating [reading]
  s.setHart s.cur { s.h with stm := s.h.stm.set 0 { Stream.idle with state := .active, mode := 2, held := [(1, 3, (loadedLeaf false).w0, 0)] } }
/-- Die 0 with one translation, counted in its heat, for the heat area at 0x1000_0000 (BASE 1). -/
def heated : State := dieWith fun d => { d with tlb := [{ loadedLeaf false with unit := 7 }] }
/-- A launch of one gang of one hart, from code at VA 0x1_0000. -/
def job : Launch :=
  { seq := 1, entry := 0x10000, arglen := 8, harts := 1, quartets := 1, nslot := 0, prio := 1, pair := false, extj := false, fj := false,
    gangs := 1, dep := 0, lease := 0, space := demo.h.space, report := 0, replen := 0, codeBase := 0x10000, digests := [List.replicate 32 0],
    code := [], work := 0, area := 0x200000, areaPa := 0x2000000, next := 0, gangsDone := 0, doneAt := none, verified := [], written := [], fault := none, rerun := false }
/-- The demo hart in a gang of that launch, its page not yet verified. -/
def launched : State :=
  let s := demoWith fun h => { h with id := { h.id with gangId := 0x100000000 } }
  s.setDie 0 { s.die 0 with tlb := [loadedLeaf false], launches := [{ job with next := 1 }] }

/-- The same with code in the launch's own areas, which are read without a capability check. -/
def inArea : State :=
  let l : Launch := { job with next := 1, area := 0xFD000000010000, codeBase := 0xFD000000010000 }
  launched.setDie 0 { launched.die 0 with tlb := [{ loadedLeaf false with vpn := 0xFD00000001 }], launches := [l] }

/-- An empty and a full mailbox; an answer; an invalidation that waits, one that does not, and the reserved kind; heat with one entry;
a page to be verified; a mark on a slot that is EMPTY, one that gives nothing up, and one that does. -/
theorem witness_TranslationRows : mailed.Sound ∧ demo.Sound ∧ (demo.core (coreOf demo.cur)).mbox = [] ∧ (mailed.core (coreOf demo.cur)).mbox = [request]
    ∧ answering.Sound ∧ (let c := answering.core (coreOf demo.cur)
      (c.outstanding ++ c.mbox).find? (fun q => q.tag == (0x303 : Word).toNat % 256) = some request ∧ request.prefetch = false
        ∧ (0x303 : Word).toNat / 256 % 4 = 3 ∧ leafMalformed 3 c.tlbw0 c.tlbw1 = false ∧ c.tlbw0.getLsbD 0 = true)
    ∧ ((invalidating []).die 0).tlbinv.getLsbD 0 = true ∧ (demo.die 0).tlbinv.getLsbD 0 = false ∧ (6 : Word).toNat / 2 % 4 = 3
    ∧ (invalidating []).Sound ∧ (∀ q ∈ (invalidating []).harts, q.1 / 1536 = 0 → q.2.ilock = []) ∧ copies1.invPending 0 = true
    ∧ (heated.Sound ∧ (2 : Word).getLsbD 1 = true ∧ (heated.die 0).tlb = [{ loadedLeaf false with unit := 7 }]
        ∧ leafType (loadedLeaf false).w0 ≤ 1 ∧ heated.permits (heated.targetOf (0x10000000 + 16 * 0x100)) 0x1207 .w = true)
    ∧ (inArea.Sound ∧ (inArea.hart demo.cur).st = .running
        ∧ inArea.unverified demo.cur 0xFD00000001 = some { loadedLeaf false with vpn := 0xFD00000001 }
        ∧ leafU (loadedLeaf false).w0 = true ∧ leafX (loadedLeaf false).w0 = true
        ∧ (inArea.launchOf demo.cur).bind (fun l => l.digest 0xFD00000001) = some (List.replicate 32 0)
        ∧ (match inArea.readBytes demo.cur (0xFD00000001 * 65536) 65536 .read with | .ok _ => true | _ => false) = true)
    ∧ (demo.hart slot1).st = .empty ∧ (demo.hart demo.cur).vs.qcount = 8 ∧ (demo.hart demo.cur).reclaimAt = none
    ∧ (reclaimed 950).h.vs.qcount = 8 ∧ (reclaimed 950).h.reclaimAt.isSome := by
  refine ⟨sound_of ?_, sound_of ?_, ?_, ?_, sound_of ?_, ?_, ?_, ?_, ?_, sound_of ?_, ?_, ?_, ⟨sound_of ?_, ?_⟩, ⟨sound_of ?_, ?_⟩, ?_⟩
  all_goals decide +kernel

/-- A hart that may not fetch from the granule it fetches from, one whose launch has no digest of it, and one with no translation to check;
and a launch for the hart of a firmware trap. -/
theorem witness_TranslationRows_fetch :
    (let s := trapping.setDie 0 { trapping.die 0 with tlb := [{ loadedLeaf false with w0 := 0x1000003 }] };
      s.Sound ∧ s.h.st = .running ∧ (s.unverified demo.cur 1).any (fun e => !leafU e.w0) = true ∧ s.h.priv = false ∧ s.h.inh = false
        ∧ s.h.trap.en = true)
    ∧ (let s := launched.setDie 0 { launched.die 0 with launches := [{ job with next := 1, digests := [] }] };
      s.Sound ∧ s.h.st = .running ∧ (s.launchOf demo.cur).bind (fun l => l.digest 1) = none ∧ demo.cur.slot ≠ 7 ∧ s.h.inf = false)
    ∧ demo.unverified demo.cur 9 = none ∧ (demo.hart slot1).st ≠ .running ∧ (launched.launchOf launched.cur).isSome := by
  refine ⟨⟨sound_of ?_, ?_⟩, ⟨sound_of ?_, ?_⟩, ?_⟩
  all_goals decide +kernel

/-- A module whose masters of `mid` have no right to NORMAL memory; with a seal of the granule at 0x100_0000. -/
def closed (mid : Nat) : State := { demo with acc := { demo.acc with perm := Map.set (permDefault 0 mid) demo.acc.perm mid 0 } }
@[inherit_doc closed] def sealed : State := { demo with seals := [sameSeal] }
/-- An update being answered, with or without a transfer checked against the old tables. -/
def updating (l : List Entry) : State :=
  { (at1000 fun h => { h with ilock := l }) with upd := some { number := 5, status := 0, inFlight := [(0, reading)], posted := [] } }

/-- Accesses within the module at its first addresses and its last granule that is not NORMAL, permitted and refused, frozen and not; an
update answered at once, and one that waits. -/
theorem witness_HostRows : demo.Sound ∧ (∀ mid ∈ [0x1204, 0x1205, 0x1206], (closed mid).Sound
      ∧ (closed mid).portPermits mid 0xB8000 8 .w = false ∧ (closed mid).portPermits mid 0xB8000 8 .r = false
      ∧ demo.portPermits mid 0xB8000 8 .w = true ∧ demo.portPermits mid 0 8 .r = true ∧ sealed.portPermits mid 0x1000000 8 .w = true)
    ∧ demo.targetOf 0 ≠ none ∧ demo.targetOf 7 ≠ none ∧ demo.targetOf 0xB8000 ≠ none ∧ demo.targetOf 0xB8007 ≠ none ∧ demo.poison = []
    ∧ sealed.Sound ∧ sealed.frozen 0x1000000 = true ∧ (∀ k < 8, demo.frozen (0xB8000 + k) = false)
    ∧ demo.upd = none ∧ (updating [reading]).Sound ∧ (updating []).Sound ∧ (updating []).upd.isSome ∧ (updating []).updNext = none
    ∧ (updating [reading]).stillIn (0, reading) = true ∧ (updating []).stillIn (0, reading) = false := by
  refine ⟨sound_of ?_, fun mid hm => ⟨sound_of ?_, ?_⟩, ?_, ?_, ?_, ?_, ?_, sound_of ?_, ?_, ?_, ?_, sound_of ?_, sound_of ?_, ?_⟩
  any_goals revert mid
  all_goals decide +kernel

/-- A module that is up (STATE 1) with the record of launch 1 published: nothing in it but its number where `good`. -/
def publishing (good : Bool) : State := withMem (withMem (withMem demo 8 8 1) 0x1000 8 1) 0x100100 8 (if good then 1 else 0)
/-- What a dispatcher takes of a record that is refused, and of one that is not. -/
def refusedRecord : Taken := { seq := 1, status := 3, code := 0, tval := 0, launch := none, args := [], report := none }
@[inherit_doc refusedRecord] def goodRecord : Taken := { refusedRecord with status := 0, launch := some job, args := [5] }
/-- A module that is up, with a record taken, or with launches and gangs; core 5 of die 0 has all its quartets. -/
def taking (r : Taken) : State := (publishing true).setDie 0 { (publishing true).die 0 with record := some r }
@[inherit_doc taking] def queued (ls : List Launch) (gs : List Gang) (since : Option (Nat × Nat × Nat)) (usable : BitVec 8) : State :=
  (({ publishing true with cycle := 1000 } : State).setDie 0 { demo.die 0 with launches := ls, gangs := gs, headSince := since }).setCore
    { die := 0, core := 5 } { Core.reset with usable := usable }
/-- A running gang of launch 2, of lower priority, whose hart is the demo hart. -/
def running2 : Gang := { seq := 2, gindex := 0, st := .running, placedAt := 900, saved := [], stopped := 0 }
@[inherit_doc running2] def contended : State :=
  let s := queued [job, { job with seq := 2, prio := 0, next := 1 }] [running2] (some (1, 0, 1000)) 0
  s.setHart s.cur { s.h with id := { s.h.id with gangId := 0x200000000 } }

/-- A record that may be taken, refused or not; a launch that is done and one that is not; no head, a head that fits, and one that does
not; a slice that has just run out. -/
theorem witness_LaunchRows :
    (∀ good, (publishing good).Sound ∧ (publishing good).peekNat 8 8 = 1 ∧ ((publishing good).die 0).accseq < (publishing good).peekNat 0x1000 8
      ∧ ((publishing good).die 0).accseq < ((publishing good).die 0).doneseq + 4096 ∧ ((publishing good).die 0).record = none
      ∧ ((publishing good).die 0).halted = false)
    ∧ (publishing false).peekNat 0x100100 8 ≠ 1
    ∧ (taking refusedRecord).Sound ∧ (taking goodRecord).Sound ∧ ((taking refusedRecord).die 0).record = some refusedRecord ∧ refusedRecord.launch = none
    ∧ ((taking goodRecord).die 0).record = some goodRecord ∧ goodRecord.args.length ≤ 65536 ∧ 0x9000 ≤ job.areaPa
    ∧ (let s := queued [{ job with next := 1, gangsDone := 1 }] [] none 0; s.Sound ∧ ((s.die 0).launches.find? fun l => l.seq == 1).isSome ∧ s.peekNat 8 8 = 1)
    ∧ (queued [] [] none 0).Sound ∧ ((queued [] [] none 0).die 0).head = none
    ∧ (let s := queued [job] [] none 0xFF; s.Sound ∧ (s.die 0).head = some (1, 1, 0) ∧ (s.die 0).halted = false ∧ s.ckPending = false
        ∧ job.lease.toNat / 2 ^ 8 % 2 ^ 32 = 0 ∧ (s.placeAll 0 [job.hart 0 0]).isSome ∧ (s.spot 0 1 false).isSome)
    ∧ (let s := queued [job] [] none 0; s.Sound ∧ (s.die 0).head = some (1, 1, 0) ∧ s.placeAll 0 [job.hart 0 0] = none)
    ∧ (contended.Sound ∧ (contended.die 0).head = some (1, 1, 0) ∧ (contended.die 0).headSince = some (1, 0, 1000)
        ∧ 1000 + contended.peekNat (0x1000 + 256) 8 ≤ contended.cycle ∧ (contended.die 0).suspends = []
        ∧ contended.sliceVictim 0 1 0 = some running2 ∧ contended.members 0 running2.gangId ≠ []) := by
  refine ⟨fun good => ⟨sound_of ?_, ?_⟩, ?_, sound_of ?_, sound_of ?_, ?_, ?_, ?_, ?_, ?_, ⟨sound_of ?_, ?_⟩, sound_of ?_, ?_,
    ⟨sound_of ?_, ?_⟩, ⟨sound_of ?_, ?_⟩, ⟨sound_of ?_, ?_⟩⟩
  any_goals revert good
  all_goals decide +kernel

/-- The record of launch 1, one gang of `harts` harts of one quartet each, with its argument block and its manifest in a space whose
tables map each address below 2^36 to itself. -/
def recording (harts : Nat) : State :=
  let s := withMem (withMem (publishing true) 0x3000000 8 0x3004001) 0x3004000 8 0x3E3
  let s := withMem (withMem (withMem s 0x100108 8 0x1000000) 0x100110 8 0x4000000) 0x100118 8 (8 + 2 ^ 32 * harts + 2 ^ 48)
  let s := withMem (withMem s 0x100120 8 1) 0x100130 8 0x2000000
  ({ s with acc := { s.acc with roots := [(1, 0x3000000)] } } : State).setCore { die := 0, core := 5 } { Core.reset with usable := 0xFF }

/-- A record with a bad field; one whose ranges are mapped, with a gang that fits and whose manifest is refused, and with one that does not
fit; one whose space is unknown. -/
theorem witness_LaunchRows_record :
    recordBad (recordAt (publishing true) 0 1) 1
    ∧ (∀ harts ∈ [1, 5], ¬recordBad (recordAt (recording harts) 0 1) 1 ∧ (recording harts).launchDomain 0 = some (1, 0x3000000)
        ∧ (recording harts).recordUnmapped 0 1 0x3000000 = false)
    ∧ (recording 1).Sound ∧ (recording 1).gangFits 0 1 1 false = true ∧ (recording 5).gangFits 0 5 1 false = false
    ∧ (recording 1).checkManifest 0x3000000 0x2000000 0x1000000 = none
    ∧ (publishing true).launchDomain 0 = none ∧ (withMem (recording 1) 0x3004000 8 0).recordUnmapped 0 1 0x3000000 = true := by
  unfold recordBad
  refine ⟨?_, ?_, sound_of ?_, ?_⟩ <;> decide +kernel

/-- A launch that waits for its journal; a head that waits for a checkpoint, for an area in use, or for a lease another gang holds; a head
that has waited less than a slice, and one with no gang to suspend. -/
theorem witness_LaunchRows_waits :
    (let l := { job with extj := true, next := 1, gangsDone := 1, doneAt := some 5 };
      ({ queued [l] [] none 0 with journal := [{ die := 0, seq := 1, hart := 0, write :=
        { va := 0, module := none, pa := 0, bytes := [], mask := 0xFF, amo := none, after := 0, rel := none } }] } : State).journalReleased 0 l = false)
    ∧ (let s := { queued [job] [] none 0xFF with ckPending := true }; s.ckDrain = none ∧ (s.die 0).head = some (1, 1, 0))
    ∧ (let l := { job with harts := 1344, gangs := 2, next := 1 }; let s := queued [l] [{ running2 with seq := 1 }] none 0;
      (s.die 0).head = some (1, 1, 1) ∧ (s.die 0).launches.find? (fun l => l.seq == 1) = some l ∧ 0 % areasOf l = 1 % areasOf l)
    ∧ (let l := { job with lease := 0x100 }; let s := { queued [l] [] none 0 with quarters := [(0, 1)], leases := [(0, { die := 0, gang := 9, ends := 100000 })] };
      (s.die 0).head = some (1, 1, 0) ∧ s.leaseHeld 0 l (gangIdOf 1 0) = true)
    ∧ (let s := queued [job] [] (some (1, 0, 1000)) 0; (s.die 0).head = some (1, 1, 0) ∧ s.sliceVictim 0 1 0 = none)
    ∧ (withMem contended 0x1100 8 1).cycle < 1000 + (withMem contended 0x1100 8 1).peekNat (0x1000 + 256) 8 := by
  decide +kernel

/-- Reads of the host through each port, permitted, with a bad sector, and where the port's egress target is shut; payloads too large; peer
atomics, permitted and refused; a sealed read of a live seal; an update that waits for a posted write. -/
theorem witness_HostRows_ports : let bad := { demo with poison := [0xB8000 / 64] }
    let shut := { demo with acc := { demo.acc with perm := Map.set (permDefault 80 0x1204) demo.acc.perm (80 * 65536 + 0x1204) 0 } }
    bad.Sound ∧ shut.Sound ∧ 0xB8000 + 8 ≤ 2 ^ 41 ∧ (0xB8000 + 0) / 64 ∈ bad.poison
    ∧ (∀ port < 2, demo.portPermits (0x1204 + port) 0xB8000 8 .r = true ∧ demo.permits (some (80 + port)) (0x1204 + port) .w = true)
    ∧ shut.permits (some 80) 0x1204 .w = false
    ∧ (∀ n ∈ [4, 8], 0xB8000 % n = 0 ∧ demo.portPermits 0x1206 0xB8000 n .a = true ∧ (closed 0x1206).portPermits 0x1206 0xB8000 n .a = false
        ∧ (∀ k < n, demo.frozen (0xB8000 + k) = false))
    ∧ demo.region 0xB8000 = .normal 0 ∧ sameSeal ∈ sealed.seals ∧ sameSeal.base ≤ 0x1000000 ∧ 0x1000000 + 64 ≤ sameSeal.base + sameSeal.len
    ∧ sealed.portPermits 0x1206 0x1000000 64 .r = true ∧ sealed.targetOf 0x1000000 ≠ none
    ∧ (let w : Posted := { va := 0x18000, module := none, pa := loc8, bytes := [1], mask := 0xFF, amo := none, after := 0, rel := some 3 }
      let s := { (at1000 fun h => { h with posted := [w] }) with upd := some { number := 5, status := 0, inFlight := [], posted := [(0, w)] } }
      s.Sound ∧ w ∈ (s.hart (hartIdOf 0)).posted) := by
  refine ⟨sound_of ?_, sound_of ?_, ?_, ?_, ?_, ?_, ?_, ?_, ?_, ?_, ?_, ?_, ?_, sound_of ?_, ?_⟩ <;> decide +kernel

/-- A record taken with and without the mirror's rights; a place that a hart can take, and a core with none; the dispatcher's stores
permitted; a gang that may be suspended for the head. -/
theorem witness_LaunchRows_places : let slot := 0x100000 + 256 * 1
    let s := publishing true; let q := queued [job] [] none 0xFF
    (s.permits (s.targetOf slot) 0 .r = true ∧ s.permits (s.targetOf slot) 0x1201 .r = true ∧ s.permits (some 84) 0x1201 .w = true)
    ∧ (let u := closed 0x1201; u.permits (u.targetOf slot) 0x1201 .r = false)
    ∧ (∀ pa ∈ [0x1000 + 64, job.areaPa, 0x900000 + 32], s.permits (s.targetOf pa) 0 .w = true)
    ∧ q.placeAll 0 ([job.hart 0 0].take 0) = some q
    ∧ (∀ h ∈ [job.hart 0 0], h.vs.qcount ∈ [0, 1, 2, 4, 8]) ∧ job.quartets ∈ [0, 1, 2, 4, 8] ∧ job.harts ≤ 1344
    ∧ (running2 ∈ (contended.die 0).gangs ∧ running2.st = .running
        ∧ (((contended.die 0).launches.find? fun l => l.seq == running2.seq).map fun l => l.prio.toNat).getD 0 < 1) := by
  decide +kernel

/-- A core with no hart on it and all its quartets takes a hart of one. -/
theorem witness_LaunchRows_takes : canTake (queued [job] [] none 0xFF) 0 1 false { die := 0, core := 5, slot := 0 } 0 := by
  have he : ∀ sl : Fin 8, ∀ c ∈ [(4 : Fin 192), 5], ((queued [job] [] none 0xFF).hart { die := 0, core := c, slot := sl }).st = .empty := by decide +kernel
  have hn : ∀ i, ¬partOn (queued [job] [] none 0xFF) { die := 0, core := 5 } i := by
    rintro ⟨d, c, sl⟩ ⟨hd, hs, -, hc⟩
    simp only at hd hc
    subst hd
    rcases hc with rfl | ⟨-, hc, -⟩
    · exact hs (he sl 5 (by decide))
    · have : c = 4 := Fin.ext (by simpa using hc)
      subst this
      exact hs (he sl 4 (by decide))
  refine ⟨rfl, by decide, by decide +kernel, ⟨he 0 5 (by decide), fun j hd hs _ hc => ?_⟩, ?_, fun h => absurd h (by decide)⟩
  · obtain ⟨d, c, sl⟩ := j
    simp only at hd hs hc
    have : c = 4 := Fin.ext (by simpa using hc)
    subst hd hs this
    exact Or.inl (he 0 4 (by decide))
  · rw [if_neg (by decide)]
    refine ⟨fun l _ hl => ?_, by decide, by decide, fun k h0 h1 => ⟨by omega, ?_, ?_, fun i hi => absurd hi (hn i)⟩⟩
    · cases l with
      | nil => decide
      | cons i l => exact absurd (hl i List.mem_cons_self) (hn i)
    · have : k = 0 := by omega
      subst this; decide +kernel
    · have hr : ((queued [job] [] none 0xFF).core { die := 0, core := 5 }).reserved = [] := by decide +kernel
      exact fun r h => absurd (hr ▸ h : r ∈ []) List.not_mem_nil

/-- The state after an instruction that answers one. -/
def after (o : Out) : State := match o with | .next t => t | _ => demo
/-- A copy of 4 bytes declared on stream 3, and its strip read. -/
def declared : State := after (execVcopy true 2 2 3 (recorded 4 2))
@[inherit_doc declared] def copying : State := after (execCopyStripRead demo.cur 3 declared)
/-- A sender of one element to index `i` of its gang, whose hart of index 1 is in slot 1. -/
def sendingTo (i : Nat) : State :=
  let s := vec 8 1 1 fun h => { h with stm := h.stm.set 3 (bound (BitVec.ofNat 64 i) 8 true) }
  after (execVsendEom true 2 3 (s.setHart slot1 { Hart.reset with st := .running, id := { Hart.reset.id with index := 1 } }))
/-- That send, behind a write that has yet to perform. -/
def waitingSend : State :=
  let s := sendingTo 1
  s.setHart s.cur { s.h with posted :=
    [{ va := 0x18000, module := none, pa := loc8, bytes := [1], mask := 0xFF, amo := none, after := 0, rel := some 3 }] }
/-- That slot's channel 0, full. -/
def fullChannel : State :=
  let s := sendingTo 1
  s.setHart slot1 { s.hart slot1 with chan := (s.hart slot1).chan.set 0 { entries := List.replicate 512 none, holder := none } }
/-- A convoy of one czero in a phase. -/
def clearing (p : Phase) : State :=
  vec 8 4 1 fun h => { h with convoy := [{ enc := 0, size := 8, masked := false, op := .czero 2, acted := false }], phase := p, blk := h.blk.set 2 [(7, 9)] }
/-- A hart with one write left to perform, and the transfers `l`. -/
def posting (pa : Nat) (module : Option Nat) (l : List Entry) : State :=
  at1000 fun h => { h with posted := [{ va := 0x18000, module := module, pa := pa, bytes := [1, 2, 3], mask := 0xFF, amo := none, after := 1, rel := some 3 }], ilock := l }

/-- A stream that may fetch ahead; a strip to read and one to write; a delivery with no receiver, with room and with none; a convoy in each
phase; a write behind a transfer, one free to perform, and one to a POOL; a timeout. -/
theorem witness_EngineRows :
    (vec8.Sound ∧ (let x := vec8.hart demo.cur; let q := x.stm[(0 : Fin 16)]
      q.mode = 0 ∧ q.state = .active ∧ x.st = .running ∧ x.ilock = [] ∧ (∀ k : Fin 16, x.stm[k].err = none)
        ∧ ∀ n < 8, (match vec8.streamPieces demo.cur q (q.elemAddr n).1 1 .read with
            | .ok ps => !ps.isEmpty && (match vec8.readPieces demo.cur (q.elemAddr n).1 .read ps with | .ok _ => true | _ => false)
            | _ => false) = true))
    ∧ (declared.Sound ∧ (let x := declared.hart demo.cur; let q := x.stm[(3 : Fin 16)]
      q.mode = 2 ∧ q.state = .active ∧ q.err = none ∧ x.st = .running ∧ x.entryOf 3 = true ∧ q.fetched = 0 ∧ q.count = 4 ∧ q.acc = 4
        ∧ q.strips = [] ∧ q.waitsForStrip 0 4 = false ∧ q.written = 0 ∧ (declared.die 0).heat.getLsbD 0 = false
        ∧ ∀ n < 4, declared.copyElem demo.cur q n = .ok 0))
    ∧ (copying.Sound ∧ (let x := copying.hart demo.cur; let q := x.stm[(3 : Fin 16)]
      q.strips = [[0, 0, 0, 0]] ∧ q.form = .plain ∧ q.tap = false ∧ x.ilock.map (fun e => (e.kind, e.stream)) = [(.copy, 3)] ∧ x.posted = []
        ∧ copying.journal = [] ∧ ∀ k < 4, copying.region (loc8 + k) ≠ .pool ∧ copying.heldTarget demo.cur q (q.destAt k).1 .write = .ok (.mem (loc8 + k) .normal)))
    ∧ (∀ i ∈ [1, 5], (sendingTo i).Sound ∧ (let q := ((sendingTo i).hart demo.cur).stm[(3 : Fin 16)]
      q.outbox = [some 0, none] ∧ q.mode = 3 ∧ q.dir = true ∧ q.state ≠ .idle ∧ (sendingTo i).receiver demo.cur q = (if i = 1 then some 1 else none)
        ∧ (sendingTo i).sendWaits demo.cur ((((sendingTo i).h.entry? 3).map (·.no)).getD 0) q.bind = false))
    ∧ waitingSend.sendWaits demo.cur (((waitingSend.h.entry? 3).map (·.no)).getD 0) waitingSend.h.stm[(3 : Fin 16)].bind = true
    ∧ (((sendingTo 1).hart slot1).chan[(0 : Fin 4)].entries.length < 512 ∧ ((sendingTo 1).hart slot1).chan[(0 : Fin 4)].holder = none
      ∧ (fullChannel.hart slot1).chan[(0 : Fin 4)].entries.length = 512)
    ∧ (∀ p ∈ [Phase.start, .trim, .drain], (clearing p).Sound ∧ ((clearing p).hart demo.cur).phase = p ∧ ((clearing p).hart demo.cur).st = .running
      ∧ ((clearing p).hart demo.cur).relay = false ∧ (clearing p).poison = [] ∧ ((clearing p).hart demo.cur).convoy.map (·.op) = [.czero 2]
      ∧ (clearing p).paced = false ∧ ((clearing p).hart demo.cur).ahead = none ∧ (clearing p).crucibleFree)
    ∧ (∀ l ∈ [[], [inFlight]], (posting 0xB8000 none l).Sound ∧ (posting 0xB8000 none l).region 0xB8000 ≠ .pool
      ∧ ((posting 0xB8000 none l).hart demo.cur).ilock = l ∧ (posting 0xB8000 none l).launchOf demo.cur = none)
    ∧ (posting (2 ^ 47) none []).Sound ∧ (posting (2 ^ 47) none []).region (2 ^ 47) = .pool ∧ (posting 5 (some 9) []).Sound
    ∧ ((posting (2 ^ 47) none []).h.posted.find? fun w => w.module = none && (posting (2 ^ 47) none []).region w.pa = .pool).isSome
    ∧ ((posting 5 (some 9) []).h.posted.find? fun w => w.module.isSome).isSome := by
  unfold State.crucibleFree
  refine ⟨⟨sound_of ?_, ?_⟩, ⟨sound_of ?_, ?_⟩, ⟨sound_of ?_, ?_⟩, fun i hi => ⟨sound_of ?_, ?_⟩, ?_, ?_, fun p hp => ⟨sound_of ?_, ?_⟩,
    fun l hl => ⟨sound_of ?_, ?_⟩, sound_of ?_, ?_, sound_of ?_, ?_, ?_⟩
  any_goals revert i
  any_goals revert p
  any_goals revert l
  all_goals decide +kernel

/-- A swage of one row accepted on stream 3. -/
def scanning : State := after (execKswage true 2 3 (commanding 1))
/-- The command of a state's stream 3. -/
def jobOf (s : State) : Option KerbJob := (s.hart demo.cur).stm[(3 : Fin 16)].job
/-- A state with its stream 3 changed, and with the command of that stream changed. -/
def streamWith (s : State) (f : Stream → Stream) : State :=
  let h := s.hart demo.cur
  s.setHart demo.cur { h with stm := h.stm.set 3 (f h.stm[(3 : Fin 16)]) }
@[inherit_doc streamWith] def jobWith (s : State) (f : KerbJob → KerbJob) : State := streamWith s fun t => { t with job := t.job.map f }
/-- That command with its row read, with its result delivered, and that after an error. -/
def scanned : State :=
  let s := jobWith scanning fun j => { j with data := [(0, 1)], units := [(31, 1)], scanned := 1 }
  s.setHart s.cur { s.h with ilock := [] }
@[inherit_doc scanned] def delivered : State :=
  streamWith (jobWith scanned fun j => { j with sent := 1 }) fun t => { t with ready := [[0]] }
@[inherit_doc scanned] def failing (left : List (List Nat)) : State := streamWith delivered fun t => { t with err := some dataerr, ready := left }
/-- A pool of one bag with one row, and a swage paused. -/
def pooling : State := jobWith scanning fun j => { j with kind := 1, w5 := 1, w6 := 0, items := [(0, 0)] }
@[inherit_doc pooling] def pausing : State := jobWith scanning fun j => { j with paused := true }
/-- The swage where its module may not read the quarter. -/
def barring : State := { scanning with acc := { scanning.acc with perm := Map.set (permDefault 64 0x101F) scanning.acc.perm (64 * 65536 + 0x101F) 0 } }
/-- A convoy that waits at its drain for a kerb command. -/
def waitingKerb : State :=
  let s := commanding 1
  s.setHart s.cur { s.h with convoy := [memberOf (.kswage true 2 3) false (.kerb 0 2 3 (s.peekNat loc8 64))], phase := .drain }

/-- Units that may read on, a bag, a pause that may end, a unit shut out; a result to deliver, everything delivered; an error with its
results consumed and not; a convoy that waits to be accepted. -/
theorem witness_KerbRows :
    (Map.rises ([] : Map Nat) ∧ ∀ kind < 3, ∃ j ∈ jobOf pooling, ({ j with kind := kind } : KerbJob).cmd.d 1 = 16)
    ∧ (∀ s ∈ [scanning, pooling, pausing, barring], s.Sound ∧ (let q := (s.hart demo.cur).stm[(3 : Fin 16)]
      q.mode = 4 ∧ q.state = .active ∧ q.err = none ∧ (s.hart demo.cur).st = .running ∧ q.ready = []
        ∧ ∃ j ∈ jobOf s, j.units = [(31, 0)] ∧ j.bound = 1 ∧ j.results.length = 0 ∧ j.sent = 0 ∧ s.unitsReady q j = [(31, 0)]
            ∧ q.buffered j + 0 < 4096))
    ∧ (∃ j ∈ jobOf pausing, j.paused = true) ∧ (∃ j ∈ jobOf pooling, j.kind = 1 ∧ j.paused = false)
    ∧ (∀ s ∈ [scanning, pooling], s.permits (some (64 + 31 / 32)) (0x1000 + 31) .r = true
        ∧ ∃ j ∈ jobOf s, (match s.scanItem demo.cur (s.hart demo.cur).stm[(3 : Fin 16)] j
            ((((s.hart demo.cur).entry? 3).map (·.no)).getD 0) 0 with | .ok l => decide (0 < l.length) | _ => false) = true)
    ∧ barring.permits (some (64 + 31 / 32)) (0x1000 + 31) .r = false
    ∧ (scanned.Sound ∧ ∃ j ∈ jobOf scanned, j.results.length = 1 ∧ j.sent = 0)
    ∧ (delivered.Sound ∧ (delivered.hart demo.cur).entryOf 3 = false
        ∧ ∃ j ∈ jobOf delivered, j.results.length ≤ j.sent ∧ j.scanned = j.total ∧ j.scanned = j.bound)
    ∧ (∀ left ∈ [[], [[0]]], (failing left).Sound ∧ (failing left).h.stm[(3 : Fin 16)].err = some dataerr
        ∧ (failing left).h.stm[(3 : Fin 16)].ready = left)
    ∧ (waitingKerb.Sound ∧ waitingKerb.h.phase = .drain ∧ waitingKerb.h.st = .running ∧ waitingKerb.h.stm[(3 : Fin 16)].unreported = false
        ∧ waitingKerb.h.ahead = none
        ∧ (match waitingKerb.acceptKerb demo.cur 3 0 (waitingKerb.h.getX 2) (Cmd.ofNat (waitingKerb.peekNat loc8 64)) none with
            | .ok _ => true | _ => false) = true) := by
  refine ⟨⟨trivial, ?_⟩, fun s hs => ⟨sound_of ?_, ?_⟩, ?_, ?_, ?_, ?_, ⟨sound_of ?_, ?_⟩, ⟨sound_of ?_, ?_⟩,
    fun l hl => ⟨sound_of ?_, ?_⟩, ⟨sound_of ?_, ?_⟩⟩
  any_goals revert s
  any_goals revert l
  all_goals decide +kernel

/-- A write that its granule's seal refuses where it performs, and a release that is silent because an earlier write failed. -/
theorem witness_EngineRows_refused : let s := { posting 0x1000000 none [] with seals := [sameSeal] }
    let t := at1000 fun h => { h with wfail := some 5, posted := [{ va := 0x18000, module := none, pa := loc8, bytes := [1], mask := 0xFF, amo := none, after := 0, rel := some 5 }] }
    s.Sound ∧ s.region 0x1000000 ≠ .pool ∧ s.frozen (0x1000000 + 0) = true ∧ s.h.wfail = none
    ∧ t.Sound ∧ t.h.wfail ≠ none ∧ t.h.posted.map (·.rel) = [some 5] ∧ t.launchOf demo.cur = none := by
  refine ⟨sound_of ?_, ?_, ?_, ?_, sound_of ?_, ?_⟩ <;> decide +kernel

/-- Operands of a score of each format, elements to choose from, and a bag of one item. -/
theorem witness_KerbRows_values : ((∀ x ∈ [1] ++ [255], x < 2 ^ 8) ∧ ∀ x ∈ [0x3F80] ++ [0x4000], x < 2 ^ 16)
    ∧ 0x80 < 2 ^ tongsBits 0 ∧ ([(0, 5), (3, 2)] : List (Nat × Nat)).Pairwise (fun p q => p.1 < q.1)
    ∧ (∃ j ∈ jobOf scanned, Map.rises j.data ∧ (∀ p ∈ j.data, p.2 ≠ 0 ∧ (j.kind ≠ 1 → p.1 < j.count)) ∧ j.kind ≠ 1 ∧ ∀ n < j.scanned, j.got n ≠ none)
    ∧ (∃ j ∈ jobOf pooling, j.data = [] ∧ 0 < j.bound ∧ j.kind = 1 ∧ j.cmd.d 1 = 16) := by
  refine ⟨by decide, by decide, by decide, ?_, by decide +kernel⟩
  have h : (match jobOf scanned with
      | some j => risesB 0 j.data && decide ((∀ p ∈ j.data, p.2 ≠ 0 ∧ (j.kind ≠ 1 → p.1 < j.count)) ∧ j.kind ≠ 1 ∧ ∀ n < j.scanned, j.got n ≠ none)
      | none => false) = true := by decide +kernel
  split at h
  · rename_i j hj
    simp only [Bool.and_eq_true, decide_eq_true_eq] at h
    exact ⟨j, hj, rises_of h.1, h.2⟩
  · simp at h

/-- The demo module at cycle 100,000 with channel 5 changed. -/
def chanWith (f : Channel → Channel) : State := ({ demo with cycle := 100000 } : State).setChannel 5 (f Channel.reset)
/-- A bank of channel 5, in a set that is active or not. -/
def bankWith (active : Bool) (b : Bank) : State :=
  chanWith fun c => { c.setBank 6 b with lastArrival := if active then [(1, 99900)] else [] }
/-- Channel 5 in a power state. -/
def powered (w : Nat) (changing : Option (Nat × Nat)) : State := chanWith fun c => { c with power := w, changing := changing }
/-- A pool command that still has a bag to read in the unit of channel 5 (R488). -/
def liveUnit (w : Nat) : State :=
  ({ jobWith pooling fun j => { j with units := [(5, 0)] } with cycle := 100000 } : State).setChannel 5 { Channel.reset with power := w }
/-- Die 0 in refresh-trace mode. -/
def traced : State := { demo with cycle := 100000 }.pokeNat 0xA0040 8 1

/-- A request with and without a bank; banks that may and may not be served; a due reached, not reached, postponed and forcing; refreshes
and accesses at their end; power states with and without live accumulators; arming; scrubbing. -/
theorem witness_MemoryControllerRows :
    (demo.Sound ∧ demo.bankOf 0x1000005 = some (0, 0) ∧ demo.bankOf (2 ^ 42) = none ∧ demo.channel 0 = Channel.reset
      ∧ demo.h.reads = [] ∧ (demoWith fun h => { h with reads := [{ late with pa := 0x1000005 }] }).h.reads ≠ [])
    ∧ (∀ b ∈ [({ Bank.reset with queue := [(some 0, 99990)] } : Bank), { Bank.reset with queue := [(none, 99990)] }, { Bank.reset with refresh := true, free := 100000 },
          { Bank.reset with refresh := true, free := 100000, debt := 2 }, { Bank.reset with access := true, free := 100000, owed := true },
          { Bank.reset with dueNo := 99 }, { Bank.reset with debt := 8 }, Bank.reset],
        ∀ active : Bool, (bankWith active b).Sound ∧ ((bankWith active b).channel 5).bank 6 = b
          ∧ ((bankWith active b).channel 5).active 1 100000 = (active || !b.queue.isEmpty)
          ∧ ((bankWith active b).channel 5).postponed 1 = b.debt ∧ ((bankWith active b).channel 5).power % 4 = 0
          ∧ Map.get 0 ((bankWith active b).channel 5).forced 0 = 0 ∧ Map.get false ((bankWith active b).channel 5).armed 1 = false
          ∧ ∀ k < 16, k ≠ 6 → (((bankWith active b).channel 5).bank k).idle = true ∧ (((bankWith active b).channel 5).bank k).debt = 0)
    ∧ (∀ w ∈ [0, 1, 2, 36, 40], (powered w none).Sound ∧ ((powered w none).channel 5).power = w ∧ (powered w none).unitLive 5 = false
        ∧ (powered w none).peekNat 0xA0040 8 = 0)
    ∧ (∀ target < 3, (powered 67 (some (target, 99000))).Sound ∧ ((powered 67 (some (target, 99000))).channel 5).changing = some (target, 99000)
        ∧ ((powered 67 (some (target, 99000))).channel 5).power / 4 % 4 = 0 ∧ (∀ q ∈ ((powered 67 (some (target, 99000))).channel 5).banks, q.2.queue = [])
        ∧ ((powered 67 (some (target, 99000))).channel 5).forced = [] ∧ ∀ k < 32, (((powered 67 (some (target, 99000))).channel 5).bank k).refresh = false)
    ∧ (let s := chanWith fun c => { c.setBank 6 { Bank.reset with queue := [(none, 5)] } with power := 3, changing := some (2, 99000) }
      s.Sound ∧ (s.channel 5).changing = some (2, 99000) ∧ ∃ q ∈ (s.channel 5).banks, q.2.queue ≠ [])
    ∧ ((liveUnit 0).Sound ∧ (liveUnit 0).unitLive 5 = true ∧ ((liveUnit 0).channel 5).power = 0)
    ∧ (∀ arming : Bool, (dieWith fun d => { d with arming := arming }).Sound ∧ ((dieWith fun d => { d with arming := arming }).die 0).arming = arming
        ∧ ∀ k < 64, ((dieWith fun d => { d with arming := arming }).channel k).forced = []
            ∧ ∀ e < 32, (((dieWith fun d => { d with arming := arming }).channel k).bank e).refresh = false)
    ∧ (demo.peekNat 0xA0040 8 % 2 = 0 ∧ demo.permits (demo.targetOf 0x1000000) 0x1208 .r = true)
    ∧ (traced.Sound ∧ traced.peekNat 0xA0040 8 % 2 = 1) := by
  refine ⟨⟨sound_of ?_, ?_⟩, fun b hb active => ⟨sound_of ?_, ?_⟩, fun w hw => ⟨sound_of ?_, ?_⟩, fun t ht => ⟨sound_of ?_, ?_⟩,
    ⟨sound_of ?_, ?_⟩, ⟨sound_of ?_, ?_⟩, fun a => ⟨sound_of ?_, ?_⟩, ?_, ⟨sound_of ?_, ?_⟩⟩
  any_goals revert active
  any_goals revert b
  any_goals revert w
  any_goals revert t
  any_goals revert a
  all_goals decide +kernel

/-- Channel 5 at cycle 100,000 with every due met but those that `f` brings back. -/
def calm (f : Channel → Channel) : State :=
  chanWith fun c => f ((List.range 32).foldl (fun c b => c.setBank b { Bank.reset with dueNo := 13 }) c)
/-- Bank 6 of that channel, another bank under refresh, and its set active or not. -/
def bank6 (active : Bool) (b : Bank) : State := calm fun c =>
  { (c.setBank 6 b).setBank 20 { Bank.reset with dueNo := 13, refresh := true, free := 100500 } with lastArrival := if active then [(1, 100001)] else [] }

/-- States whose next event is each event of a bank, of its set and of the power state: a request to serve with and without a requester, a due
of each kind, the end of a refresh and of an access, a payment, and a change of state; and an arrival. -/
theorem witness_MemoryControllerRows_events :
    (∀ p ∈ [(bank6 false { Bank.reset with dueNo := 13, queue := [(some 0, 99990)] }, (99990, MemEvent.serve 6)),
        (bank6 false { Bank.reset with dueNo := 13, queue := [(none, 99990)] }, (99990, .serve 6)),
        (bank6 false { Bank.reset with dueNo := 12 }, (97560, .due 6)),
        (bank6 false { Bank.reset with dueNo := 12, access := true, free := 100100 }, (97560, .due 6)),
        (bank6 true { Bank.reset with dueNo := 12, refresh := true, free := 100100 }, (97560, .due 6)),
        (bank6 true { Bank.reset with dueNo := 12 }, (97560, .due 6)),
        (bank6 true { Bank.reset with dueNo := 12, debt := 8 }, (97560, .due 6)),
        (bank6 false { Bank.reset with dueNo := 13, refresh := true, free := 99995 }, (99995, .endRefresh 6)),
        (bank6 false { Bank.reset with dueNo := 13, refresh := true, free := 99995, late := 1 }, (99995, .endRefresh 6)),
        (bank6 false { Bank.reset with dueNo := 13, access := true, free := 99995, owed := true }, (99995, .endAccess 6)),
        (bank6 false { Bank.reset with dueNo := 13, debt := 2 }, (0, .pay 1)),
        (calm fun c => { c with power := 3, changing := some (2, 99000) }, (99000, .changed))],
      p.1.Sound ∧ p.1.nextEvent 5 = some p.2)
    ∧ (∀ active : Bool, ((bank6 active { Bank.reset with dueNo := 12 }).channel 5).active 1 97560 = active)
    ∧ ((bank6 true { Bank.reset with dueNo := 12, debt := 8 }).channel 5).postponed 1 = 8
    ∧ (let s := calm fun c => { (c.setBank 6 { Bank.reset with dueNo := 13, access := true, free := 99995 }) with forced := [(0, 2)] }
      s.Sound ∧ s.nextEvent 5 = some (99995, .endAccess 6) ∧ Map.get 0 (s.channel 5).forced 0 = 2)
    ∧ (let s := { (demoWith fun h => { h with reads := [{ late with pa := 0x1000005 }] }) with cycle := 50 }
      s.Sound ∧ s.bankOf 0x1000005 = some (0, 0) ∧ s.nextEvent 0 = some (5, .arrive 0 0x1000005) ∧ ((s.channel 0).upTo 5).power < 2 ^ 7)
    ∧ (demo.channel 0).resting = true ∧ demo.nextEvent 0 = none := by
  refine ⟨fun p hp => ⟨sound_of ?_, ?_⟩, ?_, ?_, ⟨sound_of ?_, ?_⟩, ⟨sound_of ?_, ?_⟩, ?_⟩
  any_goals revert p
  all_goals decide +kernel

/-- A pool whose unit leaves SREF, its saved cells to be restored. -/
theorem witness_MemoryControllerRows_restored : let s := jobWith pooling fun j => { j with units := [(5, 0)] }
    let t := ({ s with cycle := 100000 } : State).setChannel 5
      { (calm id).channel 5 with power := 3 + 64, changing := some (0, 99000) }
    t.Sound ∧ t.nextEvent 5 = some (99000, .changed) ∧ t.poolAt 5 = some (demo.cur, 3) ∧ (jobOf t).isSome := by
  refine ⟨sound_of ?_, ?_⟩ <;> decide +kernel

/-- A die whose PCAPREQ is 600, at temperatures of 100 degrees. -/
def warm : State := ((({ demo with cycle := 5 } : State).pokeNat 0xB0008 8 600).pokeNat 0xB0018 8 100).pokeNat 0xB0020 8 100
/-- A module that is up, with a checkpoint due; its gang in its slots, or out of them. -/
def due (out : Bool) : State :=
  let s := { withMem demo 8 8 1 with ckPending := true }
  s.setDie 0 { s.die 0 with gangs := [{ running2 with st := if out then .suspended else .running }] }
/-- A checkpoint of that module. -/
def taken : Checkpoint :=
  { mem := demo.mem, seals := [sameSeal], harts := [], dies := [(0, { Die.reset with accseq := 4, doneseq := 3 })], journal := [], cycle := 900 }
/-- A pair of the demo hart's, `r` rollbacks in a row made, with or without a firmware trap being handled. -/
def paired (r : Nat) (inf : Bool) : State :=
  { demo with pairs := [(0, { hart := { demo.h with pc := 0x10010, inf := inf }, rollbacks := r, resumeAt := none })] }

/-- A module not booted, and one that is, with and without a checkpoint; a point due with gangs out and in; a drain; an emergency, at
its end or not; a pair before each of its rollbacks; a port up, and one down. -/
theorem witness_PlatformRows :
    (State.reset.Sound ∧ State.reset.booted = false)
    ∧ (demo.Sound ∧ demo.booted = true ∧ demo.mirror = [] ∧ demo.ckpt = none ∧ demo.pointDue = false ∧ demo.portsDown = [])
    ∧ (let s := { demo with ckpt := some taken, portsDown := [3] }; s.Sound ∧ s.ckpt.isSome ∧ s.peekNat 8 8 ≠ 2)
    ∧ (let s := { withMem demo 8 8 2 with ckpt := some taken, harts := [] }; s.Sound ∧ s.booted = true ∧ s.peekNat 8 8 = 2 ∧ s.mirror = []
      ∧ s.hart demo.cur = Hart.reset)
    ∧ (let s := withMem demo 8 8 2; s.Sound ∧ s.peekNat 8 8 = 2 ∧ s.ckpt = none)
    ∧ (let s := { demo with ckDrain := some taken }; s.Sound ∧ s.ckDrain.map (·.journal) = some [])
    ∧ (∀ out : Bool, (due out).Sound ∧ (due out).pointDue = true ∧ (due out).gangsOut = out)
    ∧ (warm.Sound ∧ warm.peekNat 0xB0008 8 = 600 ∧ (warm.die 0).clkMHz = 2000 ∧ (warm.die 0).emergency = none ∧ (warm.channel 0).power % 4 = 0)
    ∧ (dieWith fun d => { d with clkMHz := 1500, emergency := some (3, 0) }).Sound
    ∧ (∀ c ∈ [3, 2000000003], let s := { (dieWith fun d => { d with emergency := some (3, 0) }) with cycle := c }
        s.Sound ∧ (s.die 0).emergency = some (3, 0) ∧ (lasted (s.die 0) c).isSome = true ∧ (s.die 0).halted = false)
    ∧ (∀ r < 3, ∀ inf : Bool, (paired r inf).Sound
        ∧ ((paired r inf).pairs.find? fun q => q.1 == hartKey demo.cur).map (fun q => (q.2.rollbacks, q.2.hart.inf)) = some (r, inf)) := by
  refine ⟨⟨sound_of ?_, ?_⟩, ⟨sound_of ?_, ?_⟩, ⟨sound_of ?_, ?_⟩, ⟨sound_of ?_, ?_⟩, ⟨sound_of ?_, ?_⟩, ⟨sound_of ?_, ?_⟩, fun out => ⟨sound_of ?_, ?_⟩, ⟨sound_of ?_, ?_⟩,
    sound_of ?_, fun c hc => ⟨sound_of ?_, ?_⟩, fun r hr inf => ⟨sound_of ?_, ?_⟩⟩
  any_goals revert out
  any_goals revert c
  any_goals revert inf
  any_goals revert r
  all_goals decide +kernel

/-- A drain that the tables refuse; and a pair whose hart stops or is suspended before its third rollback. -/
theorem witness_PlatformRows_drains : let s := { demo with ckDrain := some taken }
    let t := { s with acc := { s.acc with perm := Map.set (permDefault 84 0x1200) s.acc.perm (84 * 65536 + 0x1200) 0 } }
    s.drains = true ∧ t.Sound ∧ t.drains = false
    ∧ (∀ st ∈ [SlotState.stopping, .suspending], let u := (paired 1 false).setHart demo.cur { (paired 1 false).h with st := st }
        u.Sound ∧ (u.hart demo.cur).st = st ∧ (u.pairs.find? fun q => q.1 == hartKey demo.cur).map (·.2.rollbacks) = some 1) := by
  refine ⟨?_, sound_of ?_, ?_, fun st hs => ⟨sound_of ?_, ?_⟩⟩
  any_goals revert st
  all_goals decide +kernel

/-- What `issues` asks, checked, in an even cycle. -/
noncomputable def issuesB (s : State) (i : HartId) : Bool :=
  decide (s.agenda = [] ∧ s.booted = true ∧ s.cycle % 2 = 0 ∧ s.tried.barrel.1 = some i) && s.coreRow.isNone

theorem issues_of {s : State} {i : HartId} (h : issuesB s i = true) : issues s i s.tried.barrel.2 := by
  simp only [issuesB, Bool.and_eq_true, decide_eq_true_eq, Option.isNone_iff_eq_none] at h
  exact ⟨h.1.1, h.1.2.1, h.2, fun h' => by omega, by rw [← h.1.2.2.2]⟩

/-- The state in which an issue runs. -/
noncomputable def running (s : State) : State := { s.tried.barrel.2 with cur := demo.cur, stalled := s.stalled }
/-- What the hart that issues fetches. -/
noncomputable def fetched (s : State) : Option (Nat × Nat) :=
  let q := running s
  match q.fetch q.cur (q.h.pc.toNat + (q.h.convoy.map (·.size)).sum) with | .ok p => some p | _ => none
/-- A hart with an open convoy of one czero, and the word `w` after it. -/
def following (w : Nat) : State :=
  let s := demoCode (w * 2 ^ 32)
  s.setHart s.cur { s.h with convoy := [{ enc := 0, size := 4, masked := false, op := .czero 2, acted := false }] }

/-- An add, and a word that decodes to nothing, with no convoy open; a word that joins an open convoy, and one that closes it; an event and an
instruction on the agenda. -/
theorem witness_StepRunsDecoded :
    (∀ s ∈ [demoCode 0x2CC517, demoCode 0xFFFFFFFF, following 0x0D736A83, following 0x2CC517],
      issuesB s demo.cur = true ∧ (running s).h.xwait = none ∧ (running s).h.id.paired = false ∧ (running s).pairs = []
        ∧ (running s).h.inFlight = false)
    ∧ (demoCode 0x2CC517).h.convoy = [] ∧ fetched (demoCode 0x2CC517) = some (0x2CC517, 4) ∧ decodesTo (0x2CC517, .add 5 6 11) = true
    ∧ (demoCode 0xFFFFFFFF).h.convoy = [] ∧ ((fetched (demoCode 0xFFFFFFFF)).map fun p => match decodeBits p.1 with | .ok _ => true | _ => false) = some false
    ∧ (following 0x0D736A83).h.convoy ≠ [] ∧ ((fetched (following 0x0D736A83)).map fun p => joins p.1) = some true
    ∧ ((fetched (following 0x0D736A83)).map fun p => decodesTo (p.1, .vaddVv false true 53 38 43)) = some true
    ∧ (following 0x2CC517).h.convoy ≠ [] ∧ ((fetched (following 0x2CC517)).map fun p => joins p.1) = some false := by
  decide +kernel

/-- A convoy of one czero in flight, and behind it an add that may issue. -/
def flying : State :=
  let s := { demoCode (0x2CC517 * 2 ^ 32) with paced := true }
  s.setHart s.cur { s.h with convoy := [{ enc := 0, size := 4, masked := false, op := .czero 2, acted := false }], phase := .drain }
@[inherit_doc flying] theorem witness_StepRunsDecoded_behind :
    issues flying demo.cur flying.tried.barrel.2 ∧ (running flying).h.inFlight = true
    ∧ (match (behind (running flying)).fetch demo.cur (behind (running flying)).h.pc.toNat with | .ok p => p == (0x2CC517, 4) | _ => false) = true
    ∧ (Instr.add 5 6 11).quiet = true ∧ (Instr.add 5 6 11).stores = none ∧ (Instr.add 5 6 11).loads = none
    ∧ (∀ m ∈ (running flying).h.convoy, m.op.xdest = none)
    ∧ (behind (running flying)).awaitsLoad demo.cur (Instr.add 5 6 11).xReads = false :=
  ⟨issues_of (by decide +kernel), by decide +kernel⟩

/-- The same with a load behind the convoy, of memory that nothing else accesses. -/
def flyingLoad : State :=
  let s := { demoCode (encode (.ld 5 2 0) * 2 ^ 32) with paced := true }
  s.setHart s.cur { withX s.h [(2, 0x18000)] with convoy := [{ enc := 0, size := 4, masked := false, op := .czero 2, acted := false }], phase := .drain }
@[inherit_doc flyingLoad] theorem witness_StepRunsDecoded_load :
    issues flyingLoad demo.cur flyingLoad.tried.barrel.2 ∧ (running flyingLoad).h.inFlight = true
    ∧ (match (behind (running flyingLoad)).fetch demo.cur (behind (running flyingLoad)).h.pc.toNat with | .ok p => p == (encode (.ld 5 2 0), 4) | _ => false) = true
    ∧ (Instr.ld 5 2 0).stores = none ∧ (Instr.ld 5 2 0).loads = some (2, 0, 8)
    ∧ (∀ m ∈ (running flyingLoad).h.convoy, m.op.xdest = none) ∧ (running flyingLoad).clearOf 0x18000 8 = true
    ∧ (behind (running flyingLoad)).awaitsLoad demo.cur (Instr.ld 5 2 0).xReads = false :=
  ⟨issues_of (by decide +kernel), by decide +kernel⟩

/-- Each of those states gives the barrel's turn to the demo hart. -/
theorem witness_issues : ∀ s ∈ [demoCode 0x2CC517, demoCode 0xFFFFFFFF, following 0x0D736A83, following 0x2CC517], issues s demo.cur s.tried.barrel.2 :=
  fun s hs => issues_of (witness_StepRunsDecoded.1 s hs).1

/-- An event heads an agenda, and an instruction does. -/
theorem witness_StepRunsDecoded_agenda : ∀ e ∈ [Instr.goWrite, .add 1 2 3],
    ({ demo with agenda := [.event demo.cur e] } : State).pairs = [] ∧ (e.isEvent = true → ∃ u, exec .goWrite demo = .next u) :=
  fun _ _ => ⟨rfl, fun _ => ⟨_, rfl⟩⟩

/-- A well-formed instruction with an encoding. -/
theorem witness_DecodeEncode : (Instr.add 5 6 11).wf = true ∧ (Instr.add 5 6 11).size ≠ 0 := by decide +kernel

/-- A sound state whose step answers a next state. -/
theorem witness_StepKeepsMemory : (demoCode 0x2CC517).Sound ∧ ∃ t, step (demoCode 0x2CC517) = .next t := by
  refine ⟨sound_of (by decide +kernel), ?_⟩
  have h : (match step (demoCode 0x2CC517) with | .next _ => true | _ => false) = true := by decide +kernel
  split at h
  · exact ⟨_, by assumption⟩
  · simp at h
@[inherit_doc witness_StepKeepsMemory] theorem witness_StepKeepsMaps : (demoCode 0x2CC517).Sound ∧ ∃ t, step (demoCode 0x2CC517) = .next t :=
  witness_StepKeepsMemory

/-- The lists of instructions that the result statements go through are not empty, and each width has its operations. -/
theorem witness_results :
    binaryOps ≠ [] ∧ countOps ≠ [] ∧ immediateOps ≠ [] ∧ shiftOps ≠ [] ∧ wordOps ≠ [] ∧ wordShifts ≠ [] ∧ branches ≠ []
      ∧ ∀ c, ∀ w ∈ [8, 16, 32, 64], integerOps w ≠ [] ∧ saturatingOps c w ≠ [] :=
  ⟨nofun, nofun, nofun, nofun, nofun, nofun, nofun, fun _ _ _ => ⟨nofun, nofun⟩⟩

/- THE SPEC'S WORKED EXAMPLES, one operation or one step each. -/

/-- roundoff of R106's example, 11 and 10 by 2, under RNU, RNE, RDN and ROD; and R237's: 17 and 0 averaged, 0x7F80 clipped by 4. -/
theorem test_roundoff :
    ([0, 1, 2, 3] : List (BitVec 2)).map (fun m => roundoff m 11 2) = [3, 3, 2, 3]
      ∧ ([0, 1, 2, 3] : List (BitVec 2)).map (fun m => roundoff m 10 2) = [3, 2, 2, 3]
      ∧ roundoff 0 17 1 = 9 ∧ roundoff 1 17 1 = 8 ∧ roundoff 1 0x7F80 4 = 2040 := by
  decide +kernel

/-- FX128 (R112-R114): 0.1 + 3.0 - 0.1 in each order; 2^62 + 2^62 - 2^62 ends at POS or at the cell of 2^62, by the order. -/
theorem test_fx128 :
    (let c := fxOfFloat (Fmt.f32.value 0x3DCCCCCD); let d := fxOfFloat (Fmt.f32.value 0xBDCCCCCD); let e := fxOfFloat (Fmt.f32.value 0x40400000)
      c = 0x199999A000000000 ∧ fxAdd (fxAdd (fxAdd 0 c) e) d = e ∧ fxAdd (fxAdd (fxAdd 0 d) c) e = e ∧ (fxRead .f32 e).1 = 0x40400000)
    ∧ (let p := fxOfInt (2 ^ 62); let m := fxOfInt (-(2 ^ 62))
      fxAdd (fxAdd p p) m = fxPos ∧ fxAdd (fxAdd p m) p = p) := by
  decide +kernel

/-- The approximate reciprocal of 3.0 (R115), and the approximate exponential of 0, 100 and -110 (R116). -/
theorem test_approximations :
    Fmt.f32.reciprocal 0x40400000 = (0x3EAAAA5F, Flags.nx) ∧ Fmt.f32.exponential 0x80000000 = (0x3F800000, 0)
      ∧ Fmt.f32.exponential 0x42C80000 = (0x7F800000, Flags.of ||| Flags.nx)
      ∧ Fmt.f32.exponential 0xC2DC0000 = (0, Flags.uf ||| Flags.nx) := by
  decide +kernel

/-- Conversions to E4M3 (R241): 1.0, 300.0, 500.0 and infinity. -/
theorem test_convert_e4m3 :
    [0x3F800000, 0x43960000, 0x43FA0000, 0x7F800000].map (fun x => Fmt.e4m3.convert .rne (Fmt.f32.value x))
      = [(0x38, 0), (0x79, Flags.nx), (0x7E, Flags.of ||| Flags.nx), (0x7E, Flags.nv)] := by
  decide +kernel

/-- The first words of an example: jal (R154), li's lui and addi (R172), c.addi (R222), vsetvl (R223), mfs of MBOX (R454), seal and ktongs
(R304), and the two of vsadd.vx and vmerge.vim (R231). -/
theorem test_decode_examples : ([
    (0x0010012B, .jal 1 128), (0x48D16523, .lui 5 0x2468B), (0xCF00A513, .addi 5 5 0x678), (0x12FD, .cAddi 5 63),
    (0x002D4563, .vsetvl 5 10 11), (0x20400547, .mfs 5 0x810), (0x41650B73, .seal true 5 10 11), (0x20428173, .ktongs true 5 2),
    (0x08A08997, .vsaddVx true true 4 1 5), (0x00A09397, .vsaddVx true false 9 1 5), (0xB0048867, .vmergeVim false 4 9 0),
    (0x000413D3, .vredsum true false 9 8), (0x1701010977, .vmm true false 4 2 8 7 2), (0x8011650D77, .copr true 2 10 11 6 0)]
      : List (Nat × Instr)).all decodesTo = true := by
  decide +kernel

/-- The demo hart with registers of `vl` elements of `sew` bits, and with a mask 0. -/
def vecs (sew vl : Nat) (l : List (Fin 64 × VReg)) (m : List Bool) : State :=
  vec sew vl 1 fun h => { h with v := l.foldl (fun v p => v.set p.1 p.2) h.v, m := h.m.set 0 { h.m[(0 : Fin 8)] with bits := m } }
/-- A register of general shape with elements of `ew` bits. -/
def general (ew : Nat) (l : List Int) : VReg :=
  { VReg.reset with shape := .g (l.map fun x => (x % 2 ^ ew).toNat) .slot, ew := ew, extent := l.length }
/-- The first `n` elements of v`k` after an instruction, as `sew`-bit signed integers. -/
def rowAfter (o : Out) (k : Fin 64) (sew n : Nat) : List Int :=
  (List.range n).map fun e => sext ((after o).h.elem k.val sew e) sew

/-- R231's example: vsadd.vx under m0, with what lies under the mask kept, what lies past VL read as 0, and VXSAT.SAT. -/
def saturating : State :=
  let s := vecs 8 6 [(1, general 8 [100, -50, 20, 127, -128, 3]), (4, general 8 [9, 9, 9, 9, 9, 9, 9, 9])] [true, true, false, true, true, false]
  s.setHart s.cur (withX s.h [(5, 40)])
@[inherit_doc saturating] theorem test_vsadd :
    rowAfter (exec (.vsaddVx true true 4 1 5) saturating) 4 8 8 = [127, -10, 9, 127, -88, 9, 0, 0]
      ∧ ((after (exec (.vsaddVx true true 4 1 5) saturating)).h.v[(4 : Fin 64)]).extent = 6
      ∧ (after (exec (.vsaddVx true true 4 1 5) saturating)).h.vs.sat = true
      ∧ rowAfter (exec (.vsaddVx true false 9 1 5) saturating) 9 8 6 = [127, -10, 60, 127, -88, 43] := by
  decide +kernel

/-- The example after R277: v8 = 5, -3, 12, 0, 7, -8, 9, 2 and m0 = 1, 0, 1, 0, 1, 0, 1, 0 at SEW 32 and VL 8. -/
def crossing (l : List Int) : State := vecs 32 8 [(8, general 32 l)] [true, false, true, false, true, false, true, false]
@[inherit_doc crossing] theorem test_crossroads :
    let s := crossing [5, -3, 12, 0, 7, -8, 9, 2]
    rowAfter (exec (.vredsum true false 9 8) s) 9 32 8 = [24, 0, 0, 0, 0, 0, 0, 0]
      ∧ ((after (exec (.vredsum true false 9 8) s)).h.v[(9 : Fin 64)]).extent = 1
      ∧ rowAfter (exec (.vredsum true true 9 8) s) 9 32 1 = [33]
      ∧ rowAfter (exec (.vscanadd true false 9 8) s) 9 32 8 = [5, 2, 14, 14, 21, 13, 22, 24]
      ∧ rowAfter (exec (.viota true 9) s) 9 32 8 = [0, 1, 1, 2, 2, 3, 3, 4]
      ∧ rowAfter (exec (.vcompress true 9 8) s) 9 32 8 = [5, 12, 7, 9, 0, 0, 0, 0]
      ∧ rowAfter (exec (.vexpand true 9 8) (crossing [5, 12, 7, 9, 0, 0, 0, 0])) 9 32 8 = [5, 0, 12, 0, 7, 0, 9, 0]
      ∧ rowAfter (exec (.vslideupVi true 9 8 3) s) 9 32 8 = [0, 0, 0, 5, -3, 12, 0, 7]
      ∧ rowAfter (exec (.vslidedownVi true 9 8 3) s) 9 32 8 = [0, 7, -8, 9, 2, 0, 0, 0] := by
  decide +kernel

/-- The example of vmm (R282-R285), and its TYPEPAIR trap; then that of ccvt (R290, R291). -/
def vmmTile : State :=
  let row : List (List Int) := [[1, 2, 3, 4], [7, 7, 7, 7], [-1, 0, 7, -8], [7, 7, 7, 7], [7, 7, 7, 7], [5, 5, 5, 5], [7, 7, 7, 7], [2, -3, 0, 1]]
  vecs 64 4 ((2, general 4 [3, 0, 12, 0, 0, 1, 0, 7]) :: (4, { VReg.reset with ew := 64, extent := 4 })
    :: row.zipIdx.map fun p => (Fin.ofNat 64 (8 + p.2), general 4 p.1)) []
@[inherit_doc vmmTile] def tileWith (l : List (Fin 64 × VReg)) : State := vecs 64 4 ((4, general 64 [36, -25, -14, 61]) :: l) []
@[inherit_doc vmmTile] theorem test_vmm_ccvt :
    rowAfter (exec (.vmm true false 4 2 8 7 2) vmmTile) 4 64 4 = [36, -25, -14, 61]
      ∧ (let t := (after (exec (.vmm true false 4 2 8 6 6) (vmmTile.setHart vmmTile.cur { vmmTile.h with trap := { vmmTile.h.trap with en := true } }))).h.trap
        t.cause = 3 ∧ t.tval = 0x0000003601010977)
      ∧ rowAfter (exec (.ccvt true false 6 4 3 7 2 0) (tileWith [(3, { VReg.reset with shape := .u 126, ew := 8, extent := 4 })])) 6 32 4
        = [0x41100000, 0xC0C80000 - 2 ^ 32, 0xC0600000 - 2 ^ 32, 0x41740000] := by
  decide +kernel

/-- R52's example: slots 0 and 1 at priorities 3 and 0, both always ready. -/
def twoSlots : State :=
  let s := demoWith fun h => { h with id := { h.id with prioCur := 3 } }
  s.setHart slot1 { s.h with id := { s.h.id with prioCur := 0 } }
/-- The slots that issue in `n` issue slots, one after another. -/
def turns : Nat → State → List Nat
  | 0, _ => []
  | n + 1, s => match s.barrel with | (some i, t) => i.slot.val :: turns n t | (none, t) => 8 :: turns n t
@[inherit_doc twoSlots] theorem test_barrel : turns 12 twoSlots = [0, 1, 0, 0, 0, 0, 0, 0, 0, 1, 0, 1] := by decide +kernel

/-- R479's example: 8 quarter channels in each stack of die 0. -/
def quartered : State := { demo with quarters := [(0, 8), (1, 8)] }
@[inherit_doc quartered] theorem test_bankOf :
    quartered.bankOf 0x60000000 = some (0, 0)
      ∧ ([0, 1, 2, 3, 4, 5] : List Nat).map (fun i => (quartered.bankOf (0x60000000 + 0x180000 * i + 0x3000 * (i % 4))))
        = [some (0, 0), some (0, 1), some (0, 2), some (0, 3), some (0, 0), some (0, 1)] := by
  decide +kernel

/-- One step fetches, decodes and runs the addi of li's example (R172), and counts it (R352). -/
theorem test_step_addi :
    (match step (demoCode 0xCF00A513) with
      | .next t => decide (t.h.getX 5 = -392 ∧ t.h.pc = 0x10004 ∧ t.h.instret = 1 ∧ t.cycle = 1)
      | _ => false) = true := by
  decide +kernel

/-- The module of spec/17_portable_form.md's second example, byte for byte, without its header. -/
def exampleOps : List Byte :=
  [0x01, 0x3F, 0x01, 0x01, 0x3F, 0x02, 0x05, 0x9F, 0x02, 0x02, 0x1F, 0x03, 0x00, 0x00, 0x00, 0x12, 0x9F, 0x02, 0x01, 0x03, 0x9F,
   0x10, 0x9F, 0x02, 0x01, 0x08, 0x40, 0x06, 0x01, 0x50, 0x1F, 0x02, 0x01, 0x3F, 0x03, 0x08, 0x40, 0x01, 0x02]
@[inherit_doc exampleOps] def fjHeader : List Byte := [0x46, 0x4A, 0x41, 0x31, 1, 0, 0, 0]

/-- R405-R410: the example is 50 bytes and is accepted; operations 0, 1, 3, 9 do not depend on a vector and operation 10 does; the phase is
one, and operations 2, 4-7 are its vector operations. -/
theorem test_fj_example : (fjHeader ++ [4, 0, 0x0B] ++ exampleOps).length = 50
    ∧ (match fjCheck (fjHeader ++ [4, 0, 0x0B] ++ exampleOps) with
      | .ok m => decide (m.nodes.map (fun n => n.dep) = List.replicate 10 false ++ [true] ∧ m.nodes.all (fun n => n.phase == 0) = true
          ∧ (m.nodes.filter fun n => n.vec).map (·.p) = [2, 4, 5, 6, 7])
      | .error _ => false) = true := by
  decide +kernel

/-- R409: the first check that fails, with its operation: a wrong version, a byte behind the last operation, an argument word beyond
NPARAM, a reserved opcode, a distance beyond the list, and a load into a scalar. -/
theorem test_fj_refused :
    (let err := fun (bs : List Byte) => match fjCheck bs with | .error e => some e | .ok _ => none
    err ([0x46, 0x4A, 0x41, 0x31, 2, 0, 0, 0, 4, 0, 0x0B] ++ exampleOps) = some (1, 0)
    ∧ err (fjHeader ++ [4, 0, 0x0B] ++ exampleOps ++ [1]) = some (2, 10)
    ∧ err (fjHeader ++ [3, 0, 0x0B] ++ exampleOps) = some (3, 9)
    ∧ err (fjHeader ++ [4, 0, 2, 0x01, 0x3F, 0x01, 0x0C, 0x3F]) = some (4, 1)
    ∧ err (fjHeader ++ [4, 0, 2, 0x01, 0x3F, 0x01, 0x05, 0x9F, 2]) = some (5, 1)
    ∧ err (fjHeader ++ [4, 0, 2, 0x01, 0x3F, 0x01, 0x05, 0x1F, 1]) = some (6, 1)) := by
  decide +kernel

end Sys2Proof.Tests
end

section
namespace Sys2Proof.Machine

/-! SUPPORT. Invariants of the step (log 2). `State.Evolves` below says by which updates a step makes its next state; each function of the
state that a step calls has one lemma of its own name there, and an invariant is an induction over the updates. First: rising maps and
canonical memory, said of their entries. -/

theorem Map.risesFrom_iff {α : Type} : ∀ {m : Map α} {lo : Nat},
    Map.risesFrom lo m ↔ (∀ p ∈ m, lo ≤ p.1) ∧ m.Pairwise fun p q => p.1 < q.1
  | [], lo => by simp [Map.risesFrom]
  | (k, a) :: t, lo => by
    rw [Map.risesFrom, Map.risesFrom_iff, List.forall_mem_cons, List.pairwise_cons]
    constructor
    · rintro ⟨hk, ht, hp⟩
      exact ⟨⟨hk, fun q hq => by have := ht q hq; omega⟩, ht, hp⟩
    · rintro ⟨⟨hk, -⟩, ht, hp⟩
      exact ⟨hk, ht, hp⟩

theorem Map.rises_iff {α : Type} {m : Map α} : Map.rises m ↔ m.Pairwise fun p q => p.1 < q.1 := by
  simp [Map.rises, Map.risesFrom_iff]

theorem Map.wfFrom_iff {α : Type} [DecidableEq α] {d : Nat → α} : ∀ {m : Map α} {lo : Nat},
    Map.wfFrom d lo m = true ↔ Map.risesFrom lo m ∧ ∀ p ∈ m, p.2 ≠ d p.1
  | [], lo => by simp [Map.wfFrom, Map.risesFrom]
  | (k, a) :: t, lo => by
    simp only [Map.wfFrom, Bool.and_eq_true, decide_eq_true_eq, Map.wfFrom_iff, Map.risesFrom, List.forall_mem_cons]
    tauto

theorem Memory.wf_iff {m : List Host.Cell} :
    Memory.wf m = true ↔ (m.Pairwise fun p q => p.1 < q.1) ∧ ∀ p ∈ m, p.2 ≠ Memory.unlisted p.1 :=
  Map.wfFrom_iff.trans (and_congr_left fun _ => Map.rises_iff)

theorem Map.map_rises {α : Type} {m : Map α} (f : Nat × α → Nat × α) (hf : ∀ p, (f p).1 = p.1) (h : Map.rises m) :
    Map.rises (m.map f) := by
  rw [Map.rises_iff] at h ⊢
  simpa [List.pairwise_map, hf] using h

theorem Map.filter_rises {α : Type} {m : Map α} (p : Nat × α → Bool) (h : Map.rises m) : Map.rises (m.filter p) :=
  Map.filter_risesFrom p h

/-- An entry of a map after a write was there before, or is the one written. -/
theorem Map.mem_set {α : Type} [DecidableEq α] {d a : α} {i : Nat} {q : Nat × α} :
    ∀ {m : Map α}, q ∈ Map.set d m i a → q ∈ m ∨ q = (i, a)
  | [], hq => by
    unfold Map.set at hq
    split at hq <;> simp_all
  | (k, b) :: t, hq => by
    unfold Map.set at hq
    split at hq
    · split at hq <;> simp_all; tauto
    · split at hq
      · split at hq <;> simp_all; tauto
      · rcases List.mem_cons.mp hq with rfl | hq
        · exact .inl List.mem_cons_self
        · exact (Map.mem_set hq).imp (List.mem_cons_of_mem _) id

/-- What a map holds for a key is its default or an entry's value. -/
theorem Map.get_mem {α : Type} {d : α} {i : Nat} : ∀ {m : Map α}, Map.get d m i = d ∨ (i, Map.get d m i) ∈ m
  | [] => .inl rfl
  | (k, b) :: t => by
    unfold Map.get
    split
    · next hk => exact .inr (by simp [hk])
    · split
      · exact .inl rfl
      · exact Map.get_mem.imp id (List.mem_cons_of_mem _)

/-- Memory in two parts, the second above the first, is canonical where the parts are. -/
theorem Memory.wf_append {m n : List Host.Cell} (mid : Nat) (hm : Memory.wf m = true) (hn : Memory.wf n = true)
    (below : ∀ p ∈ m, p.1 < mid) (above : ∀ p ∈ n, mid ≤ p.1) : Memory.wf (m ++ n) = true := by
  rw [Memory.wf_iff] at hm hn ⊢
  refine ⟨List.pairwise_append.mpr ⟨hm.1, hn.1, fun p hp q hq => Nat.lt_of_lt_of_le (below p hp) (above q hq)⟩, ?_⟩
  simpa only [List.mem_append, or_imp, forall_and] using ⟨hm.2, hn.2⟩

/-- What a recovery restores is canonical: its six parts follow one another by address (R439, R441). -/
theorem State.restoredMemory_wf {s : State} {m : List Host.Cell} (hs : Memory.wf s.mem = true) (hm : Memory.wf m = true) :
    Memory.wf (s.restoredMemory m) = true := by
  have part (p : Host.Cell → Bool) {l : List Host.Cell} (hl : Memory.wf l = true) : Memory.wf (l.filter p) = true :=
    Map.filter_wf _ p hl
  unfold State.restoredMemory
  refine Memory.wf_append (2 ^ 48) (Memory.wf_append (2 ^ 47) (Memory.wf_append 0xB8000 (Memory.wf_append 0xA0000
    (Memory.wf_append 0x1000 (part _ (part _ hs)) (part _ hm) ?_ ?_) (part _ (part _ hs)) ?_ ?_) (part _ hm) ?_ ?_)
    (part _ hs) ?_ ?_) (part _ hm) ?_ ?_
  all_goals
    intro p hp
    simp only [List.mem_append, List.mem_filter, keptWord, poolLoc, Bool.and_eq_true, Bool.or_eq_true, decide_eq_true_eq,
      Bool.not_eq_true', Bool.or_eq_false_iff, decide_eq_false_iff_not] at hp
    omega

end Sys2Proof.Machine
end

section
namespace Sys2Proof.Machine

/-! The maps within a channel rise whatever its controller does (R483-R487). -/

/-- The maps within a channel list each key once. -/
def Channel.Rises (c : Channel) : Prop :=
  Map.rises c.banks ∧ Map.rises c.t0 ∧ Map.rises c.lastArrival ∧ Map.rises c.armed ∧ Map.rises c.forced

namespace Channel.Rises
variable {c : Channel}

theorem reset : Channel.reset.Rises := ⟨trivial, trivial, trivial, trivial, trivial⟩

theorem setBank (h : c.Rises) {b x} : (c.setBank b x).Rises := ⟨Map.set_rises _ h.1, h.2⟩

theorem setForced (h : c.Rises) {p n} : { c with forced := Map.set 0 c.forced p n }.Rises :=
  ⟨h.1, h.2.1, h.2.2.1, h.2.2.2.1, Map.set_rises _ h.2.2.2.2⟩

theorem anchor (h : c.Rises) {g t} : { c with armed := Map.set false c.armed g false, t0 := Map.set 0 c.t0 g t }.Rises :=
  ⟨h.1, Map.set_rises _ h.2.1, h.2.2.1, Map.set_rises _ h.2.2.2.1, h.2.2.2.2⟩

theorem setPower (h : c.Rises) {p} : { c with power := p }.Rises := h

theorem setAsked (h : c.Rises) {a} : { c with asked := a }.Rises := h

theorem settle (h : c.Rises) {p now} : { c with power := p, changing := none, upAt := now, now := now }.Rises := h

theorem setArmed (h : c.Rises) {m} (hm : Map.rises m) : { c with armed := m }.Rises := ⟨h.1, h.2.1, h.2.2.1, hm, h.2.2.2.2⟩

theorem arrival (h : c.Rises) {g t} : { c with lastArrival := Map.set 0 c.lastArrival g t }.Rises :=
  ⟨h.1, h.2.1, Map.set_rises _ h.2.2.1, h.2.2.2⟩

theorem ite {p : Prop} [Decidable p] {c' : Channel} (h : c.Rises) (h' : c'.Rises) : (if p then c else c').Rises := by
  split
  · exact h
  · exact h'

theorem foldl {α : Type} {f : Channel → α → Channel} (hf : ∀ {c a}, c.Rises → (f c a).Rises) :
    ∀ {l : List α} {c : Channel}, c.Rises → (l.foldl f c).Rises
  | [], _, h => h
  | _ :: l, _, h => foldl (l := l) hf (hf h)

theorem force (h : c.Rises) {p now} : (c.force p now).Rises := .ite h (foldl (·.setBank) h).setForced

theorem pay (h : c.Rises) {g now} : (c.pay g now).Rises := .ite h (foldl (fun h => .ite h.setBank h) h)

theorem due (h : c.Rises) {b now} : (c.due b now).Rises :=
  .ite h.setBank (.ite h.setBank (.ite h.setBank (foldl (·.setBank) h).setForced.force))

theorem lateDues {b now} : ∀ {n} {c : Channel}, c.Rises → (c.lateDues b now n).Rises
  | 0, _, h => h
  | n + 1, _, h => lateDues (n := n) h.due

theorem endRefresh (h : c.Rises) {b now} : (c.endRefresh b now).Rises := (lateDues h.setBank).force

theorem endAccess (h : c.Rises) {b now} : (c.endAccess b now).Rises := h.setBank.force

theorem quietUntil (h : c.Rises) {now} : (c.quietUntil now).Rises :=
  foldl (fun h => by split; exacts [h, .ite h h.setBank]) h

theorem upTo (h : c.Rises) {now} : (c.upTo now).Rises :=
  have : (if c.resting then c.quietUntil now else c).Rises := .ite h.quietUntil h
  this

theorem change (h : c.Rises) {target at_} : (c.change target at_).Rises := h

theorem defer (h : c.Rises) {on} : (c.defer on).Rises := h

theorem save (h : c.Rises) {on} : (c.save on).Rises := h

theorem wake (h : c.Rises) {now} : (c.wake now).Rises := .ite h.change (.ite h h)

theorem payAll (h : c.Rises) {now} : (c.payAll now).Rises := foldl (fun h => (foldl (·.setBank) h).setForced.force) h

theorem served (h : c.Rises) {req} : (c.served req).Rises := .ite h (.ite h h)

theorem take (h : c.Rises) {b who now} : (c.take b who now).Rises :=
  (arrival (.ite (foldl (·.setBank) h.anchor) h)).setBank.wake

end Channel.Rises

/-- The channels of the module list each key once, and so do the maps within each. -/
def chansRise (m : Map Channel) : Prop := Map.rises m ∧ ∀ p ∈ m, p.2.Rises

theorem chansRise.get {m : Map Channel} (h : chansRise m) (ch : Nat) : (Map.get Channel.reset m ch).Rises :=
  Map.get_mem.elim (fun e => e ▸ .reset) (h.2 _)

theorem chansRise.set {m : Map Channel} (h : chansRise m) {ch : Nat} {x : Channel} (hx : x.Rises) :
    chansRise (Map.set Channel.reset m ch x) :=
  ⟨Map.set_rises _ h.1, fun p hp => (Map.mem_set hp).elim (h.2 p) fun e => e ▸ hx⟩

end Sys2Proof.Machine
end

section
namespace Sys2Proof.Machine

/-- The memory from which a recovery restores: that of the last checkpoint completed, or none (R439). -/
def State.pointMemory (s : State) : List Host.Cell :=
  match s.ckpt with
  | some c => c.mem
  | none => []

/-- `t` comes from `r` by the updates that steps are made of: memory is rewritten in a way that keeps its canonical form, a map in a way
that keeps its keys rising, a checkpoint is taken, completed or dropped, memory is restored from one, and the other fields change
freely. An invariant of the step is an induction over these updates. -/
inductive State.Evolves (r : State) : State → Prop
  | refl : Evolves r r
  | mem {s m} (h : Evolves r s) (hm : Memory.wf s.mem = true → Memory.wf m = true) : Evolves r { s with mem := m }
  | harts {s m} (h : Evolves r s) (hm : Map.rises s.harts → Map.rises m) : Evolves r { s with harts := m }
  | cores {s m} (h : Evolves r s) (hm : Map.rises s.cores → Map.rises m) : Evolves r { s with cores := m }
  | dies {s m} (h : Evolves r s) (hm : Map.rises s.dies → Map.rises m) : Evolves r { s with dies := m }
  | chans {s m} (h : Evolves r s) (hm : chansRise s.chans → chansRise m) : Evolves r { s with chans := m }
  | leases {s m} (h : Evolves r s) (hm : Map.rises s.leases → Map.rises m) : Evolves r { s with leases := m }
  | scratch {s m} (h : Evolves r s) (hm : Map.rises s.scratch → Map.rises m) : Evolves r { s with scratch := m }
  | rewritten {s m} (h : Evolves r s) (hm : Map.rises s.rewritten → Map.rises m) : Evolves r { s with rewritten := m }
  | bar2 {s m} (h : Evolves r s) (hm : Map.rises s.bar2 → Map.rises m) : Evolves r { s with bar2 := m }
  | point {s c} (h : Evolves r s) (hm : c.mem = s.mem) (hd : c.dies = s.dies) : Evolves r { s with ckDrain := some c }
  | checkpoints {s a b} (h : Evolves r s) (ha : ∀ c, a = some c → s.ckpt = some c ∨ s.ckDrain = some c)
      (hb : ∀ c, b = some c → s.ckpt = some c ∨ s.ckDrain = some c) : Evolves r { s with ckpt := a, ckDrain := b }
  | restored {s} (h : Evolves r s) : Evolves r { s with mem := s.restoredMemory s.pointMemory }
  | rest {s t} (h : Evolves r s) (e : t = { t with
      mem := s.mem, harts := s.harts, cores := s.cores, dies := s.dies, chans := s.chans, leases := s.leases, scratch := s.scratch,
      rewritten := s.rewritten, bar2 := s.bar2, ckpt := s.ckpt, ckDrain := s.ckDrain }) : Evolves r t

/-- A state that has come from one with canonical memory has canonical memory. -/
theorem State.Evolves.memoryOk {r s : State} (h : Evolves r s) (hr : r.memoryOk) : s.memoryOk := by
  induction h with
  | refl => exact hr
  | mem _ hm ih => exact ⟨hm ih.1, ih.2⟩
  | harts _ _ ih | cores _ _ ih | dies _ _ ih | chans _ _ ih | leases _ _ ih | scratch _ _ ih | rewritten _ _ ih | bar2 _ _ ih => exact ih
  | point _ hm _ ih =>
    refine ⟨ih.1, ih.2.1, fun c hc => ?_⟩
    cases hc
    exact hm ▸ ih.1
  | checkpoints _ ha hb ih =>
    obtain ⟨hmem, hpoint, hdrain⟩ := ih
    exact ⟨hmem, fun c hc => (ha c hc).elim (hpoint c) (hdrain c), fun c hc => (hb c hc).elim (hpoint c) (hdrain c)⟩
  | @restored s _ ih =>
    have hpoint : Memory.wf s.pointMemory = true := by
      unfold State.pointMemory
      split
      · next c hc => exact ih.2.1 c hc
      · rfl
    exact ⟨State.restoredMemory_wf ih.1 hpoint, ih.2⟩
  | rest _ e ih =>
    rw [e]
    exact ih

/-- A state that has come from one with rising maps has rising maps. -/
theorem State.Evolves.mapsOk {r s : State} (h : Evolves r s) (hr : r.mapsOk) : s.mapsOk := by
  induction h with
  | refl => exact hr
  | mem _ _ ih | restored _ ih => exact ih
  | rest _ e ih =>
    rw [e]
    exact ih
  | harts _ hm ih => exact ⟨hm ih.1, ih.2⟩
  | cores _ hm ih =>
    obtain ⟨harts, cores, others⟩ := ih
    exact ⟨harts, hm cores, others⟩
  | dies _ hm ih =>
    obtain ⟨harts, cores, dies, others⟩ := ih
    exact ⟨harts, cores, hm dies, others⟩
  | chans _ hm ih =>
    obtain ⟨harts, cores, dies, chans, leases, scratch, rewritten, bar2, point, drain, within⟩ := ih
    exact ⟨harts, cores, dies, (hm ⟨chans, within⟩).1, leases, scratch, rewritten, bar2, point, drain, (hm ⟨chans, within⟩).2⟩
  | leases _ hm ih =>
    obtain ⟨harts, cores, dies, chans, leases, others⟩ := ih
    exact ⟨harts, cores, dies, chans, hm leases, others⟩
  | scratch _ hm ih =>
    obtain ⟨harts, cores, dies, chans, leases, scratch, others⟩ := ih
    exact ⟨harts, cores, dies, chans, leases, hm scratch, others⟩
  | rewritten _ hm ih =>
    obtain ⟨harts, cores, dies, chans, leases, scratch, rewritten, others⟩ := ih
    exact ⟨harts, cores, dies, chans, leases, scratch, hm rewritten, others⟩
  | bar2 _ hm ih =>
    obtain ⟨harts, cores, dies, chans, leases, scratch, rewritten, bar2, others⟩ := ih
    exact ⟨harts, cores, dies, chans, leases, scratch, rewritten, hm bar2, others⟩
  | point _ _ hd ih =>
    obtain ⟨harts, cores, dies, chans, leases, scratch, rewritten, bar2, point, -, within⟩ := ih
    refine ⟨harts, cores, dies, chans, leases, scratch, rewritten, bar2, point, fun c hc => ?_, within⟩
    cases hc
    exact hd ▸ dies
  | checkpoints _ ha hb ih =>
    obtain ⟨harts, cores, dies, chans, leases, scratch, rewritten, bar2, point, drain, within⟩ := ih
    exact ⟨harts, cores, dies, chans, leases, scratch, rewritten, bar2, fun c hc => (ha c hc).elim (point c) (drain c),
      fun c hc => (hb c hc).elim (point c) (drain c), within⟩

end Sys2Proof.Machine
end

section
namespace Sys2Proof.Machine

/-! What an answer holds when it has a value: through sequencing, the interlock table and a full journal. -/

/-- The answer has no value, or one with the property. -/
def Reply.All {α : Type} (p : α → Prop) (x : Reply α) : Prop := ∀ a, x = .ok a → p a

namespace Reply.All
variable {α β : Type} {p : α → Prop} {q : β → Prop} {x : Reply α}

@[simp] theorem ok_iff {a : α} : (Reply.ok a).All p ↔ p a := ⟨fun h => h a rfl, fun h b hb => by cases hb; exact h⟩
@[simp] theorem of_trap {e : Exc} : (Reply.trap e : Reply α).All p := nofun
@[simp] theorem of_miss {va : Nat} {acc : Acc} : (Reply.miss va acc : Reply α).All p := nofun
@[simp] theorem of_wait : (Reply.wait : Reply α).All p := nofun
@[simp] theorem of_denied {va : Nat} {acc : Acc} : (denied va acc : Reply α).All p := nofun

theorem ok {a : α} (h : p a) : (Reply.ok a).All p := ok_iff.mpr h

theorem ite {c : Prop} [Decidable c] {y : Reply α} (h : x.All p) (h' : y.All p) : (if c then x else y).All p := by
  split
  · exact h
  · exact h'

/-- A sequence keeps a property where its second part gives it to each value that the first may have. -/
theorem bind {k : α → Reply β} (h : x.All p) (hk : ∀ a, p a → (k a).All q) : (x.bind k).All q := by
  cases x with
  | ok a => exact hk a (h a rfl)
  | trap | miss | wait => nofun

theorem bind_of_next {k : α → Reply β} (hk : ∀ a, (k a).All q) : (x.bind k).All q := by
  cases x with
  | ok a => exact hk a
  | trap | miss | wait => nofun

theorem guard (h : x.All p) {g : Hart} {acc lo len} : (g.guard acc lo len x).All p := by
  unfold Hart.guard
  split
  · exact of_trap
  · exact .ite of_wait h

theorem writable (h : x.All p) {s : State} {i ps} : (s.writable i ps x).All p := .ite of_wait h

end Reply.All

namespace State.Evolves
variable {r s : State}

/-! Choices and repetitions. -/

theorem ite {c : Prop} [Decidable c] {t : State} (h : Evolves r s) (h' : Evolves r t) : Evolves r (if c then s else t) := by
  split
  · exact h
  · exact h'

/-- An update that a guard may replace. -/
theorem iteGetD {c : Prop} [Decidable c] {a b : Option State} (ha : Evolves r (a.getD s)) (hb : Evolves r (b.getD s)) :
    Evolves r ((if c then a else b).getD s) := by
  split
  · exact ha
  · exact hb

/-- An answer that gives a state beside another value. -/
theorem okWith {β : Type} (h : Evolves r s) {b : β} : (Reply.ok (s, b)).All fun p => Evolves r p.1 := .ok h

theorem foldl {α : Type} {f : State → α → State} {l : List α} (h : Evolves r s) (hf : ∀ {t a}, Evolves r t → Evolves r (f t a)) :
    Evolves r (l.foldl f s) := by
  induction l generalizing s with
  | nil => exact h
  | cons a l ih => exact ih (hf h)

/-! The updates of Ops.lean. -/

theorem setHart (h : Evolves r s) {i x} : Evolves r (s.setHart i x) := h.harts (Map.set_rises _)
theorem setH (h : Evolves r s) {x} : Evolves r (s.setH x) := h.setHart
theorem setCore (h : Evolves r s) {c x} : Evolves r (s.setCore c x) := h.cores (Map.set_rises _)
theorem setDie (h : Evolves r s) {d x} : Evolves r (s.setDie d x) := h.dies (Map.set_rises _)
theorem setChannel (h : Evolves r s) {ch x} (hx : (s.channel ch).Rises → x.Rises) : Evolves r (s.setChannel ch x) :=
  h.chans fun hc => hc.set (hx (hc.get ch))

/-- The harts are changed, each in its place. -/
theorem mapHarts (h : Evolves r s) {f : Nat × Hart → Nat × Hart} (hf : ∀ p, (f p).1 = p.1) :
    Evolves r { s with harts := s.harts.map f } := h.harts (Map.map_rises f hf)

theorem setX (h : Evolves r s) {d v} : Evolves r (s.setX d v) := h.setH
theorem retire (h : Evolves r s) {n} : Evolves r (s.retire n) := h.setH
theorem jump (h : Evolves r s) {pc} : Evolves r (s.jump pc) := h.setH
theorem write (h : Evolves r s) {n d v} : Evolves r (s.write n d v) := h.setH
theorem stall (h : Evolves r s) : Evolves r s.stall := h.rest rfl
theorem perform (h : Evolves r s) {loc bs} : Evolves r (s.perform loc bs) :=
  ((h.mem (pokeBytes_wf bs loc)).mapHarts (f := fun p => (p.1, p.2.observe (pokeBytes s.mem loc bs) loc bs.length)) fun _ => rfl).rest rfl

theorem zero (h : Evolves r s) {lo n} : Evolves r (s.zero lo n) :=
  (h.mem (Map.filter_wf Memory.unlisted _)).mapHarts fun _ => rfl

theorem pokeNat (h : Evolves r s) {loc n v} : Evolves r (s.pokeNat loc n v) := h.perform
theorem pokeN (h : Evolves r s) {loc bs} : Evolves r (s.pokeN loc bs) := h.perform
theorem recordFault (h : Evolves r s) {i e tpc} : Evolves r (s.recordFault i e tpc) := by
  unfold State.recordFault
  split
  · exact h
  · exact h.setDie

theorem stopGang (h : Evolves r s) {d g whole} : Evolves r (s.stopGang d g whole) :=
  h.mapHarts fun p => by dsimp only; split <;> rfl

theorem bump (h : Evolves r s) {d off} : Evolves r (s.bump d off) := h.pokeNat
theorem countError (h : Evolves r s) {e} : Evolves r (s.countError e) := by
  unfold State.countError
  split
  · split
    · exact h.bump
    · exact h.bump
    · exact h
  · exact h

theorem mclog (h : Evolves r s) {d kind core lseq} : Evolves r (s.mclog d kind core lseq) := h.pokeNat.pokeNat.pokeNat
theorem takeTrap (h : Evolves r s) {e tpc conv member} : Evolves r (s.takeTrap e tpc conv member) := by
  have hu := h.countError (e := e)
  rcases State.takeTrap_cases s e tpc conv member with ⟨-, e⟩ | ⟨-, e⟩ | ⟨-, e⟩ | ⟨-, e⟩ | ⟨-, -, e⟩ | ⟨-, -, e⟩ <;> rw [e]
  · exact hu.setH
  · exact hu.setH
  · exact hu.recordFault.setH.stopGang
  · exact hu.recordFault.setH.stopGang
  · exact hu.recordFault.setH.stopGang
  · exact hu.recordFault.setH.mclog.setDie

theorem trapHere (h : Evolves r s) {e} : Evolves r (s.trapHere e) := h.takeTrap
theorem illegal (h : Evolves r s) {enc} : Evolves r (s.illegal enc) := h.trapHere
theorem raise (h : Evolves r s) {fl} : Evolves r (s.raise fl) := h.setH
theorem writeFloat (h : Evolves r s) {d v fl} : Evolves r (s.writeFloat d v fl) := .ite h.raise.trapHere h.raise.write
theorem op2 (h : Evolves r s) {d a b f} : Evolves r (s.op2 d a b f) := h.write
theorem op1 (h : Evolves r s) {d a f} : Evolves r (s.op1 d a f) := h.write
theorem link (h : Evolves r s) {d ra target} : Evolves r (s.link d ra target) := h.setX.jump
theorem branch (h : Evolves r s) {a b i f} : Evolves r (s.branch a b i f) := .ite h.jump h.retire
theorem branchZero (h : Evolves r s) {a i f} : Evolves r (s.branchZero a i f) := .ite h.jump h.retire

end State.Evolves

end Sys2Proof.Machine
end

section
namespace Sys2Proof.Machine

namespace State.Evolves
variable {r s : State}

/-! The updates of Access.lean and MemCtl.lean. -/

theorem noteWrite (h : Evolves r s) {i va} : Evolves r (s.noteWrite i va) := by
  unfold State.noteWrite
  split
  · exact h
  · exact .ite h h.setDie

theorem post (h : Evolves r s) {i w} : Evolves r (s.post i w) := h.setHart
theorem toJournal (h : Evolves r s) {i w} : Evolves r (s.toJournal i w) := by
  unfold State.toJournal
  split
  · exact h.rest rfl
  · exact h

theorem lostWrite (h : Evolves r s) {i va} : Evolves r (s.lostWrite i va) := h.setHart
theorem cure (h : Evolves r s) {p} : Evolves r (s.cure p) := (h.rewritten (Map.filter_rises _)).rest rfl
theorem rewrite (h : Evolves r s) {c loc n} : Evolves r (s.rewrite c loc n) := .ite h.cure (h.rewritten (Map.set_rises _))
theorem healed (h : Evolves r s) {loc n} : Evolves r (s.healed loc n) := .ite h (h.cure.foldl (·.rewrite))
theorem healAll (h : Evolves r s) {i rs} : Evolves r (s.healAll i rs) := .ite h h.cure
theorem touched (h : Evolves r s) {i va} : Evolves r (s.touched i va) := by
  unfold State.touched
  split
  · exact h
  · exact .ite h h.setCore

theorem atBanks (h : Evolves r s) {i loc n who} : Evolves r (s.atBanks i loc n who) := by
  refine .ite h (h.scratch fun hm => ?_)
  refine List.foldlRecOn (motive := Map.rises) _ _ hm fun m hm w _ => ?_
  dsimp only
  split
  · exact hm
  · exact Map.set_rises _ hm

theorem setScratch (h : Evolves r s) {k b} : Evolves r { s with scratch := Map.set ScratchBank.reset s.scratch k b } :=
  h.scratch (Map.set_rises _)

theorem bankServe (h : Evolves r s) {k} : Evolves r (s.bankServe k) := by
  unfold State.bankServe
  dsimp only
  split
  · exact h
  · split
    · exact h.setScratch
    · exact .ite h.setScratch h.setScratch.setHart

theorem bankCycle (h : Evolves r s) : Evolves r s.bankCycle := h.foldl (·.bankServe)
theorem bankCycles {n} {s : State} (h : Evolves r s) : Evolves r (s.bankCycles n) := by
  induction n generalizing s with
  | zero => exact h
  | succ n ih => exact .ite (h.rest rfl) (ih (h.bankCycle.rest rfl))

theorem misses (h : Evolves r s) {i loc extra dest} : Evolves r (s.misses i loc extra dest) := by
  unfold State.misses
  split
  · exact h
  · exact h.setHart

theorem readAt (h : Evolves r s) {i va loc n dest} : Evolves r (s.readAt i va loc n dest) :=
  .ite h.touched.setHart.setHart.atBanks h.touched.setHart.misses

theorem showPower (h : Evolves r s) {ch} : Evolves r (s.showPower ch) := h.pokeNat
theorem putChannel (h : Evolves r s) {ch x} (hx : (s.channel ch).Rises → x.Rises) : Evolves r (s.putChannel ch x) :=
  .ite (h.setChannel hx) (h.setChannel hx).showPower

theorem eachChannel (h : Evolves r s) {d f} (hf : ∀ {c : Channel}, c.Rises → (f c).Rises) : Evolves r (s.eachChannel d f) :=
  h.foldl fun h => h.setChannel hf

theorem wakeChannel (h : Evolves r s) {ch} : Evolves r (s.wakeChannel ch) := h.putChannel fun hc => hc.upTo.wake
theorem restoreCells (h : Evolves r s) {ch} : Evolves r (s.restoreCells ch) := by
  unfold State.restoreCells
  split
  · exact h
  · dsimp only
    split
    · exact h
    · exact .ite h.setHart h

theorem servePower (h : Evolves r s) {ch} : Evolves r (s.servePower ch) := by
  unfold State.servePower
  refine h.putChannel fun hc => ?_
  have hc := hc.upTo (now := s.cycle)
  dsimp only
  refine .ite hc (.ite (.ite hc.served hc.change) (.ite hc (.ite hc.served (.ite hc.defer (.change ?_)))))
  exact .ite hc.defer.save.payAll hc.defer.save

theorem requestPower (h : Evolves r s) {ch req force} : Evolves r (s.requestPower ch req force) := (h.putChannel (·.setPower)).servePower
theorem deviceRequest (h : Evolves r s) {ch req force} : Evolves r (s.deviceRequest ch req force) := (h.setChannel (·.setAsked)).servePower
theorem readServed (h : Evolves r s) {ch bank k since at_} : Evolves r (s.readServed ch bank k since at_) := h.setHart
theorem stateChanged (h : Evolves r s) {ch now} : Evolves r (s.stateChanged ch now) := by
  unfold State.stateChanged
  dsimp only
  split
  · exact h
  · refine servePower (.ite (restoreCells (h.putChannel ?_)) (h.putChannel ?_)) <;>
      exact fun hc => .ite (.wake (.ite hc.settle.served.save hc.settle.served)) (.ite hc.settle.served.save hc.settle.served)

theorem channelEvent (h : Evolves r s) {ch now e} : Evolves r (s.channelEvent ch now e) := by
  cases e with
  | arrive k pa =>
    unfold State.channelEvent
    refine setHart ?_
    split
    · exact h.putChannel fun hc => hc.upTo.take
    · exact h
  | endAccess b => exact h.setChannel fun hc => hc.upTo.endAccess
  | endRefresh b => exact h.setChannel fun hc => hc.upTo.endRefresh
  | changed => exact h.stateChanged
  | due b => exact h.setChannel fun hc => hc.upTo.setBank.due
  | pay g => exact h.setChannel fun hc => hc.upTo.pay
  | serve b =>
    unfold State.channelEvent
    dsimp only
    split
    · exact h
    · split
      · exact .ite (bump (h.setChannel fun hc => hc.upTo.setBank)) (h.setChannel fun hc => hc.upTo.setBank)
      · exact readServed (.ite (bump (h.setChannel fun hc => hc.upTo.setBank)) (h.setChannel fun hc => hc.upTo.setBank))

theorem setTrace (h : Evolves r s) {d on} : Evolves r (s.setTrace d on) :=
  .ite h.pokeNat <| foldl
    (h.pokeNat.eachChannel fun hc => .foldl (fun hc => .ite (.foldl (·.setBank) hc.anchor) hc) hc.upTo)
    fun h => .ite h h.servePower

theorem arm (h : Evolves r s) {d} : Evolves r (s.arm d) :=
  setDie <| h.pokeNat.eachChannel fun hc => hc.upTo.payAll.setArmed (Map.rises_iff.mpr (by decide))

end State.Evolves

end Sys2Proof.Machine
end

section
namespace Sys2Proof.Machine

namespace State.Evolves
variable {r s : State}

/-! The updates of Device.lean: the words that the device guards, BAR2, and the writes that every instruction makes. -/

theorem applyUpdate (h : Evolves r s) {number} : Evolves r (s.applyUpdate number) := by
  unfold State.applyUpdate
  cases s.checkUpdate
  exact h.rest rfl

theorem requestUpdate (h : Evolves r s) {number} : Evolves r (s.requestUpdate number) := .ite (h.rest rfl) h.applyUpdate
theorem attest (h : Evolves r s) {number} : Evolves r (s.attest number) := h.pokeN.pokeNat
theorem writeCkctl (h : Evolves r s) {v} : Evolves r (s.writeCkctl v) :=
  pokeNat (s := { s with ckPending := s.ckPending || bitAt v 32 }) (h.rest rfl)

theorem writeRefctl (h : Evolves r s) {d v} : Evolves r (s.writeRefctl d v) := .ite (.arm (.ite h h.setTrace)) (.ite h h.setTrace)
theorem writeGo (h : Evolves r s) {v} : Evolves r (s.writeGo v) := .ite h.pokeNat.pokeNat h.pokeNat
theorem guardedWord {t : State} (h : Evolves r s) (ht : Evolves r t) {who a v} : Evolves r ((s.guardedWord who a v).getD t) := by
  unfold State.guardedWord
  refine .iteGetD h <| .iteGetD (.iteGetD ?_ ht) <| .iteGetD (.iteGetD ?_ ht) <| .iteGetD h.pokeNat.requestUpdate <|
    .iteGetD h.pokeNat.attest <| .iteGetD ?_ <| .iteGetD ?_ ht
  · exact .ite h.writeGo h
  · exact .ite h.pokeNat h
  · exact .iteGetD h (.iteGetD h.writeRefctl (.iteGetD h.requestPower h))
  · exact .iteGetD h (.iteGetD h.writeCkctl (.iteGetD h.pokeNat h))

theorem storeWords {who n} {s : State} (h : Evolves r s) {loc bs} : Evolves r (s.storeWords who n loc bs) := by
  induction n generalizing s loc bs with
  | zero => exact h
  | succ n ih =>
    refine .ite h (ih ?_)
    split
    · exact h.guardedWord h.perform
    · exact h.perform

theorem putBytes (h : Evolves r s) {who loc bs} : Evolves r (s.putBytes who loc bs) := .ite h.storeWords h.perform
theorem firmwareWrite (h : Evolves r s) {loc n v} : Evolves r (s.firmwareWrite loc n v) := .ite h.pokeNat h
theorem setBar (h : Evolves r s) {port off b} : Evolves r (s.setBar port off b) := h.bar2 (Map.set_rises _)
theorem message (h : Evolves r s) {port v} : Evolves r (s.message port v) :=
  .ite h.setBar (.ite (h.setBar.rest rfl) h.setBar.bump)

theorem raiseVector (h : Evolves r s) {v} : Evolves r (s.raiseVector v) :=
  foldl (s := { s with msix := v :: s.msix }) (h.rest rfl) (·.message)

theorem writeBar (h : Evolves r s) {port off bs} : Evolves r (s.writeBar port off bs) :=
  foldl (h.foldl fun h => .ite h.setBar h) fun h => .ite h.message h

theorem performNow (h : Evolves r s) {i w} : Evolves r (s.performNow i w) := by
  unfold State.performNow
  refine .ite h.lostWrite ?_
  split
  · exact h
  · exact .ite h.perform h.putBytes.healed

theorem writePiece (h : Evolves r s) {i va mask t bs} : Evolves r (s.writePiece i va mask t bs) := by
  unfold State.writePiece
  split
  · exact h
  · exact .ite h.toJournal h.performNow

theorem storePiece (h : Evolves r s) {i va rel holds t bs} : Evolves r (s.storePiece i va rel holds t bs) := by
  unfold State.storePiece
  dsimp only
  split
  · exact .ite h.toJournal h.post
  · exact .ite h.post h.performNow
  · exact .ite h.toJournal h.post
  · exact h

theorem eachPiece {f : State → Nat → Target → List Byte → State} (hf : ∀ {s va t bs}, Evolves r s → Evolves r (f s va t bs)) {i} {s : State}
    (h : Evolves r s) {va ps bs} : Evolves r (State.eachPiece f i s va ps bs) := by
  induction ps generalizing s va bs with
  | nil => exact h
  | cons p ps ih => exact ih (hf h).noteWrite

theorem writePieces (h : Evolves r s) {i va mask ps bs} : Evolves r (s.writePieces i va mask ps bs) := by
  unfold State.writePieces
  exact eachPiece (fun h => h.writePiece) h

theorem storePieces (h : Evolves r s) {i va rel holds ps bs} : Evolves r (s.storePieces i va rel holds ps bs) := by
  unfold State.storePieces
  exact eachPiece (fun h => h.storePiece) h

theorem writeBytes (h : Evolves r s) {i va mask bs} : (s.writeBytes i va mask bs).All (Evolves r) := by
  unfold State.writeBytes
  split
  · exact .writable (.ok h.writePieces)
  · exact .of_trap
  · exact .of_miss
  · exact .of_wait

/-! The updates of Memory.lean: translation requests, loads, stores and atomics of scalar instructions. -/

theorem request (h : Evolves r s) {i va acc engine prefetch} : Evolves r (s.request i va acc engine prefetch) :=
  .ite h h.setCore.setHart

theorem missed (h : Evolves r s) {va acc} : Evolves r (s.missed va acc) := (setH (.ite h h.request)).stall
theorem engineMissed (h : Evolves r s) {va acc} : Evolves r (s.engineMissed va acc) := h.request.setH.stall
theorem onReply {α : Type} {p : α → Prop} (h : Evolves r s) {x : Reply α} {k : α → State} (hx : x.All p)
    (hk : ∀ a, p a → Evolves r (k a)) : Evolves r (s.onReply x k) := by
  rcases s.onReply_cases x k with ⟨a, ha, e⟩ | ⟨_, -, e⟩ | ⟨_, _, -, e⟩ | ⟨-, e⟩ <;> rw [e]
  · exact hk a (hx a ha)
  · exact h.trapHere
  · exact h.missed
  · exact h.stall

theorem onValue {α : Type} (h : Evolves r s) {x : Reply α} {k : α → State} (hk : ∀ a, Evolves r (k a)) : Evolves r (s.onReply x k) :=
  h.onReply (p := fun _ => True) (fun _ _ => trivial) fun a _ => hk a

theorem returns (h : Evolves r s) {d va n} : Evolves r (s.returns d va n) := by
  unfold State.returns
  dsimp only
  split
  · exact h.setH.readAt
  · exact h.setH

theorem issuedAt (h : Evolves r s) : Evolves r s.issuedAt := .ite h.setH h
theorem loading (h : Evolves r s) {d va n k} (hk : ∀ {s bs}, Evolves r s → Evolves r (k s bs)) : Evolves r (s.loading d va n k) := by
  unfold State.loading
  split
  · exact hk h.returns
  · exact trapHere (.ite h.issuedAt h)
  · exact h.issuedAt.missed
  · exact h.stall

theorem load (h : Evolves r s) {size d va n signed} : Evolves r (s.load size d va n signed) := h.loading (·.write)
theorem reachBanks (h : Evolves r s) {i ps} : Evolves r (s.reachBanks i ps) :=
  h.foldl fun h => by
    split
    · exact h.atBanks
    · exact h

theorem reached (h : Evolves r s) {i va ps} : Evolves r (s.reached i va ps) := h.touched.reachBanks
theorem scalarWrite (h : Evolves r s) {va bs rel holds} : (s.scalarWrite va bs rel holds).All (Evolves r) := by
  unfold State.scalarWrite
  refine .guard ?_
  split
  · split
    · exact .of_trap
    · exact .ite .of_wait (.ok h.storePieces.reached)
  · exact .of_trap
  · exact .of_miss
  · exact .of_wait

theorem store (h : Evolves r s) {size b va n} : Evolves r (s.store size b va n) := h.onReply h.scalarWrite fun _ ht => ht.retire
theorem acquire (h : Evolves r s) {yes} : Evolves r (s.acquire yes) := .ite h.setH h
theorem takeWfail (h : Evolves r s) {va} : Evolves r (s.takeWfail va) := h.setH.trapHere
theorem loadOrd (h : Evolves r s) {d a ord n signed} : Evolves r (s.loadOrd d a ord n signed) :=
  .ite h.trapHere (h.loading (·.acquire.write))

theorem storeOrd (h : Evolves r s) {a b sc ord n} : Evolves r (s.storeOrd a b sc ord n) :=
  .ite h.trapHere (.ite h.takeWfail (h.onReply (.ite .of_wait h.scalarWrite) fun _ ht => ht.retire))

theorem atomic (h : Evolves r s) {i f va n x c used} : (s.atomic i f va n x c used).All fun p => Evolves r p.1 := by
  unfold State.atomic
  dsimp only
  split
  · split
    · refine .ite .of_denied (.ite ?_ (.ite .of_wait (.ite ?_ ?_)))
      · have journaled {w : Posted} {ps b} :
            (s.writable i ps (.ok ((s.toJournal i w).noteWrite i b, 0, 0)) : Reply (State × Nat × Nat)).All fun p => Evolves r p.1 :=
          .writable h.toJournal.noteWrite.okWith
        split
        case h_5 => exact .ite .of_denied journaled
        all_goals exact .of_denied
      · exact h.lostWrite.noteWrite.okWith
      · split
        · split
          · exact h.okWith
          · split
            · exact h.putBytes.noteWrite.reached.okWith
            · exact h.noteWrite.okWith
        · exact .of_trap
        · exact .of_miss
        · exact .of_wait
    · exact .of_wait
  · exact .of_trap
  · exact .of_miss
  · exact .of_wait

theorem amo (h : Evolves r s) {f d a x c sc ord result} : Evolves r (s.amo f d a x c sc ord result) :=
  .ite h.trapHere (.ite h.takeWfail (.ite h.stall (h.onReply (.guard h.atomic) fun _ ht => ht.acquire.write)))

theorem amoOld (h : Evolves r s) {f d a b sc ord} : Evolves r (s.amoOld f d a b sc ord) := h.amo
theorem amoFx (h : Evolves r s) {f d a b sc ord} : Evolves r (s.amoFx f d a b sc ord) := h.amo

end State.Evolves

end Sys2Proof.Machine
end

section
namespace Sys2Proof.Machine

namespace State.Evolves
variable {r s : State}

/-! Registers that move between slots, ways and memory (Slots.lean), and the vector configuration (VConf.lean). -/

theorem copyOut (h : Evolves r s) {x k} : Evolves r (s.copyOut x k) := .ite h h.cure
theorem spillDown {i n} {s : State} (h : Evolves r s) : Evolves r (s.spillDown i n) := by
  induction n generalizing s with
  | zero => exact h
  | succ n ih =>
    unfold State.spillDown
    refine .ite h ?_
    split
    · exact h
    · exact ih (setHart (.ite h.copyOut h))

theorem settle (h : Evolves r s) {i named} : Evolves r (s.settle i named) := h.setHart.spillDown
theorem rebuffer (h : Evolves r s) {i} : Evolves r (s.rebuffer i) := h.setHart.foldl (·.setHart)
theorem evictFrom {c left ks} {s : State} (h : Evolves r s) : Evolves r (s.evictFrom c left ks) := by
  induction ks generalizing s with
  | nil => exact h
  | cons k ks ih => exact ih (.ite (h.setHart.foldl (·.copyOut)) h)

theorem evictWays (h : Evolves r s) {c} : Evolves r (s.evictWays c) := h.evictFrom
theorem reserve (h : Evolves r s) {c bits} : Evolves r (s.reserve c bits) := h.setCore
theorem vsetvl (h : Evolves r s) {d a b keep} : Evolves r (s.vsetvl d a b keep) := by
  have reserved {c c' bits p q} [Decidable p] [Decidable q] :
      Evolves r (if p then (if q then (s.reserve c bits).reserve c' bits else s.reserve c bits) else s) :=
    .ite (.ite h.reserve.reserve h.reserve) h
  exact .ite h.stall (.ite h.setH.write reserved.setH.spillDown.evictWays.write)

/-! Status registers and the TLBs (Status.lean). -/

theorem takeRequest (h : Evolves r s) : Evolves r s.takeRequest := by
  unfold State.takeRequest
  dsimp only
  split
  · exact h
  · exact h.setCore

theorem addSat32 (h : Evolves r s) {pa n} : Evolves r (s.addSat32 pa n) := .ite h h.pokeNat
theorem heatWriteBack (h : Evolves r s) {d e} : Evolves r (s.heatWriteBack d e) := by
  unfold State.heatWriteBack
  split
  · exact h
  · exact .ite h (.ite h.bump h.addSat32.addSat32.addSat32)

theorem dropTlb (h : Evolves r s) {d p} : Evolves r (s.dropTlb d p) := setDie (h.foldl (·.heatWriteBack))
theorem installTlb (h : Evolves r s) {d e} : Evolves r (s.installTlb d e) := by
  unfold State.installTlb
  refine setDie ?_
  have cleared {l : List (Nat × Core)} {f : Nat × Core → Core} {p} : Evolves r
      (l.foldl (fun s q => s.setCore { die := d, core := Fin.ofNat 192 q.1 } (f q)) (s.dropTlb d p)) :=
    h.dropTlb.foldl (·.setCore)
  dsimp only
  split
  · exact .ite cleared.heatWriteBack.setDie cleared
  · exact cleared

theorem answer457 (h : Evolves r s) {v} : Evolves r (s.answer457 v) := by
  unfold State.answer457
  dsimp only
  split
  · exact h.setCore
  · exact .ite (.ite h.setCore.setCore h.setCore.setCore.setHart) h.setCore.setCore.installTlb

theorem invalidate (h : Evolves r s) {v} : Evolves r (s.invalidate v) := by
  refine .ite h (setDie (h.dropTlb.mapHarts ?_))
  intro _
  rfl

theorem writeHeat (h : Evolves r s) {v} : Evolves r (s.writeHeat v) :=
  .ite (setDie (h.setDie.foldl (·.heatWriteBack))) h.setDie

theorem markReclaim (h : Evolves r s) {v} : Evolves r (s.markReclaim v) := by
  unfold State.markReclaim
  refine .ite h.setDie ?_
  dsimp only
  split
  · exact h.setDie.setHart
  · exact h.setDie.setHart

theorem writeStatus (h : Evolves r s) {n w} : Evolves r (s.writeStatus n w) := by
  unfold State.writeStatus
  dsimp only
  split
  case h_20 | h_21 | h_22 => exact h.setCore
  case h_23 => exact h.answer457
  case h_24 => exact h.invalidate
  case h_25 => exact h.writeHeat
  case h_26 => exact h.markReclaim
  case h_27 => exact h.setDie.rest rfl
  case h_28 => exact h
  all_goals exact h.setH

/-! Streams (Streams.lean). -/

theorem addHeat (h : Evolves r s) {i va k} : Evolves r (s.addHeat i va k) := by
  refine .ite h ?_
  dsimp only
  split
  · exact h
  · exact setDie (.ite h.heatWriteBack h)

theorem reachWords (h : Evolves r s) {i va n acc} : Evolves r (s.reachWords i va n acc) := by
  unfold State.reachWords
  split
  · exact h.reachBanks
  · exact h

theorem withHeld (h : Evolves r s) {i t} : Evolves r (s.withHeld i t) := .ite h h.setDie
theorem prefetch {i t addr acc count k} {s : State} (h : Evolves r s) {n} : Evolves r (s.prefetch i t addr acc count k n) := by
  induction k generalizing s n with
  | zero => exact h
  | succ k ih =>
    refine ih (.ite h ?_)
    split
    · split
      · exact h.request
      · exact h
    · exact h

theorem walksOn (h : Evolves r s) {i st k} : Evolves r (s.walksOn i st k) := .ite h h.setHart.prefetch
theorem storeElem (h : Evolves r s) {t n v} : (s.storeElem t n v).All (Evolves r) :=
  .guard (.bind_of_next fun _ => .writable (.ok h.writePieces.addHeat.reachBanks))

end State.Evolves

end Sys2Proof.Machine
end

section
namespace Sys2Proof.Machine

/-! Vector members (Vector.lean, Convoy.lean): what one does at once, and what it does when its convoy drains. -/

/-- What a member does at once evolves, and so does what it leaves for the drain, whatever state the drain finds. -/
def Ran.Evolves (x : Ran) (r : State) : Prop :=
  r.Evolves x.s ∧ ∀ f, x.late = some f → ∀ {t}, r.Evolves t → (f t).All r.Evolves

namespace Ran.Evolves
variable {r s : State}

theorem done (h : r.Evolves s) : (Ran.done s).Evolves r := ⟨h, nofun⟩
theorem stop (h : r.Evolves s) {p x} : (Ran.stop s p x).Evolves r := ⟨h, nofun⟩
theorem block (h : r.Evolves s) {c : Ctx} {e} : (c.block s e).Evolves r := stop h
theorem later (h : r.Evolves s) {f} (hf : ∀ {t}, r.Evolves t → (f t).All r.Evolves) : (Ran.later s f).Evolves r :=
  ⟨h, fun _ e => by cases e; exact hf⟩

theorem waits (h : r.Evolves s) : (Ran.later s fun _ => .wait).Evolves r := later h fun _ => .of_wait
theorem result (h : r.Evolves s) {d v} : (Ran.result s d v).Evolves r := later h fun h => .ok h.setX
theorem ite {c : Prop} [Decidable c] {x y : Ran} (hx : x.Evolves r) (hy : y.Evolves r) : (if c then x else y).Evolves r := by
  split
  · exact hx
  · exact hy

theorem eachRow {f : State → Nat → Ran} (hf : ∀ {s j}, r.Evolves s → (f s j).Evolves r) {l} {s : State} (h : r.Evolves s) :
    (Ctx.eachRow f l s).Evolves r := by
  induction l generalizing s with
  | nil => exact done h
  | cons j js ih =>
    unfold Ctx.eachRow
    dsimp only
    split
    · exact hf h
    · exact ih (hf h).1

end Ran.Evolves

namespace State.Evolves
variable {r s : State}

theorem heatTaken (h : Evolves r s) {c st e} : Evolves r (s.heatTaken c st e) := by
  refine .ite h ?_
  split
  · exact h.addHeat
  · exact h

theorem noteTaken (h : Evolves r s) {c st es} : Evolves r (s.noteTaken c st es) := by
  unfold State.noteTaken
  split
  · exact h
  · refine h.foldl fun h => .ite h ?_
    split
    · exact h.heatTaken.setH
    · exact h

theorem readSources (h : Evolves r s) {c noA noB a wa b wb j} : Evolves r (s.readSources c noA noB a wa b wb j) := .ite h.setH h
theorem setHIf (h : Evolves r s) {c : Prop} [Decidable c] {x} : Evolves r (if c then s.setH x else s) := .ite h.setH h
theorem ewRow (h : Evolves r s) {c masked f d a b j} : (s.ewRow c masked f d a b j).Evolves r := by
  unfold State.ewRow
  cases c.row j
  cases f.widths c.sew
  refine .ite (.done h.readSources) ?_
  dsimp only
  split
  · exact .stop h.readSources
  · exact .done h.readSources.setH.noteTaken

theorem runEw (h : Evolves r s) {c masked f d a b} : (s.runEw c masked f d a b).Evolves r := .eachRow (·.ewRow) h
theorem cmpRow (h : Evolves r s) {c k masked f d a b j} : (s.cmpRow c k masked f d a b j).Evolves r := by
  unfold State.cmpRow
  cases c.row j
  refine .ite (.done h.readSources) ?_
  dsimp only
  split
  · exact .stop h.readSources
  · exact .done h.readSources.setH.noteTaken

theorem runCmp (h : Evolves r s) {c masked f d a b} : (s.runCmp c masked f d a b).Evolves r := .eachRow (·.cmpRow) h
theorem runMask (h : Evolves r s) {c f d a b} : (s.runMask c f d a b).Evolves r := by
  refine .ite (.done h) ?_
  dsimp only
  split
  · exact .stop h
  · exact .done h.setH

theorem vmmRow (h : Evolves r s) {c masked d a b ta tb j} : (s.vmmRow c masked d a b ta tb j).Evolves r := by
  unfold State.vmmRow
  cases c.row j
  refine .ite (.done h.setHIf) ?_
  dsimp only
  split
  · exact .stop h.setHIf
  · exact .done h.setHIf.setH

theorem runVmm (h : Evolves r s) {c masked d a b ta tb} : (s.runVmm c masked d a b ta tb).Evolves r := .eachRow (·.vmmRow) h
theorem ccvtRow (h : Evolves r s) {c masked d a vs p g j} : (s.ccvtRow c masked d a vs p g j).Evolves r := by
  unfold State.ccvtRow
  cases c.row j
  refine .ite (.done h.setHIf) ?_
  dsimp only
  split
  · exact .stop h.setHIf
  · exact .done h.setHIf.setH

theorem ccvtScaledRow (h : Evolves r s) {c masked d a vs p g j} : (s.ccvtScaledRow c masked d a vs p g j).Evolves r := by
  refine .ite (.done h.setHIf) ?_
  split
  · exact .ite (.done h.setHIf) (.stop h.setHIf)
  · refine .ite (.done (.ite h.setHIf.setH h.setHIf)) ?_
    dsimp only
    split
    · exact .stop h.setHIf
    · exact .done h.setHIf.setH
  · exact .done h.setHIf

theorem runCcvt (h : Evolves r s) {c masked d a vs ta tb out} : (s.runCcvt c masked d a vs ta tb out).Evolves r :=
  .eachRow (fun h => .ite h.ccvtRow h.ccvtScaledRow) h

end State.Evolves

end Sys2Proof.Machine
end

section
namespace Sys2Proof.Machine

namespace State.Evolves
variable {r s : State}

/-! Members that write memory: stores, indexed accesses and sends. -/

theorem commitAll {f : State → Nat → Nat → Reply (State × Nat)} (hf : ∀ {s t a}, Evolves r s → (f s t a).All fun p => Evolves r p.1)
    {l} {s : State} (h : Evolves r s) : Evolves r (Sys2Proof.Machine.commitAll f l s).s := by
  induction l generalizing s with
  | nil => exact h
  | cons p l ih =>
    unfold Sys2Proof.Machine.commitAll
    split
    · next e => exact ih (hf h _ e)
    · exact h

theorem performAll {α : Type} {f : State → α → Reply State} (hf : ∀ {s a}, Evolves r s → (f s a).All (Evolves r)) {l} {s : State}
    (h : Evolves r s) : Evolves r (Sys2Proof.Machine.performAll f l s) := by
  induction l generalizing s with
  | nil => exact h
  | cons a l ih =>
    unfold Sys2Proof.Machine.performAll
    split
    · next e => exact ih (hf h _ e)
    · exact ih h

theorem runLoad (h : Evolves r s) {c masked d st} : (s.runLoad c masked d st).Evolves r := by
  unfold State.runLoad
  cases c.row 0
  refine .ite (.done h) ?_
  dsimp only
  split
  · exact .stop h
  · exact .done h.setH.noteTaken

theorem runStore (h : Evolves r s) {c masked ordered a st} : (s.runStore c masked ordered a st).Evolves r := by
  unfold State.runStore
  cases c.row 0
  refine .ite (.done h.setH) ?_
  dsimp only
  split
  · exact .stop h.setH
  · exact .done (performAll (·.storeElem) h.setH).healAll

theorem runWindows {c ordered b data probe} {f : State → Nat → Nat → Reply (State × Nat)}
    (hf : ∀ {s t a}, Evolves r s → (f s t a).All fun p => Evolves r p.1) {l} {s : State} (h : Evolves r s) :
    Evolves r (Sys2Proof.Machine.runWindows c ordered b data probe f l s).s := by
  induction l generalizing s with
  | nil => exact h
  | cons w ws ih =>
    unfold Sys2Proof.Machine.runWindows
    dsimp only
    split
    · exact h
    · split
      · split
        · exact commitAll hf h
        · exact ih (commitAll hf h)
      · exact h

theorem writeRows (h : Evolves r s) {c masked d l} : Evolves r (s.writeRows c masked d l) := h.setH
theorem runIndexed (h : Evolves r s) {c masked ordered a wa acc amo n size addr data} {f : State → Nat → Nat → Reply (State × Nat)}
    (hf : ∀ {s t a}, Evolves r s → (f s t a).All fun p => Evolves r p.1) :
    Evolves r (s.runIndexed c masked ordered a wa acc amo n size addr data f).s := by
  unfold State.runIndexed
  cases s.indexed c masked a wa addr
  exact (runWindows hf h).foldl (·.setH)

theorem ran {x : Committed} (h : Evolves r x.s) {c masked d} : (x.ran c masked d).Evolves r := by
  unfold Committed.ran
  split
  · exact .stop h
  · split
    · exact .done h.writeRows
    · exact .done h

theorem runGather (h : Evolves r s) {c masked d a b} : (s.runGather c masked d a b).Evolves r :=
  .ite (.done h.setH) <| ran <| h.setH.runIndexed fun h => .bind_of_next fun _ => h.addHeat.reachWords.okWith

theorem runScatter (h : Evolves r s) {c masked ordered d a b} : (s.runScatter c masked ordered d a b).Evolves r :=
  .ite (.done h.setH) <| ran <| h.setH.runIndexed fun h => .bind_of_next fun _ =>
    .bind (.guard h.writeBytes) fun _ ht => ht.addHeat.reachWords.okWith

theorem runAmo (h : Evolves r s) {c masked f d a ord sc unordered} : (s.runAmo c masked f d a ord sc unordered).Evolves r :=
  .ite (.done h.setH) <| .ite (.stop h.setH) <| .ite (.stop h.setH) <| ran <| acquire <| h.setH.runIndexed fun h =>
    .bind_of_next fun _ => .bind (.guard h.atomic) fun _ ht => ht.addHeat.okWith

theorem beginSend (h : Evolves r s) {st} : Evolves r (s.beginSend st) := h.setH
theorem sendOver (h : Evolves r s) {i st} : Evolves r (s.sendOver i st) := by
  refine .ite h ?_
  exact h.setHart.mapHarts fun _ => rfl

theorem endSend (h : Evolves r s) {st} : Evolves r (s.endSend st) := h.setH.sendOver
theorem sendEnd (h : Evolves r s) {st} : (s.sendEnd st).All (Evolves r) := .ite (.ok h) (.ite .of_wait (.ok h.setH))
theorem runSend (h : Evolves r s) {c a eom st} : (s.runSend c a eom st).Evolves r := by
  have ended {t : State} (ht : Evolves r t) :
      ((if eom then t.sendEnd st else .ok t).bind fun t => .ok (t.endSend st)).All (Evolves r) :=
    .bind (.ite ht.sendEnd (.ok ht)) fun _ hu => .ok hu.endSend
  have begun : Evolves r (if s.h.stm[st].partway then s else s.beginSend st) := .ite h h.beginSend
  refine .ite (.done h) (.ite (.stop h) (.ite (.later begun.setH ended) ?_))
  dsimp only
  split
  · exact .stop begun.setH
  · exact .later begun.setH.setH ended

theorem acceptCopy (h : Evolves r s) {c st} : (s.acceptCopy c st).Evolves r := by
  unfold State.acceptCopy
  dsimp only
  split
  · exact .stop h.setH
  · exact .done h.setH

theorem runCopy (h : Evolves r s) {c f xa xb st enc} : (s.runCopy c f xa xb st enc).Evolves r := by
  refine .ite (.done h) (.ite h.acceptCopy (.ite (.stop h) (.ite (.stop h) ?_)))
  split
  · dsimp only
    split
    · exact .stop h
    · exact h.setH.acceptCopy
  · exact .stop h

/-! Reductions, the Crucible, scalar results, and what streams, commands and seals do at the drain. -/

theorem xrRow (h : Evolves r s) {c masked f d a b j} : (s.xrRow c masked f d a b j).Evolves r := by
  refine .ite (.done h) ?_
  dsimp only
  split
  · exact .stop h.setH
  · exact .ite (.stop h.setH) (.done h.setH.setH)

theorem runXr (h : Evolves r s) {c masked f d a b} : (s.runXr c masked f d a b).Evolves r := .eachRow (·.xrRow) h
theorem outerOnto (h : Evolves r s) {c b f x y} : (s.outerOnto c b f x y).Evolves r := by
  unfold State.outerOnto
  split
  · exact .block h
  · exact .ite (.block h) (.done h.setH)

theorem runCopr (h : Evolves r s) {c b va vb xo f} : (s.runCopr c b va vb xo f).Evolves r := by
  unfold State.runCopr
  dsimp only
  split
  · exact .block h.setH
  · exact h.setH.outerOnto
  · exact .stop h.setH

theorem runCoprM (h : Evolves r s) {c b a y f} : (s.runCoprM c b a y f).Evolves r := by
  unfold State.runCoprM
  dsimp only
  split
  · exact .block h
  · exact h.outerOnto
  · exact .stop h

theorem runCmvBv (h : Evolves r s) {c b va xo} : (s.runCmvBv c b va xo).Evolves r := by
  unfold State.runCmvBv
  cases moveRows xo
  dsimp only
  split
  · exact .block h.setH
  · exact .done h.setH.setH
  · exact .stop h.setH

theorem runCmvVb (h : Evolves r s) {c b vd xo} : (s.runCmvVb c b vd xo).Evolves r := by
  unfold State.runCmvVb
  cases moveRows xo
  dsimp only
  split
  · exact .block h
  · exact .done h.setH

theorem runCld (h : Evolves r s) {c b a stride} : (s.runCld c b a stride).Evolves r := by
  unfold State.runCld
  dsimp only
  split
  · exact .block h
  · exact .done h.setH
  · exact .stop h

theorem runCst (h : Evolves r s) {c b a stride} : (s.runCst c b a stride).Evolves r := by
  unfold State.runCst
  dsimp only
  split
  · exact .block h
  · split
    · exact .block h
    · exact .stop h
    · exact .done (performAll (·.writeBytes) h).healAll

theorem runCzero (h : Evolves r s) {b} : (s.runCzero b).Evolves r := .done h.setH
theorem runMaskScan (h : Evolves r s) {c d a first} : (s.runMaskScan c d a first).Evolves r := by
  unfold State.runMaskScan
  dsimp only
  split
  · exact .stop h
  · exact .result h

theorem runElem (h : Evolves r s) {c d a b} : (s.runElem c d a b).Evolves r := by
  refine .ite (.result h) ?_
  split
  · exact .result h.setH
  · exact .stop h.setH

theorem runMat (h : Evolves r s) {a} : (s.runMat a).Evolves r := .done h.setH
theorem replaceStream (h : Evolves r s) {st t} : (State.replaceStream st t s).All (Evolves r) := .ite .of_wait (.ok h.setH)
theorem runScfg (h : Evolves r s) {c xa st enc} : (s.runScfg c xa st enc).Evolves r := by
  refine .ite (.waits h) (.ite (.stop h) ?_)
  split
  · dsimp only
    split
    · exact .stop h
    · exact .later h (·.replaceStream)
  · exact .stop h

theorem runScfgr (h : Evolves r s) {c a k st enc} : (s.runScfgr c a k st enc).Evolves r := by
  refine .ite (.waits h) ?_
  dsimp only
  split
  · exact .stop h
  · exact .later h (·.replaceStream)

theorem runChsend (h : Evolves r s) {c xa xb st} : (s.runChsend c xa xb st).Evolves r :=
  .ite (.waits h) (.ite (.stop h) (.ite (.stop h) (.later h (·.replaceStream))))

theorem runChrecv (h : Evolves r s) {c xa st} : (s.runChrecv c xa st).Evolves r :=
  .ite (.waits h) (.ite (.stop h) (.later h (·.setH.replaceStream)))

theorem runSidle (h : Evolves r s) {st} : (s.runSidle st).Evolves r := by
  refine .later h fun h => .ite .of_wait ?_
  split
  · exact .of_trap
  · exact .ok h.setH

theorem runEom (h : Evolves r s) {st} : (s.runEom st).Evolves r :=
  .later h fun h => .ite .of_wait (.bind h.beginSend.sendEnd fun _ h => .ok h.endSend)

theorem runSget (h : Evolves r s) {d st sel} : (s.runSget d st sel).Evolves r := .later h fun h => .ok h.setX
theorem acceptKerb (h : Evolves r s) {i st kind rec c no} : (s.acceptKerb i st kind rec c no).All (Evolves r) := by
  refine .ite .of_wait (.ite (.ok h.setHart) (.bind_of_next fun units => .ite .of_wait ?_))
  have woken : Evolves r (units.foldl (fun s u => s.wakeChannel u) s) := h.foldl (·.wakeChannel)
  dsimp only
  split
  · exact .ok (setHart (woken.rest rfl))
  · exact .ite (.ok woken.setHart) .of_trap
  · exact .of_miss
  · exact .of_wait

theorem runKerb (h : Evolves r s) {kind a st record} : (s.runKerb kind a st record).Evolves r := .later h (·.acceptKerb)
theorem runSeal (h : Evolves r s) {d xa xb} : (s.runSeal d xa xb).Evolves r :=
  .later h fun h => .ite .of_wait <| .bind_of_next fun _ => .ite (.ok h.setX) <| .guard <| .ite .of_wait <|
    .ok <| setX <| setH <| h.rest rfl

theorem runUnseal (h : Evolves r s) {d xa xb} : (s.runUnseal d xa xb).Evolves r := by
  refine .later h fun h => .ite .of_wait (.bind_of_next fun _ => .ite (.ok h.setX) ?_)
  split
  · exact .ok h.setX
  · exact .guard (.ok (setX (setH (h.rest rfl))))

end State.Evolves

end Sys2Proof.Machine
end

section
namespace Sys2Proof.Machine

/-! A convoy as one execution (Convoy.lean): passes over its members, its end, its stop and its wait. -/

/-- What a pass has done evolves, and so does what each member leaves for the drain. -/
def Pass.Evolves (x : Pass) (r : State) : Prop :=
  r.Evolves x.s ∧ ∀ p ∈ x.late, ∀ {t}, r.Evolves t → (p.2 t).All r.Evolves

namespace State.Evolves
variable {r s : State}

theorem asHart (h : Evolves r s) {i f} (hf : ∀ {t}, Evolves r t → Evolves r (f t)) : Evolves r (s.asHart i f) :=
  (hf (t := { s with cur := i }) (h.rest rfl)).rest rfl

theorem retirePair (h : Evolves r s) {c} : Evolves r (s.retirePair c) := h.foldl (·.setCore.pokeNat)
theorem rollBack (h : Evolves r s) {i} : Evolves r (s.rollBack i) := by
  unfold State.rollBack
  split
  · exact h
  · next p _ =>
    have restored {m} : Evolves r { (s.setHart i ((s.hart i).rolledBack p.hart)).bump i.die 0x68 with pairs := m } :=
      h.setHart.bump.rest rfl
    exact .ite restored ((restored.asHart (·.trapHere)).mclog.retirePair)

theorem runMember (h : Evolves r s) {c cru m} : (s.runMember c cru m).Evolves r := by
  have guarded {p : Prop} [Decidable p] {x : Ran} (hx : x.Evolves r) : (if p then x else .done s).Evolves r := .ite hx (.done h)
  unfold State.runMember
  dsimp only
  split
  · exact h.runEw
  · exact h.runCmp
  · exact h.runMask
  · exact guarded h.runMaskScan
  · exact guarded h.runMaskScan
  · exact .later h fun h => .ok h.setX
  · exact .later h fun h => .ok h.setX
  · exact .later h fun h => .ok h.setX
  · exact .ite (.done h) h.runMat
  · exact guarded h.runElem
  · exact h.runScfg
  · exact h.runScfgr
  · exact .ite (.done h) h.runCopy
  · exact h.runChsend
  · exact h.runChrecv
  · exact h.runSend
  · exact h.runEom
  · exact h.runSget
  · exact h.runSidle
  · exact h.runKerb
  · exact h.runSeal
  · exact h.runUnseal
  · exact h.runLoad
  · exact h.runStore
  · exact h.runGather
  · exact h.runScatter
  · exact h.runAmo
  · exact h.runXr
  · exact h.runVmm
  · exact h.runCcvt
  · exact guarded h.runCopr
  · exact guarded h.runCoprM
  · exact guarded h.runCmvBv
  · exact guarded h.runCmvVb
  · exact guarded h.runCld
  · exact guarded h.runCst
  · exact guarded h.runCzero

theorem pass {c cru k ms} {s : State} (h : Evolves r s) : (s.pass c cru k ms).Evolves r := by
  induction ms generalizing s c k with
  | nil => exact ⟨h, nofun⟩
  | cons m ms ih =>
    have hm {c} : (s.runMember c cru m).Evolves r := h.runMember
    unfold State.pass
    dsimp only
    split
    · split
      · exact ⟨hm.1, nofun⟩
      · split
        · exact ih hm.1
        · exact ih hm.1
    · refine ⟨(ih hm.1).1, ?_⟩
      dsimp only
      split
      · next f hf =>
        exact List.forall_mem_cons.mpr ⟨hm.2 f hf, (ih hm.1).2⟩
      · exact (ih hm.1).2

theorem sweep {c cru ms ps b} {s : State} (h : Evolves r s) : (State.sweep c cru ms ps b s).Evolves r := by
  induction ps generalizing s b with
  | nil => exact h.pass
  | cons p ps ih =>
    unfold State.sweep
    dsimp only
    split
    · exact h.pass
    · exact ih h.pass.1

theorem passAll (h : Evolves r s) {c cru} : (s.passAll c cru).Evolves r := by
  unfold State.passAll
  split
  · exact h.pass
  · exact ⟨h.sweep.1.setH, h.sweep.2⟩

theorem runLate {l t x} {s : State} (h : Evolves r s) (hl : ∀ p ∈ l, ∀ {t}, Evolves r t → (p.2 t).All (Evolves r))
    (e : Sys2Proof.Machine.runLate l s = (t, x)) : Evolves r t := by
  induction l generalizing s with
  | nil => cases e; exact h
  | cons p l ih =>
    obtain ⟨hp, hl⟩ := List.forall_mem_cons.mp hl
    unfold Sys2Proof.Machine.runLate at e
    split at e
    · next hs => exact ih (hp h _ hs) hl e
    · cases e; exact h

theorem ended {c : Prop} [Decidable c] {x y : Ended} (hx : Evolves r x.s) (hy : Evolves r y.s) : Evolves r (if c then x else y).s := by
  split
  · exact hx
  · exact hy

theorem runTo {limit cru why n} {s : State} (h : Evolves r s) : Evolves r (s.runTo limit cru why n).s := by
  induction n generalizing limit cru why with
  | zero => exact h
  | succ n ih =>
    unfold State.runTo
    dsimp only
    split
    · exact ended ih (ended ih h.passAll.1)
    · split
      · exact ended ih h.passAll.1
      · split
        · next e => exact h.passAll.1.runLate h.passAll.2 e
        · exact ih

theorem consumeTo (h : Evolves r s) {sts start p} : Evolves r (s.consumeTo sts start p) := .ite h h.setH
theorem noteCause (h : Evolves r s) {e} : Evolves r (s.noteCause e) := by
  unfold State.noteCause
  split
  · exact h.setH
  · exact .ite h.setH h
  · exact h

theorem stopConvoy (h : Evolves r s) {k p e} : Evolves r (s.stopConvoy k p e) := h.setH.noteCause.takeTrap
theorem stopEarly (h : Evolves r s) {t} (ht : Evolves r t) {k e} : Evolves r (s.stopEarly t k e) := .ite h.stopConvoy ht.stopConvoy
theorem waitFor (h : Evolves r s) {miss} : Evolves r (s.waitFor miss) := by
  unfold State.waitFor
  split
  · exact h.engineMissed
  · exact h.stall

theorem holdConvoy (h : Evolves r s) {t} (ht : Evolves r t) {k p miss} : Evolves r (s.holdConvoy t k p miss) :=
  waitFor (setH (.ite ht h.runTo.setH))

theorem replay {b l} {s : State} (h : Evolves r s) : Evolves r (State.replay b l s) := by
  induction l generalizing s with
  | nil => exact h
  | cons p l ih =>
    unfold State.replay
    split
    · next e => exact ih (h.scalarWrite _ e)
    · exact h.setH

theorem drained (h : Evolves r s) : Evolves r s.drained := by
  unfold State.drained
  dsimp only
  split
  · exact h.setH.setH.replay
  · exact h.setH.setH

theorem respill (h : Evolves r s) : Evolves r s.respill := h.spillDown
theorem drainedFrom {t} (ht : Evolves r t) : Evolves r (s.drainedFrom t) := (drained (.ite ht.setH ht.consumeTo)).respill
theorem stoppedFrom {t} (ht : Evolves r t) {p} : Evolves r (s.stoppedFrom t p) := ht.consumeTo.setH.respill
theorem parkConvoy (h : Evolves r s) : Evolves r s.parkConvoy := by
  have stopped {n p} : Evolves r (s.stoppedFrom (s.runTo p false (some (0, p, .hold none)) n).s p) := stoppedFrom h.runTo
  refine .ite h ?_
  dsimp only
  split
  · exact drainedFrom h.runTo
  · exact .ite (.ite stopped.setH stopped) (.ite (.ite stopped.setH stopped) h)

theorem drainConvoy (h : Evolves r s) : Evolves r s.drainConvoy := by
  unfold State.drainConvoy
  split
  · exact .ite (h.stopEarly h) (stoppedFrom h.runTo).stopConvoy
  · dsimp only
    split
    · exact drainedFrom h.runTo
    · exact .ite h.countError.rollBack (stoppedFrom h.runTo).stopConvoy
    · exact h.holdConvoy h.runTo

theorem unwaits (h : Evolves r s) {i} : Evolves r (s.unwaits i) := h.foldl fun h => .ite h.setCore h
theorem grantCrucible (h : Evolves r s) {t} (e : s.grantCrucible = some t) : Evolves r t := by
  unfold State.grantCrucible at e
  dsimp only at e
  split at e
  · cases e
    exact h
  · split at e <;> cases e
    exact h.foldl (·.setCore)

theorem awaitCrucible (h : Evolves r s) : Evolves r s.awaitCrucible := (h.foldl (·.setCore)).stall
theorem refill {l} {s : State} (h : Evolves r s) : Evolves r (s.refill l).1 := by
  induction l generalizing s with
  | nil => exact h
  | cons p l ih =>
    unfold State.refill
    split
    · exact ih h
    · exact ih h.setH

theorem beginConvoy (h : Evolves r s) {t x} (e : s.beginConvoy = (t, x)) : Evolves r t := by
  unfold State.beginConvoy at e
  cases e
  exact h.refill.settle

theorem trimConvoy (h : Evolves r s) : Evolves r s.trimConvoy := by
  unfold State.trimConvoy
  split
  · exact h.stopEarly h
  · dsimp only
    split
    · exact h.stall
    · split
      · exact h.stopEarly h.setH
      · exact h.waitFor
      · split
        · exact h.awaitCrucible
        · next hg =>
          have granted := h.setH.grantCrucible hg
          split
          · next hb =>
            have begun := (granted.foldl (·.walksOn)).beginConvoy hb
            exact begun.stopEarly begun
          · next hb =>
            have begun := (granted.foldl (·.walksOn)).beginConvoy hb
            exact .ite begun begun.drainConvoy

theorem startConvoy (h : Evolves r s) : Evolves r s.startConvoy := by
  refine .ite h.stall ?_
  split
  · exact h.stopEarly h
  · exact h.unwaits.setH.trimConvoy

theorem advanceConvoy (h : Evolves r s) : Evolves r s.advanceConvoy := by
  unfold State.advanceConvoy
  split
  · exact h.setH.startConvoy
  · exact h.startConvoy
  · exact h.trimConvoy
  · exact h.drainConvoy
  · exact h.drainConvoy

theorem closeConvoy (h : Evolves r s) : Evolves r s.closeConvoy := h.setH.startConvoy
theorem joinConvoy (h : Evolves r s) {k m} : Evolves r (s.joinConvoy k m) := by
  refine .ite h.stall (.ite h.trapHere (.ite h.closeConvoy ?_))
  dsimp only
  split
  · exact h.takeTrap
  · exact h.missed
  · exact h.stall
  · refine .ite h.setH.closeConvoy ?_
    split
    · exact .ite h.setH h.setH.closeConvoy
    · exact h.takeTrap
    · exact h.missed
    · exact h.stall

theorem vecWord (h : Evolves r s) {k masked enc op} : Evolves r (s.vecWord k masked enc op) := h.joinConvoy
theorem vecWide (h : Evolves r s) {k masked enc op} : Evolves r (s.vecWide k masked enc op) := h.joinConvoy

end State.Evolves

end Sys2Proof.Machine
end

section
namespace Sys2Proof.Machine

/-- An entry put in the place of its key, between the entries below and those above. -/
theorem Map.insert_rises {α : Type} {m : Map α} (h : Map.rises m) (k : Nat) (a : α) :
    Map.rises ((m.filter fun p => decide (p.1 < k)) ++ [(k, a)] ++ m.filter fun p => decide (k < p.1)) := by
  have part (p : Nat × α → Bool) := Map.rises_iff.mp (Map.filter_rises p h)
  refine Map.rises_iff.mpr (List.pairwise_append.mpr ⟨List.pairwise_append.mpr ⟨part _, List.pairwise_singleton .., ?_⟩, part _, ?_⟩)
  · intro p hp q hq
    simp_all
  · intro p hp q hq
    simp only [List.mem_append, List.mem_filter, List.mem_singleton, decide_eq_true_eq] at hp hq
    rcases hp with hp | rfl
    · omega
    · exact hq.2

namespace State.Evolves
variable {r s : State}

/-! Gangs, leases and suspension. -/

theorem takePending (h : Evolves r s) {e} : Evolves r (s.takePending e) := trapHere (.ite h.setH h)
theorem stopHere (h : Evolves r s) : Evolves r s.stopHere := by
  unfold State.stopHere
  split
  · exact .ite h.setH h.setH.takePending
  · exact h.setH

theorem takeReserved (h : Evolves r s) {c first count} : Evolves r (s.takeReserved c first count) := .ite h.setCore h
theorem rearm (h : Evolves r s) {i} : Evolves r (s.rearm i) := by
  unfold State.rearm
  dsimp only
  split
  · exact h
  · split
    · exact h.setHart
    · exact h.setHart

theorem place (h : Evolves r s) {i x} : Evolves r (s.place i x) := by
  have freed {p : Prop} [Decidable p] {c c' a b} :
      Evolves r (if p then (s.takeReserved c a b).takeReserved c' a b else s.takeReserved c a b) :=
    .ite h.takeReserved.takeReserved h.takeReserved
  exact (rebuffer (.ite freed.setHart.evictWays.evictWays freed.setHart.evictWays)).spillDown

theorem spawn (h : Evolves r s) {d w} : Evolves r (s.spawn d w) := by
  unfold State.spawn
  refine .ite h.write (.ite h.write (.ite h.write (.ite h.setDie.place.rearm.write (h.onValue fun bs => ?_))))
  split
  · exact h.write
  · exact h.setDie.place.rearm.write

theorem beforeSuspend (h : Evolves r s) {k} : Evolves r (s.beforeSuspend k) := by
  unfold State.beforeSuspend
  split
  · exact h.asHart (·.takePending)
  · exact h

theorem beginSuspend (h : Evolves r s) {die p} : Evolves r (s.beginSuspend die p) := by
  refine setDie (mapHarts (h.foldl fun h => h.beforeSuspend.asHart (·.parkConvoy)) ?_)
  exact fun _ => rfl

theorem lease (h : Evolves r s) {die gang xb} : Evolves r (s.lease die gang xb) := by
  refine .ite h (h.leases fun hm => ?_)
  split
  · exact Map.filter_rises _ hm
  · exact Map.insert_rises (Map.filter_rises _ hm) _ _

theorem gangPlaced (h : Evolves r s) {die gang} : Evolves r (s.gangPlaced die gang) := .ite h h.setDie
theorem checkpointPair (h : Evolves r s) {i} : Evolves r (s.checkpointPair i) := .ite (h.rest rfl) h
theorem gangStopped (h : Evolves r s) {die gang} : Evolves r (s.gangStopped die gang) := by
  have ended : Evolves r { s with leases := s.leases.filter fun (_, l) => !(l.die == die && l.gang == gang) } :=
    h.leases (Map.filter_rises _)
  refine .ite h ?_
  dsimp only
  split
  · exact ended
  · exact ended.setDie

theorem leaveContext (h : Evolves r s) {c} : Evolves r (s.leaveContext c) := h.mem (pokeBytes_wf _ _)
theorem emptySlot (h : Evolves r s) {i} : Evolves r (s.emptySlot i) := (setHart (.ite h.leaveContext.leaveContext h)).rest rfl
theorem trapAhead (h : Evolves r s) {e} : Evolves r (s.trapAhead e) := .ite h.setH h
theorem dispatcherSuspend (h : Evolves r s) {die gang} : Evolves r (s.dispatcherSuspend die gang) := .ite h (.ite h h.beginSuspend)
theorem writeImages {p l} {s : State} (h : Evolves r s) : (s.writeImages p l).All (Evolves r) := by
  induction l generalizing s with
  | nil => exact .ok h
  | cons q l ih =>
    unfold State.writeImages
    split
    · exact ih h
    · split
      · next e => exact ih (h.writeBytes _ e)
      · exact ih h
      · exact .of_miss
      · exact .of_wait

theorem suspended (h : Evolves r s) {die p ms} : Evolves r (s.suspended die p ms) := setDie (h.foldl (·.emptySlot))
theorem writeCount (h : Evolves r s) {p n} : (s.writeCount p n).All (Evolves r) := by
  unfold State.writeCount
  split
  · exact .ok h
  · split
    · exact .ok h
    · exact h.writeBytes

theorem endSuspend (h : Evolves r s) {die p} : Evolves r (s.endSuspend die p) := by
  refine .ite h (.ite ?_ ?_)
  · split
    · exact h.request
    · exact h
    · exact h
    · next e =>
      refine setDie (((h.writeCount _ e).foldl (·.beforeSuspend)).mapHarts ?_)
      exact fun _ => rfl
  · dsimp only
    split
    · exact h.request
    · exact h
    · exact h
    · next e =>
      have written := writeImages (h.foldl (·.beforeSuspend)) _ e
      split
      · exact h.request
      · exact h
      · exact h
      · next e => exact (written.writeCount _ e).suspended

theorem convoyEvent (h : Evolves r s) {i ok} : Evolves r (s.convoyEvent i ok) := .ite (h.asHart (·.advanceConvoy)) h

end State.Evolves

end Sys2Proof.Machine
end

section
namespace Sys2Proof.Machine

namespace State.Evolves
variable {r s : State}

/-! The stream engines: copies, sends, commands, and writes that have waited. -/

theorem engineMiss (h : Evolves r s) {i x} : Evolves r (s.engineMiss i x) := by
  unfold State.engineMiss
  split
  · exact h.request
  · exact h

theorem fetchRun {i t k n last} {s : State} (h : Evolves r s) : Evolves r (s.fetchRun i t k n last).1 := by
  induction k generalizing s n last with
  | zero => exact h
  | succ k ih =>
    unfold State.fetchRun
    split
    · exact h
    · refine ih ?_
      split
      · exact .ite h h.readAt
      · exact h

theorem copyAhead (h : Evolves r s) {i t n k} : Evolves r (s.copyAhead i t n k) := h.prefetch
theorem destAhead (h : Evolves r s) {i t n k} : Evolves r (s.destAhead i t n k) := h.prefetch
theorem readStrip (h : Evolves r s) {i st} : Evolves r (s.readStrip i st) := by
  refine .ite h ?_
  dsimp only
  split
  · exact h.engineMiss
  · split
    · exact (h.copyAhead.foldl (·.addHeat.reachWords)).setHart
    · exact (h.copyAhead.foldl (·.addHeat.reachWords)).setHart

theorem writeCopied (h : Evolves r s) {i t n v} : (s.writeCopied i t n v).All fun p => Evolves r p.1 := by
  unfold State.writeCopied
  dsimp only
  split
  · refine .bind_of_next fun x => .bind_of_next fun _ => okWith (noteWrite ?_)
    split
    · exact h.putBytes
    · exact h
  · exact .bind_of_next fun _ => .writable (.bind_of_next fun _ => h.writePiece.noteWrite.okWith)

theorem writeStripFrom {i st l} {s : State} (h : Evolves r s) : Evolves r (s.writeStripFrom i st l).1 := by
  induction l generalizing s with
  | nil => exact h
  | cons v vs ih =>
    unfold State.writeStripFrom
    dsimp only
    split
    · next e => exact ih (setHart (addHeat (h.writeCopied _ e)).reachWords)
    · exact h

theorem writeStrip (h : Evolves r s) {i st} : Evolves r (s.writeStrip i st) := by
  unfold State.writeStrip
  dsimp only
  split
  · exact h
  · next vs _ _ =>
    have moved {c : Prop} [Decidable c] {t n k rs} : Evolves r (if c then ((s.writeStripFrom i st vs).1.destAhead i t n k).healAll i rs
        else (s.writeStripFrom i st vs).1.destAhead i t n k) := .ite h.writeStripFrom.destAhead.healAll h.writeStripFrom.destAhead
    refine .ite h ?_
    split
    · exact moved.setHart
    · exact moved.setHart.engineMiss
    · refine .ite moved.setHart ?_
      split
      · exact moved.setHart
      · exact moved.setHart

theorem deliver (h : Evolves r s) {i st} : Evolves r (s.deliver i st) := by
  unfold State.deliver
  dsimp only
  split
  · exact h
  · refine .ite h ?_
    split
    · exact h.setHart.sendOver
    · exact .ite h h.setHart.setHart.sendOver

theorem scan (h : Evolves r s) {i st} : Evolves r (s.scan i st) := by
  unfold State.scan
  dsimp only
  split
  · exact h
  · refine .ite h (.ite h.setHart.bump ?_)
    split
    · exact h.setHart
    · exact h.setHart.engineMiss
    · exact h.setHart

theorem collect (h : Evolves r s) {i st} : Evolves r (s.collect i st) := by
  unfold State.collect
  dsimp only
  split
  · exact h
  · exact .ite h (.ite h h.setHart)

theorem resume (h : Evolves r s) {i st} : Evolves r (s.resume i st) := by
  unfold State.resume
  dsimp only
  split
  · exact .ite h.setHart h
  · exact h

theorem kerbEnd (h : Evolves r s) {i st} : Evolves r (s.kerbEnd i st) := by
  unfold State.kerbEnd
  dsimp only
  split
  · exact h
  · refine .ite h ?_
    split
    · exact .ite h.setHart h
    · exact .ite h.setHart h

theorem reissue (h : Evolves r s) {i st} : Evolves r (s.reissue i st) := by
  unfold State.reissue
  dsimp only
  split
  · exact h.request
  · exact h
  · exact h.setHart
  · refine .ite h.setHart ?_
    split
    · exact h.request
    · exact h
    · exact h.setHart
    · split
      · next e => exact setHart (h.setHart.acceptKerb _ e)
      · exact h

theorem performPosted (h : Evolves r s) {i w} : Evolves r (s.performPosted i w) :=
  .ite h (.ite h.setHart (.ite h.setHart.lostWrite (.ite h.setHart.toJournal h.setHart.performNow)))

theorem unanswered (h : Evolves r s) {i p} : Evolves r (s.unanswered i p) := by
  unfold State.unanswered
  dsimp only
  split
  · exact h
  · exact h.setHart.lostWrite

/-! Code verification, launches, and requests of the host and the peer. -/

theorem setVerified (h : Evolves r s) {i seq pa} : Evolves r (s.setVerified i seq pa) := h.setDie
theorem trapFetch (h : Evolves r s) {e} : Evolves r (s.trapFetch e) := .ite h.trapHere h.takeTrap
theorem verifyGranule (h : Evolves r s) {va} : Evolves r (s.verifyGranule va) := by
  rw [State.verifyGranule]
  split
  · exact h.setH
  · refine .ite h.setH.trapFetch ?_
    split
    · exact h.setH.trapFetch
    · split
      · exact h.setH.trapFetch
      · split
        · exact h.setH.trapFetch
        · exact h.setH.missed
        · exact h.setH
        · exact .ite (installTlb (.ite h.setH.setVerified h.setH)) (trapFetch (.ite h.setH.setVerified h.setH))

theorem complete (h : Evolves r s) {d seq word1 tval tpc} : Evolves r (s.complete d seq word1 tval tpc) := by
  have recorded {a b c e u v w x} : Evolves r ((((s.firmwareWrite a 8 u).firmwareWrite b 8 v).firmwareWrite c 8 w).firmwareWrite e 8 x) :=
    h.firmwareWrite.firmwareWrite.firmwareWrite.firmwareWrite
  rw [State.complete]
  split
  exact .ite recorded.setDie (.ite recorded.setDie.firmwareWrite.raiseVector recorded.setDie.firmwareWrite)

theorem enqueue (h : Evolves r s) {d l args} : Evolves r (s.enqueue d l args) := setDie (.ite h.zero.pokeN h)
theorem reportNone (h : Evolves r s) {t} : Evolves r (s.reportNone t) := by
  unfold State.reportNone
  split
  · exact .ite h h.firmwareWrite
  · exact h

theorem placeAll {d l t} {s : State} (h : Evolves r s) (e : s.placeAll d l = some t) : Evolves r t := by
  induction l generalizing s with
  | nil => cases e; exact h
  | cons x l ih =>
    unfold State.placeAll at e
    split at e
    · cases e
    · exact ih h.place.rearm e

theorem placeHead (h : Evolves r s) {d} : Evolves r (s.placeHead d) := by
  unfold State.placeHead
  dsimp only
  split
  · exact h.setDie
  · split
    · exact h
    · refine .ite h (.ite h.setDie ?_)
      split
      · exact h.setDie
      · next t e =>
        have leased {c : Prop} [Decidable c] {gang xb} : Evolves r (if c then t else t.lease d gang xb) :=
          .ite (h.placeAll e) (h.placeAll e).lease
        refine setDie ?_
        split
        · exact leased
        · exact leased.foldl (·.zero)

theorem report (h : Evolves r s) {l} : Evolves r (s.report l) := by
  refine .ite h (h.foldl fun h => ?_)
  dsimp only
  split
  · exact .ite h h.firmwareWrite
  · exact h

theorem answers (h : Evolves r s) {c bs} : Evolves r (s.answers c bs) := h.rest rfl
theorem refusesPort (h : Evolves r s) : Evolves r s.refusesPort := h.bump.answers
theorem hostRead (h : Evolves r s) {port pa n} : Evolves r (s.hostRead port pa n) := by
  refine .ite h.answers (.ite h.answers (.ite h.answers (.ite h.answers (.ite h.answers (.ite h.refusesPort ?_)))))
  split
  · exact h.bump.answers
  · exact h.answers

theorem ingressWrite (h : Evolves r s) {mid who pa bs} : Evolves r (s.ingressWrite mid who pa bs) :=
  .ite h.answers (.ite h.refusesPort (.ite h.answers (healed (.ite h.storeWords h.perform)).answers))

theorem peerLoad (h : Evolves r s) {pa n live} : Evolves r (s.peerLoad pa n live) :=
  .ite h.answers (.ite h.answers (.ite h.refusesPort (.ite h.answers h.answers)))

theorem peerAtomic (h : Evolves r s) {pa n f x c} : Evolves r (s.peerAtomic pa n f x c) := by
  refine .ite h.answers (.ite h.answers (.ite h.refusesPort (.ite h.answers (.ite h.answers (answers ?_)))))
  split
  · exact h.putBytes
  · exact h

end State.Evolves

end Sys2Proof.Machine
end

section
namespace Sys2Proof.Machine

theorem State.pointMemory_of_some {s : State} {c : Checkpoint} (h : s.ckpt = some c) : s.pointMemory = c.mem := by
  rw [State.pointMemory, h]

theorem State.pointMemory_of_none {s : State} (h : s.ckpt = none) : s.pointMemory = [] := by
  rw [State.pointMemory, h]

theorem Map.foldl_rises {α β : Type} {f : Map α → β → Map α} (hf : ∀ {m b}, Map.rises m → Map.rises (f m b)) {l : List β} :
    Map.rises (l.foldl f []) := List.foldlRecOn (motive := Map.rises) l f trivial fun _ hm _ _ => hf hm

namespace State.Evolves
variable {r s : State}

/-! Boot, clocks, checkpoints and recovery. -/

theorem startLamplighters (h : Evolves r s) {d} : Evolves r (s.startLamplighters d) := h.foldl (·.setHart)
theorem repairCore (h : Evolves r s) {d k} : Evolves r (s.repairCore d k) := h.setCore.pokeNat
theorem repair (h : Evolves r s) {d} : Evolves r (s.repair d) := by
  have cores : Evolves r ((List.finRange 192).foldl (fun s k => s.repairCore d k) s) := h.foldl (·.repairCore)
  refine cores.foldl fun {t k} h => ?_
  exact pokeNat (s := { t with bankout := Map.set 0 t.bankout (64 * d.val + k) (Config.bankout (64 * d.val + k) % 2 ^ 32) }) (h.rest rfl)

theorem writeCaps (h : Evolves r s) {d} : Evolves r (s.writeCaps d) := h.pokeN
theorem bootDie (h : Evolves r s) {d} : Evolves r (s.bootDie d) :=
  h.setDie.pokeNat.pokeNat.pokeNat.pokeNat.writeCaps.startLamplighters

theorem clearHarts (h : Evolves r s) : Evolves r { s with harts := [] } := h.harts fun _ => trivial
theorem clearCores (h : Evolves r s) : Evolves r { s with cores := [] } := h.cores fun _ => trivial
theorem clearChans (h : Evolves r s) : Evolves r { s with chans := [] } := h.chans fun _ => ⟨trivial, nofun⟩
theorem clearLeases (h : Evolves r s) : Evolves r { s with leases := [] } := h.leases fun _ => trivial
theorem clearScratch (h : Evolves r s) : Evolves r { s with scratch := [] } := h.scratch fun _ => trivial
theorem clearRewritten (h : Evolves r s) : Evolves r { s with rewritten := [] } := h.rewritten fun _ => trivial
theorem clearBar2 (h : Evolves r s) : Evolves r { s with bar2 := [] } := h.bar2 fun _ => trivial
theorem dropDrain (h : Evolves r s) : Evolves r { s with ckDrain := none } := h.checkpoints (a := s.ckpt) (fun _ => .inl) nofun
theorem dropPoints (h : Evolves r s) : Evolves r { s with ckpt := none, ckDrain := none } := h.checkpoints nofun nofun
theorem powered (h : Evolves r s) : Evolves r s.powered := by
  have dies : Map.rises s.powered.dies := Map.foldl_rises fun hm => by
    split
    · exact hm
    · exact Map.set_rises _ hm
  have memory : Evolves r { s with mem := s.powered.mem, dies := s.powered.dies } :=
    (h.mem (Map.filter_wf Memory.unlisted _)).dies fun _ => dies
  exact memory.clearHarts.clearCores.clearChans.clearLeases.clearScratch.clearRewritten.clearBar2.dropPoints.rest rfl

theorem coldBoot (h : Evolves r s) : Evolves r s.coldBoot := by
  have repaired : Evolves r (bootable.foldl State.repair { s.powered with bootEpoch := min (s.bootEpoch + 1) 65535 }) :=
    foldl (h.powered.rest rfl) (·.repair)
  have booted {v w} : Evolves r (((bootable.foldl State.bootDie (bootable.foldl State.repair
      { s.powered with bootEpoch := min (s.bootEpoch + 1) 65535 })).pokeNat 0 8 v).pokeNat 16 8 w) :=
    (repaired.foldl (·.bootDie)).pokeNat.pokeNat
  exact .ite h.powered (.ite booted.pokeNat booted)

theorem setClock (h : Evolves r s) {d mhz} : Evolves r (s.setClock d mhz) := h.setDie.pokeNat
theorem thermalHalt (h : Evolves r s) {d} : Evolves r (s.thermalHalt d) := .ite h h.mclog.setDie
theorem setEmergency (h : Evolves r s) {d on} : Evolves r (s.setEmergency d on) :=
  .ite h.setDie (.ite h (h.setDie.foldl (·.deviceRequest)))

theorem checkpointPoint (h : Evolves r s) : Evolves r s.checkpointPoint := by
  refine .ite h (.ite ?_ ?_)
  · refine foldl (s := { s with ckPending := true }) (h.rest rfl) fun h => ?_
    exact h.foldl fun h => .ite h.dispatcherSuspend h
  · exact (pokeNat (s := { s with ckPending := false }) (h.rest rfl)).point rfl rfl

theorem release (h : Evolves r s) {j} : Evolves r (s.release j) := by
  refine .ite h.bump ?_
  split
  · exact h
  · exact h.perform

theorem drainComplete (h : Evolves r s) : Evolves r s.drainComplete := by
  unfold State.drainComplete
  split
  · exact h
  · next c hc =>
    have kept : Evolves r { s with ckDrain := none, ckpt := some c } :=
      h.checkpoints (a := some c) (fun _ e => .inr (hc.trans e)) nofun
    refine .ite h.dropDrain.pokeNat.bump ?_
    exact foldl (pokeNat (foldl (pokeNat (pokeNat (kept.rest rfl))) (·.pokeNat))) (·.release)

theorem remirror (h : Evolves r s) {p} : Evolves r (s.remirror p) := by
  refine .ite h ?_
  dsimp only
  split
  · exact h.setDie.enqueue
  · exact h.setDie.reportNone.complete

theorem beginRecovery (h : Evolves r s) : Evolves r s.beginRecovery := by
  have maps : Evolves r { s with
      cores := s.cores.map fun (k, c) => (k, { Core.reset with usable := c.usable }),
      dies := s.dies.map fun (k, x) => (k, x.recovered Die.reset) } := by
    refine (h.cores (Map.map_rises _ ?_)).dies (Map.map_rises _ ?_)
    · exact fun _ => rfl
    · exact fun _ => rfl
  exact pokeNat (pokeNat (maps.clearHarts.clearLeases.dropDrain.rest rfl))

theorem recoverHeader (h : Evolves r s) {point d} : Evolves r (s.recoverHeader point d) := h.pokeNat.pokeNat.pokeNat.pokeNat.pokeNat
theorem restoredFrom (h : Evolves r s) {m} (hm : s.pointMemory = m) : Evolves r { s with mem := s.restoredMemory m } := hm ▸ h.restored
theorem endRecovery (h : Evolves r s) : Evolves r s.endRecovery := by
  have again {m seals mirror dies} (hm : s.pointMemory = m) (hd : Map.rises dies) :
      Evolves r { s with mem := s.restoredMemory m, seals := seals, mirror := mirror, dies := dies } :=
    ((h.restoredFrom hm).dies (m := dies) fun _ => hd).rest rfl
  rw [State.endRecovery]
  split
  next m _ _ e =>
  have hm : s.pointMemory = m := by
    split at e
    · next hc =>
      cases e
      exact State.pointMemory_of_some hc
    · next hc =>
      cases e
      exact State.pointMemory_of_none hc
  extract_lets point reset back caps lit mirrored kept headers count
  have hback : Evolves r back := again hm (Map.foldl_rises (Map.set_rises _))
  have hlit : Evolves r lit := foldl (.ite hback (hback.foldl (·.writeCaps))) (·.startLamplighters)
  have hmirrored : Evolves r mirrored := hlit.foldl (·.remirror)
  have hkept : Evolves r kept := hmirrored.rest rfl
  exact (hkept.foldl (·.recoverHeader)).pokeNat.pokeNat.pokeNat.raiseVector

theorem recover (h : Evolves r s) : Evolves r s.recover := .ite h (.ite h.endRecovery h.beginRecovery)

theorem float2 (h : Evolves r s) {d a b f rnd op} : Evolves r (s.float2 d a b f rnd op) := h.writeFloat
theorem float1 (h : Evolves r s) {d a op} : Evolves r (s.float1 d a op) := h.writeFloat
theorem float3 (h : Evolves r s) {d a b c f op} : Evolves r (s.float3 d a b c f op) := h.writeFloat
theorem fenceDone (h : Evolves r s) {ord} : Evolves r (s.fenceDone ord) := by
  unfold State.fenceDone
  split
  · exact h.takeWfail
  · exact h.trapHere
  · exact h.setH.acquire.retire
end State.Evolves

end Sys2Proof.Machine
end

section
namespace Sys2Proof.Machine

/-- An answer with a next state gives one that has come from `r`. -/
def State.EvolvesTo (r : State) (o : Out) : Prop := ∀ t, o = .next t → r.Evolves t

namespace State.Evolves
variable {r s : State}

theorem next (h : Evolves r s) : r.EvolvesTo (.next s) := fun _ e => by cases e; exact h

/-! Events of the memory controller, of the device and of firmware. -/

theorem takeEvent (h : Evolves r s) {ch p} : r.EvolvesTo (s.takeEvent ch p) := by
  refine next ?_
  split
  · exact .ite h.channelEvent h
  · exact h

theorem channelDeferredEntry (h : Evolves r s) {ch} : r.EvolvesTo (execChannelDeferredEntry ch s) := next (.ite h.servePower h)
theorem memoryRequestArrive (h : Evolves r s) {i pa} : r.EvolvesTo (execMemoryRequestArrive i pa s) := by
  unfold execMemoryRequestArrive
  dsimp only
  split
  · exact takeEvent (.ite h h.setHart)
  · exact next (.ite h h.setHart)

theorem refctlArmComplete (h : Evolves r s) {d} : r.EvolvesTo (execRefctlArmComplete d s) := next (.ite h h.pokeNat.setDie)
theorem patrolScrub (h : Evolves r s) {pa corrected} : r.EvolvesTo (execPatrolScrub pa corrected s) := by
  refine next ?_
  split
  · exact h
  · have counted {d} : Evolves r (if corrected then s.bump d 0x50 else s) := .ite h.bump h
    exact .ite h (.ite h.bump (.ite counted.bump counted))

theorem updateResult (h : Evolves r s) : r.EvolvesTo (execUpdateResult s) := by
  refine next ?_
  split
  · exact h
  · refine .ite h ?_
    have answered {pa v} : Evolves r (({ s with upd := none } : State).pokeNat pa 8 v) := pokeNat (h.rest rfl)
    dsimp only
    split
    · exact applyUpdate (answered.rest rfl)
    · exact answered

theorem mfs (h : Evolves r s) {d n} : r.EvolvesTo (execMfs d n s) := by
  refine next (.ite h.illegal ?_)
  split
  · exact h.illegal
  · exact write (.ite h.takeRequest h)

theorem mts (h : Evolves r s) {a n} : r.EvolvesTo (execMts a n s) := next (.ite h.illegal (.ite h.stall h.writeStatus.retire))
theorem vrows (h : Evolves r s) {d a} : r.EvolvesTo (execVrows d a s) := next (.ite h.stall (.ite h.illegal h.setH.write))
theorem tret (h : Evolves r s) : r.EvolvesTo (execTret s) := by
  refine next ?_
  split
  · exact h.illegal
  · exact h.setH

theorem spawnOp (h : Evolves r s) {d a} : r.EvolvesTo (execSpawn d a s) :=
  next (.ite h.illegal (.ite h.trapHere (h.onValue fun _ => h.spawn)))

theorem hstop (h : Evolves r s) {d a} : r.EvolvesTo (execHstop d a s) :=
  next (.ite h.illegal (.ite h.stopHere (.ite (h.asHart (·.stopHere)).write h.write)))

theorem gsusp (h : Evolves r s) {d a b} : r.EvolvesTo (execGsusp d a b s) :=
  next (.ite h.illegal (.ite h.trapHere (.ite h.write (h.onValue fun _ => h.beginSuspend.write))))

theorem qlease (h : Evolves r s) {d a b} : r.EvolvesTo (execQlease d a b s) := next (.ite h.illegal h.lease.write)
theorem illegalInstruction (h : Evolves r s) {n enc} : r.EvolvesTo (execIllegalInstruction n enc s) :=
  next (.ite h.illegal (.ite h.stall (.ite h.closeConvoy h.takeTrap)))

theorem roleChangeComplete (h : Evolves r s) {i} : r.EvolvesTo (execRoleChangeComplete i s) := by
  refine next (.ite h (.ite h.setHart ?_))
  split
  · exact h.request
  · have created {c : Prop} [Decidable c] {x die gang} :
        Evolves r ((((if c then s.rearm i else s).setHart i x).gangPlaced die gang).checkpointPair i) :=
      (setHart (.ite h.rearm h)).gangPlaced.checkpointPair
    dsimp only
    split
    · exact created.asHart (·.takePending)
    · exact created

theorem hartStopComplete (h : Evolves r s) {i} : r.EvolvesTo (execHartStopComplete i s) := by
  refine next (.ite h ?_)
  split
  · exact h.setHart.asHart (·.takePending)
  · exact h.setDie.emptySlot.gangStopped

theorem lanedeadline (h : Evolves r s) {i} : r.EvolvesTo (execLanedeadline i s) := by
  refine next ?_
  split
  · exact h
  · exact .ite (h.asHart fun h => .ite h.trapAhead h.setH.trapHere) h

theorem reclaimDeadlineExpiry (h : Evolves r s) {i} : r.EvolvesTo (execReclaimDeadlineExpiry i s) := by
  refine next ?_
  split
  · exact h
  · exact .ite h (.ite h.setHart.dispatcherSuspend h.setHart)

theorem leaseExpiry (h : Evolves r s) {k} : r.EvolvesTo (execLeaseExpiry k s) := next (h.leases (Map.filter_rises _))
theorem gangSuspendComplete (h : Evolves r s) {d g} : r.EvolvesTo (execGangSuspendComplete d g s) := by
  refine next ?_
  split
  · exact h
  · exact h.endSuspend

theorem streamFetchAhead (h : Evolves r s) {i st} : r.EvolvesTo (execStreamFetchAhead i st s) :=
  next (.ite h h.fetchRun.setHart.prefetch)

theorem kerbAccept (h : Evolves r s) {i st} : r.EvolvesTo (execKerbAccept i st s) := next (.ite h.convoyEvent (.ite h.reissue h))
theorem loadDataReturn (h : Evolves r s) {i n} : r.EvolvesTo (execLoadDataReturn i n s) := by
  refine next ?_
  split
  · exact h
  · exact h.setHart

theorem writePerform (h : Evolves r s) {i} : r.EvolvesTo (execWritePerform i s) := by
  refine next ?_
  split
  · exact h
  · exact h.performPosted

theorem codeGranuleVerify (h : Evolves r s) {i va} : r.EvolvesTo (execCodeGranuleVerify i va s) :=
  next (.ite (h.asHart (·.verifyGranule)) h)

theorem launchRecordRead (h : Evolves r s) {d} : r.EvolvesTo (execLaunchRecordRead d s) := by
  refine next ?_
  split
  · exact h
  · exact .ite (h.setDie.rest rfl) h.setDie.bump

theorem launchAccept (h : Evolves r s) {d} : r.EvolvesTo (execLaunchAccept d s) := by
  refine next ?_
  split
  · exact h
  · dsimp only
    split
    · exact h.reportNone.setDie.firmwareWrite.enqueue
    · exact h.reportNone.setDie.firmwareWrite.complete

theorem sliceExpiry (h : Evolves r s) {d} : r.EvolvesTo (execSliceExpiry d s) := by
  refine next ?_
  split
  · refine .ite h ?_
    split
    · exact h
    · exact h.dispatcherSuspend
  · exact h

theorem launchComplete (h : Evolves r s) {d seq} : r.EvolvesTo (execLaunchComplete d seq s) := by
  refine next ?_
  split
  · exact h
  · exact .ite h h.report.dropTlb.setDie.complete

theorem hostWrite (h : Evolves r s) {port pa bs} : r.EvolvesTo (execHostWrite port pa bs s) :=
  next (.ite h.answers (.ite h.answers (.ite h.writeBar.answers (.ite h.answers h.ingressWrite))))

theorem peerRequest (h : Evolves r s) {pa n op version} : r.EvolvesTo (execPeerRequest pa n op version s) := by
  refine next ?_
  split
  · exact h.peerLoad
  · exact h.peerLoad
  · exact h.ingressWrite
  · exact h.peerAtomic
  · exact h.answers
  · exact h.answers

theorem portRetrainFail (h : Evolves r s) {port} : r.EvolvesTo (execPortRetrainFail port s) := next (.ite h (h.bump.rest rfl))
theorem governorWindow (h : Evolves r s) {d n c} : r.EvolvesTo (execGovernorWindow d n c s) :=
  next (h.pokeNat.pokeNat.foldl fun h => .ite h.deviceRequest h).setClock

theorem thermalEmergency (h : Evolves r s) {d c m} : r.EvolvesTo (execThermalEmergency d c m s) :=
  next (.ite h.pokeNat.pokeNat.setClock.setEmergency.thermalHalt h.pokeNat.pokeNat.setClock.setEmergency)

/-! Fences, monitors, barriers and claims. -/

theorem fenceRetire (h : Evolves r s) {i} : r.EvolvesTo (execFenceRetire i s) := by
  unfold execFenceRetire
  split
  · next ord sc _ =>
    split
    · exact next ((fenceDone (s := { s with cur := i }) (h.rest rfl)).rest rfl)
    · exact h.next
  · exact h.next

theorem mon (h : Evolves r s) {a} : r.EvolvesTo (execMon a s) := by
  refine next (.ite h.trapHere (h.onValue fun t => ?_))
  split
  · exact h.trapHere
  · exact h.setH.retire

theorem monitorWake (h : Evolves r s) {i} : r.EvolvesTo (execMonitorWake i s) := by
  unfold execMonitorWake
  split
  · exact next (.ite h.setHart h)
  · exact h.next

theorem mwaitTimeout (h : Evolves r s) {i} : r.EvolvesTo (execMwaitTimeout i s) := by
  unfold execMwaitTimeout
  split
  · exact next (.ite h.setHart h)
  · exact h.next

theorem barWait (h : Evolves r s) {a b sc} : r.EvolvesTo (execBarWait a b sc s) := by
  refine next (.ite h.trapHere (h.onValue fun t => ?_))
  split
  · exact h.trapHere
  · exact h.onValue fun _ => .ite h.setH h.setH

theorem barrierWake (h : Evolves r s) {i} : r.EvolvesTo (execBarrierWake i s) := by
  unfold execBarrierWake
  split
  · exact h.setHart.next
  · exact h.next

theorem claim (h : Evolves r s) {d a b sc ord} : r.EvolvesTo (execClaim d a b sc ord s) := by
  refine next (.ite h.illegal (.ite h.trapHere (.ite h.takeWfail (.ite h.stall (h.onValue fun t => ?_)))))
  split
  · exact h.trapHere
  · exact .ite h.stall (h.onValue fun _ => (setH (.ite h h.putBytes.noteWrite)).acquire.write)

end State.Evolves

end Sys2Proof.Machine
end

section
namespace Sys2Proof.Machine

/-- What every instruction and event answers comes from the state it finds (exec's arms, by what each one does). -/
theorem State.Evolves.exec {r s : State} (h : r.Evolves s) (i : Instr) : r.EvolvesTo (exec i s) := by
  cases i
  case add | sub | sll | slt | sltu | xor | srl | sra | or | and | mul | mulh | mulhsu | mulhu | div | divu | rem | remu | min |
      max | minu | maxu | andn | orn | rol | ror | sh1add | sh2add | sh3add | addw | subw | sllw | srlw | sraw | mulw | divw |
      divuw | remw | remuw => exact h.op2.next
  case clz | ctz | cpop | addi | slti | sltiu | xori | ori | andi | slli | srli | srai | addiw | slliw | srliw | sraiw => exact h.op1.next
  case lui | auipc | cAddisp | cAddi | cLi | cMv | cAdd | fclass => exact h.write.next
  case jal | jalr => exact h.link.next
  case beq | bne | blt | bge | bltu | bgeu | bbs | bbc => exact h.branch.next
  case channelReqPdown | channelReqSref | channelReqActive => exact h.requestPower.next
  case refctlTrace => exact h.setTrace.next
  case refctlArm => exact h.arm.next
  case pcapreqWrite | tailWrite => exact h.pokeNat.next
  case ckctlInterval | ckctlNow => exact h.writeCkctl.next
  case goWrite => exact h.writeGo.next
  case lb | lh | lw | ld | lbu | lhu | lwu | cLd | cLw | cLdsp => exact h.load.next
  case sb | sh | sw | sd | cSd | cSw | cSdsp => exact h.store.next
  case lbOrd | lhOrd | lwOrd | ldOrd | lbuOrd | lhuOrd | lwuOrd => exact h.loadOrd.next
  case sbOrd | shOrd | swOrd | sdOrd => exact h.storeOrd.next
  case amoswap | amoadd | amoand | amoor | amoxor | amomin | amomax | amominu | amomaxu | amocas => exact h.amoOld.next
  case amofxL | amofxD | amofxS => exact h.amoFx.next
  case cJ | cJr => exact h.jump.next
  case cBeqz | cBnez => exact h.branchZero.next
  case vsetvl | vsetvlK => exact h.vsetvl.next
  case relayComplete | sealComplete | unsealComplete => exact h.setHart.next
  case tlbwcWrite => exact h.answer457.next
  case heatFlush => exact h.writeHeat.next
  case heatFlushComplete | pcapApply => exact h.setDie.next
  case reclaimWrite => exact h.markReclaim.next
  case bcfgWrite | mwait => exact h.setH.next
  case tcall | brk => exact h.takeTrap.next
  case nop | prefR | prefW | hintOther => exact h.retire.next
  case convoyStart | streamTrim | convoyDrain => exact h.convoyEvent.next
  case copyStripRead => exact h.readStrip.next
  case copyStripWrite => exact h.writeStrip.next
  case channelDeliver => exact h.deliver.next
  case kerbUnitGranuleRead => exact h.scan.next
  case kerbUnitResult => exact h.collect.next
  case kerbUnitResume => exact h.resume.next
  case kerbComplete => exact h.kerbEnd.next
  case poolTimeout | peerTimeout => exact h.unanswered.next
  case gangPlace => exact h.placeHead.next
  case hostRead => exact h.hostRead.next
  case flitRetransmit => exact h.bump.next
  case lockstepMismatch => exact h.rollBack.next
  case fadd | fsub | fmul | fdiv | fmin | fmax | feq | flt | fle => exact h.float2.next
  case fsqrt | fcvtItFmt | fcvtFmtIt | fcvtFmtSf => exact h.float1.next
  case fmadd | fmsub | fnmsub | fnmadd => exact h.float3.next
  case barArrive => exact h.amo.next
  case vmm | copr | coprM | cmvBv | cmvVb | cld | cst | czero | ccvt => exact h.vecWide.next
  case channelDeferredEntry => exact h.channelDeferredEntry
  case memoryRequestArrive => exact h.memoryRequestArrive
  case memoryRequestServe | refreshDue | refreshEnd | bankAccessEnd | bankSetIdle | channelStateChangeComplete => exact h.takeEvent
  case refctlArmComplete => exact h.refctlArmComplete
  case patrolScrub => exact h.patrolScrub
  case updateResult => exact h.updateResult
  case updreqWrite => exact h.pokeNat.requestUpdate.next
  case attreqWrite => exact h.pokeNat.attest.next
  case cJalr => exact h.setX.jump.next
  case vrows => exact h.vrows
  case mboxRead => exact h.takeRequest.setX.next
  case mfs => exact h.mfs
  case tlbinvWrite => exact next (.ite h.stall h.invalidate)
  case tlbinvComplete => exact next (.ite h h.setDie)
  case mts => exact h.mts
  case tret => exact h.tret
  case stop => exact h.stopHere.next
  case spawn => exact h.spawnOp
  case hstop => exact h.hstop
  case gsusp => exact h.gsusp
  case qlease => exact h.qlease
  case illegalInstruction n enc => exact h.illegalInstruction (n := n)
  case roleChangeComplete => exact h.roleChangeComplete
  case hartStopComplete => exact h.hartStopComplete
  case lanedeadline => exact h.lanedeadline
  case reclaimDeadlineExpiry => exact h.reclaimDeadlineExpiry
  case resvExpiry => exact next (.ite h.setCore h)
  case leaseExpiry => exact h.leaseExpiry
  case gangSuspendComplete => exact h.gangSuspendComplete
  case streamFetchAhead => exact h.streamFetchAhead
  case kerbAccept => exact h.kerbAccept
  case loadDataReturn => exact h.loadDataReturn
  case writePerform => exact h.writePerform
  case codeGranuleVerify => exact h.codeGranuleVerify
  case launchRecordRead d => exact h.launchRecordRead (d := d)
  case launchAccept => exact h.launchAccept
  case sliceExpiry => exact h.sliceExpiry
  case launchComplete => exact h.launchComplete
  case hostWrite => exact h.hostWrite
  case peerRequest => exact h.peerRequest
  case portRetrainFail => exact h.portRetrainFail
  case coldBoot => exact h.coldBoot.next
  case governorWindow => exact h.governorWindow
  case thermalEmergency => exact h.thermalEmergency
  case thermalEmergencyExpiry => exact next (.ite h.thermalHalt h)
  case checkpointPoint => exact h.checkpointPoint.next
  case checkpointDrainComplete => exact h.drainComplete.next
  case recovery => exact h.recover.next
  case rollbackResume => exact next (h.rest rfl)
  case fence => exact next (.ite h.setH h.fenceDone)
  case fenceRetire => exact h.fenceRetire
  case mon => exact h.mon
  case monitorWake => exact h.monitorWake
  case mwaitTimeout => exact h.mwaitTimeout
  case barWait _ _ sc => exact h.barWait (sc := sc)
  case barrierWake => exact h.barrierWake
  case claim => exact h.claim
  case yield => exact h.setH.retire.next
  all_goals exact h.vecWord.next

end Sys2Proof.Machine
end

section
namespace Sys2Proof.Machine

/-! The events that a step may run of itself: of a slot, an engine, a die, a channel, a core and the module. -/

/-- An event whose answer comes from any state that the state it finds comes from. -/
def Keeps (x : Row) : Prop := ∀ {r s : State}, r.Evolves s → r.EvolvesTo (x s)

/-- A list of such events. -/
def AllKeep (l : List Row) : Prop := ∀ x ∈ l, Keeps x

namespace AllKeep
variable {l m : List Row} {x : Row}

theorem nil : AllKeep [] := nofun
theorem cons (hx : Keeps x) (h : AllKeep l) : AllKeep (x :: l) := List.forall_mem_cons.mpr ⟨hx, h⟩
theorem append (h : AllKeep l) (h' : AllKeep m) : AllKeep (l ++ m) := List.forall_mem_append.mpr ⟨h, h'⟩
theorem ite {p : Prop} [Decidable p] (h : AllKeep l) (h' : AllKeep m) : AllKeep (if p then l else m) := by
  split
  · exact h
  · exact h'

theorem offer {c : Bool} (h : Keeps x) : AllKeep (offer c x) := ite (cons h nil) nil
theorem map {α : Type} {f : α → Row} {as : List α} (h : ∀ a, Keeps (f a)) : AllKeep (as.map f) := List.forall_mem_map.mpr fun a _ => h a
theorem flatMap {α : Type} {f : α → List Row} {as : List α} (h : ∀ a, AllKeep (f a)) : AllKeep (as.flatMap f) := fun x hx => by
  obtain ⟨a, -, ha⟩ := List.mem_flatMap.mp hx
  exact h a x ha

/-- The first event of a list that would change the state is in the list. -/
theorem firstOf {s : State} (h : AllKeep l) (e : s.firstOf l = some x) : Keeps x := by
  induction l with
  | nil => cases e
  | cons y l ih =>
    obtain ⟨hy, hl⟩ := List.forall_mem_cons.mp h
    unfold State.firstOf at e
    split at e
    · cases e
      exact hy
    · exact ih hl e

variable {s : State}

theorem hartRows {i} : AllKeep (s.hartRows i) :=
  .ite nil <| append (append (append (append (append (append (append (append (append (append (append
    (offer (·.monitorWake)) (offer (·.barrierWake))) (offer (·.mwaitTimeout))) (offer (·.fenceRetire)))
    (offer (·.roleChangeComplete))) (offer (·.setHart.next))) (offer (·.reclaimDeadlineExpiry))) (offer (·.lanedeadline)))
    (offer (·.hartStopComplete))) (offer (·.convoyEvent.next))) (offer (·.convoyEvent.next))) (offer (·.convoyEvent.next))

theorem engineRows {i} : AllKeep (s.engineRows i) := by
  refine .ite nil (.ite (offer (·.writePerform)) ?_)
  refine append (append (append (append (append (map fun _ => (·.memoryRequestArrive)) (flatMap fun st => ?_)) (flatMap fun st => ?_))
    (offer (·.writePerform))) (offer (·.setHart.next))) (offer (·.setHart.next))
  · exact append (append (offer (·.streamFetchAhead)) (offer (·.deliver.next)))
      (ite (append (cons (·.collect.next) (cons (·.resume.next) (cons (·.kerbEnd.next) (cons (·.scan.next) nil))))
        (offer (·.kerbAccept))) nil)
  · exact ite (cons (·.writeStrip.next) (cons (·.readStrip.next) nil)) nil

theorem dieRows {d} : AllKeep (s.dieRows d) :=
  .ite nil <| append (append (append (append (append (append (append (append (append (append
    (offer (·.launchAccept)) (offer (·.launchRecordRead))) (map fun _ => (·.launchComplete))) (map fun _ => (·.gangSuspendComplete)))
    (offer (·.placeHead.next))) (offer (·.sliceExpiry))) (offer (·.exec (.tlbinvComplete d)))) (offer (·.setDie.next)))
    (offer (·.refctlArmComplete))) (offer (·.exec (.thermalEmergencyExpiry d)))) (offer (·.setDie.next))

theorem channelRows {c} : AllKeep (s.channelRows c) := by
  refine append (offer (·.channelDeferredEntry)) ?_
  split
  · exact nil
  · exact cons (·.memoryRequestArrive) nil
  · exact cons (·.takeEvent) nil
  · exact cons (·.takeEvent) nil
  · exact cons (·.takeEvent) nil
  · exact cons (·.takeEvent) nil
  · exact cons (·.takeEvent) nil
  · exact cons (·.takeEvent) nil

end AllKeep

theorem State.Evolves.serveMiss {r s : State} (h : r.Evolves s) {c} : r.Evolves (s.serveMiss c) := by
  refine h.asHart fun h => ?_
  split
  · exact h
  · dsimp only
    split
    · exact h.takeRequest.answer457
    · exact (setCore (.ite h.takeRequest h.takeRequest.pokeNat)).answer457

namespace AllKeep
variable {s : State}

theorem coreRows {c} : AllKeep (s.coreRows c) := append (offer (·.serveMiss.next)) (offer (·.exec (.resvExpiry c)))
theorem moduleRows : AllKeep s.moduleRows :=
  append (append (append (append (append (offer (·.recover.next)) (offer (·.updateResult))) (offer (·.drainComplete.next)))
    (offer (·.checkpointPoint.next))) (map fun _ => (·.leaseExpiry))) (map fun p => (·.exec (.rollbackResume (hartIdOf p.1))))

end AllKeep

theorem State.Evolves.serves {r s : State} (h : r.Evolves s) {k} : r.Evolves (s.serves k) := h.setCore.rest rfl

theorem State.engineRow_keeps {s : State} {ks k x} (e : s.engineRow ks = some (k, x)) : Keeps x := by
  induction ks with
  | nil => cases e
  | cons j ks ih =>
    unfold State.engineRow at e
    split at e
    · next hx =>
      cases e
      exact AllKeep.engineRows.firstOf hx
    · exact ih e

theorem State.otherRow_keeps {s : State} {x} (e : s.otherRow = some x) : Keeps x := by
  unfold State.otherRow at e
  split at e
  · next hx =>
    cases e
    exact (AllKeep.append (.append (.append .moduleRows (.flatMap fun _ => .coreRows)) (.flatMap fun _ => .dieRows))
      (.flatMap fun _ => .channelRows)).firstOf hx
  · obtain ⟨⟨k, y⟩, hy, rfl⟩ := Option.map_eq_some_iff.mp e
    exact fun h => State.engineRow_keeps hy h.serves

theorem State.coreRow_keeps {s : State} {x} (e : s.coreRow = some x) : Keeps x :=
  (AllKeep.flatMap fun _ => .hartRows).firstOf e

end Sys2Proof.Machine
end

section
namespace Sys2Proof.Machine

namespace State.Evolves
variable {r s : State}

/-! The step: the barrel, pairs that step as one, the instruction behind a convoy, and what every step adds. -/

theorem eachSlot (h : Evolves r s) {is f} : Evolves r (s.eachSlot is f) := h.foldl (·.setHart)
theorem barrel (h : Evolves r s) {x t} (e : s.barrel = (x, t)) : Evolves r t := by
  have reloaded {c : Prop} [Decidable c] {is f} : Evolves r (if c then s.eachSlot is f else s) := .ite h.eachSlot h
  unfold State.barrel at e
  dsimp only at e
  split at e
  · cases e
    exact reloaded.eachSlot.setCore
  · cases e
    exact reloaded.eachSlot

theorem pairStep (h : Evolves r s) {u : State} {i always} : Evolves r (u.pairStep i always s) := .ite h.checkpointPair h
theorem pairSteps (h : Evolves r s) {u : State} : Evolves r (u.pairSteps s) := h.foldl (·.pairStep)
theorem finish (h : Evolves r s) {u : State} : Evolves r (u.finish s) := by
  rw [State.finish_eq]
  exact h.bankCycle.rest rfl

theorem stallBehind (h : Evolves r s) : Evolves r s.stallBehind := h.rest rfl
theorem runBehind (h : Evolves r s) : Evolves r s.runBehind := by
  unfold State.runBehind
  dsimp only
  split
  · refine .ite h.stallBehind ?_
    split
    · split
      · exact .ite h.setH h.stallBehind
      · exact h.stallBehind
    · refine .ite h.stallBehind ?_
      split
      · next e => exact .ite (setH (h.setH.exec _ _ e)) h.stallBehind
      · exact h.stallBehind
  · exact h.stallBehind

theorem notReady (h : Evolves r s) {t} (e : s.notReady = some t) : Evolves r t := by
  unfold State.notReady at e
  split at e
  · split at e <;> cases e
    exact h.stallBehind
  · split at e
    · cases e
      exact h.missed
    · cases e
      exact h.stall
    · split at e
      · cases e
        exact h.stall
      · split at e
        · split at e
          · cases e
          · split at e <;> cases e
            next hu => exact hu ▸ h.stall
        · cases e
    · cases e

theorem tried (h : Evolves r s) : Evolves r s.tried := by
  refine h.foldl fun {q i} hq => .ite ?_ hq
  cases e : State.notReady { q with cur := i } with
  | none => exact hq
  | some t => exact notReady (s := { q with cur := i }) (hq.rest rfl) e

theorem nobody (h : Evolves r s) {u t : State} (e : u.nobody s = .next t) : Evolves r t := by
  rcases State.nobody_cases e with ⟨x, u, hx, hu, rfl⟩ | ⟨-, rfl⟩
  · exact (State.otherRow_keeps hx h u hu).pairSteps.finish
  · exact h.finish

theorem runIssue (h : Evolves r s) {t} (e : s.runIssue = .next t) : Evolves r t := by
  rcases State.runIssue_cases e with ⟨w, n, u, -, hu, rfl⟩ | ⟨-, rfl⟩ | ⟨va, u, -, hu, rfl⟩ | ⟨va, -, rfl⟩ | ⟨x, -, rfl⟩ | ⟨-, rfl⟩
  · exact (h.exec _ u hu).pairStep.pairSteps.finish
  · exact h.closeConvoy.pairSteps.finish
  · exact (h.codeGranuleVerify u hu).finish
  · exact h.missed.finish
  · exact finish (.ite h.trapHere h.takeTrap)
  · exact h.stall.finish

theorem offerSlot (h : Evolves r s) {t} (e : s.offerSlot = .next t) : Evolves r t := by
  rcases State.offerSlot_cases e with ⟨p, hp, ht⟩ | ⟨i, p, u, hp, rfl, ⟨-, rfl⟩ | ⟨-, ht⟩⟩
  · exact (h.tried.barrel hp).nobody ht
  · exact (runBehind (s := { p with cur := i, stalled := s.stalled }) ((h.tried.barrel hp).rest rfl)).finish
  · exact runIssue (s := { p with cur := i, stalled := s.stalled }) ((h.tried.barrel hp).rest rfl) ht

theorem runSlot (h : Evolves r s) {t} (e : s.runSlot = .next t) : Evolves r t := by
  rcases State.runSlot_cases e with ⟨-, rfl⟩ | ⟨-, x, u, hx, hu, rfl⟩ | ⟨-, -, ht⟩
  · exact h.coldBoot.finish
  · have hu : Evolves r u := by
      rcases hx with hx | ⟨-, hx⟩
      · exact State.coreRow_keeps hx h u hu
      · exact State.otherRow_keeps hx h u hu
    exact hu.pairSteps.finish
  · exact h.offerSlot ht

end State.Evolves

/-- A step that answers a next state makes it from the state before by the updates of `State.Evolves`. -/
theorem step_evolves {s t : State} (e : step s = .next t) : s.Evolves t := by
  have turn {u : State} (hu : u = { u with
      mem := s.mem, harts := s.harts, cores := s.cores, dies := s.dies, chans := s.chans, leases := s.leases, scratch := s.scratch,
      rewritten := s.rewritten, bar2 := s.bar2, ckpt := s.ckpt, ckDrain := s.ckDrain }) : s.Evolves u := State.Evolves.refl.rest hu
  rcases step_cases e with ⟨n, l, -, rfl⟩ | ⟨on, l, -, rfl⟩ | ⟨b, i, l, u, -, -, hu, rfl⟩ | ⟨b, i, l, -, -, rfl⟩ | ⟨c, l, -, ht⟩ | ⟨-, ht⟩
  · exact (turn rfl).bankCycles
  · exact turn rfl
  · exact (State.Evolves.exec (turn rfl) i u hu).pairSteps.finish
  · exact (turn rfl).finish
  · exact (turn rfl).runSlot ht
  · exact State.Evolves.refl.runSlot ht

/-- Settles O59: every step makes its next state by updates each of which keeps memory and the memories of checkpoints canonical. -/
theorem stepKeepsMemory : Obligations.StepKeepsMemory :=
  fun _ _ hs ht => (step_evolves ht).memoryOk hs

end Sys2Proof.Machine
end

section
namespace Sys2Proof.Machine

/-- Settles O60: every step makes its next state by updates each of which keeps the keys of the maps rising. -/
theorem stepKeepsMaps : Obligations.StepKeepsMaps :=
  fun _ _ hs ht => (step_evolves ht).mapsOk hs

end Sys2Proof.Machine
end

section
namespace Sys2Proof.Machine

/-! What cold reset leaves: the registers of a slot, memory that nothing has written, and a sound state. -/

@[simp] theorem Hart.reset_x (k : Fin 32) : Hart.reset.x[k] = 0 := by simp [Hart.reset]
@[simp] theorem Hart.reset_v (k : Fin 64) : Hart.reset.v[k] = VReg.reset := by simp [Hart.reset]
@[simp] theorem Hart.reset_m (k : Fin 8) : Hart.reset.m[k] = Mask.reset := by simp [Hart.reset]
@[simp] theorem Hart.reset_blk (k : Fin 8) : Hart.reset.blk[k] = [] := by simp [Hart.reset]
@[simp] theorem Hart.reset_stm (k : Fin 16) : Hart.reset.stm[k] = Stream.idle := by simp [Hart.reset]

/-- After cold reset every slot holds the reset hart (R46). -/
@[simp] theorem State.reset_hart (i : HartId) : State.reset.hart i = Hart.reset := rfl

theorem State.reset_sound : State.reset.Sound :=
  ⟨⟨trivial, trivial, trivial, trivial, trivial, trivial, trivial, trivial, nofun, nofun, nofun⟩, rfl, nofun, nofun⟩

/-- Unwritten memory reads 0 outside PCAPREQ and CLKMHZ of the fleet blocks (R497; log 2). -/
theorem Memory.unlisted_eq_zero {a : Nat} (h : a < 0xB0000 ∨ 0xB8000 ≤ a ∨ a % 0x1000 / 8 ≠ 1 ∧ a % 0x1000 / 8 ≠ 5) :
    Memory.unlisted a = 0 := by
  unfold Memory.unlisted
  split
  · dsimp only
    rw [if_neg (by omega), if_neg (by omega), if_neg (by omega), if_neg (by omega)]
  · rfl

/-- Settles O55: the tables and maps of the reset state list nothing, so that everything stands at its reset value. -/
theorem resetState : Obligations.ResetState := by
  refine ⟨State.reset_sound, rfl, rfl, rfl, rfl, rfl, rfl, rfl, rfl, rfl, rfl, rfl, rfl, rfl, rfl, rfl, rfl, rfl, rfl, rfl,
    fun _ => rfl, fun _ => ⟨rfl, rfl, rfl⟩, fun _ => ⟨rfl, rfl, rfl, rfl⟩, fun _ => Memory.unlisted_eq_zero, by decide, fun i => ?_⟩
  simp only [State.reset_hart]
  exact ⟨rfl, rfl, rfl, rfl, rfl, rfl, rfl, rfl, rfl, rfl, rfl, rfl, fun k => by rw [Hart.reset_v]; exact ⟨rfl, rfl, rfl⟩,
    fun k => ⟨by rw [Hart.reset_m]; rfl, Hart.reset_blk k⟩, fun k => by rw [Hart.reset_stm]; rfl,
    rfl, rfl, rfl, rfl, rfl, rfl, rfl, rfl, Hart.reset_x, rfl⟩

end Sys2Proof.Machine
end

section
namespace Sys2Proof.Machine

open Sys2Proof.Claims

/-! One step as O56 states it: which part of a step acts, and what the step adds around it (log 1, 4, 5, 9). -/

theorem decoded_ok {w n : Nat} {i : Instr} (h : decodeBits w = .ok i) : decoded w n = i := by
  unfold decoded; rw [h]

theorem decoded_error {w n : Nat} {r} (h : decodeBits w = .error r) :
    decoded w n = .illegalInstruction (lengthCode n) (BitVec.ofNat 64 w) := by
  unfold decoded; rw [h]

theorem State.finished_of_next {s : State} {o : Out} {u : State} (h : o = .next u) (f : State → State) :
    s.finished o f = .next (s.finish (f u)) := by
  rw [h]; rfl

/-- A hart without a translation to wait for, whose next word is fetched, runs it, or closes its convoy where the word does not join. -/
theorem State.issue_of_fetch {q : State} {w n : Nat} (hx : q.h.xwait = none)
    (hf : q.fetch q.cur (q.h.pc.toNat + convoyBytes q.h.convoy) = .ok (w, n)) :
    q.issue = if q.h.convoy ≠ [] ∧ joins w = false then .close else .run w n := by
  simp only [State.issue, hx, hf]

theorem State.runIssue_of_run {q : State} {w n : Nat} {i : Instr} {u : State} (hi : q.issue = .run w n) (hd : decoded w n = i)
    (hu : exec i q = .next u) :
    q.runIssue = .next (q.finish (q.pairSteps (q.pairStep q.cur (checkpoints i || convoyClass w) u))) := by
  have hissued : q.issued = .next u := by
    unfold State.issued; rw [hi, ← hu, ← hd]
  unfold State.runIssue
  rw [State.finished_of_next hissued]
  unfold State.issuePairs
  rw [hi, ← hd]

theorem State.runIssue_of_close {q : State} (hi : q.issue = .close) : q.runIssue = .next (q.finish (q.pairSteps q.closeConvoy)) := by
  have hissued : q.issued = .next q.closeConvoy := by
    unfold State.issued; rw [hi]
  unfold State.runIssue
  rw [State.finished_of_next hissued]
  unfold State.issuePairs
  rw [hi]

theorem checkpoints_illegalInstruction (c : Fin 3) (e : Word) : checkpoints (.illegalInstruction c e) = false := rfl

/-- What every step adds to the state it acts on is `State.finish`. -/
theorem stepsTo_iff {s q u : State} : stepsTo s q u ↔ step s = .next (q.finish u) := Iff.rfl

/-- Where the issue slot alone takes the step, the step is what the hart picked does in it. -/
theorem step_of_issues {s t q : State} {i : HartId} (h : issues s i t) (hq : q = { t with cur := i, stalled := s.stalled }) :
    step s = if q.h.inFlight = true then .next (q.finish q.runBehind) else q.runIssue := by
  obtain ⟨hagenda, hbooted, hcore, hother, hbarrel⟩ := h
  have hslot : s.runSlot = s.offerSlot := by
    have hnone : (if s.cycle % 2 = 1 then s.otherRow else none) = none := by
      split
      · next hc => exact hother hc
      · rfl
    simp only [State.runSlot, hbooted, hcore, hnone, Bool.not_true, Bool.false_eq_true, if_false]
  show s.runStep = _
  unfold State.runStep
  rw [hagenda]
  show s.runSlot = _
  rw [hslot]
  unfold State.offerSlot
  rw [hbarrel, hq]
  rfl

/-- An instruction behind a convoy in flight that reads nothing owed, clear of the convoy, and undoable, is run apart (R168, R400). -/
theorem State.runBehind_of_free {q u : State} {w n : Nat} {e : Instr}
    (hf : (behind q).fetch q.cur (behind q).h.pc.toNat = .ok (w, n)) (hd : decodeBits w = .ok e) (hfree : free q e)
    (hu : exec e (behind q) = .next u) (hq : (behind q).h.quietly u.h = true)
    (hkeep : u.setHart q.cur (behind q).h = { behind q with cores := u.cores, scratch := u.scratch }) :
    q.runBehind = u.setHart q.cur (q.h.wentAhead u.h e.xWrites q.h.aheadStores) := by
  have hb : q.setH q.h.behind = behind q := rfl
  have hcur : u.cur = q.cur := (congrArg State.cur hkeep :)
  obtain ⟨howed, hload, hstores, haccess⟩ := hfree
  have howed : (e.xReads.any fun r => !q.h.front.wrote.contains r && q.h.convoy.any fun m => m.op.xdest = some r) = false := by
    simp only [List.any_eq_false, Bool.and_eq_true, Bool.not_eq_true', not_and, Bool.not_eq_true, 
      decide_eq_true_eq, List.contains_eq_mem, decide_eq_false_iff_not]
    intro r hr hw m hm
    exact (howed r hr).resolve_left hw m hm
  have hkeep : u.setH (behind q).h = { behind q with cores := u.cores, scratch := u.scratch } := by
    rw [State.setH, hcur]
    exact hkeep
  have hruns : (if (behind q).h.quietly u.h && u.setH (behind q).h = { behind q with cores := u.cores, scratch := u.scratch } then
      u.setH (q.h.wentAhead u.h e.xWrites q.h.aheadStores) else q.stallBehind)
      = u.setHart q.cur (q.h.wentAhead u.h e.xWrites q.h.aheadStores) := by
    rw [if_pos (by simp only [hq, hkeep, decide_true, Bool.and_self]), State.setH, hcur]
  have hfetch : (behind q).fetch (behind q).cur (behind q).h.pc.toNat = .ok (w, n) := hf
  unfold State.runBehind
  simp only [hb, hfetch, decoded_ok hd, howed, show (behind q).awaitsLoad (behind q).cur e.xReads = false from hload, hstores, hu, Bool.or_self,
    Bool.false_eq_true, if_false]
  cases hl : e.loads with
  | none =>
    rw [hl] at haccess
    simpa only [show e.quiet = true from haccess, Bool.not_true, Bool.false_eq_true, if_false] using hruns
  | some l =>
    rw [hl] at haccess
    simpa only [show q.clearOf ((behind q).getX l.1 + l.2.1).toNat l.2.2 = true from haccess, Bool.not_true,
      Bool.false_eq_true, if_false] using hruns

/-- Settles O56, part by part: the issue slot with no convoy in flight, the slot behind a convoy in flight, and the agenda. -/
theorem stepRunsDecoded : Obligations.StepRunsDecoded := by
  intro s t u i hissues q
  have hstep : step s = if q.h.inFlight = true then .next (q.finish q.runBehind) else q.runIssue := step_of_issues hissues rfl
  have hcur : q.cur = i := rfl
  clear_value q
  clear hissues
  subst hcur
  refine ⟨fun w n hx hflight hf => ⟨fun hjoins => ?_, fun hopen hjoins => ?_⟩, fun w n ins hflight hf hd hfree hu hq hkeep => ?_,
    fun a b e l ha => ⟨fun he hu => ?_, fun he => ?_⟩⟩
  · rw [hflight, if_neg Bool.false_ne_true] at hstep
    have hissue := State.issue_of_fetch hx hf
    rw [if_neg (fun hc => hjoins.elim hc.1 fun hj => by simp [hj] at hc)] at hissue
    refine ⟨fun ins hd hu => ?_, fun r hd hu => ?_⟩
    · rw [stepsTo_iff, hstep, State.runIssue_of_run hissue (decoded_ok hd) hu]
    · rw [stepsTo_iff, hstep, State.runIssue_of_run hissue (decoded_error hd) hu, checkpoints_illegalInstruction, Bool.false_or]
  · rw [hflight, if_neg Bool.false_ne_true] at hstep
    have hissue := State.issue_of_fetch hx hf
    rw [if_pos ⟨hopen, hjoins⟩] at hissue
    rw [stepsTo_iff, hstep, State.runIssue_of_close hissue]
  · rw [hflight, if_pos rfl] at hstep
    rw [stepsTo_iff, hstep, State.runBehind_of_free hf hd hfree hu hq hkeep]
    rfl
  · show a.runStep = _
    unfold State.runStep
    rw [ha]
    dsimp only
    rw [if_pos he, State.finished_of_next hu]
    rfl
  · show a.runStep = _
    unfold State.runStep
    rw [ha]
    dsimp only
    rw [if_neg (by simp [he])]
    rfl

end Sys2Proof.Machine
end

section
namespace Sys2Proof.Machine

open Sys2Proof.Claims

/-! The last write for a key is the one that counts. -/

theorem Map.set_set_from {α : Type} [DecidableEq α] (d : α) {i : Nat} {a b : α} : ∀ {m : Map α} {lo : Nat},
    Map.risesFrom lo m → Map.set d (Map.set d m i a) i b = Map.set d m i b
  | [], _, _ => by
    by_cases ha : a = d <;> simp [Map.set, ha]
  | (k, c) :: t, lo, h => by
    rcases Nat.lt_trichotomy i k with hik | rfl | hki
    · by_cases ha : a = d <;> simp [Map.set, hik, ha]
    · by_cases ha : a = d
      · subst ha
        simp only [Map.set, lt_irrefl, if_false, if_true]
        cases t with
        | nil => rfl
        | cons p t =>
          have hp : i < p.1 := h.2.1
          simp [Map.set, hp]
      · simp [Map.set, ha]
    · simp only [Map.set, show ¬i < k by omega, show i ≠ k by omega, if_false, Map.set_set_from d h.2]

theorem Map.set_set {α : Type} [DecidableEq α] (d : α) {i : Nat} {a b : α} {m : Map α} (h : Map.rises m) :
    Map.set d (Map.set d m i a) i b = Map.set d m i b := Map.set_set_from d h

theorem State.setHart_setHart {s : State} (hm : Map.rises s.harts) (i : HartId) (a b : Hart) :
    (s.setHart i a).setHart i b = s.setHart i b := by
  simp only [State.setHart, Map.set_set _ hm]

/-! Waits that end (R58, R61, R129). -/

/-- mwait returns with the hart woken; WRITE and REARM discard strips fetched ahead (R58, R130). -/
theorem Hart.endMwait_eq (x : Hart) (d : Fin 32) (reason : Word) :
    x.endMwait d reason = wokeUp x d reason (decide (reason = 0 ∨ reason = 2)) := by
  unfold Hart.endMwait wokeUp Hart.setX
  dsimp only
  by_cases hr : reason = 0 ∨ reason = 2
  · rw [decide_eq_true hr, if_pos hr, if_pos rfl]
    split <;> rfl
  · rw [decide_eq_false hr, if_neg hr, if_neg Bool.false_ne_true]
    split <;> rfl

theorem Hart.endBarrier_eq (x : Hart) :
    x.endBarrier = { x.discardAhead with st := .running, wait := none, pc := x.pc + 4, instret := countedIn x } := rfl

theorem State.timedOut_iff {s : State} {since : Nat} {timeout : Word} :
    s.timedOut since timeout = true ↔ timeout ≠ 0 ∧ since + timeout.toNat ≤ s.cycle := by
  simp [State.timedOut]

/-- No stream in ERROR, no error to report (R271, R319). -/
theorem Hart.firstError_none {x : Hart} (h : ∀ st : Fin 16, x.stm[st].state ≠ .error) : x.firstError = none := by
  simp only [Hart.firstError, List.findSome?_eq_none_iff]
  intro t ht
  obtain ⟨k, hk, rfl⟩ := List.mem_iff_getElem.mp ht
  have := h ⟨k, by simpa using hk⟩
  simp_all

theorem Hart.fails_of_spotless {x : Hart} (h : spotless x) : x.fails = false := by
  simp [Hart.fails, h.1, Hart.firstError_none h.2]

/-- With nothing in flight and nothing posted a fence has nothing to wait for (R129). -/
theorem State.fenceWaits_none {s : State} {i : HartId} (hi : (s.hart i).ilock = []) (hp : (s.hart i).posted = []) (ord : BitVec 2)
    (sc : BitVec 3) : s.fenceWaits i ord sc = false := by
  simp [State.fenceWaits, Hart.readsPending, State.releaseWaits, State.holdsWrite, hi, hp]

/-- A fence that is not an acquire alone waits for every transfer in flight (R129). -/
theorem State.fenceWaits_inFlight {s : State} {i : HartId} (hi : (s.hart i).ilock ≠ []) {ord : BitVec 2} (ho : ord ≠ 1) (sc : BitVec 3) :
    s.fenceWaits i ord sc = true := by
  have hi : (s.hart i).ilock.isEmpty = false := by simpa using hi
  unfold State.fenceWaits
  split
  · simp [hi]
  · next h0 =>
    have hrel : isRelease ord = true := by
      revert h0 ho
      clear hi
      revert ord
      decide
    simp [hrel, State.releaseWaits, hi]

/-- A fence with nothing to report retires, an acquire discarding strips fetched ahead (R129, R130). -/
theorem State.fenceDone_eq {s : State} (hm : Map.rises s.harts) (hs : spotless s.h) (ord : BitVec 2) :
    s.fenceDone ord = s.setH { (if ord.getLsbD 0 then s.h.discardAhead else s.h) with
      fence := none, pc := s.h.pc + 4, instret := countedIn s.h } := by
  have hdone : s.fenceDone ord = ((s.setH { s.h with fence := none }).acquire (ord.getLsbD 0)).retire 4 := by
    simp only [State.fenceDone, hs.1, Hart.firstError_none hs.2, isAcquire]
  rw [hdone]
  cases ord.getLsbD 0 <;>
    simp only [State.acquire, State.retire, State.setH, State.h, State.setHart_cur, State.hart_setHart_same, State.setHart_setHart, hm,
      if_true, Bool.false_eq_true, if_false] <;> rfl

/-- Settles O46, wait by wait: what each event does to the waiting hart is its one lemma above. -/
theorem waitsEnd : Obligations.WaitsEnd := by
  intro h s hs x
  obtain ⟨⟨harts, -⟩, -⟩ := hs
  refine ⟨fun n => ⟨fun hx => ?_, fun q qs hx => ?_⟩, rfl, fun d since timeout m hw hm => ⟨?_, ?_⟩, fun va loc gen released hw => ?_,
    fun ord sc hf hst hclean => ⟨fun hi hp => ?_, fun hi ho => ?_⟩⟩
  · show execLoadDataReturn h n s = _
    simp only [execLoadDataReturn, show (s.hart h).reads = [] from hx]
  · show execLoadDataReturn h n s = _
    simp only [execLoadDataReturn, show (s.hart h).reads = q :: qs from hx]
    rfl
  · show execMonitorWake h s = _
    simp only [execMonitorWake, show (s.hart h).wait = _ from hw, show (s.hart h).mon = _ from hm, Hart.endMwait_eq]
    rfl
  · show execMwaitTimeout h s = _
    have hreason : decide ((if m.hit then 0 else 1 : Word) = 0 ∨ (if m.hit then 0 else 1 : Word) = 2) = m.hit := by
      cases m.hit <;> decide
    simp only [execMwaitTimeout, show (s.hart h).wait = _ from hw, show (s.hart h).mon = _ from hm, Option.any_some, Hart.endMwait_eq,
      hreason, State.timedOut_iff]
    rfl
  · show execBarrierWake h s = _
    cases released <;> simp only [execBarrierWake, show (s.hart h).wait = _ from hw] <;> rfl
  · show execFenceRetire h s = _
    simp only [execFenceRetire, show (s.hart h).fence = _ from hf]
    rw [if_pos ⟨hst, .inr (State.fenceWaits_none hi hp ord sc)⟩,
      State.fenceDone_eq (s := { s with cur := h }) harts hclean]
    rfl
  · show execFenceRetire h s = _
    simp only [execFenceRetire, show (s.hart h).fence = _ from hf]
    rw [if_neg]
    rintro ⟨-, hfails | hwaits⟩
    · exact absurd (hfails.symm.trans (Hart.fails_of_spotless hclean)) (by decide)
    · exact absurd (hwaits.symm.trans (State.fenceWaits_inFlight hi ho sc)) (by decide)

end Sys2Proof.Machine
end

section
namespace Sys2Proof.Machine

/-! Words of memory as the device writes and reads them (R480, R497). -/

theorem State.Evolves.sound {r s : State} (h : Evolves r s) (hr : r.Sound) : s.Sound := ⟨h.mapsOk hr.1, h.memoryOk hr.2⟩

/-- A word of 8 bytes reads as the number written, modulo 2^64 (R7). -/
theorem leNat_leBytes_word (v : Nat) : leNat (leBytes 8 v) = v % 2 ^ 64 := by
  simp only [leBytes, leNat, BitVec.toNat_ofNat]
  omega

theorem leNat_lt : ∀ bs : List Byte, leNat bs < 256 ^ bs.length
  | [] => by simp [leNat]
  | b :: bs => by
    have hb := b.isLt
    have hbs := leNat_lt bs
    rw [leNat, List.length_cons, pow_succ]
    omega

theorem State.peekN_length (s : State) : ∀ n a, (s.peekN a n).length = n
  | 0, _ => rfl
  | n + 1, a => by rw [State.peekN, List.length_cons, State.peekN_length s n]

theorem State.peekNat_lt (s : State) (a : Nat) : s.peekNat a 8 < 2 ^ 64 := by
  have h := leNat_lt (s.peekN a 8)
  rwa [State.peekN_length] at h

/-- What is read depends on the bytes read alone. -/
theorem State.peekN_congr {s t : State} : ∀ {n a}, (∀ k < n, t.peek (a + k) = s.peek (a + k)) → t.peekN a n = s.peekN a n
  | 0, _, _ => rfl
  | n + 1, a, h => by
    rw [State.peekN, State.peekN, State.peekN_congr (n := n) fun k hk => ?_]
    · have h0 := h 0 (by omega)
      rw [Nat.add_zero] at h0
      rw [h0]
    · have hk := h (k + 1) (by omega)
      rwa [show a + (k + 1) = a + 1 + k by omega] at hk

theorem State.peekNat_of_mem {s t : State} (h : t.mem = s.mem) (a n : Nat) : t.peekNat a n = s.peekNat a n := by
  rw [State.peekNat, State.peekNat, State.peekN_congr fun k _ => ?_]
  simp only [State.peek, h]

theorem State.peekN_perform_same {s : State} (hs : s.Sound) (a : Nat) (bs : List Byte) : (s.perform a bs).peekN a bs.length = bs := by
  have read : ∀ n k, k + n = bs.length → (s.perform a bs).peekN (a + k) n = bs.drop k := by
    intro n
    induction n with
    | zero => intro k hk; rw [State.peekN, List.drop_of_length_le (by omega)]
    | succ n ih =>
      intro k hk
      rw [State.peekN, State.peek_perform_inside hs.2.1 a bs (by omega), Nat.add_assoc, ih (k + 1) (by omega)]
      exact List.getElem_cons_drop (by omega)
  simpa using read bs.length 0 (by omega)

/-- The word written is the word read. -/
theorem State.peekNat_pokeNat_same {s : State} (hs : s.Sound) (a v : Nat) : (s.pokeNat a 8 v).peekNat a 8 = v % 2 ^ 64 := by
  have h := State.peekN_perform_same hs a (leBytes 8 v)
  rw [leBytes_length] at h
  rw [State.peekNat, State.pokeNat, h, leNat_leBytes_word]

/-- A word apart from the one written stays. -/
theorem State.peekNat_pokeNat_apart {s : State} (hs : s.Sound) {a b v : Nat} (h : b + 8 ≤ a ∨ a + 8 ≤ b) :
    (s.pokeNat a 8 v).peekNat b 8 = s.peekNat b 8 := by
  rw [State.peekNat, State.peekNat, State.peekN_congr fun k hk => ?_]
  exact State.peek_perform_outside hs.2.1 a _ (by rw [leBytes_length]; omega)

@[simp] theorem State.peekNat_setChannel (s : State) (ch : Nat) (c : Channel) (a n : Nat) : (s.setChannel ch c).peekNat a n = s.peekNat a n :=
  State.peekNat_of_mem (State.setChannel_mem s ch c) a n
@[simp] theorem State.peekNat_setHart (s : State) (i : HartId) (x : Hart) (a n : Nat) : (s.setHart i x).peekNat a n = s.peekNat a n :=
  State.peekNat_of_mem (State.setHart_mem s i x) a n
@[simp] theorem State.peekNat_setDie (s : State) (d : Fin 8) (x : Die) (a n : Nat) : (s.setDie d x).peekNat a n = s.peekNat a n :=
  State.peekNat_of_mem (State.setDie_mem s d x) a n

/-- A counter of a fleet block counts one more (R497). -/
theorem State.peekNat_bump_same {s : State} (hs : s.Sound) (d : Fin 8) (off : Nat) :
    (s.bump d off).peekNat (0xB0000 + d.val * 0x1000 + off) 8 = Claims.oneMore s (0xB0000 + d.val * 0x1000 + off) := by
  rw [State.bump, State.peekNat_pokeNat_same hs, Claims.oneMore]
  split <;> omega

theorem State.peekNat_bump_apart {s : State} (hs : s.Sound) {d : Fin 8} {off a : Nat}
    (h : a + 8 ≤ 0xB0000 + d.val * 0x1000 + off ∨ 0xB0000 + d.val * 0x1000 + off + 8 ≤ a) : (s.bump d off).peekNat a 8 = s.peekNat a 8 :=
  State.peekNat_pokeNat_apart hs h

/-! A write is observed by monitors and barrier waits alone (R58, R61). -/

theorem Map.get_map {α β : Type} {d : α} {e : β} (f : α → β) (hf : f d = e) (i : Nat) : ∀ m : Map α,
    Map.get e (m.map fun p => (p.1, f p.2)) i = f (Map.get d m i)
  | [] => hf.symm
  | (k, a) :: m => by
    simp only [List.map_cons, Map.get]
    split
    · rfl
    · split
      · exact hf.symm
      · exact Map.get_map f hf i m

/-- What watches writes aside, a hart that observes one is as before. -/
theorem Hart.observe_eq (h : Hart) (m : List Host.Cell) (loc n : Nat) :
    h.observe m loc n = { h with mon := (h.observe m loc n).mon, wait := (h.observe m loc n).wait } := by
  unfold Hart.observe
  cases h.mon <;> cases h.wait <;> dsimp only <;> repeat' split
  all_goals rfl

theorem State.hart_perform (s : State) (loc : Nat) (bs : List Byte) (i : HartId) :
    (s.perform loc bs).hart i = (s.hart i).observe (pokeBytes s.mem loc bs) loc bs.length :=
  Map.get_map (d := Hart.reset) (fun h => h.observe (pokeBytes s.mem loc bs) loc bs.length) rfl (hartKey i) s.harts

@[simp] theorem Hart.observe_stm (h : Hart) (m : List Host.Cell) (loc n : Nat) : (h.observe m loc n).stm = h.stm := by
  rw [Hart.observe_eq]
@[simp] theorem Hart.observe_reads (h : Hart) (m : List Host.Cell) (loc n : Nat) : (h.observe m loc n).reads = h.reads := by
  rw [Hart.observe_eq]
@[simp] theorem Hart.observe_latcnt (h : Hart) (m : List Host.Cell) (loc n : Nat) : (h.observe m loc n).latcnt = h.latcnt := by
  rw [Hart.observe_eq]

@[simp] theorem hartIdOf_hartKey (i : HartId) : hartIdOf (hartKey i) = i := by
  obtain ⟨⟨d, hd⟩, ⟨c, hc⟩, ⟨l, hl⟩⟩ := i
  simp only [hartIdOf, hartKey, Fin.ofNat, HartId.mk.injEq, Fin.mk.injEq]
  omega

end Sys2Proof.Machine
end

section
namespace Sys2Proof.Machine

/-! The banks of a channel, and what a channel keeps as it is brought up to a cycle (R482, R483). -/

theorem State.channel_rises {s : State} (hs : s.Sound) (ch : Nat) : (s.channel ch).Rises := by
  obtain ⟨⟨-, -, -, chans, -, -, -, -, -, -, within⟩, -⟩ := hs
  exact chansRise.get ⟨chans, within⟩ ch

theorem State.channel_setChannel_same {s : State} (hs : s.Sound) (ch : Nat) (c : Channel) : (s.setChannel ch c).channel ch = c := by
  obtain ⟨⟨-, -, -, chans, -⟩, -⟩ := hs
  exact Map.get_set_same _ chans

theorem State.channel_setChannel_other {s : State} (hs : s.Sound) {ch k : Nat} (c : Channel) (h : k ≠ ch) :
    (s.setChannel ch c).channel k = s.channel k := by
  obtain ⟨⟨-, -, -, chans, -⟩, -⟩ := hs
  exact Map.get_set_other _ chans h

namespace Channel

theorem bank_setBank {c : Channel} (hc : c.Rises) (b k : Nat) (x : Bank) :
    (c.setBank b x).bank k = if k = b then x else c.bank k := by
  split
  · next h => exact h ▸ Map.get_set_same _ hc.1
  · next h => exact Map.get_set_other _ hc.1 h

theorem bank_setBank_same {c : Channel} (hc : c.Rises) (b : Nat) (x : Bank) : (c.setBank b x).bank b = x := by
  rw [bank_setBank hc, if_pos rfl]

/-- What is so of every bank listed, and of one that is not, is so of each. -/
theorem bank_of_all {c : Channel} {p : Bank → Prop} (hl : ∀ q ∈ c.banks, p q.2) (hr : p Bank.reset) (b : Nat) : p (c.bank b) := by
  rcases Map.get_mem (d := Bank.reset) (i := b) (m := c.banks) with h | h
  · exact (show c.bank b = Bank.reset from h) ▸ hr
  · exact hl _ h

/-- The channels differ in what refreshes change alone: their banks, the refreshes forced, and the cycle of the last event. -/
def RefreshOnly (c c' : Channel) : Prop := c' = { c with banks := c'.banks, forced := c'.forced, now := c'.now }

namespace RefreshOnly
variable {c c' c'' : Channel}

theorem refl (c : Channel) : c.RefreshOnly c := rfl

theorem trans (h : c.RefreshOnly c') (h' : c'.RefreshOnly c'') : c.RefreshOnly c'' := by
  unfold RefreshOnly at *
  rw [h', h]

theorem ite {p : Prop} [Decidable p] (h : c.RefreshOnly c') (h' : c.RefreshOnly c'') : c.RefreshOnly (if p then c' else c'') := by
  split
  · exact h
  · exact h'

theorem setBank (h : c.RefreshOnly c') {b x} : c.RefreshOnly (c'.setBank b x) := h.trans rfl

theorem setForced (h : c.RefreshOnly c') {m} : c.RefreshOnly { c' with forced := m } := h.trans rfl

theorem foldl {α : Type} {f : Channel → α → Channel} (hf : ∀ {c' a}, c.RefreshOnly c' → c.RefreshOnly (f c' a)) :
    ∀ {l : List α} {c' : Channel}, c.RefreshOnly c' → c.RefreshOnly (l.foldl f c')
  | [], _, h => h
  | _ :: l, _, h => foldl (l := l) hf (hf h)

theorem power (h : c.RefreshOnly c') : c'.power = c.power := (congrArg Channel.power h :)
theorem asked (h : c.RefreshOnly c') : c'.asked = c.asked := (congrArg Channel.asked h :)
theorem changing (h : c.RefreshOnly c') : c'.changing = c.changing := (congrArg Channel.changing h :)
theorem upAt (h : c.RefreshOnly c') : c'.upAt = c.upAt := (congrArg Channel.upAt h :)
theorem armed (h : c.RefreshOnly c') : c'.armed = c.armed := (congrArg Channel.armed h :)
theorem t0 (h : c.RefreshOnly c') : c'.t0 = c.t0 := (congrArg Channel.t0 h :)

theorem quietUntil (h : c.RefreshOnly c') {now} : c.RefreshOnly (c'.quietUntil now) :=
  foldl (fun h => by split; exacts [h, .ite h h.setBank]) h

theorem upTo (h : c.RefreshOnly c') {now} : c.RefreshOnly (c'.upTo now) :=
  have : c.RefreshOnly (if c'.resting then c'.quietUntil now else c') := .ite h.quietUntil h
  this.trans rfl

theorem force (h : c.RefreshOnly c') {p now} : c.RefreshOnly (c'.force p now) :=
  .ite h (foldl (·.setBank) h).setForced

theorem payAll (h : c.RefreshOnly c') {now} : c.RefreshOnly (c'.payAll now) :=
  foldl (fun h => (foldl (·.setBank) h).setForced.force) h

end RefreshOnly

/-- A fold that changes the banks of a list, each in its turn, relates each of them to what it was, and leaves the others. -/
theorem bank_foldl {P : Channel → Prop} {f : Channel → Nat → Channel} {R : Nat → Bank → Bank → Prop}
    (hf : ∀ {c b}, P c → P (f c b) ∧ R b (c.bank b) ((f c b).bank b) ∧ ∀ k, k ≠ b → (f c b).bank k = c.bank k) :
    ∀ {l : List Nat} {c : Channel}, l.Nodup → P c →
      (∀ k ∈ l, R k (c.bank k) ((l.foldl f c).bank k)) ∧ ∀ k, k ∉ l → (l.foldl f c).bank k = c.bank k
  | [], _, _, _ => by simp
  | b :: l, c, hl, hc => by
    obtain ⟨hb, hl⟩ := List.nodup_cons.mp hl
    obtain ⟨hP, hR, hother⟩ := hf (b := b) hc
    obtain ⟨hin, hout⟩ := bank_foldl hf hl hP
    refine ⟨fun k hk => ?_, fun k hk => ?_⟩
    · rcases List.mem_cons.mp hk with rfl | hk
      · rw [List.foldl_cons, hout k hb]
        exact hR
      · have hkb : k ≠ b := fun h => hb (h ▸ hk)
        rw [List.foldl_cons, ← hother k hkb]
        exact hin k hk
    · obtain ⟨hkb, hk⟩ := not_or.mp (mt List.mem_cons.mpr hk)
      rw [List.foldl_cons, hout k hk, hother k hkb]

/-- A fold that sets each bank of a list by the bank as it stood. -/
theorem bank_foldl_setBank (g : Bank → Bank) {l : List Nat} {c : Channel} (hl : l.Nodup) (hc : c.Rises) (k : Nat) :
    (l.foldl (fun c b => c.setBank b (g (c.bank b))) c).bank k = if k ∈ l then g (c.bank k) else c.bank k := by
  obtain ⟨hin, hout⟩ := bank_foldl (P := Rises) (R := fun _ x y => y = g x) (f := fun c b => c.setBank b (g (c.bank b)))
    (fun hc => ⟨hc.setBank, bank_setBank_same hc _ _, fun k hk => by rw [bank_setBank hc, if_neg hk]⟩) hl hc
  split
  · next hk => exact hin k hk
  · next hk => exact hout k hk

@[simp] theorem forced_foldl_setBank (g : Bank → Bank) : ∀ (l : List Nat) (c : Channel),
    (l.foldl (fun c b => c.setBank b (g (c.bank b))) c).forced = c.forced
  | [], _ => rfl
  | _ :: l, _ => by rw [List.foldl_cons, forced_foldl_setBank g l]; rfl

end Channel

theorem setBanks_nodup (g : Nat) : (setBanks g).Nodup := by simp [setBanks]

theorem mem_setBanks {g k : Nat} : k ∈ setBanks g ↔ k / 4 = g := by
  simp only [setBanks, List.mem_cons, List.not_mem_nil, or_false]
  omega

theorem pcBanks_nodup (p : Nat) : (pcBanks p).Nodup := by
  unfold pcBanks
  exact (List.nodup_range).map fun a b h => by omega

theorem mem_pcBanks {p k : Nat} : k ∈ pcBanks p ↔ k / 16 = p := by
  simp only [pcBanks, List.mem_map, List.mem_range]
  exact ⟨fun ⟨a, ha, h⟩ => by omega, fun h => ⟨k % 16, by omega, by omega⟩⟩

theorem forall_pcBanks {p : Nat} {P : Nat → Prop} : (∀ k ∈ pcBanks p, P k) ↔ ∀ k < 16, P (16 * p + k) := by
  simp [pcBanks]

theorem exists_pcBanks {p : Nat} {P : Nat → Prop} : (∃ k ∈ pcBanks p, P k) ↔ ∃ k < 16, P (16 * p + k) := by
  simp [pcBanks]

end Sys2Proof.Machine
end

section
namespace Sys2Proof.Machine

/-! Which event of a channel is the next, and when each event comes (R483, R484, R487; log 103). -/

/-- The event taken is the first of the earliest. -/
theorem earliest_eq_some {e : Nat × MemEvent} : ∀ {l : List (Nat × MemEvent)}, earliest l = some e →
    ∃ before after, l = before ++ e :: after ∧ (∀ f ∈ before, e.1 < f.1) ∧ ∀ f ∈ after, e.1 ≤ f.1
  | [], h => by simp [earliest] at h
  | d :: l, h => by
    unfold earliest at h
    split at h
    · next f hf =>
      obtain ⟨before, after, hl, hbefore, hafter⟩ := earliest_eq_some hf
      split at h <;> obtain rfl := Option.some.inj h
      · next hle =>
        refine ⟨[], l, rfl, by simp, fun g hg => ?_⟩
        rw [hl] at hg
        rcases List.mem_append.mp hg with hg | hg
        · exact Nat.le_trans hle (hbefore g hg).le
        · rcases List.mem_cons.mp hg with rfl | hg
          · exact hle
          · exact Nat.le_trans hle (hafter g hg)
      · next hlt => exact ⟨d :: before, after, by rw [hl, List.cons_append],
          List.forall_mem_cons.mpr ⟨by omega, hbefore⟩, hafter⟩
    · next hn =>
      obtain rfl := Option.some.inj h
      cases l with
      | nil => exact ⟨[], [], rfl, by simp, by simp⟩
      | cons g l =>
        unfold earliest at hn
        split at hn
        · split at hn <;> simp at hn
        · simp at hn

theorem earliest_eq_none : ∀ {l : List (Nat × MemEvent)}, earliest l = none → l = []
  | [], _ => rfl
  | d :: l, h => by
    unfold earliest at h
    split at h
    · split at h <;> simp at h
    · simp at h

/-- The next event has come, is the earliest to come, and an arrival where an arrival comes in its cycle. -/
theorem State.nextEvent_some {s : State} {ch : Nat} {e : Nat × MemEvent} (h : s.nextEvent ch = some e) :
    e.1 ≤ s.cycle ∧ e ∈ s.arrivals ch ++ (s.channel ch).events ∧ (∀ f ∈ s.arrivals ch ++ (s.channel ch).events, e.1 ≤ f.1)
      ∧ ((∃ f ∈ s.arrivals ch, f.1 = e.1) → e ∈ s.arrivals ch) := by
  unfold State.nextEvent at h
  split at h
  · next d hd =>
    split at h
    · next hle =>
      obtain rfl := Option.some.inj h
      obtain ⟨before, after, hl, hbefore, hafter⟩ := earliest_eq_some hd
      refine ⟨hle, by simp [hl], fun f hf => ?_, ?_⟩
      · rw [hl] at hf
        rcases List.mem_append.mp hf with hf | hf
        · exact (hbefore f hf).le
        · rcases List.mem_cons.mp hf with rfl | hf
          · exact Nat.le_refl _
          · exact hafter f hf
      · rintro ⟨f, hf, heq⟩
        rcases List.append_eq_append_iff.mp hl with ⟨mid, hb, -⟩ | ⟨mid, ha, hmid⟩
        · exact absurd (hbefore f (by simp [hb, hf])) (by omega)
        · cases mid with
          | nil => exact absurd (hbefore f (by simpa [ha] using hf)) (by omega)
          | cons g mid =>
            obtain ⟨rfl, -⟩ := List.cons.inj hmid
            simp [ha]
    · simp at h
  · simp at h

theorem State.nextEvent_none {s : State} {ch : Nat} (h : s.nextEvent ch = none) :
    ∀ f ∈ s.arrivals ch ++ (s.channel ch).events, s.cycle < f.1 := by
  unfold State.nextEvent at h
  split at h
  · next d hd =>
    split at h
    · simp at h
    · next hlt =>
      obtain ⟨before, after, hl, hbefore, hafter⟩ := earliest_eq_some hd
      intro f hf
      rw [hl] at hf
      rcases List.mem_append.mp hf with hf | hf
      · exact Nat.lt_trans (by omega) (hbefore f hf)
      · rcases List.mem_cons.mp hf with rfl | hf
        · omega
        · exact Nat.lt_of_lt_of_le (by omega) (hafter f hf)
  · next hn => simp [earliest_eq_none hn]

/-- A row of a channel does nothing where its event is not the next. -/
theorem State.takeEvent_other {s : State} {ch : Nat} {e : MemEvent} (h : ∀ t, s.nextEvent ch ≠ some (t, e)) :
    s.takeEvent ch (· == e) = .next s := by
  unfold State.takeEvent
  split
  · next t d hd =>
    rw [if_neg]
    simp only [beq_iff_eq]
    rintro rfl
    exact h t hd
  · rfl

theorem State.takeEvent_next {s : State} {ch t : Nat} {e : MemEvent} (h : s.nextEvent ch = some (t, e)) :
    s.takeEvent ch (· == e) = .next (s.channelEvent ch t e) := by
  simp only [State.takeEvent, h, beq_self_eq_true, if_true]

namespace Channel
variable {c : Channel} {t b g : Nat}

theorem events_resting (h : c.resting = true) : c.events = [] := by simp [events, h]

theorem mem_events_endAccess (h : c.resting = false) (hb : b < 32) :
    (t, MemEvent.endAccess b) ∈ c.events ↔ (c.bank b).access = true ∧ t = (c.bank b).free := by
  simp [events, h, hb, eq_comm (a := t)]

theorem mem_events_endRefresh (h : c.resting = false) (hb : b < 32) :
    (t, MemEvent.endRefresh b) ∈ c.events ↔ (c.bank b).refresh = true ∧ t = (c.bank b).free := by
  simp [events, h, hb, eq_comm (a := t)]

theorem mem_events_due (h : c.resting = false) (hb : b < 32) : (t, MemEvent.due b) ∈ c.events ↔ c.nextDue b = some t := by
  simp [events, h, hb]

theorem mem_events_pay (h : c.resting = false) (hg : g < 8) : (t, MemEvent.pay g) ∈ c.events ↔ c.payable g = some t := by
  simp [events, h, hg]

theorem mem_events_serve (h : c.resting = false) (hb : b < 32) : (t, MemEvent.serve b) ∈ c.events ↔ c.servable b = some t := by
  simp [events, h, hb]

/-- The cycle of a bank's due `n` (R483). -/
def dueAt (c : Channel) (b n : Nat) : Nat := Map.get 0 c.t0 (b / 4) + 7800 * n + 1950 * (b % 4) + 60 * (b / 4)

/-- A bank's dues follow one another at 7,800 cycles, unless its set waits for its first request (R483, R486). -/
theorem nextDue_eq_some : c.nextDue b = some t ↔ Map.get false c.armed (b / 4) = false
    ∧ t = c.dueAt b (c.bank b).dueNo := by
  by_cases ha : Map.get false c.armed (b / 4) = true <;> simp [nextDue, dueAt, ha, eq_comm (a := t)]

theorem servable_eq_some : c.servable b = some t ↔ (c.bank b).access = false ∧ (c.bank b).refresh = false ∧ (c.bank b).owed = false
    ∧ Map.get 0 c.forced (b / 16) = 0 ∧ c.power % 4 = 0
    ∧ ∃ k a q, (c.bank b).queue = (k, a) :: q ∧ t = max a (max (c.bank b).free c.upAt) := by
  unfold servable
  dsimp only
  split
  · next hq => simp [hq]
  · next k a q hq =>
    rw [Option.ite_none_left_eq_some]
    simp [hq, Bank.idle, state, eq_comm (a := t), and_assoc]

theorem any_setBanks {p : Nat → Bool} : (setBanks g).any p = true ↔ ∃ k < 4, p (4 * g + k) = true := by
  simp only [List.any_eq_true, mem_setBanks]
  exact ⟨fun ⟨x, hx, hp⟩ => ⟨x % 4, by omega, by rwa [show 4 * g + x % 4 = x by omega]⟩, fun ⟨k, hk, hp⟩ => ⟨4 * g + k, by omega, hp⟩⟩

theorem all_setBanks {p : Nat → Bool} : (setBanks g).all p = true ↔ ∀ k < 4, p (4 * g + k) = true := by
  simp only [List.all_eq_true, mem_setBanks]
  exact ⟨fun h k hk => h _ (by omega), fun h x hx => by simpa only [show 4 * g + x % 4 = x by omega] using h (x % 4) (by omega)⟩

/-- A set with debts in an idle bank and no request can pay once 512 cycles have passed since its last arrival (R483). -/
theorem payable_eq_some : c.payable g = some t ↔ (∃ k < 4, (c.bank (4 * g + k)).idle = true ∧ (c.bank (4 * g + k)).debt ≠ 0)
    ∧ (∀ k < 4, (c.bank (4 * g + k)).queue = [])
    ∧ t = if Map.get 0 c.lastArrival g = 0 then c.now else max c.now (Map.get 0 c.lastArrival g + 511) := by
  unfold payable
  rw [Option.ite_none_right_eq_some, Bool.and_eq_true, any_setBanks, all_setBanks, and_assoc]
  simp only [Bool.and_eq_true, bne_iff_ne, List.isEmpty_iff, Option.some.injEq, eq_comm (a := t)]

end Channel

end Sys2Proof.Machine
end

section
namespace Sys2Proof.Machine

namespace Channel
variable {c : Channel} {b now t : Nat}

/-! A resting channel meets its dues unseen; a channel that does not rest is brought up to a cycle as it is (R483). -/

/-- What a bank `x` of a resting channel is at a cycle, `y`: as it was until its next due; after it all its dues have been met, the last
of them by a refresh of 320 cycles that may be under way. -/
def MeetsDues (c : Channel) (b now : Nat) (x y : Bank) : Prop :=
  if now ≤ c.dueAt b x.dueNo then y = x
  else now ≤ c.dueAt b y.dueNo ∧ c.dueAt b y.dueNo < now + 7800 ∧ (y.refresh = true ↔ now + 7800 < c.dueAt b y.dueNo + 320)
    ∧ (y.refresh = true → y.free + 7800 = c.dueAt b y.dueNo + 320)

theorem resting_bank (h : c.resting = true) (b : Nat) : (c.bank b).refresh = false := by
  simp only [resting, Bool.and_eq_true, List.all_eq_true, Prod.forall] at h
  refine bank_of_all (p := fun x => x.refresh = false) (fun q hq => ?_) rfl b
  have hidle := h.1.2 q.1 q.2 hq
  simp only [Bank.idle, Bool.and_eq_true, Bool.not_eq_true'] at hidle
  exact hidle.1.1.1.2

theorem dueAt_of_refreshOnly {c' : Channel} (h : c.RefreshOnly c') (n : Nat) : c'.dueAt b n = c.dueAt b n := by
  rw [dueAt, dueAt, h.t0]

/-- The dues of a bank that have come are counted, and the last one's refresh is under way for 320 cycles. -/
theorem meetsDues_refreshed {x y : Bank} (ht : c.dueAt b x.dueNo < now) (hr : x.refresh = false)
    (hy : y = let last := c.dueAt b x.dueNo + 7800 * ((now - 1 - c.dueAt b x.dueNo) / 7800)
      let z := { x with dueNo := x.dueNo + (now - 1 - c.dueAt b x.dueNo) / 7800 + 1 }
      if now < last + 320 then z.refreshed last else z) : c.MeetsDues b now x y := by
  rw [MeetsDues, if_neg (by omega)]
  have hnext : c.dueAt b y.dueNo = c.dueAt b x.dueNo + 7800 * ((now - 1 - c.dueAt b x.dueNo) / 7800) + 7800 := by
    have hn : y.dueNo = x.dueNo + (now - 1 - c.dueAt b x.dueNo) / 7800 + 1 := by
      rw [hy]; dsimp only; split <;> rfl
    rw [hn]
    unfold dueAt
    omega
  rw [hnext]
  generalize c.dueAt b x.dueNo = t at *
  have hk := Nat.div_add_mod (now - 1 - t) 7800
  have hm := Nat.mod_lt (now - 1 - t) (show 0 < 7800 by decide)
  generalize (now - 1 - t) / 7800 = k at *
  refine ⟨by omega, by omega, ?_⟩
  dsimp only at hy
  split at hy <;> subst hy
  · next hlt => exact ⟨⟨fun _ => by omega, fun _ => rfl⟩, fun _ => by simp only [Bank.refreshed]⟩
  · next hlt => exact ⟨⟨fun h => absurd (hr.symm.trans h) (by decide), fun h => by omega⟩, fun h => absurd (hr.symm.trans h) (by decide)⟩

theorem quietUntil_meetsDues (hc : c.Rises) (hb : b < 32) (ha : Map.get false c.armed (b / 4) = false) (hr : (c.bank b).refresh = false) :
    c.MeetsDues b now (c.bank b) ((c.quietUntil now).bank b) := by
  refine (bank_foldl (P := fun c' => c'.Rises ∧ c.RefreshOnly c')
    (R := fun b x y => Map.get false c.armed (b / 4) = false → x.refresh = false → c.MeetsDues b now x y)
    (fun {c' b} hP => ?_) List.nodup_range ⟨hc, .refl c⟩).1 b (List.mem_range.mpr hb) ha hr
  obtain ⟨hrise, honly⟩ := hP
  split
  · next hn =>
    refine ⟨⟨hrise, honly⟩, fun ha _ => ?_, fun _ _ => rfl⟩
    simp [nextDue, honly.armed, ha] at hn
  · next t ht =>
    obtain ⟨-, rfl⟩ := nextDue_eq_some.mp ht
    rw [dueAt_of_refreshOnly honly]
    split
    · next hle => exact ⟨⟨hrise, honly⟩, fun _ _ => by rw [MeetsDues, if_pos hle], fun _ _ => rfl⟩
    · next hlt =>
      refine ⟨⟨hrise.setBank, honly.setBank⟩, fun _ hr => ?_, fun k hk => by rw [bank_setBank hrise, if_neg hk]⟩
      exact meetsDues_refreshed (by omega) hr (bank_setBank_same hrise _ _)

theorem upTo_meetsDues (h : c.resting = true) (hc : c.Rises) (hb : b < 32) (ha : Map.get false c.armed (b / 4) = false) :
    c.MeetsDues b now (c.bank b) ((c.upTo now).bank b) := by
  have hu : (c.upTo now).bank b = (c.quietUntil now).bank b := by
    show (if c.resting then c.quietUntil now else c).bank b = _
    rw [if_pos h]
  rw [hu]
  exact quietUntil_meetsDues hc hb ha (resting_bank h b)

theorem upTo_busy (h : c.resting = false) : c.upTo now = { c with now := max c.now now } := by
  simp [upTo, h]

end Channel

end Sys2Proof.Machine
end

section
namespace Sys2Proof.Machine

open Sys2Proof.Claims

namespace Channel
variable {c c' : Channel} {b k now p g : Nat}

/-! What the events of a refresh do to the banks of a channel (R482, R483). -/

@[simp] theorem bank_setForced (c : Channel) (m : Map Nat) (k : Nat) : ({ c with forced := m } : Channel).bank k = c.bank k := rfl
@[simp] theorem bank_setNow (c : Channel) (n k : Nat) : ({ c with now := n } : Channel).bank k = c.bank k := rfl

/-- Nothing is forced, or a bank is not idle: no forced refresh begins. -/
theorem force_waits (h : Map.get 0 c.forced p = 0 ∨ (pcBanks p).any (fun b => !(c.bank b).idle) = true) : c.force p now = c :=
  if_pos h

/-- The forced refreshes of a pseudo-channel with idle banks, each of 700 cycles, begin (R483). -/
theorem force_begins (hc : c.Rises) (hn : Map.get 0 c.forced p ≠ 0) (hi : ∀ b ∈ pcBanks p, (c.bank b).idle = true) :
    Map.get 0 (c.force p now).forced p = 0
      ∧ ∀ k ∈ pcBanks p, (c.force p now).bank k = { c.bank k with refresh := true, free := now + 700 * Map.get 0 c.forced p } := by
  have hbusy : ¬(Map.get 0 c.forced p = 0 ∨ (pcBanks p).any (fun b => !(c.bank b).idle) = true) := by
    rintro (h | h)
    · exact hn h
    · obtain ⟨b, hb, h⟩ := List.any_eq_true.mp h
      simp [hi b hb] at h
  unfold force
  rw [if_neg hbusy]
  dsimp only
  refine ⟨Map.get_set_same _ ?_, fun k hk => ?_⟩
  · rw [forced_foldl_setBank fun x => { x with refresh := true, free := now + 700 * Map.get 0 c.forced p }]
    obtain ⟨-, -, -, -, hforced⟩ := hc
    exact hforced
  · rw [bank_setForced, bank_foldl_setBank (fun x => { x with refresh := true, free := now + 700 * Map.get 0 c.forced p }) (pcBanks_nodup p) hc,
      if_pos hk]

/-- Whether a set is active depends on its last arrival and its queues. -/
theorem active_congr (hl : c'.lastArrival = c.lastArrival) (hq : ∀ k, (c'.bank k).queue = (c.bank k).queue) :
    c'.active g now = c.active g now := by
  simp only [active, hl, hq]

theorem postponed_congr (hd : ∀ k, (c'.bank k).debt = (c.bank k).debt) : c'.postponed g = c.postponed g := by
  simp only [postponed, hd]

/-- The largest of a list's values, and of a first one. -/
theorem foldl_max_spec (f : Nat → Nat) : ∀ (l : List Nat) (a : Nat), a ≤ l.foldl (fun m k => max m (f k)) a
    ∧ (∀ k ∈ l, f k ≤ l.foldl (fun m k => max m (f k)) a)
    ∧ (l.foldl (fun m k => max m (f k)) a = a ∨ ∃ k ∈ l, f k = l.foldl (fun m k => max m (f k)) a)
  | [], a => by simp
  | x :: l, a => by
    obtain ⟨hle, hall, heq⟩ := foldl_max_spec f l (max a (f x))
    rw [List.foldl_cons]
    refine ⟨by omega, List.forall_mem_cons.mpr ⟨by omega, hall⟩, ?_⟩
    rcases heq with heq | ⟨k, hk, heq⟩
    · rcases Nat.le_total a (f x) with h | h
      · exact .inr ⟨x, List.mem_cons_self, by omega⟩
      · exact .inl (by omega)
    · exact .inr ⟨k, List.mem_cons_of_mem _ hk, heq⟩

theorem due_refresh (h : (c.bank b).refresh = true) : c.due b now = c.setBank b { c.bank b with late := (c.bank b).late + 1 } := by
  simp only [due, h, if_true]

theorem due_inactive (h : (c.bank b).refresh = false) (ha : c.active (b / 4) now = false) :
    c.due b now = c.setBank b (if (c.bank b).access then { c.bank b with owed := true } else refreshing (c.bank b) now) := by
  simp only [due, h, ha, Bool.false_eq_true, if_false, Bool.not_false, if_true, Bank.refreshed, refreshing]

theorem due_postponed (h : (c.bank b).refresh = false) (ha : c.active (b / 4) now = true) (hp : c.postponed (b / 4) < 8) :
    c.due b now = c.setBank b { c.bank b with debt := (c.bank b).debt + 1 } := by
  simp only [due, h, ha, hp, Bool.false_eq_true, if_false, Bool.not_true, if_true]

/-- A ninth due of an active set forces all-bank refreshes for the largest debt of its pseudo-channel, which idle banks begin (R483). -/
theorem due_forced (hc : c.Rises) (h : (c.bank b).refresh = false) (ha : c.active (b / 4) now = true) (hp : 8 ≤ c.postponed (b / 4))
    (hi : ∀ k ∈ pcBanks (b / 16), (c.bank k).idle = true) (hf : Map.get 0 c.forced (b / 16) = 0) :
    ∃ m, (∀ k ∈ pcBanks (b / 16), ((c.bank k).debt + if k = b then 1 else 0) ≤ m)
      ∧ (∃ k ∈ pcBanks (b / 16), ((c.bank k).debt + if k = b then 1 else 0) = m)
      ∧ ∀ k ∈ pcBanks (b / 16), ((c.due b now).bank k).debt = 0 ∧ ((c.due b now).bank k).refresh = true
        ∧ ((c.due b now).bank k).free = now + 700 * m := by
  obtain ⟨-, hall, heq⟩ := foldl_max_spec (fun k => (c.bank k).debt + boolN (k == b)) (pcBanks (b / 16)) 0
  have hboolN (k : Nat) : boolN (k == b) = if k = b then 1 else 0 := by simp [boolN]
  simp only [hboolN] at hall heq
  have hcleared := bank_foldl_setBank (fun x => { x with debt := 0 }) (pcBanks_nodup (b / 16)) hc
  have hforced := forced_foldl_setBank (fun x => { x with debt := 0 }) (pcBanks (b / 16)) c
  have hrises : ((pcBanks (b / 16)).foldl (fun c k => c.setBank k { c.bank k with debt := 0 }) c).Rises := .foldl (·.setBank) hc
  simp only [due, h, ha, hp.not_gt, Bool.false_eq_true, if_false, Bool.not_true, hboolN]
  generalize (pcBanks (b / 16)).foldl (fun m k => max m ((c.bank k).debt + if k = b then 1 else 0)) 0 = m at *
  generalize (pcBanks (b / 16)).foldl (fun c k => c.setBank k { c.bank k with debt := 0 }) c = d at *
  have hb : b ∈ pcBanks (b / 16) := mem_pcBanks.mpr rfl
  have hm : m ≠ 0 := by
    have := hall b hb
    simp only [if_true] at this
    omega
  rw [hforced, hf, Nat.zero_add]
  have hget : Map.get 0 (Map.set 0 c.forced (b / 16) m) (b / 16) = m := by
    obtain ⟨-, -, -, -, hforces⟩ := hc
    exact Map.get_set_same _ hforces
  obtain ⟨-, hbegin⟩ := force_begins (c := { d with forced := Map.set 0 c.forced (b / 16) m }) (now := now) (p := b / 16)
    (hforced ▸ hrises.setForced) (hget.trans_ne hm) fun k hk => by
      rw [bank_setForced, hcleared, if_pos hk]
      exact hi k hk
  refine ⟨m, hall, heq.resolve_left hm, fun k hk => ?_⟩
  rw [hbegin k hk, bank_setForced, hcleared, if_pos hk, hget]
  exact ⟨rfl, rfl, rfl⟩

end Channel

end Sys2Proof.Machine
end

section
namespace Sys2Proof.Machine

open Sys2Proof.Claims

namespace Channel
variable {c c' c'' : Channel} {b g now : Nat} {x y : Bank}

/-! One bank of a channel changes (R475, R482, R483). -/

/-- The channel `c'` has `x` for bank `b`, and its other banks as `c` has them. -/
def BankSet (c c' : Channel) (b : Nat) (x : Bank) : Prop := c'.bank b = x ∧ ∀ k < 32, k ≠ b → c'.bank k = c.bank k

theorem BankSet.of_setBank (hc : c.Rises) (b : Nat) (x : Bank) : c.BankSet (c.setBank b x) b x :=
  ⟨bank_setBank_same hc b x, fun k _ hk => by rw [bank_setBank hc, if_neg hk]⟩

theorem BankSet.trans (h : c.BankSet c' b x) (h' : c'.BankSet c'' b y) : c.BankSet c'' b y :=
  ⟨h'.1, fun k hlt hk => (h'.2 k hlt hk).trans (h.2 k hlt hk)⟩

theorem active_setBank (hc : c.Rises) (hq : x.queue = (c.bank b).queue) : (c.setBank b x).active g now = c.active g now :=
  active_congr rfl fun k => by
    rw [bank_setBank hc]
    split
    · next hk => rw [hq, hk]
    · rfl

theorem postponed_setBank (hc : c.Rises) (hd : x.debt = (c.bank b).debt) : (c.setBank b x).postponed g = c.postponed g :=
  postponed_congr fun k => by
    rw [bank_setBank hc]
    split
    · next hk => rw [hd, hk]
    · rfl

/-- A bank's due is counted, and treated as R483 says. -/
def countDue (c : Channel) (b : Nat) : Channel := c.setBank b { c.bank b with dueNo := (c.bank b).dueNo + 1 }

theorem bank_countDue (hc : c.Rises) : (c.countDue b).bank b = { c.bank b with dueNo := (c.bank b).dueNo + 1 } := bank_setBank_same hc _ _

theorem active_countDue (hc : c.Rises) : (c.countDue b).active g now = c.active g now := active_setBank hc rfl
theorem postponed_countDue (hc : c.Rises) : (c.countDue b).postponed g = c.postponed g := postponed_setBank hc rfl

theorem BankSet.countDue (hc : c.Rises) (h : (c.countDue b).due b now = (c.countDue b).setBank b x) :
    c.BankSet ((c.countDue b).due b now) b x :=
  h ▸ (BankSet.of_setBank hc b _).trans (.of_setBank hc.setBank b x)

theorem countDue_refresh (hc : c.Rises) (hr : (c.bank b).refresh = true) :
    c.BankSet ((c.countDue b).due b now) b { c.bank b with dueNo := (c.bank b).dueNo + 1, late := (c.bank b).late + 1 } := by
  refine .countDue hc ?_
  rw [due_refresh (by rwa [bank_countDue hc]), bank_countDue hc]

theorem countDue_inactive (hc : c.Rises) (hr : (c.bank b).refresh = false) (ha : c.active (b / 4) now = false) :
    c.BankSet ((c.countDue b).due b now) b
      (if (c.bank b).access then { c.bank b with dueNo := (c.bank b).dueNo + 1, owed := true }
       else refreshing { c.bank b with dueNo := (c.bank b).dueNo + 1 } now) := by
  refine .countDue hc ?_
  rw [due_inactive (by rwa [bank_countDue hc]) (by rwa [active_countDue hc]), bank_countDue hc]

theorem countDue_postponed (hc : c.Rises) (hr : (c.bank b).refresh = false) (ha : c.active (b / 4) now = true)
    (hp : c.postponed (b / 4) < 8) :
    c.BankSet ((c.countDue b).due b now) b { c.bank b with dueNo := (c.bank b).dueNo + 1, debt := (c.bank b).debt + 1 } := by
  refine .countDue hc ?_
  rw [due_postponed (by rwa [bank_countDue hc]) (by rwa [active_countDue hc]) (by rwa [postponed_countDue hc]),
    bank_countDue hc]

theorem countDue_forced (hc : c.Rises) (hr : (c.bank b).refresh = false) (ha : c.active (b / 4) now = true)
    (hp : 8 ≤ c.postponed (b / 4)) (hi : ∀ k < 16, (c.bank (16 * (b / 16) + k)).idle = true) (hf : Map.get 0 c.forced (b / 16) = 0) :
    ∃ m, (∀ k < 16, ((c.bank (16 * (b / 16) + k)).debt + if 16 * (b / 16) + k = b then 1 else 0) ≤ m)
      ∧ (∃ k < 16, ((c.bank (16 * (b / 16) + k)).debt + if 16 * (b / 16) + k = b then 1 else 0) = m)
      ∧ ∀ k < 16, (((c.countDue b).due b now).bank (16 * (b / 16) + k)).debt = 0
        ∧ (((c.countDue b).due b now).bank (16 * (b / 16) + k)).refresh = true
        ∧ (((c.countDue b).due b now).bank (16 * (b / 16) + k)).free = now + 700 * m := by
  have hd : (c.countDue b).Rises := hc.setBank
  have hbank (k : Nat) : ((c.countDue b).bank k).debt = (c.bank k).debt ∧ ((c.countDue b).bank k).idle = (c.bank k).idle := by
    rw [countDue, bank_setBank hc]
    split
    · next hk => rw [hk]; exact ⟨rfl, rfl⟩
    · exact ⟨rfl, rfl⟩
  have hforced := due_forced hd (by rwa [bank_countDue hc]) (by rwa [active_countDue hc]) (by rwa [postponed_countDue hc])
    (forall_pcBanks.mpr fun k hk => (hbank _).2.trans (hi k hk)) hf
  simpa only [forall_pcBanks, exists_pcBanks, hbank] using hforced

/-! A refresh ends, and an access does (R475, R483). -/

/-- A bank's refresh is over, before the dues kept during it are treated. -/
def refreshOver (c : Channel) (b : Nat) : Channel := c.setBank b { c.bank b with refresh := false, late := 0 }

theorem bank_refreshOver (hc : c.Rises) : (c.refreshOver b).bank b = { c.bank b with refresh := false, late := 0 } := bank_setBank_same hc _ _
theorem active_refreshOver (hc : c.Rises) : (c.refreshOver b).active g now = c.active g now := active_setBank hc rfl
theorem postponed_refreshOver (hc : c.Rises) : (c.refreshOver b).postponed g = c.postponed g := postponed_setBank hc rfl

theorem endRefresh_eq (c : Channel) (b now : Nat) :
    c.endRefresh b now = ((c.refreshOver b).lateDues b now (c.bank b).late).force (b / 16) now := rfl

theorem endRefresh_none (hc : c.Rises) (hf : Map.get 0 c.forced (b / 16) = 0) (hl : (c.bank b).late = 0) :
    c.BankSet (c.endRefresh b now) b { c.bank b with refresh := false, late := 0 } := by
  rw [endRefresh_eq, hl, lateDues, force_waits (c := c.refreshOver b) (.inl hf)]
  exact .of_setBank hc _ _

/-- A due kept during a refresh is treated at its end. -/
theorem endRefresh_one (hc : c.Rises) (hf : Map.get 0 c.forced (b / 16) = 0) (hl : (c.bank b).late = 1)
    (hd : (c.refreshOver b).due b now = (c.refreshOver b).setBank b x) : c.BankSet (c.endRefresh b now) b x := by
  rw [endRefresh_eq, hl, lateDues, lateDues, hd, force_waits (c := (c.refreshOver b).setBank b x) (.inl hf)]
  exact (BankSet.of_setBank hc b _).trans (.of_setBank hc.setBank b x)

theorem endRefresh_inactive (hc : c.Rises) (hf : Map.get 0 c.forced (b / 16) = 0) (hl : (c.bank b).late = 1)
    (ha : c.active (b / 4) now = false) (hs : (c.bank b).access = false) :
    c.BankSet (c.endRefresh b now) b (refreshing { c.bank b with refresh := false, late := 0 } now) := by
  refine endRefresh_one hc hf hl ?_
  rw [due_inactive (by rw [bank_refreshOver hc]) (by rwa [active_refreshOver hc]), bank_refreshOver hc, if_neg (by simp [hs])]

theorem endRefresh_postponed (hc : c.Rises) (hf : Map.get 0 c.forced (b / 16) = 0) (hl : (c.bank b).late = 1)
    (ha : c.active (b / 4) now = true) (hp : c.postponed (b / 4) < 8) :
    c.BankSet (c.endRefresh b now) b { c.bank b with refresh := false, late := 0, debt := (c.bank b).debt + 1 } := by
  refine endRefresh_one hc hf hl ?_
  rw [due_postponed (by rw [bank_refreshOver hc]) (by rwa [active_refreshOver hc]) (by rwa [postponed_refreshOver hc]), bank_refreshOver hc]

theorem endAccess_none (hc : c.Rises) (hf : Map.get 0 c.forced (b / 16) = 0) :
    c.BankSet (c.endAccess b now) b
      (if (c.bank b).owed then refreshing { c.bank b with access := false } now else { c.bank b with access := false }) := by
  rw [endAccess, force_waits (c := c.setBank b _) (.inl hf)]
  exact .of_setBank hc _ _

/-- The last access of a pseudo-channel ends, and the refreshes forced begin. -/
theorem endAccess_forced (hc : c.Rises) (hf : Map.get 0 c.forced (b / 16) ≠ 0) (ho : (c.bank b).owed = false)
    (hr : (c.bank b).refresh = false) (hi : ∀ k < 16, 16 * (b / 16) + k ≠ b → (c.bank (16 * (b / 16) + k)).idle = true) :
    Map.get 0 (c.endAccess b now).forced (b / 16) = 0 ∧ ∀ k < 16,
      ((c.endAccess b now).bank (16 * (b / 16) + k)).refresh = true
        ∧ ((c.endAccess b now).bank (16 * (b / 16) + k)).free = now + 700 * Map.get 0 c.forced (b / 16) := by
  have hidle : ∀ k ∈ pcBanks (b / 16), ((c.setBank b { c.bank b with access := false }).bank k).idle = true :=
    forall_pcBanks.mpr fun k hk => by
      rw [bank_setBank hc]
      split
      · simp [Bank.idle, hr]
      · next hne => exact hi k hk hne
  obtain ⟨hforced, hbegin⟩ := force_begins (now := now) (hc.setBank (b := b) (x := { c.bank b with access := false })) hf hidle
  have hends : c.endAccess b now = (c.setBank b { c.bank b with access := false }).force (b / 16) now := by
    rw [endAccess, if_neg (by simp [ho])]
  rw [hends]
  refine ⟨hforced, fun k hk => ?_⟩
  rw [hbegin _ (mem_pcBanks.mpr (by omega))]
  exact ⟨rfl, rfl⟩

theorem inactive_of_payable (h : c.payable g = some now) : c.active g now = false := by
  obtain ⟨-, hq, ht⟩ := payable_eq_some.mp h
  have hnone : (setBanks g).any (fun b => !(c.bank b).queue.isEmpty) = false := by
    rw [← Bool.not_eq_true, any_setBanks]
    rintro ⟨k, hk, h⟩
    simp [hq k hk] at h
  simp only [active, hnone, Bool.or_false]
  by_cases h0 : Map.get 0 c.lastArrival g = 0
  · simp [h0]
  · rw [if_neg h0] at ht
    simp only [Bool.and_eq_false_iff, decide_eq_false_iff_not]
    exact .inr (by omega)

/-- An inactive set begins a per-bank refresh in each idle bank with a debt (R483). -/
theorem pay_bank (hc : c.Rises) (ha : c.active g now = false) (k : Nat) : (c.pay g now).bank k =
    if k / 4 = g ∧ (c.bank k).idle = true ∧ (c.bank k).debt ≠ 0 then { refreshing (c.bank k) now with debt := (c.bank k).debt - 1 }
    else c.bank k := by
  unfold pay
  rw [if_neg (by simp [ha])]
  obtain ⟨hin, hout⟩ := bank_foldl (P := Rises)
    (R := fun _ x y => y = if x.idle && x.debt != 0 then { x.refreshed now with debt := x.debt - 1 } else x)
    (f := fun c b => let x := c.bank b; if x.idle && x.debt != 0 then c.setBank b { x.refreshed now with debt := x.debt - 1 } else c)
    (fun {c b} hc => ⟨.ite hc.setBank hc, by dsimp only; split <;> simp [bank_setBank_same hc], fun k hk => by
      dsimp only; split <;> simp [bank_setBank hc, hk]⟩) (setBanks_nodup g) hc
  by_cases hk : k / 4 = g
  · simpa [hk, refreshing, Bank.refreshed] using hin k (mem_setBanks.mpr hk)
  · simpa [hk] using hout k (mt mem_setBanks.mp hk)

end Channel

end Sys2Proof.Machine
end

section
namespace Sys2Proof.Machine

open Sys2Proof.Claims

/-! The rows of a channel: each does something only where its event is the next, and happens at its own cycle (R482, R483). -/

theorem State.mem_arrivals {s : State} {ch : Nat} {e : Nat × MemEvent} (h : e ∈ s.arrivals ch) : ∃ k pa, e.2 = .arrive k pa := by
  simp only [State.arrivals, List.mem_flatMap, List.mem_filterMap] at h
  obtain ⟨p, -, r, -, hr⟩ := h
  split at hr
  · exact ⟨p.1, r.pa, by rw [← Option.some.inj hr]⟩
  · simp at hr

/-- A channel whose next event is its own does not rest. -/
theorem State.busy_of_next {s : State} {ch t : Nat} {e : MemEvent} (h : s.nextEvent ch = some (t, e)) (he : ∀ k pa, e ≠ .arrive k pa) :
    (t, e) ∈ (s.channel ch).events ∧ (s.channel ch).resting = false := by
  obtain ⟨-, hmem, -, -⟩ := State.nextEvent_some h
  have hevents : (t, e) ∈ (s.channel ch).events := (List.mem_append.mp hmem).resolve_left fun ha => by
    obtain ⟨k, pa, hk⟩ := State.mem_arrivals ha
    exact he k pa hk
  refine ⟨hevents, Bool.eq_false_iff.mpr fun hr => ?_⟩
  rw [Channel.events_resting hr] at hevents
  exact List.not_mem_nil hevents

/-- Such a channel is taken as it stands, at the cycle of the event. -/
theorem State.upTo_of_next {s : State} {ch t : Nat} {e : MemEvent} (h : s.nextEvent ch = some (t, e)) (he : ∀ k pa, e ≠ .arrive k pa) :
    (s.channel ch).upTo t = { s.channel ch with now := max (s.channel ch).now t } :=
  Channel.upTo_busy (State.busy_of_next h he).2

section
variable {s : State} {ch : Fin 512} {bank : Fin 32} {set : Fin 8} {t : Nat}

theorem channelRows_other : ∀ q ∈ channelRows ch bank set, (∀ t, s.nextEvent ch.val ≠ some (t, q.2)) → exec q.1 s = .next s := by
  unfold channelRows
  simp only [List.forall_mem_cons]
  exact ⟨State.takeEvent_other, State.takeEvent_other, State.takeEvent_other, State.takeEvent_other, State.takeEvent_other,
    State.takeEvent_other, by simp⟩

/-- The row changes one bank of its channel. -/
def State.Becomes (s : State) (ch : Fin 512) (bank : Fin 32) (i : Instr) (x : Bank) : Prop :=
  ∃ c', exec i s = .next (s.setChannel ch.val c') ∧ (s.channel ch.val).BankSet c' bank.val x

theorem refreshDue_next (hn : s.nextEvent ch.val = some (t, .due bank.val)) :
    exec (.refreshDue ch bank) s = .next (s.setChannel ch.val
      ((({ s.channel ch.val with now := max (s.channel ch.val).now t } : Channel).countDue bank.val).due bank.val t)) := by
  show s.takeEvent ch.val (· == .due bank.val) = _
  rw [State.takeEvent_next hn, ← State.upTo_of_next hn nofun]
  rfl

theorem refreshEnd_next (hn : s.nextEvent ch.val = some (t, .endRefresh bank.val)) :
    exec (.refreshEnd ch bank) s = .next (s.setChannel ch.val
      (({ s.channel ch.val with now := max (s.channel ch.val).now t } : Channel).endRefresh bank.val t)) := by
  show s.takeEvent ch.val (· == .endRefresh bank.val) = _
  rw [State.takeEvent_next hn, ← State.upTo_of_next hn nofun]
  rfl

theorem bankAccessEnd_next (hn : s.nextEvent ch.val = some (t, .endAccess bank.val)) :
    exec (.bankAccessEnd ch bank) s = .next (s.setChannel ch.val
      (({ s.channel ch.val with now := max (s.channel ch.val).now t } : Channel).endAccess bank.val t)) := by
  show s.takeEvent ch.val (· == .endAccess bank.val) = _
  rw [State.takeEvent_next hn, ← State.upTo_of_next hn nofun]
  rfl

theorem bankSetIdle_next (hn : s.nextEvent ch.val = some (t, .pay set.val)) :
    exec (.bankSetIdle ch set) s = .next (s.setChannel ch.val
      (({ s.channel ch.val with now := max (s.channel ch.val).now t } : Channel).pay set.val t)) := by
  show s.takeEvent ch.val (· == .pay set.val) = _
  rw [State.takeEvent_next hn, ← State.upTo_of_next hn nofun]
  rfl

/-- REFRESH_DUE: the due is kept for the end of a refresh, met at once, postponed, or forces all-bank refreshes (R483). -/
theorem refreshDue_row (hs : s.Sound) (hn : s.nextEvent ch.val = some (t, .due bank.val)) :
    let c := s.channel ch.val; let b := c.bank bank.val; let n := { b with dueNo := b.dueNo + 1 }
    (b.refresh = true → s.Becomes ch bank (.refreshDue ch bank) { n with late := b.late + 1 })
    ∧ (b.refresh = false → c.active (bank.val / 4) t = false →
        s.Becomes ch bank (.refreshDue ch bank) (if b.access then { n with owed := true } else refreshing n t))
    ∧ (b.refresh = false → c.active (bank.val / 4) t = true → c.postponed (bank.val / 4) < 8 →
        s.Becomes ch bank (.refreshDue ch bank) { n with debt := b.debt + 1 })
    ∧ (b.refresh = false → c.active (bank.val / 4) t = true → 8 ≤ c.postponed (bank.val / 4) →
        (∀ k < 16, (c.bank (16 * (bank.val / 16) + k)).idle = true) → Map.get 0 c.forced (bank.val / 16) = 0 →
        ∃ c' m, exec (.refreshDue ch bank) s = .next (s.setChannel ch.val c')
          ∧ (∀ k < 16, ((c.bank (16 * (bank.val / 16) + k)).debt + if 16 * (bank.val / 16) + k = bank.val then 1 else 0) ≤ m)
          ∧ (∃ k < 16, ((c.bank (16 * (bank.val / 16) + k)).debt + if 16 * (bank.val / 16) + k = bank.val then 1 else 0) = m)
          ∧ ∀ k < 16, (c'.bank (16 * (bank.val / 16) + k)).debt = 0 ∧ (c'.bank (16 * (bank.val / 16) + k)).refresh = true
            ∧ (c'.bank (16 * (bank.val / 16) + k)).free = t + 700 * m) := by
  have hc : ({ s.channel ch.val with now := max (s.channel ch.val).now t } : Channel).Rises := State.channel_rises hs ch.val
  have hexec := refreshDue_next hn
  refine ⟨fun hr => ⟨_, hexec, Channel.countDue_refresh hc hr⟩, fun hr ha => ⟨_, hexec, Channel.countDue_inactive hc hr ha⟩,
    fun hr ha hp => ⟨_, hexec, Channel.countDue_postponed hc hr ha hp⟩, fun hr ha hp hi hf => ?_⟩
  obtain ⟨m, hm⟩ := Channel.countDue_forced (now := t) hc hr ha hp hi hf
  exact ⟨_, m, hexec, hm⟩

/-- REFRESH_END: a due kept during the refresh is treated at its end (R482, R483). -/
theorem refreshEnd_row (hs : s.Sound) (hn : s.nextEvent ch.val = some (t, .endRefresh bank.val))
    (hf : Map.get 0 (s.channel ch.val).forced (bank.val / 16) = 0) :
    let c := s.channel ch.val; let b := c.bank bank.val; let ended := { b with refresh := false, late := 0 }
    (b.late = 0 → s.Becomes ch bank (.refreshEnd ch bank) ended)
    ∧ (b.late = 1 → c.active (bank.val / 4) t = false → b.access = false → s.Becomes ch bank (.refreshEnd ch bank) (refreshing ended t))
    ∧ (b.late = 1 → c.active (bank.val / 4) t = true → c.postponed (bank.val / 4) < 8 →
        s.Becomes ch bank (.refreshEnd ch bank) { ended with debt := b.debt + 1 }) := by
  have hc : ({ s.channel ch.val with now := max (s.channel ch.val).now t } : Channel).Rises := State.channel_rises hs ch.val
  have hexec := refreshEnd_next hn
  exact ⟨fun hl => ⟨_, hexec, Channel.endRefresh_none hc hf hl⟩, fun hl ha hb => ⟨_, hexec, Channel.endRefresh_inactive hc hf hl ha hb⟩,
    fun hl ha hp => ⟨_, hexec, Channel.endRefresh_postponed hc hf hl ha hp⟩⟩

/-- BANK_ACCESS_END: a refresh that waits for the access begins, and so do those forced where the other banks are idle (R475, R483). -/
theorem bankAccessEnd_row (hs : s.Sound) (hn : s.nextEvent ch.val = some (t, .endAccess bank.val)) :
    let c := s.channel ch.val; let b := c.bank bank.val; let ended := { b with access := false }; let p := bank.val / 16
    (Map.get 0 c.forced p = 0 → s.Becomes ch bank (.bankAccessEnd ch bank) (if b.owed then refreshing ended t else ended))
    ∧ (∀ n, Map.get 0 c.forced p = n → n ≠ 0 → b.owed = false → b.refresh = false →
        (∀ k < 16, 16 * p + k ≠ bank.val → (c.bank (16 * p + k)).idle = true) →
        ∃ c', exec (.bankAccessEnd ch bank) s = .next (s.setChannel ch.val c') ∧ Map.get 0 c'.forced p = 0
          ∧ ∀ k < 16, (c'.bank (16 * p + k)).refresh = true ∧ (c'.bank (16 * p + k)).free = t + 700 * n) := by
  have hc : ({ s.channel ch.val with now := max (s.channel ch.val).now t } : Channel).Rises := State.channel_rises hs ch.val
  have hexec := bankAccessEnd_next hn
  refine ⟨fun hf => ⟨_, hexec, Channel.endAccess_none hc hf⟩, fun n hf hn ho hr hi => ⟨_, hexec, ?_⟩⟩
  subst hf
  exact Channel.endAccess_forced hc hn ho hr hi

/-- BANK_SET_IDLE: each idle bank with a debt begins a refresh (R483). -/
theorem bankSetIdle_row (hs : s.Sound) (hn : s.nextEvent ch.val = some (t, .pay set.val)) :
    let c := s.channel ch.val
    ∃ c', exec (.bankSetIdle ch set) s = .next (s.setChannel ch.val c') ∧ ∀ k < 32, c'.bank k =
      if k / 4 = set.val ∧ (c.bank k).idle = true ∧ (c.bank k).debt ≠ 0
      then { refreshing (c.bank k) t with debt := (c.bank k).debt - 1 } else c.bank k := by
  have hc : ({ s.channel ch.val with now := max (s.channel ch.val).now t } : Channel).Rises := State.channel_rises hs ch.val
  obtain ⟨hmem, hbusy⟩ := State.busy_of_next hn nofun
  have ha : (s.channel ch.val).active set.val t = false :=
    Channel.inactive_of_payable ((Channel.mem_events_pay hbusy set.isLt).mp hmem)
  exact ⟨_, bankSetIdle_next hn, fun k _ => Channel.pay_bank hc ha k⟩

end

end Sys2Proof.Machine
end

section
namespace Sys2Proof.Machine

open Sys2Proof.Claims

/-! A channel is put in its place and its power word shown (R487). -/

@[simp] theorem State.channel_pokeNat (s : State) (loc n v k : Nat) : (s.pokeNat loc n v).channel k = s.channel k := rfl
@[simp] theorem State.channel_bump (s : State) (d : Fin 8) (off k : Nat) : (s.bump d off).channel k = s.channel k := rfl
@[simp] theorem State.channel_setHart (s : State) (i : HartId) (x : Hart) (k : Nat) : (s.setHart i x).channel k = s.channel k := rfl
@[simp] theorem State.channel_setDie (s : State) (d : Fin 8) (x : Die) (k : Nat) : (s.setDie d x).channel k = s.channel k := rfl
@[simp] theorem State.channel_showPower (s : State) (ch k : Nat) : (s.showPower ch).channel k = s.channel k := rfl

/-- The power word of a channel shows its power (R487). -/
def State.Shown (s : State) (ch : Nat) : Prop := s.peekNat (powerWord ch) 8 = (s.channel ch).power

section
variable {s : State} {ch : Nat} {c : Channel}

theorem State.putChannel_eq (s : State) (ch : Nat) (c : Channel) :
    s.putChannel ch c = if c.power = (s.channel ch).power then s.setChannel ch c else (s.setChannel ch c).showPower ch := rfl

theorem State.channel_putChannel (hs : s.Sound) (k : Nat) :
    (s.putChannel ch c).channel k = if k = ch then c else s.channel k := by
  have hset : (s.setChannel ch c).channel k = if k = ch then c else s.channel k := by
    split
    · next h => rw [h, State.channel_setChannel_same hs]
    · next h => exact State.channel_setChannel_other hs c h
  rw [State.putChannel_eq]
  split
  · exact hset
  · rw [State.channel_showPower, hset]

theorem State.channel_putChannel_same (hs : s.Sound) : (s.putChannel ch c).channel ch = c := by
  rw [State.channel_putChannel hs, if_pos rfl]

theorem State.putChannel_sound (hs : s.Sound) (hc : c.Rises) : (s.putChannel ch c).Sound :=
  (State.Evolves.refl.putChannel fun _ => hc).sound hs

theorem State.setChannel_sound (hs : s.Sound) (hc : c.Rises) : (s.setChannel ch c).Sound :=
  (State.Evolves.refl.setChannel fun _ => hc).sound hs

/-- A power word that was shown, or that changes, is shown. -/
theorem State.putChannel_shown (hs : s.Sound) (hc : c.Rises) (hp : c.power < 2 ^ 64) (h : s.Shown ch ∨ c.power ≠ (s.channel ch).power) :
    (s.putChannel ch c).Shown ch := by
  rw [State.Shown, State.channel_putChannel_same hs, State.putChannel_eq]
  split
  · next heq =>
    rw [State.peekNat_setChannel, h.resolve_right (· heq), heq]
  · rw [State.showPower, State.channel_setChannel_same hs]
    exact (State.peekNat_pokeNat_same (State.setChannel_sound hs hc) _ _).trans (Nat.mod_eq_of_lt hp)

/-- A word apart from the power words of the channel's die stays. -/
theorem State.peekNat_putChannel (hs : s.Sound) (hc : c.Rises) {a : Nat} (ha : a + 8 ≤ powerWord ch ∨ powerWord ch + 8 ≤ a) :
    (s.putChannel ch c).peekNat a 8 = s.peekNat a 8 := by
  rw [State.putChannel_eq]
  split
  · rw [State.peekNat_setChannel]
  · exact (State.peekNat_pokeNat_apart (State.setChannel_sound hs hc) ha).trans (State.peekNat_setChannel ..)

theorem State.putChannel_cycle : (s.putChannel ch c).cycle = s.cycle := by
  rw [State.putChannel_eq]; split <;> rfl

theorem State.putChannel_fresh : (s.putChannel ch c).fresh = s.fresh := by
  rw [State.putChannel_eq]; split <;> rfl

/-- The streams and the reads of the harts stay. -/
theorem State.hart_putChannel (i : HartId) : ((s.putChannel ch c).hart i).stm = (s.hart i).stm
    ∧ ((s.putChannel ch c).hart i).reads = (s.hart i).reads := by
  rw [State.putChannel_eq]
  split
  · exact ⟨rfl, rfl⟩
  · rw [State.showPower, State.pokeNat, State.hart_perform, Hart.observe_stm, Hart.observe_reads]
    exact ⟨rfl, rfl⟩

end

end Sys2Proof.Machine
end

section
namespace Sys2Proof.Machine

open Sys2Proof.Claims

namespace Channel
variable {c : Channel} {b g k now : Nat}

/-! A request joins the queue of its bank (R484, R486, R487). -/

/-- A set that waits for its first request takes its T0 from it, and counts its dues anew (R486). -/
def anchored (c : Channel) (g now : Nat) : Channel :=
  if Map.get false c.armed g then
    (setBanks g).foldl (fun c k => c.setBank k { c.bank k with dueNo := 0 })
      { c with armed := Map.set false c.armed g false, t0 := Map.set 0 c.t0 g now }
  else c

theorem anchored_rises (hc : c.Rises) : (c.anchored g now).Rises := .ite (.foldl (·.setBank) hc.anchor) hc

theorem bank_anchored (hc : c.Rises) (k : Nat) : (c.anchored g now).bank k =
    if Map.get false c.armed g = true ∧ k / 4 = g then { c.bank k with dueNo := 0 } else c.bank k := by
  unfold anchored
  split
  · next ha =>
    rw [bank_foldl_setBank (fun x => { x with dueNo := 0 }) (setBanks_nodup g) hc.anchor]
    simp only [mem_setBanks, ha, true_and]
    rfl
  · next ha => simp [ha]

/-- What an anchored set has for each set: armed no more, and T0 now. -/
theorem clock_anchored (hc : c.Rises) (e : Nat) :
    Map.get false (c.anchored g now).armed e = (if e = g then false else Map.get false c.armed e)
      ∧ Map.get 0 (c.anchored g now).t0 e = if e = g ∧ Map.get false c.armed g = true then now else Map.get 0 c.t0 e := by
  obtain ⟨-, ht0, -, harmed, -⟩ := hc
  unfold anchored
  split
  · next ha =>
    have honly := RefreshOnly.foldl (f := fun c k => c.setBank k { c.bank k with dueNo := 0 }) (l := setBanks g) (·.setBank)
      (.refl { c with armed := Map.set false c.armed g false, t0 := Map.set 0 c.t0 g now })
    rw [honly.armed, honly.t0]
    by_cases he : e = g
    · subst he; simp [ha, Map.get_set_same _ harmed, Map.get_set_same _ ht0]
    · simp [he, Map.get_set_other _ harmed he, Map.get_set_other _ ht0 he]
  · next ha =>
    by_cases he : e = g
    · subst he; simp [ha]
    · simp [he]

theorem power_anchored : (c.anchored g now).power = c.power := by
  unfold anchored
  split
  · exact (RefreshOnly.foldl (f := fun c k => c.setBank k { c.bank k with dueNo := 0 }) (l := setBanks g) (·.setBank)
      (.refl { c with armed := Map.set false c.armed g false, t0 := Map.set 0 c.t0 g now })).power
  · rfl

@[simp] theorem bank_wake : (c.wake now).bank k = c.bank k := by
  unfold wake
  split
  · rfl
  · split <;> rfl
@[simp] theorem armed_wake : (c.wake now).armed = c.armed := by
  unfold wake
  split
  · rfl
  · split <;> rfl
@[simp] theorem t0_wake : (c.wake now).t0 = c.t0 := by
  unfold wake
  split
  · rfl
  · split <;> rfl

theorem wake_sleeping (h : c.power % 4 = 1 ∨ c.power % 4 = 2) : c.wake now = c.change 0 (now + leaving (c.power % 4)) := if_pos h

theorem wake_changing (h : c.power % 4 = 3) : c.wake now = { c with called := true } := by
  rw [wake, state, if_neg (by omega), if_pos h]

/-- The channel with a request in the queue of its bank, before it wakes. -/
def queued (c : Channel) (b : Nat) (who : Option Nat) (now : Nat) : Channel :=
  let d := c.anchored (b / 4) now
  ({ d with lastArrival := Map.set 0 d.lastArrival (b / 4) (now + 1) } : Channel).setBank b
    { d.bank b with queue := (d.bank b).queue ++ [(who, now)] }

theorem take_eq (c : Channel) (b : Nat) (who : Option Nat) (now : Nat) : c.take b who now = (c.queued b who now).wake now := rfl

variable {who : Option Nat}

theorem bank_take (hc : c.Rises) : (c.take b who now).bank b =
    { c.bank b with dueNo := if Map.get false c.armed (b / 4) = true then 0 else (c.bank b).dueNo,
                    queue := (c.bank b).queue ++ [(who, now)] } := by
  rw [take_eq, bank_wake, queued, bank_setBank_same (anchored_rises hc).arrival, bank_anchored hc]
  by_cases ha : Map.get false c.armed (b / 4) = true <;> simp [ha]

theorem clock_take (hc : c.Rises) : Map.get false (c.take b who now).armed (b / 4) = false
    ∧ (Map.get false c.armed (b / 4) = true → Map.get 0 (c.take b who now).t0 (b / 4) = now) := by
  obtain ⟨harmed, ht0⟩ := clock_anchored (g := b / 4) (now := now) hc (b / 4)
  rw [take_eq, armed_wake, t0_wake]
  refine ⟨harmed.trans (if_pos rfl), fun ha => ht0.trans (if_pos ⟨rfl, ha⟩)⟩

theorem power_queued : (c.queued b who now).power = c.power := power_anchored

end Channel

end Sys2Proof.Machine
end

section
namespace Sys2Proof.Machine

open Sys2Proof.Claims

/-! MEMORY_REQUEST_ARRIVE and MEMORY_REQUEST_SERVE (R33, R484, R486, R487). -/

/-- Where a line lies depends on the boot configuration alone (R478, R479). -/
theorem State.bankOf_setChannel (s : State) (ch : Nat) (c : Channel) (pa : Nat) : (s.setChannel ch c).bankOf pa = s.bankOf pa := rfl
theorem State.bankOf_bump (s : State) (d : Fin 8) (off pa : Nat) : (s.bump d off).bankOf pa = s.bankOf pa := rfl

/-- Another request of a hart than those on their way sets out now. -/
def State.setsOut (s : State) (h : HartId) (pa : Nat) : State :=
  if (s.hart h).reads.any (fun r => !r.queued && r.pa == pa) then s
  else s.setHart h { s.hart h with reads := (s.hart h).reads ++
    [{ pa := pa, arrives := s.cycle, counts := false, dest := none, queued := false, usable := none }] }

theorem State.setsOut_evolves (s : State) (h : HartId) (pa : Nat) : s.Evolves (s.setsOut h pa) := .ite .refl (.setHart .refl)

theorem State.bankOf_setsOut (s : State) (h : HartId) (pa pa' : Nat) : (s.setsOut h pa).bankOf pa' = s.bankOf pa' := by
  unfold State.setsOut
  split <;> rfl

theorem memoryRequestArrive_nowhere {s : State} {h : HartId} {pa : Nat} (hb : s.bankOf pa = none) :
    exec (.memoryRequestArrive h pa) s = .next (s.setsOut h pa) := by
  show (match (s.setsOut h pa).bankOf pa with
    | some (ch, _) => (s.setsOut h pa).takeEvent ch (· == MemEvent.arrive (hartKey h) pa)
    | none => .next (s.setsOut h pa)) = _
  rw [State.bankOf_setsOut, hb]

theorem memoryRequestArrive_takes {s : State} {h : HartId} {pa k j : Nat} (hb : s.bankOf pa = some (k, j)) :
    exec (.memoryRequestArrive h pa) s = (s.setsOut h pa).takeEvent k (· == .arrive (hartKey h) pa) := by
  show (match (s.setsOut h pa).bankOf pa with
    | some (ch, _) => (s.setsOut h pa).takeEvent ch (· == MemEvent.arrive (hartKey h) pa)
    | none => .next (s.setsOut h pa)) = _
  rw [State.bankOf_setsOut, hb]

/-- The reads of a hart that a read's arrival leaves: those on their way elsewhere, and one for a register, which is now queued. -/
theorem Hart.mem_readArrived {x : Hart} {pa now : Nat} {r : Read} : r ∈ (x.readArrived pa now).reads ↔
    (r ∈ x.reads ∧ (!r.queued && r.pa == pa && r.arrives == now) = false)
      ∨ ∃ r' ∈ x.reads, (!r'.queued && r'.pa == pa && r'.arrives == now) = true ∧ r'.dest.isSome = true ∧ r = { r' with queued := true } := by
  simp only [Hart.readArrived, List.mem_flatMap]
  constructor
  · rintro ⟨r', hr', hr⟩
    split at hr
    · next his =>
      split at hr
      · next hdest => exact .inr ⟨r', hr', his, hdest, by simpa using hr⟩
      · simp at hr
    · next his =>
      obtain rfl := List.mem_singleton.mp hr
      exact .inl ⟨hr', by simpa using his⟩
  · rintro (⟨hr, his⟩ | ⟨r', hr', his, hdest, rfl⟩)
    · exact ⟨r, hr, by simp [his]⟩
    · exact ⟨r', hr', by simp [his, hdest]⟩

/-- A request that arrives queues at its bank, anchors an armed set, and wakes its channel. -/
theorem State.arrive_row {u : State} (hu : u.Sound) {h : HartId} {pa k j t : Nat} (hb : u.bankOf pa = some (k, j)) :
    let o := (u.channel k).upTo t; o.power < 2 ^ 7 →
      let is := fun (r : Read) => !r.queued && r.pa == pa && r.arrives == t
      let q := u.channelEvent k t (.arrive (hartKey h) pa)
      let c' := q.channel k
      (c'.bank j).queue = (o.bank j).queue ++ [(if (u.hart h).reads.any (fun r => is r && r.counts) then some (hartKey h) else none, t)]
      ∧ Map.get false c'.armed (j / 4) = false
      ∧ (Map.get false o.armed (j / 4) = true → Map.get 0 c'.t0 (j / 4) = t ∧ (c'.bank j).dueNo = 0)
      ∧ (o.power % 4 = 1 ∨ o.power % 4 = 2 → c'.power % 4 = 3 ∧ c'.changing = some (0, t + leaving (o.power % 4))
          ∧ q.peekNat (powerWord k) 8 = c'.power)
      ∧ (o.power % 4 = 3 → c'.called = true)
      ∧ ∀ r, r ∈ (q.hart h).reads ↔ (r ∈ (u.hart h).reads ∧ is r = false)
          ∨ ∃ r' ∈ (u.hart h).reads, is r' = true ∧ r'.dest.isSome = true ∧ r = { r' with queued := true } := by
  intro o hpower is q c'
  have ho : o.Rises := (State.channel_rises hu k).upTo
  have hold : (u.channel k).power = o.power := (Channel.RefreshOnly.refl _).upTo.power.symm
  set who := if (u.hart h).reads.any (fun r => is r && r.counts) then some (hartKey h) else none with hwho
  have hq : q = (u.putChannel k (o.take j who t)).setHart h ((u.hart h).readArrived pa t) := by
    simp only [q, State.channelEvent, hartIdOf_hartKey, hb]
    rfl
  have hc' : c' = o.take j who t := by
    simp only [c', hq, State.channel_setHart, State.channel_putChannel_same hu]
  obtain ⟨harmed, ht0⟩ := Channel.clock_take (b := j) (who := who) (now := t) ho
  have hbank := Channel.bank_take (b := j) (who := who) (now := t) ho
  have hreads : (q.hart h).reads = ((u.hart h).readArrived pa t).reads := by
    obtain ⟨⟨harts, -⟩, -⟩ := State.putChannel_sound (ch := k) hu (ho.take (b := j) (who := who) (now := t))
    rw [hq, State.hart_setHart_same harts]
  rw [hc', hbank, hreads]
  refine ⟨rfl, harmed, fun ha => ⟨ht0 ha, by simp [ha]⟩, fun hsleep => ?_, fun hchange => ?_, fun r => Hart.mem_readArrived⟩
  · have hwoken : o.take j who t = (o.queued j who t).change 0 (t + leaving (o.power % 4)) := by
      rw [Channel.take_eq, Channel.wake_sleeping (by rwa [Channel.power_queued]), Channel.power_queued]
    have hpow : (o.take j who t).power = o.power / 4 * 4 + 3 := by
      rw [hwoken, Channel.change, Channel.power_queued]
    refine ⟨by omega, by rw [hwoken]; rfl, ?_⟩
    rw [hq, State.peekNat_setHart]
    have hshown := State.putChannel_shown hu ho.take (c := o.take j who t) (ch := k) (by omega) (.inr (by omega))
    rwa [State.Shown, State.channel_putChannel_same hu] at hshown
  · rw [Channel.take_eq, Channel.wake_changing (by rwa [Channel.power_queued])]

/-- The state with a channel put in its place as its request is served, and with an error that is corrected counted (R497). -/
def State.servedWith (s : State) (ch : Fin 512) (c : Channel) : State :=
  if Config.corrected ch.val s.fresh then (s.setChannel ch.val c).bump (Fin.ofNat 8 (ch.val / 64)) 0x40 else s.setChannel ch.val c

/-- The channel with the oldest request of a bank taken, which makes it busy for 96 cycles (R475, R484). -/
def Channel.servedBy (c : Channel) (b t : Nat) (q : List (Option Nat × Nat)) : Channel :=
  ({ c with now := max c.now t } : Channel).setBank b { c.bank b with access := true, free := t + 96, queue := q }

section
variable {s : State} {ch : Fin 512} {bank : Fin 32} {c : Channel} {t : Nat} {q : List (Option Nat × Nat)}

theorem State.memoryRequestServe_next {k : Option Nat} {a : Nat} (hn : s.nextEvent ch.val = some (t, .serve bank.val))
    (hq : ((s.channel ch.val).bank bank.val).queue = (k, a) :: q) :
    exec (.memoryRequestServe ch bank) s = .next (match k with
      | none => s.servedWith ch ((s.channel ch.val).servedBy bank.val t q)
      | some n => (s.servedWith ch ((s.channel ch.val).servedBy bank.val t q)).readServed ch.val bank.val n a t) := by
  show s.takeEvent ch.val (· == .serve bank.val) = _
  rw [State.takeEvent_next hn]
  simp only [State.channelEvent, State.upTo_of_next hn nofun, Channel.bank_setNow, hq]
  cases k <;> rfl

theorem State.channel_servedWith (hs : s.Sound) : (s.servedWith ch c).channel ch.val = c := by
  unfold State.servedWith
  split
  · rw [State.channel_bump, State.channel_setChannel_same hs]
  · exact State.channel_setChannel_same hs _ _

theorem State.peekNat_servedWith (hs : s.Sound) (hc : c.Rises) : let f := 0xB0000 + ch.val / 64 * 0x1000 + 0x40
    (s.servedWith ch c).peekNat f 8 = (if Config.corrected ch.val s.fresh = true then oneMore s f else s.peekNat f 8) := by
  have hdie : (Fin.ofNat 8 (ch.val / 64)).val = ch.val / 64 := Nat.mod_eq_of_lt (by omega)
  have hbump := State.peekNat_bump_same (State.setChannel_sound (ch := ch.val) hs hc) (Fin.ofNat 8 (ch.val / 64)) 0x40
  rw [hdie] at hbump
  unfold State.servedWith
  dsimp only
  split
  · rw [hbump, oneMore, oneMore, State.peekNat_setChannel]
  · rw [State.peekNat_setChannel]

theorem State.hart_servedWith (i : HartId) : ((s.servedWith ch c).hart i).latcnt = (s.hart i).latcnt
    ∧ ((s.servedWith ch c).hart i).reads = (s.hart i).reads := by
  unfold State.servedWith
  split
  · rw [State.bump, State.pokeNat, State.hart_perform, Hart.observe_latcnt, Hart.observe_reads]
    exact ⟨rfl, rfl⟩
  · exact ⟨rfl, rfl⟩

theorem State.bankOf_servedWith (pa : Nat) : (s.servedWith ch c).bankOf pa = s.bankOf pa := by
  unfold State.servedWith
  split
  · rw [State.bankOf_bump, State.bankOf_setChannel]
  · rw [State.bankOf_setChannel]

theorem State.servedWith_sound (hs : s.Sound) (hc : c.Rises) : (s.servedWith ch c).Sound := by
  have hset := State.Evolves.refl.setChannel (s := s) (ch := ch.val) (x := c) fun _ => hc
  exact (State.Evolves.ite hset.bump hset).sound hs

theorem Channel.servedBy_bankSet (hc : c.Rises) :
    c.BankSet (c.servedBy bank.val t q) bank.val { c.bank bank.val with access := true, free := t + 96, queue := q } :=
  .of_setBank (c := { c with now := max c.now t }) hc _ _

theorem Channel.servedBy_rises (hc : c.Rises) {b : Nat} : (c.servedBy b t q).Rises := .setBank (c := { c with now := max c.now t }) hc

theorem hops_eq (d : Fin 8) {e : Nat} (he : e < 8) : hops d.val e = hopsBetween d.val e := by
  simp only [hops, hopsBetween]
  rw [show d.val / 4 % 2 = d.val / 4 by omega, show e / 4 % 2 = e / 4 by omega]

end

/-- The oldest request of a bank is served: the bank is busy for 96 cycles, and its hart's wait is counted (R33, R475, R484). -/
theorem State.serve_row {s : State} (hs : s.Sound) {ch : Fin 512} {bank : Fin 32} {t : Nat} {k : Option Nat} {a : Nat}
    {q : List (Option Nat × Nat)} (hn : s.nextEvent ch.val = some (t, .serve bank.val))
    (hq : ((s.channel ch.val).bank bank.val).queue = (k, a) :: q) :
    let c := s.channel ch.val; let b := c.bank bank.val; let f := 0xB0000 + ch.val / 64 * 0x1000 + 0x40
    ∃ u, exec (.memoryRequestServe ch bank) s = .next u
      ∧ (u.channel ch.val).bank bank.val = { b with access := true, free := t + 96, queue := q }
      ∧ (∀ j < 32, j ≠ bank.val → (u.channel ch.val).bank j = c.bank j)
      ∧ u.peekNat f 8 = (if Config.corrected ch.val s.fresh = true then oneMore s f else s.peekNat f 8)
      ∧ (k = none → ∀ i, (u.hart i).latcnt = (s.hart i).latcnt ∧ (u.hart i).reads = (s.hart i).reads)
      ∧ ∀ n, k = some n → let i := hartIdOf n
        (u.hart i).latcnt = (s.hart i).latcnt + BitVec.ofNat 64 (t - a)
        ∧ (u.hart i).reads = (s.hart i).reads.map fun r =>
            if r.queued = true ∧ r.usable = none ∧ r.arrives = a ∧ s.bankOf r.pa = some (ch.val, bank.val)
            then { r with usable := some (t + 200 + 20 * hopsBetween i.die.val (ch.val / 64)) } else r := by
  intro c b f
  have hc := State.channel_rises hs ch.val
  have hnext := State.memoryRequestServe_next hn hq
  have hchannel := State.channel_servedWith (ch := ch) (c := c.servedBy bank.val t q) hs
  obtain ⟨hbank, hothers⟩ := Channel.servedBy_bankSet (bank := bank) (t := t) (q := q) hc
  have hword := State.peekNat_servedWith (ch := ch) hs (Channel.servedBy_rises hc (b := bank.val) (t := t) (q := q))
  cases k with
  | none =>
    exact ⟨_, hnext, hchannel.symm ▸ hbank, hchannel.symm ▸ hothers, hword, fun _ => State.hart_servedWith, fun n hk => by simp at hk⟩
  | some n =>
    refine ⟨_, hnext, hchannel.symm ▸ hbank, hchannel.symm ▸ hothers, (State.peekNat_setHart ..).trans hword, fun hk => by simp at hk,
      fun m hm => ?_⟩
    obtain rfl := Option.some.inj hm
    obtain ⟨⟨harts, -⟩, -⟩ := State.servedWith_sound (ch := ch) hs (Channel.servedBy_rises hc (b := bank.val) (t := t) (q := q))
    obtain ⟨hlat, hreads⟩ := State.hart_servedWith (s := s) (ch := ch) (c := c.servedBy bank.val t q) (hartIdOf n)
    dsimp only
    rw [State.readServed, State.hart_setHart_same harts, hlat, hreads]
    refine ⟨rfl, List.map_congr_left fun r _ => ?_⟩
    simp only [State.bankOf_servedWith, Bool.and_eq_true, beq_iff_eq, Option.isNone_iff_eq_none, and_assoc, hops_eq _ (show ch.val / 64 < 8 by omega)]

end Sys2Proof.Machine
end

section
namespace Sys2Proof.Machine

open Sys2Proof.Claims

/-! Power states of a channel: what a request leads to (R486, R487, R488). -/

theorem bitAt_iff {x n : Nat} : bitAt x n = true ↔ x / 2 ^ n % 2 = 1 := by simp [bitAt]

namespace Channel
variable {c : Channel} {req now : Nat} {force live : Bool}

/-- The channel with a request in its power word (R487). -/
def asking (c : Channel) (req : Nat) (force : Bool) : Channel :=
  { c with power := c.power % 4 + req * 4 + boolN force * 16 + c.power / 32 * 32 }

theorem asking_power (hp : c.power < 2 ^ 7) (hr : req < 4) :
    (c.asking req force).power < 2 ^ 7 ∧ (c.asking req force).power % 4 = c.power % 4 ∧ (c.asking req force).power / 4 % 4 = req
      ∧ bitAt (c.asking req force).power 4 = force ∧ (c.asking req force).power / 2 ^ 5 % 2 = c.power / 2 ^ 5 % 2 := by
  rw [Bool.eq_iff_iff, bitAt_iff, asking]
  cases force <;> simp only [boolN, Bool.false_eq_true, if_false, if_true, iff_true, iff_false] <;> omega

/-- The channel as it begins to enter a low-power state: SAVED is set where accumulators are live, and to enter SREF its debts are paid
(R487, R488). -/
def entering (c : Channel) (req now : Nat) (live : Bool) : Channel :=
  let d := (c.defer false).save (live || bitAt c.power 6)
  (if req = 2 then d.payAll now else d).change req now

theorem entering_rises (hc : c.Rises) : (c.entering req now live).Rises := .change (.ite hc.defer.save.payAll hc.defer.save)

theorem entering_power :
    (c.entering req now live).power < 2 ^ 7 ∧ (c.entering req now live).power % 4 = 3
      ∧ (live = true → (c.entering req now live).power / 2 ^ 6 % 2 = 1) := by
  have hpower : (c.entering req now live).power = ((c.defer false).save (live || bitAt c.power 6)).power / 4 * 4 + 3 := by
    have hpay := (RefreshOnly.refl ((c.defer false).save (live || bitAt c.power 6))).payAll (now := now)
    unfold entering change
    dsimp only
    split
    · rw [hpay.power]
    · rfl
  have hbit : boolN (live || bitAt c.power 6) ≤ 1 := by unfold boolN; split <;> omega
  rw [hpower]
  simp only [save, defer, boolN, Bool.false_eq_true, if_false] at hbit ⊢
  refine ⟨by omega, by omega, fun hl => ?_⟩
  rw [hl, Bool.true_or, if_pos rfl]
  omega

end Channel

section
variable {s : State} {ch : Nat} {c : Channel}

/-- Accumulators are live in a unit by what the streams of the harts hold (R488). -/
theorem State.unitLive_putChannel (ch' : Nat) : (s.putChannel ch c).unitLive ch' = s.unitLive ch' := by
  rw [State.putChannel_eq]
  split
  · rfl
  · simp only [State.unitLive, State.showPower, State.pokeNat, State.perform_harts, List.any_map, Function.comp_def, Hart.observe_stm]
    rfl

theorem State.poolAt_putChannel (ch' : Nat) : (s.putChannel ch c).poolAt ch' = s.poolAt ch' := by
  rw [State.putChannel_eq]
  split
  · rfl
  · simp only [State.poolAt, State.showPower, State.pokeNat, State.perform_harts, List.flatMap_map, Hart.observe_stm]
    rfl

/-- A die is in trace mode by bit 0 of its REFCTL (R486). -/
theorem State.tracing_iff {d : Nat} : s.tracing d = true ↔ s.peekNat (refctl d) 8 % 2 = 1 := by
  rw [State.tracing, bitAt_iff]
  simp [refctl, controlBlock]

theorem refctl_apart (ch d : Nat) : refctl d + 8 ≤ powerWord ch ∨ powerWord ch + 8 ≤ refctl d := by
  unfold refctl powerWord
  omega

theorem State.tracing_putChannel (hs : s.Sound) (hc : c.Rises) (d : Nat) : (s.putChannel ch c).tracing d = s.tracing d := by
  rw [Bool.eq_iff_iff, State.tracing_iff, State.tracing_iff, State.peekNat_putChannel hs hc (refctl_apart ch d)]

/-! Which way a request is served. -/

section
variable (ha : (s.channel ch).asked = none)
include ha

theorem State.request_upTo : ((s.channel ch).upTo s.cycle).request = ((s.channel ch).power / 4 % 4, bitAt (s.channel ch).power 4) := by
  have honly := (Channel.RefreshOnly.refl (s.channel ch)).upTo (now := s.cycle)
  rw [Channel.request, honly.asked, honly.power, ha]
  rfl

theorem State.servePower_keeps (h : (s.channel ch).power % 4 = 3 ∨ (s.channel ch).power / 4 % 4 = 0) :
    s.servePower ch = s.putChannel ch ((s.channel ch).upTo s.cycle) := by
  have honly := (Channel.RefreshOnly.refl (s.channel ch)).upTo (now := s.cycle)
  simp only [State.servePower, State.request_upTo ha, Channel.state, honly.power]
  rw [if_pos h]

theorem State.servePower_wakes (h : (s.channel ch).power % 4 = 1 ∨ (s.channel ch).power % 4 = 2) (hr : (s.channel ch).power / 4 % 4 = 3) :
    s.servePower ch = s.putChannel ch (((s.channel ch).upTo s.cycle).change 0 (s.cycle + leaving ((s.channel ch).power % 4))) := by
  have honly := (Channel.RefreshOnly.refl (s.channel ch)).upTo (now := s.cycle)
  simp only [State.servePower, State.request_upTo ha, Channel.state, honly.power]
  rw [if_neg (by omega), if_pos hr, if_neg (by omega)]
  rfl

section
variable (h : (s.channel ch).power % 4 = 0) (hr : (s.channel ch).power / 4 % 4 = 1 ∨ (s.channel ch).power / 4 % 4 = 2)
include h hr

theorem State.servePower_traced (ht : s.tracing (ch / 64) = true) :
    s.servePower ch = s.putChannel ch ((s.channel ch).upTo s.cycle) := by
  have honly := (Channel.RefreshOnly.refl (s.channel ch)).upTo (now := s.cycle)
  simp only [State.servePower, State.request_upTo ha, Channel.state, honly.power]
  rw [if_neg (by omega), if_neg (by omega), if_pos ht]

theorem State.servePower_defers (ht : s.tracing (ch / 64) = false) (hl : s.unitLive ch = true) (hf : bitAt (s.channel ch).power 4 = false) :
    s.servePower ch = s.putChannel ch (((s.channel ch).upTo s.cycle).defer true) := by
  have honly := (Channel.RefreshOnly.refl (s.channel ch)).upTo (now := s.cycle)
  simp only [State.servePower, State.request_upTo ha, Channel.state, honly.power]
  rw [if_neg (by omega), if_neg (by omega), if_neg (by simp [ht]), if_neg (by omega), if_pos (by simp [hl, hf])]

theorem State.servePower_enters (ht : s.tracing (ch / 64) = false) (hl : s.unitLive ch = false ∨ bitAt (s.channel ch).power 4 = true) :
    s.servePower ch
      = s.putChannel ch (((s.channel ch).upTo s.cycle).entering ((s.channel ch).power / 4 % 4) s.cycle (s.unitLive ch)) := by
  have honly := (Channel.RefreshOnly.refl (s.channel ch)).upTo (now := s.cycle)
  simp only [State.servePower, State.request_upTo ha, Channel.state, honly.power]
  rw [if_neg (by omega), if_neg (by omega), if_neg (by simp [ht]), if_neg (by omega), if_neg (by rcases hl with hl | hl <;> simp [hl]),
    Channel.entering, honly.power]

end

end

/-! The power word of a channel after a request (R487). -/

/-- Instruction `i` leaves the power word of the channel showing its power, and the channel with the property `P` (R487). -/
def State.Ends (s : State) (ch : Nat) (i : Instr) (P : State → Channel → Prop) : Prop :=
  ∃ t, exec i s = .next t ∧ t.peekNat (powerWord ch) 8 = (t.channel ch).power ∧ P t (t.channel ch)

theorem State.Ends.mono {i : Instr} {P Q : State → Channel → Prop} (h : s.Ends ch i P) (hPQ : ∀ t c, P t c → Q t c) : s.Ends ch i Q := by
  obtain ⟨t, he, hw, hP⟩ := h
  exact ⟨t, he, hw, hPQ t _ hP⟩

theorem State.Ends.of_putChannel {i : Instr} {u : State} {P : State → Channel → Prop} (hu : u.Sound) (hc : c.Rises) (hp : c.power < 2 ^ 7)
    (hshown : u.Shown ch) (he : exec i s = .next (u.putChannel ch c)) (hP : P (u.putChannel ch c) c) : s.Ends ch i P := by
  have hchannel := State.channel_putChannel_same (ch := ch) (c := c) hu
  exact ⟨_, he, State.putChannel_shown hu hc (by omega) (.inl hshown), hchannel.symm ▸ hP⟩

end

end Sys2Proof.Machine
end

section
namespace Sys2Proof.Machine

open Sys2Proof.Claims

/-! Requests for a power state, and deferred ones (R487, R488). -/

/-- In `u` the channel is `a`, with its power word shown, and what else decides how a request is served is as in `s`. -/
structure State.Asks (s u : State) (ch : Nat) (a : Channel) : Prop where
  sound : u.Sound
  shown : u.Shown ch
  channel : u.channel ch = a
  cycle : u.cycle = s.cycle
  live : u.unitLive ch = s.unitLive ch
  tracing : u.tracing (ch / 64) = s.tracing (ch / 64)

namespace State.Asks
variable {s u : State} {ch : Nat} {a d : Channel} {i : Instr}

theorem refl (hs : s.Sound) (hshown : s.Shown ch) : s.Asks s ch (s.channel ch) := ⟨hs, hshown, rfl, rfl, rfl, rfl⟩

theorem put (h : s.Asks u ch a) (hd : d.Rises) (hp : d.power < 2 ^ 7) : s.Asks (u.putChannel ch d) ch d :=
  ⟨putChannel_sound h.sound hd, putChannel_shown h.sound hd (by omega) (.inl h.shown), channel_putChannel_same h.sound,
    putChannel_cycle.trans h.cycle, (unitLive_putChannel _).trans h.live, (tracing_putChannel h.sound hd _).trans h.tracing⟩

theorem rises (h : s.Asks u ch a) : a.Rises := h.channel ▸ channel_rises h.sound ch

/-- The channel that the request leads to is put in place, with its power word shown. -/
theorem ends (h : s.Asks u ch a) (he : exec i s = .next (u.putChannel ch d)) (hd : d.Rises) (hp : d.power < 2 ^ 7) :
    s.Ends ch i fun _ c => c = d := .of_putChannel h.sound hd hp h.shown he rfl

section
variable (h : s.Asks u ch a) (he : exec i s = .next (u.servePower ch)) (ha : a.asked = none) (hp : a.power < 2 ^ 7)
include h he ha hp

/-- Without a request to serve, or while it changes, the channel stays. -/
theorem keeps (hk : a.power % 4 = 3 ∨ a.power / 4 % 4 = 0) : s.Ends ch i fun _ c => a.RefreshOnly c := by
  have honly := (Channel.RefreshOnly.refl a).upTo (now := s.cycle)
  obtain ⟨-, -, rfl, hcycle, -, -⟩ := id h
  rw [servePower_keeps ha hk, hcycle] at he
  exact (h.ends he h.rises.upTo (honly.power ▸ hp)).mono fun _ c hc => hc ▸ honly

/-- A request for ACTIVE wakes a channel in PDOWN or SREF. -/
theorem wakes (hw : a.power % 4 = 1 ∨ a.power % 4 = 2) (hr : a.power / 4 % 4 = 3) :
    s.Ends ch i fun _ c => c.power % 4 = 3 ∧ c.changing = some (0, s.cycle + leaving (a.power % 4)) := by
  have honly := (Channel.RefreshOnly.refl a).upTo (now := s.cycle)
  obtain ⟨-, -, rfl, hcycle, -, -⟩ := id h
  rw [servePower_wakes ha hw hr, hcycle] at he
  have hpower : (((u.channel ch).upTo s.cycle).change 0 (s.cycle + leaving ((u.channel ch).power % 4))).power
    = (u.channel ch).power / 4 * 4 + 3 := by rw [Channel.change, honly.power]
  refine (h.ends he h.rises.upTo.change (by omega)).mono fun _ c hc => ?_
  rw [hc, hpower]
  exact ⟨by omega, rfl⟩

section
variable (h0 : a.power % 4 = 0) (hr : a.power / 4 % 4 = 1 ∨ a.power / 4 % 4 = 2)
include h0 hr

/-- In trace mode a request for a low-power state waits (R486). -/
theorem traced (ht : s.peekNat (refctl (ch / 64)) 8 % 2 = 1) : s.Ends ch i fun _ c => a.RefreshOnly c := by
  have honly := (Channel.RefreshOnly.refl a).upTo (now := s.cycle)
  obtain ⟨-, -, rfl, hcycle, -, htracing⟩ := id h
  rw [servePower_traced ha h0 hr (htracing.trans (tracing_iff.mpr ht)), hcycle] at he
  exact (h.ends he h.rises.upTo (honly.power ▸ hp)).mono fun _ c hc => hc ▸ honly

variable (ht : ¬s.peekNat (refctl (ch / 64)) 8 % 2 = 1)
include ht

/-- A request without FORCE waits for live accumulators (R488). -/
theorem defers (hl : s.unitLive ch = true) (hf : bitAt a.power 4 = false) :
    s.Ends ch i fun _ c => c.power = a.power % 32 + 32 + a.power / 64 * 64 ∧ c.changing = a.changing := by
  have honly := (Channel.RefreshOnly.refl a).upTo (now := s.cycle)
  obtain ⟨-, -, rfl, hcycle, hlive, htracing⟩ := id h
  rw [servePower_defers ha h0 hr (htracing.trans (Bool.eq_false_iff.mpr (mt tracing_iff.mp ht))) (hlive.trans hl) hf, hcycle] at he
  have hpower : (((u.channel ch).upTo s.cycle).defer true).power = (u.channel ch).power % 32 + 32 + (u.channel ch).power / 64 * 64 := by
    rw [Channel.defer, honly.power]
    rfl
  refine (h.ends he h.rises.upTo.defer (by omega)).mono fun _ c hc => ?_
  rw [hc]
  exact ⟨hpower, honly.changing⟩

/-- Else the channel begins to enter the state asked for, and saves live accumulators (R488). -/
theorem enters (hl : s.unitLive ch = false ∨ bitAt a.power 4 = true) :
    s.Ends ch i fun _ c => c.power % 4 = 3 ∧ c.changing = some (a.power / 4 % 4, s.cycle)
      ∧ (s.unitLive ch = true → c.power / 2 ^ 6 % 2 = 1) := by
  obtain ⟨-, -, rfl, hcycle, hlive, htracing⟩ := id h
  rw [servePower_enters ha h0 hr (htracing.trans (Bool.eq_false_iff.mpr (mt tracing_iff.mp ht))) (hl.imp_left hlive.trans), hcycle, hlive] at he
  obtain ⟨hlt, hstate, hsaved⟩ := Channel.entering_power (c := (u.channel ch).upTo s.cycle) (req := (u.channel ch).power / 4 % 4) (now := s.cycle)
    (live := s.unitLive ch)
  refine (h.ends he (Channel.entering_rises h.rises.upTo) hlt).mono fun _ c hc => ?_
  rw [hc]
  exact ⟨hstate, rfl, hsaved⟩

end

end

end State.Asks

/-- A request written to the power word is asked of the channel. -/
theorem State.Asks.request {s : State} {ch : Nat} (hs : s.Sound) (hshown : s.Shown ch) (hp : (s.channel ch).power < 2 ^ 7) {req : Nat}
    (hr : req < 4) (force : Bool) :
    s.Asks (s.putChannel ch ((s.channel ch).asking req force)) ch ((s.channel ch).asking req force) :=
  (State.Asks.refl hs hshown).put (State.channel_rises hs ch) (Channel.asking_power hp hr).1

theorem State.requestPower_eq (s : State) (ch req : Nat) (force : Bool) :
    s.requestPower ch req force = (s.putChannel ch ((s.channel ch).asking req force)).servePower ch := rfl

theorem exec_channelReqPdown (ch : Fin 512) (f : Bool) (s : State) :
    exec (.channelReqPdown ch f) s = .next (s.requestPower ch.val 1 f) := rfl
theorem exec_channelReqSref (ch : Fin 512) (f : Bool) (s : State) :
    exec (.channelReqSref ch f) s = .next (s.requestPower ch.val 2 f) := rfl
theorem exec_channelReqActive (ch : Fin 512) (s : State) :
    exec (.channelReqActive ch) s = .next (s.requestPower ch.val 3 false) := rfl
theorem exec_channelDeferredEntry (ch : Fin 512) (s : State) : exec (.channelDeferredEntry ch) s =
    .next (if bitAt (s.channel ch.val).power 5 && !s.unitLive ch.val then s.servePower ch.val else s) := rfl

section
variable {s : State} {ch req : Nat} {f : Bool} {i : Instr}

/-- Instruction `i` leads the channel through entry, wake or return to `target`, from cycle `at_` on. -/
def State.Enters (s : State) (ch : Nat) (i : Instr) (target at_ : Nat) : Prop :=
  s.Ends ch i fun _ c => c.power % 4 = 3 ∧ c.changing = some (target, at_)

/-- Instruction `i` leaves the channel in its state, with the request and DEFER. -/
def State.Stands (s : State) (ch : Nat) (i : Instr) (state req defer : Nat) : Prop :=
  s.Ends ch i fun _ c => c.power % 4 = state ∧ c.power / 4 % 4 = req ∧ c.power / 2 ^ 5 % 2 = defer
    ∧ c.changing = (s.channel ch).changing

variable (hs : s.Sound) (hp : (s.channel ch).power < 2 ^ 7) (ha : (s.channel ch).asked = none) (hshown : s.Shown ch)
include hs hp ha hshown

/-- A request for ACTIVE of a sleeping channel. -/
theorem State.request_active (he : exec i s = .next (s.requestPower ch 3 f))
    (hw : (s.channel ch).power % 4 = 1 ∨ (s.channel ch).power % 4 = 2) :
    s.Enters ch i 0 (s.cycle + leaving ((s.channel ch).power % 4)) := by
  obtain ⟨hpower, hstate, hreq, -, -⟩ := Channel.asking_power (force := f) hp (req := 3) (by omega)
  rw [State.requestPower_eq] at he
  exact hstate ▸ (State.Asks.request hs hshown hp (by omega) f).wakes he ha hpower (hstate ▸ hw) hreq

section
variable (he : exec i s = .next (s.requestPower ch req f)) (h0 : (s.channel ch).power % 4 = 0) (hr : req = 1 ∨ req = 2)
include he h0 hr

/-- A request for a low-power state in trace mode. -/
theorem State.request_traced (ht : s.peekNat (refctl (ch / 64)) 8 % 2 = 1) :
    s.Stands ch i 0 req ((s.channel ch).power / 2 ^ 5 % 2) := by
  have hlt : req < 4 := by omega
  obtain ⟨hpower, hstate, hreq, -, hdefer⟩ := Channel.asking_power (force := f) hp hlt
  rw [State.requestPower_eq] at he
  refine ((State.Asks.request hs hshown hp hlt f).traced he ha hpower (hstate.trans h0) (hreq.symm ▸ hr) ht).mono fun _ c honly => ?_
  rw [honly.power]
  exact ⟨hstate.trans h0, hreq, hdefer, honly.changing⟩

variable (ht : ¬s.peekNat (refctl (ch / 64)) 8 % 2 = 1)
include ht

/-- A request for a low-power state that waits for live accumulators. -/
theorem State.request_defers (hl : s.unitLive ch = true) (hf : f = false) : s.Stands ch i 0 req 1 := by
  have hlt : req < 4 := by omega
  obtain ⟨hpower, hstate, hreq, hforce, -⟩ := Channel.asking_power (force := f) hp hlt
  rw [State.requestPower_eq] at he
  refine ((State.Asks.request hs hshown hp hlt f).defers he ha hpower (hstate.trans h0) (hreq.symm ▸ hr) ht hl (hforce.trans hf)).mono
    fun _ c ⟨hafter, hchanging⟩ => ?_
  rw [hafter]
  exact ⟨by omega, by omega, by omega, hchanging⟩

/-- A request for a low-power state that is served at once. -/
theorem State.request_enters (hl : s.unitLive ch = false ∨ f = true) :
    s.Ends ch i fun _ c => c.power % 4 = 3 ∧ c.changing = some (req, s.cycle) ∧ (s.unitLive ch = true → c.power / 2 ^ 6 % 2 = 1) := by
  have hlt : req < 4 := by omega
  obtain ⟨hpower, hstate, hreq, hforce, -⟩ := Channel.asking_power (force := f) hp hlt
  rw [State.requestPower_eq] at he
  have hends := (State.Asks.request hs hshown hp hlt f).enters he ha hpower (hstate.trans h0) (hreq.symm ▸ hr) ht (hl.imp_right hforce.trans)
  rwa [hreq] at hends

end

end

section
variable {s : State} {ch : Fin 512} (hs : s.Sound) (hp : (s.channel ch.val).power < 2 ^ 7) (ha : (s.channel ch.val).asked = none)
  (hshown : s.Shown ch.val)
include hs hp ha hshown

/-- CHANNEL_REQ_PDOWN and CHANNEL_REQ_SREF of an ACTIVE channel out of trace mode and without live accumulators. -/
theorem channelRequest_idle_row (h0 : (s.channel ch.val).power % 4 = 0) (ht : ¬s.peekNat (refctl (ch.val / 64)) 8 % 2 = 1)
    (hl : s.unitLive ch.val = false) (f : Bool) :
    s.Enters ch.val (.channelReqPdown ch f) 1 s.cycle ∧ s.Enters ch.val (.channelReqSref ch f) 2 s.cycle :=
  ⟨(State.request_enters hs hp ha hshown (exec_channelReqPdown ch f s) h0 (.inl rfl) ht (.inl hl)).mono fun _ _ h => ⟨h.1, h.2.1⟩,
    (State.request_enters hs hp ha hshown (exec_channelReqSref ch f s) h0 (.inr rfl) ht (.inl hl)).mono fun _ _ h => ⟨h.1, h.2.1⟩⟩

/-- CHANNEL_REQ_PDOWN and CHANNEL_REQ_SREF of an ACTIVE channel with live accumulators: without FORCE they wait, with FORCE they begin. -/
theorem channelRequest_live_row (h0 : (s.channel ch.val).power % 4 = 0) (ht : ¬s.peekNat (refctl (ch.val / 64)) 8 % 2 = 1)
    (hl : s.unitLive ch.val = true) :
    s.Stands ch.val (.channelReqPdown ch false) 0 1 1 ∧ s.Stands ch.val (.channelReqSref ch false) 0 2 1
      ∧ s.Enters ch.val (.channelReqPdown ch true) 1 s.cycle ∧ s.Enters ch.val (.channelReqSref ch true) 2 s.cycle
      ∧ s.Ends ch.val (.channelReqSref ch true) fun _ c => c.power / 2 ^ 6 % 2 = 1 := by
  have hpdown := State.request_enters hs hp ha hshown (exec_channelReqPdown ch true s) h0 (.inl rfl) ht (.inr rfl)
  have hsref := State.request_enters hs hp ha hshown (exec_channelReqSref ch true s) h0 (.inr rfl) ht (.inr rfl)
  exact ⟨State.request_defers hs hp ha hshown (exec_channelReqPdown ch false s) h0 (.inl rfl) ht hl rfl,
    State.request_defers hs hp ha hshown (exec_channelReqSref ch false s) h0 (.inr rfl) ht hl rfl,
    hpdown.mono fun _ _ h => ⟨h.1, h.2.1⟩, hsref.mono fun _ _ h => ⟨h.1, h.2.1⟩, hsref.mono fun _ _ h => h.2.2 hl⟩

/-- CHANNEL_REQ_PDOWN and CHANNEL_REQ_SREF of an ACTIVE channel in trace mode. -/
theorem channelRequest_traced_row (h0 : (s.channel ch.val).power % 4 = 0) (ht : s.peekNat (refctl (ch.val / 64)) 8 % 2 = 1) (f : Bool) :
    s.Stands ch.val (.channelReqPdown ch f) 0 1 ((s.channel ch.val).power / 2 ^ 5 % 2)
      ∧ s.Stands ch.val (.channelReqSref ch f) 0 2 ((s.channel ch.val).power / 2 ^ 5 % 2) :=
  ⟨State.request_traced hs hp ha hshown (exec_channelReqPdown ch f s) h0 (.inl rfl) ht,
    State.request_traced hs hp ha hshown (exec_channelReqSref ch f s) h0 (.inr rfl) ht⟩

/-- CHANNEL_REQ_ACTIVE of a sleeping channel. -/
theorem channelReqActive_row (hw : (s.channel ch.val).power % 4 = 1 ∨ (s.channel ch.val).power % 4 = 2) :
    s.Enters ch.val (.channelReqActive ch) 0 (s.cycle + leaving ((s.channel ch.val).power % 4)) :=
  State.request_active hs hp ha hshown (exec_channelReqActive ch s) hw

/-- CHANNEL_DEFERRED_ENTRY serves a deferred request once no accumulators are live. -/
theorem channelDeferredEntry_enters (hd : (s.channel ch.val).power / 2 ^ 5 % 2 = 1) (hl : s.unitLive ch.val = false)
    (h0 : (s.channel ch.val).power % 4 = 0) (ht : ¬s.peekNat (refctl (ch.val / 64)) 8 % 2 = 1)
    (hr : (s.channel ch.val).power / 4 % 4 = 1 ∨ (s.channel ch.val).power / 4 % 4 = 2) :
    s.Enters ch.val (.channelDeferredEntry ch) ((s.channel ch.val).power / 4 % 4) s.cycle := by
  have he := exec_channelDeferredEntry ch s
  have hready : (bitAt (s.channel ch.val).power 5 && !s.unitLive ch.val) = true := by rw [bitAt_iff.mpr hd, hl]; rfl
  rw [if_pos hready] at he
  exact ((State.Asks.refl hs hshown).enters he ha hp h0 hr ht (.inl hl)).mono fun _ _ h => ⟨h.1, h.2.1⟩

end

/-- CHANNEL_DEFERRED_ENTRY without a deferred request, or while accumulators are live. -/
theorem channelDeferredEntry_waits {s : State} {ch : Fin 512}
    (h : (s.channel ch.val).power / 2 ^ 5 % 2 = 0 ∨ s.unitLive ch.val = true) : exec (.channelDeferredEntry ch) s = .next s := by
  rw [exec_channelDeferredEntry, if_neg]
  rw [Bool.and_eq_true, bitAt_iff, Bool.not_eq_true']
  rintro ⟨hd, hl⟩
  rcases h with h | h
  · omega
  · simp [hl] at h

end Sys2Proof.Machine
end

section
namespace Sys2Proof.Machine

open Sys2Proof.Claims

/-! The end of a change of a channel's power state (R487, R488). -/

namespace Channel
variable {c : Channel} {target now : Nat}

/-- The channel as it enters the state that it was changing to. -/
def arrived (c : Channel) (target now : Nat) : Channel :=
  { c with power := c.power / 4 * 4 + target, changing := none, upAt := now, now := now }

/-- There the request for it is cleared, and a return to ACTIVE clears SAVED (R487, R488). -/
def settled (c : Channel) (target now : Nat) : Channel :=
  let d := (c.arrived target now).served (if target = 0 then 3 else target)
  if target = 0 then d.save false else d

theorem settled_rises (hc : c.Rises) : (c.settled target now).Rises := .ite hc.settle.served.save hc.settle.served

/-- The request stands in the power word, none being the device's own: it is cleared where it is the one served. -/
theorem served_eq (ha : c.asked = none) (req : Nat) :
    c.served req = { c with power := if c.power / 4 % 4 = req then c.power % 4 + c.power / 16 * 16 else c.power } := by
  have hany : ¬c.asked.any (·.1 == req) = true := by simp [ha]
  unfold served
  rw [if_neg hany]
  split <;> rfl

theorem settled_eq (ha : c.asked = none) : c.settled target now =
    { c with power := (c.settled target now).power, changing := none, upAt := now, now := now } := by
  unfold settled
  rw [served_eq (c := c.arrived target now) ha]
  split <;> rfl

/-- REQ is cleared of a power word. -/
theorem request_cleared (w : Nat) : (w % 4 + w / 16 * 16) / 4 % 4 = 0 := by omega

/-- No request is left, and SAVED stands only outside ACTIVE. -/
theorem settled_power (ha : c.asked = none) (hp : c.power < 2 ^ 7) (ht : target < 3)
    (hr : c.power / 4 % 4 = 0 ∨ c.power / 4 % 4 = target ∨ target = 0 ∧ c.power / 4 % 4 = 3) :
    (c.settled target now).power < 2 ^ 7 ∧ (c.settled target now).power % 4 = target ∧ (c.settled target now).power / 4 % 4 = 0
      ∧ (target = 0 → (c.settled target now).power / 2 ^ 6 % 2 = 0) := by
  unfold settled
  rw [served_eq (c := c.arrived target now) ha]
  have hlt : (c.arrived target now).power < 2 ^ 7 := by unfold arrived; dsimp only; omega
  have hstate : (c.arrived target now).power % 4 = target := by unfold arrived; dsimp only; omega
  have hreq : (c.arrived target now).power / 4 = c.power / 4 := by unfold arrived; dsimp only; omega
  generalize c.arrived target now = d at *
  have hbits : d.power / 16 < 8 := by omega
  have hcleared := request_cleared d.power
  rw [hreq]
  by_cases h0 : target = 0
  · subst h0
    simp only [if_true, save, boolN, Bool.false_eq_true, if_false]
    split <;> omega
  · rw [if_neg h0, if_neg h0]
    refine ⟨?_, ?_, ?_, fun h => absurd h h0⟩ <;> dsimp only <;> split <;> omega

/-- A request or a command that came while the channel was changing. -/
def waits (c : Channel) : Prop := c.called = true ∨ ∃ q ∈ c.banks, q.2.queue ≠ []

theorem waits_iff : (c.called || c.banks.any fun b => !b.2.queue.isEmpty) = true ↔ c.waits := by
  simp [waits]

end Channel

section
variable {s : State} {ch target since now : Nat}

/-- The channel enters its new state, or from a low-power state begins to wake at once for what waits, and the cells saved are restored. -/
theorem State.stateChanged_eq (h : (s.channel ch).changing = some (target, since)) :
    let d := (s.channel ch).settled target now
    let w := s.putChannel ch (if (d.called || d.banks.any fun b => !b.2.queue.isEmpty) && target != 0 then d.wake now else d)
    s.stateChanged ch now = (if target == 0 && bitAt (s.channel ch).power 6 then w.restoreCells ch else w).servePower ch := by
  unfold State.stateChanged
  simp only [h]
  rfl

/-- The unit's restore changes one hart at most. -/
theorem State.restoreCells_cases (s : State) (ch : Nat) : s.restoreCells ch = s ∨ ∃ i x, s.restoreCells ch = s.setHart i x := by
  unfold State.restoreCells
  split
  · exact .inl rfl
  · dsimp only
    split
    · exact .inl rfl
    · split
      · exact .inr ⟨_, _, rfl⟩
      · exact .inl rfl

/-- A saved cell that cannot be read ends its command (R319, R488). -/
theorem State.restoreCells_fails (hs : s.Sound) {i : HartId} {st : Fin 16} {j : KerbJob} (hpool : s.poolAt ch = some (i, st))
    (hjob : (s.hart i).stm[st].job = some j) (hf : ∃ k < j.cells, Config.saveFails ch k s.fresh = true) :
    let x := ((s.restoreCells ch).hart i).stm[st]
    x.ready = [] ∧ x.err = some { cause := .dataerr, acc := .read, tval := BitVec.ofNat 64 j.src, stream := some st } := by
  have hany : ((List.range j.cells).any fun k => Config.saveFails ch k s.fresh) = true := by simpa using hf
  simp only [State.restoreCells, hpool, hjob, hany, if_true, State.hart_setHart_same hs.1.1]
  simp

/-- Without a request to serve, or while it changes, the channel stays, and so do the streams. -/
theorem State.Ends.of_servePower {u : State} {c : Channel} {i : Instr} (hu : u.Sound) (hshown : u.Shown ch) (hchannel : u.channel ch = c)
    (he : exec i s = .next (u.servePower ch)) (ha : c.asked = none) (hp : c.power < 2 ^ 7) (hk : c.power % 4 = 3 ∨ c.power / 4 % 4 = 0) :
    s.Ends ch i fun t c' => c.RefreshOnly c' ∧ ∀ k, (t.hart k).stm = (u.hart k).stm := by
  subst hchannel
  have honly := (Channel.RefreshOnly.refl (u.channel ch)).upTo (now := u.cycle)
  rw [State.servePower_keeps ha hk] at he
  exact .of_putChannel hu (State.channel_rises hu ch).upTo (honly.power ▸ hp) hshown he ⟨honly, fun k => (State.hart_putChannel k).1⟩

/-- The state with the channel settled, and on a return to ACTIVE with the cells saved restored. -/
def State.resumed (s : State) (ch target now : Nat) : State :=
  let w := s.putChannel ch ((s.channel ch).settled target now)
  if target == 0 && bitAt (s.channel ch).power 6 then w.restoreCells ch else w

theorem State.stateChanged_settles (h : (s.channel ch).changing = some (target, since)) (ha : (s.channel ch).asked = none)
    (hw : ¬(s.channel ch).waits ∨ target = 0) : s.stateChanged ch now = (s.resumed ch target now).servePower ch := by
  have hstays : ¬((((s.channel ch).settled target now).called
      || ((s.channel ch).settled target now).banks.any fun b => !b.2.queue.isEmpty) && target != 0) = true := by
    rw [Bool.and_eq_true, Channel.waits_iff, bne_iff_ne, Channel.settled_eq ha]
    rintro ⟨hd, h0⟩
    exact hw.elim (· hd) h0
  have heq := State.stateChanged_eq (now := now) h
  dsimp only at heq
  rw [heq, if_neg hstays, State.resumed]

theorem State.stateChanged_wakes (h : (s.channel ch).changing = some (target, since)) (ha : (s.channel ch).asked = none)
    (hw : (s.channel ch).waits) (h0 : target ≠ 0) :
    s.stateChanged ch now = (s.putChannel ch (((s.channel ch).settled target now).wake now)).servePower ch := by
  have hwakes : ((((s.channel ch).settled target now).called
      || ((s.channel ch).settled target now).banks.any fun b => !b.2.queue.isEmpty) && target != 0) = true := by
    rw [Bool.and_eq_true, Channel.waits_iff, bne_iff_ne, Channel.settled_eq ha]
    exact ⟨hw, h0⟩
  have hkeeps : ¬(target == 0 && bitAt (s.channel ch).power 6) = true := by simp [h0]
  have heq := State.stateChanged_eq (now := now) h
  dsimp only at heq
  rw [heq, if_pos hwakes, if_neg hkeeps]

section
variable (hs : s.Sound)
include hs

theorem State.resumed_sound : (s.resumed ch target now).Sound :=
  have hput := State.Evolves.refl.putChannel (s := s) (ch := ch) fun hc => Channel.settled_rises (target := target) (now := now) hc
  State.Evolves.sound (.ite hput.restoreCells hput) hs

/-- The restore changes neither channels nor words. -/
theorem State.resumed_keeps : (s.resumed ch target now).channel ch = (s.channel ch).settled target now
    ∧ ((s.putChannel ch ((s.channel ch).settled target now)).Shown ch → (s.resumed ch target now).Shown ch) := by
  have hchannel := State.channel_putChannel_same (ch := ch) (c := (s.channel ch).settled target now) hs
  unfold State.resumed
  dsimp only
  split
  · rcases State.restoreCells_cases (s.putChannel ch ((s.channel ch).settled target now)) ch with h | ⟨i, x, h⟩
    · rw [h]
      exact ⟨hchannel, id⟩
    · rw [h]
      exact ⟨hchannel, fun hshown => (State.peekNat_setHart ..).trans hshown⟩
  · exact ⟨hchannel, id⟩

end

end

section
variable {s : State} {ch : Fin 512} {t target since : Nat}
  (hs : s.Sound) (hp : (s.channel ch.val).power < 2 ^ 7) (ha : (s.channel ch.val).asked = none) (hshown : s.Shown ch.val)
  (hn : s.nextEvent ch.val = some (t, .changed)) (hc : (s.channel ch.val).changing = some (target, since)) (ht : target < 3)
  (hr : (s.channel ch.val).power / 4 % 4 = 0 ∨ (s.channel ch.val).power / 4 % 4 = target
    ∨ target = 0 ∧ (s.channel ch.val).power / 4 % 4 = 3)
include hs hp ha hshown hn hc ht hr

/-- A channel that enters a low-power state while something waits begins to wake at once. -/
theorem channelStateChange_wakes (hw : (s.channel ch.val).waits) (h0 : target ≠ 0) :
    s.Enters ch.val (.channelStateChangeComplete ch) 0 (t + leaving target) := by
  obtain ⟨hlt, hstate, -, -⟩ := Channel.settled_power (now := t) ha hp ht hr
  have hrises := Channel.settled_rises (target := target) (now := t) (State.channel_rises hs ch.val)
  have hasked : ((s.channel ch.val).settled target t).asked = none := by rw [Channel.settled_eq ha]; exact ha
  have he : exec (.channelStateChangeComplete ch) s = .next (s.stateChanged ch.val t) := State.takeEvent_next hn
  rw [State.stateChanged_wakes hc ha hw h0, Channel.wake_sleeping (by omega), hstate] at he
  generalize (s.channel ch.val).settled target t = d at *
  have hpower : (d.change 0 (t + leaving target)).power < 2 ^ 7 ∧ (d.change 0 (t + leaving target)).power % 4 = 3 := by
    unfold Channel.change; dsimp only; omega
  refine (State.Ends.of_servePower (State.putChannel_sound hs hrises.change)
    (State.putChannel_shown hs hrises.change (by omega) (.inl hshown)) (State.channel_putChannel_same hs) he hasked hpower.1
    (.inl hpower.2)).mono fun _ c ⟨honly, _⟩ => ?_
  rw [honly.power, honly.changing]
  exact ⟨hpower.2, rfl⟩

/-- Else the channel is in its new state, with no request left, and the streams are as a restore leaves them. -/
theorem channelStateChange_settles (hw : ¬(s.channel ch.val).waits ∨ target = 0) :
    s.Ends ch.val (.channelStateChangeComplete ch) fun u c => ((s.channel ch.val).settled target t).RefreshOnly c
      ∧ ∀ k, (u.hart k).stm = ((s.resumed ch.val target t).hart k).stm := by
  obtain ⟨hlt, -, hreq, -⟩ := Channel.settled_power (now := t) ha hp ht hr
  have hrises := Channel.settled_rises (target := target) (now := t) (State.channel_rises hs ch.val)
  have hasked : ((s.channel ch.val).settled target t).asked = none := by rw [Channel.settled_eq ha]; exact ha
  have he : exec (.channelStateChangeComplete ch) s = .next (s.stateChanged ch.val t) := State.takeEvent_next hn
  rw [State.stateChanged_settles hc ha hw] at he
  obtain ⟨hchannel, hshows⟩ := State.resumed_keeps (ch := ch.val) (target := target) (now := t) hs
  exact .of_servePower (State.resumed_sound hs) (hshows (State.putChannel_shown hs hrises (by omega) (.inl hshown))) hchannel he hasked hlt
    (.inr hreq)

/-- The state entered, with nothing changing and no request (R487). -/
theorem channelStateChange_enters (hw : ¬(s.channel ch.val).waits ∨ target = 0) :
    s.Ends ch.val (.channelStateChangeComplete ch) fun _ c => c.changing = none ∧ c.power % 4 = target ∧ c.power / 4 % 4 = 0 ∧ c.upAt = t
      ∧ (target = 0 → c.power / 2 ^ 6 % 2 = 0) := by
  obtain ⟨-, hstate, hreq, hsaved⟩ := Channel.settled_power (now := t) ha hp ht hr
  refine (channelStateChange_settles hs hp ha hshown hn hc ht hr hw).mono fun _ c ⟨honly, _⟩ => ?_
  rw [honly.changing, honly.upAt, honly.power, Channel.settled_eq ha]
  exact ⟨rfl, hstate, hreq, rfl, hsaved⟩

/-- A return to ACTIVE ends the command of a cell that was saved and cannot be read (R319, R488). -/
theorem channelStateChange_restores (h0 : target = 0) (hsaved : (s.channel ch.val).power / 2 ^ 6 % 2 = 1) {i : HartId} {st : Fin 16}
    {j : KerbJob} (hpool : s.poolAt ch.val = some (i, st)) (hjob : (s.hart i).stm[st].job = some j)
    (hf : ∃ k < j.cells, Config.saveFails ch.val k s.fresh = true) :
    s.Ends ch.val (.channelStateChangeComplete ch) fun u _ => (u.hart i).stm[st].ready = []
      ∧ (u.hart i).stm[st].err = some { cause := .dataerr, acc := .read, tval := BitVec.ofNat 64 j.src, stream := some st } := by
  have hput := State.putChannel_sound (ch := ch.val) hs (Channel.settled_rises (target := target) (now := t) (State.channel_rises hs ch.val))
  have hresumed : s.resumed ch.val target t = (s.putChannel ch.val ((s.channel ch.val).settled target t)).restoreCells ch.val := by
    rw [State.resumed, h0, bitAt_iff.mpr hsaved]
    rfl
  refine (channelStateChange_settles hs hp ha hshown hn hc ht hr (.inr h0)).mono fun u _ ⟨_, hstm⟩ => ?_
  rw [hstm i, hresumed]
  refine State.restoreCells_fails hput ((State.poolAt_putChannel _).trans hpool) ?_ (by rwa [State.putChannel_fresh])
  rw [(State.hart_putChannel i).1]
  exact hjob

end

end Sys2Proof.Machine
end

section
namespace Sys2Proof.Machine

open Sys2Proof.Claims

/-! Refresh-trace mode and its arming, on every channel of a die (R486). -/

theorem mem_dieChannels {d k : Nat} (hk : k < 64) : 64 * d + k ∈ dieChannels d := by simpa [dieChannels] using hk

theorem dieChannels_nodup (d : Nat) : (dieChannels d).Nodup := by
  unfold dieChannels
  exact List.nodup_range.map fun a b h => by omega

section
variable {f : Channel → Channel}

/-- Channels alone change. -/
theorem State.foldl_setChannel_eq : ∀ (l : List Nat) (s : State), l.foldl (fun s ch => s.setChannel ch (f (s.channel ch))) s
    = { s with chans := (l.foldl (fun s ch => s.setChannel ch (f (s.channel ch))) s).chans }
  | [], _ => rfl
  | ch :: l, s => by
    rw [List.foldl_cons, State.foldl_setChannel_eq l (s.setChannel ch (f (s.channel ch)))]
    rfl

theorem State.eachChannel_eq (s : State) (d : Nat) : s.eachChannel d f = { s with chans := (s.eachChannel d f).chans } :=
  State.foldl_setChannel_eq _ s

/-- Each channel listed is changed, once. -/
theorem State.channel_foldl_setChannel (hf : ∀ {c : Channel}, c.Rises → (f c).Rises) (k : Nat) : ∀ {l : List Nat} {s : State}, l.Nodup → s.Sound →
    (l.foldl (fun s ch => s.setChannel ch (f (s.channel ch))) s).channel k = if k ∈ l then f (s.channel k) else s.channel k
  | [], _, _, _ => rfl
  | ch :: l, s, hl, hs => by
    obtain ⟨hch, hl⟩ := List.nodup_cons.mp hl
    rw [List.foldl_cons, State.channel_foldl_setChannel hf k hl (State.setChannel_sound hs (hf (State.channel_rises hs ch)))]
    by_cases hk : k = ch
    · subst hk
      rw [if_neg hch, if_pos List.mem_cons_self, State.channel_setChannel_same hs]
    · rw [State.channel_setChannel_other hs _ hk]
      simp only [List.mem_cons, hk, false_or]

theorem State.channel_eachChannel {s : State} (hs : s.Sound) (hf : ∀ {c : Channel}, c.Rises → (f c).Rises) {d k : Nat} (hk : k < 64) :
    (s.eachChannel d f).channel (64 * d + k) = f (s.channel (64 * d + k)) := by
  rw [State.eachChannel, State.channel_foldl_setChannel hf _ (dieChannels_nodup d) hs, if_pos (mem_dieChannels hk)]

end

namespace Channel
variable {c c' c'' : Channel} {now p : Nat}

/-- Which sets wait for their first request, and the T0 of each, are kept. -/
def KeepsClock (c c' : Channel) : Prop := c'.armed = c.armed ∧ c'.t0 = c.t0

namespace KeepsClock

theorem ite {q : Prop} [Decidable q] (h : c.KeepsClock c') (h' : c.KeepsClock c'') : c.KeepsClock (if q then c' else c'') := by
  split
  · exact h
  · exact h'

theorem trans (h : c.KeepsClock c') (h' : c'.KeepsClock c'') : c.KeepsClock c'' := ⟨h'.1.trans h.1, h'.2.trans h.2⟩

theorem served (h : c.KeepsClock c') {req} : c.KeepsClock (c'.served req) := .ite h (.ite h h)

theorem change (h : c.KeepsClock c') {target at_} : c.KeepsClock (c'.change target at_) := h
theorem defer (h : c.KeepsClock c') {on} : c.KeepsClock (c'.defer on) := h
theorem save (h : c.KeepsClock c') {on} : c.KeepsClock (c'.save on) := h

theorem refreshOnly (h : c.KeepsClock c') (h' : c'.RefreshOnly c'') : c.KeepsClock c'' := h.trans ⟨h'.armed, h'.t0⟩

end KeepsClock

/-- What arms the sets no more, one after another. -/
theorem clock_foldl_anchored (e : Nat) : ∀ (l : List Nat) {c : Channel}, c.Rises →
    Map.get false (l.foldl (fun c g => c.anchored g now) c).armed e = (if e ∈ l then false else Map.get false c.armed e)
      ∧ Map.get 0 (l.foldl (fun c g => c.anchored g now) c).t0 e
        = if e ∈ l ∧ Map.get false c.armed e = true then now else Map.get 0 c.t0 e
  | [], c, _ => by simp
  | g :: l, c, hc => by
    obtain ⟨harmed, ht0⟩ := clock_foldl_anchored e l (anchored_rises (g := g) (now := now) hc)
    obtain ⟨harmed', ht0'⟩ := clock_anchored (g := g) (now := now) hc e
    rw [List.foldl_cons, harmed, ht0, harmed', ht0']
    by_cases he : e = g
    · subst he; simp
    · simp [he]

/-- The sets that wait for their first request take T0 from now. -/
def untraced (c : Channel) (now : Nat) : Channel := (List.range 8).foldl (fun c g => c.anchored g now) (c.upTo now)

theorem untraced_rises (hc : c.Rises) : (c.untraced now).Rises := .foldl (fun hc => anchored_rises hc) hc.upTo

theorem clock_untraced (hc : c.Rises) {e : Nat} (he : e < 8) : Map.get false (c.untraced now).armed e = false
    ∧ Map.get 0 (c.untraced now).t0 e = if Map.get false c.armed e = true then now else Map.get 0 c.t0 e := by
  have honly := (RefreshOnly.refl c).upTo (now := now)
  have h := clock_foldl_anchored (now := now) e (List.range 8) (hc.upTo (now := now))
  simp only [List.mem_range, he, true_and, if_true, honly.armed, honly.t0] at h
  exact h

/-- The debts of a pseudo-channel are paid with all-bank refreshes. -/
def payHalf (c : Channel) (p now : Nat) : Channel :=
  let n := (pcBanks p).foldl (fun m k => max m (c.bank k).debt) 0
  let d := (pcBanks p).foldl (fun c k => c.setBank k { c.bank k with debt := 0 }) c
  ({ d with forced := Map.set 0 d.forced p (Map.get 0 d.forced p + n) } : Channel).force p now

theorem payAll_eq (c : Channel) (now : Nat) : c.payAll now = (c.payHalf 0 now).payHalf 1 now := rfl

theorem payHalf_rises (hc : c.Rises) : (c.payHalf p now).Rises := .force (.setForced (.foldl (·.setBank) hc))

theorem debt_force (hc : c.Rises) (k : Nat) : ((c.force p now).bank k).debt = (c.bank k).debt := by
  unfold force
  dsimp only
  split
  · rfl
  · rw [bank_setForced, bank_foldl_setBank (fun x => { x with refresh := true, free := now + 700 * Map.get 0 c.forced p }) (pcBanks_nodup p) hc]
    split <;> rfl

theorem debt_payHalf (hc : c.Rises) (k : Nat) : ((c.payHalf p now).bank k).debt = if k / 16 = p then 0 else (c.bank k).debt := by
  have hd : ((pcBanks p).foldl (fun c k => c.setBank k { c.bank k with debt := 0 }) c).Rises := .foldl (·.setBank) hc
  unfold payHalf
  dsimp only
  rw [debt_force hd.setForced, bank_setForced, bank_foldl_setBank (fun x => { x with debt := 0 }) (pcBanks_nodup p) hc]
  simp only [mem_pcBanks]
  split <;> rfl

theorem debt_payAll (hc : c.Rises) {k : Nat} (hk : k < 32) : ((c.payAll now).bank k).debt = 0 := by
  rw [payAll_eq, debt_payHalf (payHalf_rises hc), debt_payHalf hc]
  split
  · rfl
  · exact if_pos (by omega)

@[simp] theorem bank_setArmed (c : Channel) (m : Map Bool) (k : Nat) : ({ c with armed := m } : Channel).bank k = c.bank k := rfl

/-- The channel as arming leaves it. -/
def paidAndArmed (c : Channel) (now : Nat) : Channel :=
  { (c.upTo now).payAll now with armed := (List.range 8).map fun g => (g, true) }

theorem paidAndArmed_rises (hc : c.Rises) : (c.paidAndArmed now).Rises := hc.upTo.payAll.setArmed (Map.rises_iff.mpr (by decide))

theorem armed_paidAndArmed {e : Nat} (he : e < 8) : Map.get false (c.paidAndArmed now).armed e = true := by
  have hall : ∀ e < 8, Map.get false ((List.range 8).map fun g => (g, true)) e = true := by decide
  exact hall e he

theorem debt_paidAndArmed (hc : c.Rises) {e : Nat} (he : e < 32) : ((c.paidAndArmed now).bank e).debt = 0 := by
  rw [paidAndArmed, bank_setArmed]
  exact debt_payAll hc.upTo he

/-- An all-bank refresh is neither forced nor under way. -/
theorem paying_none (hf : c.forced = []) (hb : ∀ e < 32, (c.bank e).refresh = false) : c.paying = false := by
  have hbank (p : Nat) (hp : p < 2) : ((pcBanks p).all fun b => (c.bank b).refresh) = false :=
    List.all_eq_false.mpr ⟨16 * p, mem_pcBanks.mpr (by omega), by simp [hb (16 * p) (by omega)]⟩
  simp [paying, hf, hbank]

end Channel

/-- Serving a request leaves T0, and what waits for its first request, as they are. -/
theorem State.servePower_clock {s : State} (hs : s.Sound) (ch : Nat) :
    ∃ c, s.servePower ch = s.putChannel ch c ∧ c.Rises ∧ (s.channel ch).KeepsClock c := by
  have hrises := (State.channel_rises hs ch).upTo (now := s.cycle)
  have hclock : (s.channel ch).KeepsClock ((s.channel ch).upTo s.cycle) := .refreshOnly ⟨rfl, rfl⟩ (.upTo (.refl _))
  unfold State.servePower
  dsimp only
  refine ⟨_, rfl, ?_, ?_⟩
  · refine .ite hrises (.ite (.ite hrises.served hrises.change) (.ite hrises (.ite hrises.served (.ite hrises.defer (.change ?_)))))
    exact .ite hrises.defer.save.payAll hrises.defer.save
  · refine .ite hclock (.ite (.ite hclock.served hclock.change) (.ite hclock (.ite hclock.served (.ite hclock.defer (.change ?_)))))
    exact .ite (.refreshOnly hclock.defer.save (.payAll (.refl _))) hclock.defer.save

/-- What serving the requests of channels leaves as it was in `s`. -/
structure State.SameClocks (s t : State) (d : Nat) : Prop where
  sound : t.Sound
  word : t.peekNat (refctl d) 8 = s.peekNat (refctl d) 8
  clock : ∀ k, (s.channel k).KeepsClock (t.channel k)

theorem State.SameClocks.servePower {s t : State} {d : Nat} (h : s.SameClocks t d) (ch : Nat) : s.SameClocks (t.servePower ch) d := by
  obtain ⟨c, heq, hrises, hclock⟩ := State.servePower_clock h.sound ch
  rw [heq]
  refine ⟨State.putChannel_sound h.sound hrises, (State.peekNat_putChannel h.sound hrises (refctl_apart ch d)).trans h.word, fun k => ?_⟩
  rw [State.channel_putChannel h.sound]
  split
  · next hk => exact hk ▸ (h.clock ch).trans hclock
  · exact h.clock k

theorem State.die_setDie_self {s : State} (hs : s.Sound) (d : Fin 8) (x : Die) : (s.setDie d x).die d = x := by
  obtain ⟨⟨-, -, dies, -⟩, -⟩ := hs
  exact Map.get_set_same _ dies

theorem State.SameClocks.refl {s : State} {d : Nat} (hs : s.Sound) : s.SameClocks s d := ⟨hs, rfl, fun _ => ⟨rfl, rfl⟩⟩

/-- The requests that wait in some channels are served. -/
theorem State.SameClocks.serveRequests {s : State} {d : Nat} (hs : s.Sound) (l : List Nat) :
    s.SameClocks (l.foldl (fun s ch => if (s.channel ch).request.1 = 0 then s else s.servePower ch) s) d := by
  refine List.foldlRecOn (motive := (s.SameClocks · d)) l _ (.refl hs) fun t h ch _ => ?_
  split
  · exact h
  · exact h.servePower ch

theorem State.pokeNat_sound {s : State} (hs : s.Sound) {loc n v : Nat} : (s.pokeNat loc n v).Sound := State.Evolves.refl.pokeNat.sound hs

theorem State.eachChannel_sound {s : State} (hs : s.Sound) {d : Nat} {f : Channel → Channel}
    (hf : ∀ {c : Channel}, c.Rises → (f c).Rises) : (s.eachChannel d f).Sound := (State.Evolves.refl.eachChannel hf).sound hs

theorem State.peekNat_eachChannel (s : State) (d : Nat) (f : Channel → Channel) (a n : Nat) :
    (s.eachChannel d f).peekNat a n = s.peekNat a n :=
  State.peekNat_of_mem (by rw [State.eachChannel_eq]) a n

section
variable {s : State} (hs : s.Sound) (die : Fin 8)
include hs

theorem State.peekNat_refctl_pokeNat {v : Nat} (hv : v < 2 ^ 64) :
    (s.pokeNat (controlBlock die.val + 64) 8 v).peekNat (refctl die.val) 8 = v :=
  (State.peekNat_pokeNat_same hs _ v).trans (Nat.mod_eq_of_lt hv)

/-- REFCTL_TRACE on sets TRACE alone. -/
theorem refctlTrace_on_row : ∃ t, exec (.refctlTrace die true) s = .next t
    ∧ t.peekNat (refctl die.val) 8 = s.peekNat (refctl die.val) 8 / 2 * 2 + 1 ∧ t.chans = s.chans := by
  have hw := s.peekNat_lt (refctl die.val)
  exact ⟨_, rfl, State.peekNat_refctl_pokeNat hs die (v := s.peekNat (refctl die.val) 8 / 2 * 2 + 1) (by omega), rfl⟩

/-- REFCTL_TRACE off clears TRACE, and every set of the die has its T0, requests that waited being served. -/
theorem refctlTrace_off_row : ∃ t, exec (.refctlTrace die false) s = .next t
    ∧ t.peekNat (refctl die.val) 8 = s.peekNat (refctl die.val) 8 / 2 * 2 ∧ ∀ k < 64, ∀ e < 8,
      Map.get false (t.channel (64 * die.val + k)).armed e = false ∧ Map.get 0 (t.channel (64 * die.val + k)).t0 e =
        if Map.get false (s.channel (64 * die.val + k)).armed e = true then s.cycle
        else Map.get 0 (s.channel (64 * die.val + k)).t0 e := by
  have hw := s.peekNat_lt (refctl die.val)
  have hword := State.peekNat_refctl_pokeNat hs die (v := s.peekNat (refctl die.val) 8 / 2 * 2) (by omega)
  have hexec : exec (.refctlTrace die false) s = .next ((dieChannels die.val).foldl
      (fun s ch => if (s.channel ch).request.1 = 0 then s else s.servePower ch)
      ((s.pokeNat (controlBlock die.val + 64) 8 (s.peekNat (refctl die.val) 8 / 2 * 2)).eachChannel die.val (·.untraced s.cycle))) := rfl
  have hpoke := State.pokeNat_sound hs (loc := controlBlock die.val + 64) (n := 8) (v := s.peekNat (refctl die.val) 8 / 2 * 2)
  have hrises {c : Channel} (hc : c.Rises) : (c.untraced s.cycle).Rises := Channel.untraced_rises hc
  obtain ⟨-, hsame, hclock⟩ := State.SameClocks.serveRequests (d := die.val)
    (State.eachChannel_sound hpoke (d := die.val) (f := (·.untraced s.cycle)) hrises) (dieChannels die.val)
  refine ⟨_, hexec, hsame.trans ((State.peekNat_eachChannel ..).trans hword), fun k hk e he => ?_⟩
  obtain ⟨harmed, ht0⟩ := hclock (64 * die.val + k)
  rw [harmed, ht0, State.channel_eachChannel hpoke hrises hk, State.channel_pokeNat]
  exact Channel.clock_untraced (State.channel_rises hs _) he

/-- REFCTL_ARM pays every debt of the die, and every set waits for its first request. -/
theorem refctlArm_row : ∃ t, exec (.refctlArm die) s = .next t
    ∧ t.peekNat (refctl die.val) 8 = s.peekNat (refctl die.val) 8 % 2 + 2 ∧ (t.die die).arming = true
    ∧ ∀ k < 64, (∀ e < 8, Map.get false (t.channel (64 * die.val + k)).armed e = true)
      ∧ ∀ e < 32, ((t.channel (64 * die.val + k)).bank e).debt = 0 := by
  have hword := State.peekNat_refctl_pokeNat hs die (v := s.peekNat (refctl die.val) 8 % 2 + 2) (by omega)
  have hexec : exec (.refctlArm die) s = .next (((s.pokeNat (controlBlock die.val + 64) 8 (s.peekNat (refctl die.val) 8 % 2 + 2)).eachChannel
    die.val (·.paidAndArmed s.cycle)).setDie die { ((s.pokeNat (controlBlock die.val + 64) 8 (s.peekNat (refctl die.val) 8 % 2 + 2)).eachChannel
      die.val (·.paidAndArmed s.cycle)).die die with arming := true }) := rfl
  have hpoke := State.pokeNat_sound hs (loc := controlBlock die.val + 64) (n := 8) (v := s.peekNat (refctl die.val) 8 % 2 + 2)
  have hrises {c : Channel} (hc : c.Rises) : (c.paidAndArmed s.cycle).Rises := Channel.paidAndArmed_rises hc
  have heach := State.eachChannel_sound hpoke (d := die.val) (f := (·.paidAndArmed s.cycle)) hrises
  refine ⟨_, hexec, ?_, ?_, fun k hk => ?_⟩
  · rw [State.peekNat_setDie, State.peekNat_eachChannel, hword]
  · rw [State.die_setDie_self heach]
  · rw [State.channel_setDie, State.channel_eachChannel hpoke hrises hk, State.channel_pokeNat]
    exact ⟨fun e he => Channel.armed_paidAndArmed he, fun e he => Channel.debt_paidAndArmed (State.channel_rises hs _) he⟩

/-- REFCTL_ARM_COMPLETE ends the arming once no refresh is forced or under way. -/
theorem refctlArmComplete_row (ha : (s.die die).arming = true)
    (hq : ∀ k < 64, (s.channel (64 * die.val + k)).forced = [] ∧ ∀ e < 32, ((s.channel (64 * die.val + k)).bank e).refresh = false) :
    ∃ t, exec (.refctlArmComplete die) s = .next t ∧ t.peekNat (refctl die.val) 8 = s.peekNat (refctl die.val) 8 % 2
      ∧ (t.die die).arming = false ∧ t.chans = s.chans := by
  have hword := State.peekNat_refctl_pokeNat hs die (v := s.peekNat (refctl die.val) 8 % 2) (by omega)
  have hidle : ((dieChannels die.val).any fun ch => (s.channel ch).paying) = false := by
    simp only [dieChannels, List.any_map, List.any_eq_false, List.mem_range, Function.comp_apply, Bool.not_eq_true]
    intro k hk
    obtain ⟨hf, hb⟩ := hq k hk
    exact Channel.paying_none hf hb
  have hbusy : ¬(!(s.die die).arming || (dieChannels die.val).any fun ch => (s.channel ch).paying) = true := by simp [ha, hidle]
  have hexec : exec (.refctlArmComplete die) s = .next ((s.pokeNat (controlBlock die.val + 64) 8 (s.peekNat (refctl die.val) 8 % 2)).setDie
      die { s.die die with arming := false }) := congrArg Host.Outcome.next (if_neg hbusy)
  refine ⟨_, hexec, ?_, ?_, rfl⟩
  · rw [State.peekNat_setDie, hword]
  · rw [State.die_setDie_self (State.pokeNat_sound hs)]

omit hs in
theorem refctlArmComplete_other (ha : (s.die die).arming = false) : exec (.refctlArmComplete die) s = .next s := by
  have hnot : (!(s.die die).arming || (dieChannels die.val).any fun ch => (s.channel ch).paying) = true := by simp [ha]
  exact congrArg Host.Outcome.next (if_pos hnot)

end

end Sys2Proof.Machine
end

section
namespace Sys2Proof.Machine

open Sys2Proof.Claims

/-! Scrub of the memory behind a channel (R476, R486, R497). -/

/-- A counter of a fleet block counts one more where something is found. -/
def State.bumpIf (s : State) (b : Bool) (d : Fin 8) (off : Nat) : State := if b then s.bump d off else s

section
variable {s : State} {b : Bool} {d : Fin 8} {off : Nat}

theorem State.bumpIf_sound (hs : s.Sound) : (s.bumpIf b d off).Sound := State.Evolves.sound (.ite (.bump .refl) .refl) hs

theorem State.bumpIf_poison : (s.bumpIf b d off).poison = s.poison := by
  unfold State.bumpIf
  split
  · rw [State.bump, State.pokeNat, State.perform_poison]
  · rfl

theorem State.peekNat_bumpIf_same (hs : s.Sound) : (s.bumpIf b d off).peekNat (0xB0000 + d.val * 0x1000 + off) 8 =
    if b then oneMore s (0xB0000 + d.val * 0x1000 + off) else s.peekNat (0xB0000 + d.val * 0x1000 + off) 8 := by
  unfold State.bumpIf
  split
  · exact State.peekNat_bump_same hs d off
  · rfl

theorem State.peekNat_bumpIf_apart (hs : s.Sound) {a : Nat}
    (h : a + 8 ≤ 0xB0000 + d.val * 0x1000 + off ∨ 0xB0000 + d.val * 0x1000 + off + 8 ≤ a) :
    (s.bumpIf b d off).peekNat a 8 = s.peekNat a 8 := by
  unfold State.bumpIf
  split
  · exact State.peekNat_bump_apart hs h
  · rfl

end

section
variable {s : State} {pa k j : Nat} {corrected : Bool}

theorem patrolScrub_nowhere (h : s.bankOf pa = none) : exec (.patrolScrub pa corrected) s = .next s := by
  show execPatrolScrub pa corrected s = _
  simp only [execPatrolScrub, h]

/-- Scrub is suspended on a die in trace mode. -/
theorem patrolScrub_traced (h : s.bankOf pa = some (k, j)) (hk : k < 512) (ht : s.peekNat (refctl (k / 64)) 8 % 2 = 1) :
    exec (.patrolScrub pa corrected) s = .next s := by
  have hdie : (Fin.ofNat 8 (k / 64)).val = k / 64 := Nat.mod_eq_of_lt (by omega)
  show execPatrolScrub pa corrected s = _
  simp only [execPatrolScrub, h, hdie, State.tracing_iff.mpr ht, if_true]

/-- The errors that scrub finds are counted, and nothing is marked. -/
theorem patrolScrub_row (hs : s.Sound) (h : s.bankOf pa = some (k, j)) (hk : k < 512) (ht : s.peekNat (refctl (k / 64)) 8 % 2 = 0)
    (hp : s.permits (s.targetOf pa) 0x1208 .r = true) :
    let f := 0xB0000 + k / 64 * 0x1000
    ∃ t, exec (.patrolScrub pa corrected) s = .next t ∧ t.poison = s.poison
      ∧ t.peekNat (f + 0x50) 8 = (if corrected then oneMore s (f + 0x50) else s.peekNat (f + 0x50) 8)
      ∧ t.peekNat (f + 0x58) 8 = (if ∃ e < 4, pa / 256 * 4 + e ∈ s.poison then oneMore s (f + 0x58) else s.peekNat (f + 0x58) 8) := by
  have hdie : (Fin.ofNat 8 (k / 64)).val = k / 64 := Nat.mod_eq_of_lt (by omega)
  have htracing : ¬s.tracing (k / 64) = true := fun hn => by
    have := State.tracing_iff.mp hn
    omega
  have hcounted := State.bumpIf_sound (b := corrected) (d := Fin.ofNat 8 (k / 64)) (off := 0x50) hs
  have hexec : exec (.patrolScrub pa corrected) s = .next ((s.bumpIf corrected (Fin.ofNat 8 (k / 64)) 0x50).bumpIf
      ((List.range 4).any fun e => (s.bumpIf corrected (Fin.ofNat 8 (k / 64)) 0x50).poison.contains (pa / 256 * 4 + e))
      (Fin.ofNat 8 (k / 64)) 0x58) := by
    show execPatrolScrub pa corrected s = _
    simp only [execPatrolScrub, h, hdie, htracing, hp, Bool.not_true, Bool.false_eq_true, if_false, State.bumpIf]
    rfl
  have hfound : ((List.range 4).any fun e => (s.bumpIf corrected (Fin.ofNat 8 (k / 64)) 0x50).poison.contains (pa / 256 * 4 + e)) = true
      ↔ ∃ e < 4, pa / 256 * 4 + e ∈ s.poison := by
    simp [State.bumpIf_poison]
  refine ⟨_, hexec, State.bumpIf_poison.trans State.bumpIf_poison, ?_, ?_⟩
  · have hsame := State.peekNat_bumpIf_same (b := corrected) (d := Fin.ofNat 8 (k / 64)) (off := 0x50) hs
    rw [hdie] at hsame
    rw [State.peekNat_bumpIf_apart hcounted (by omega), hsame]
  · have hsame := State.peekNat_bumpIf_same (d := Fin.ofNat 8 (k / 64)) (off := 0x58) hcounted
      (b := (List.range 4).any fun e => (s.bumpIf corrected (Fin.ofNat 8 (k / 64)) 0x50).poison.contains (pa / 256 * 4 + e))
    have hapart : (s.bumpIf corrected (Fin.ofNat 8 (k / 64)) 0x50).peekNat (0xB0000 + k / 64 * 0x1000 + 0x58) 8
        = s.peekNat (0xB0000 + k / 64 * 0x1000 + 0x58) 8 := State.peekNat_bumpIf_apart hs (by omega)
    rw [hdie] at hsame
    simp only [hsame, hfound, oneMore, hapart]

end

end Sys2Proof.Machine
end

section
namespace Sys2Proof.Machine

open Sys2Proof.Claims

/-! MEMORY_REQUEST_ARRIVE as a row, and a channel brought up to a cycle while it rests (R483, R484). -/

/-- A request to a bank does something beyond setting out only where its arrival is the channel's next event. -/
theorem memoryRequestArrive_row {s : State} (hs : s.Sound) {h : HartId} {pa k j : Nat} (hb : s.bankOf pa = some (k, j)) :
    let u := s.setsOut h pa
    ((∀ t, u.nextEvent k ≠ some (t, .arrive (hartKey h) pa)) → exec (.memoryRequestArrive h pa) s = .next u)
    ∧ ∀ t, u.nextEvent k = some (t, .arrive (hartKey h) pa) →
      exec (.memoryRequestArrive h pa) s = .next (u.channelEvent k t (.arrive (hartKey h) pa)) ∧ u.Sound ∧ u.bankOf pa = some (k, j) := by
  have hexec := memoryRequestArrive_takes (h := h) hb
  exact ⟨fun hn => hexec.trans (State.takeEvent_other hn), fun t hn => ⟨hexec.trans (State.takeEvent_next hn),
    (s.setsOut_evolves h pa).sound hs, (State.bankOf_setsOut s h pa pa).trans hb⟩⟩

end Sys2Proof.Machine
end

section
namespace Sys2Proof.Machine

open Sys2Proof.Claims

/-- Settles O53: which event is a channel's next, and then row by row what the event, the request, REFCTL or scrub does. -/
theorem memoryControllerRows : Obligations.MemoryControllerRows := by
  unfold Obligations.MemoryControllerRows
  intro s ch bank set hs c b g p now next coming dueAt armed becomes live tracing
  have hb := bank.isLt
  have hc : c.Rises := State.channel_rises hs ch.val
  refine ⟨fun e he => State.nextEvent_some he, fun hn => State.nextEvent_none hn, channelRows_other, fun hr => ?resting, fun hr t => ?busy,
    fun h pa => ?arrive,
    fun t k a q hn hq => State.serve_row hs hn hq, fun t hn => refreshDue_row hs hn, fun t hn hf => refreshEnd_row hs hn hf,
    fun t hn => bankAccessEnd_row hs hn, fun t hn => bankSetIdle_row hs hn, fun hp ha hshown => ?power, fun die => ?refctl,
    fun pa corrected => ?scrub⟩
  case resting => exact ⟨Channel.events_resting hr, fun ha t => Channel.upTo_meetsDues hr hc hb ha⟩
  case busy =>
    refine ⟨(Channel.mem_events_due hr hb).trans Channel.nextDue_eq_some, Channel.mem_events_endAccess hr hb,
      Channel.mem_events_endRefresh hr hb, (Channel.mem_events_serve hr hb).trans Channel.servable_eq_some,
      (Channel.mem_events_pay hr (by omega)).trans Channel.payable_eq_some⟩
  case arrive =>
    refine ⟨memoryRequestArrive_nowhere, fun k j hbank => ?_⟩
    obtain ⟨hother, hnext⟩ := memoryRequestArrive_row (h := h) hs hbank
    refine ⟨hother, fun t hn hpower => ?_⟩
    obtain ⟨hexec, hu, hubank⟩ := hnext t hn
    exact ⟨_, hexec, State.arrive_row hu hubank hpower⟩
  case power =>
    exact ⟨channelRequest_idle_row hs hp ha hshown, channelRequest_live_row hs hp ha hshown, channelRequest_traced_row hs hp ha hshown,
      channelReqActive_row hs hp ha hshown, channelDeferredEntry_waits, channelDeferredEntry_enters hs hp ha hshown,
      fun t target since hn hchanging ht hstate hreq => ⟨channelStateChange_wakes hs hp ha hshown hn hchanging ht hreq,
        channelStateChange_enters hs hp ha hshown hn hchanging ht hreq,
        fun h0 hsaved i st j hpool hjob hf => channelStateChange_restores hs hp ha hshown hn hchanging ht hreq h0 hsaved hpool hjob hf⟩⟩
  case refctl =>
    exact ⟨refctlTrace_on_row hs die, refctlTrace_off_row hs die, refctlArm_row hs die, refctlArmComplete_other die, refctlArmComplete_row hs die⟩
  case scrub =>
    exact ⟨patrolScrub_nowhere, fun k j hbank hk => ⟨patrolScrub_traced hbank hk, patrolScrub_row hs hbank hk⟩⟩

end Sys2Proof.Machine
end

section
namespace Sys2Proof.Machine

/-! A configuration word, field by field, and which requests R68 makes illegal. -/

open Sys2Proof.Claims

/-- The bits the model cuts from a word are the field of that word (R67). -/
theorem toNat_extractLsb'_cfgField (w : Word) (lo n : Nat) : (w.extractLsb' lo n).toNat = cfgField w lo n := by
  rw [BitVec.extractLsb'_toNat, Nat.shiftRight_eq_div_pow, cfgField]

theorem extractLsb'_eq_cfgField (w : Word) (lo n : Nat) : w.extractLsb' lo n = BitVec.ofNat n (cfgField w lo n) := by
  rw [← toNat_extractLsb'_cfgField, BitVec.ofNat_toNat, BitVec.setWidth_eq]

/-- The configuration requested, by the fields of the word (R67, R77). -/
theorem VCfg.request_eq (w : Word) : VCfg.request w =
    { nslot := BitVec.ofNat 2 (cfgField w 0 2), sew := BitVec.ofNat 7 (cfgField w 2 7), fmt := BitVec.ofNat 4 (cfgField w 12 4),
      frm := BitVec.ofNat 3 (cfgField w 16 3), vxrm := BitVec.ofNat 2 (cfgField w 19 2), ill := false } := by
  simp only [VCfg.request, extractLsb'_eq_cfgField]

/-- The fields of a request that decide a relay (R67, R78). -/
theorem VCfg.request_nslot (c : Word) : (VCfg.request c).nslot.toNat = cfgField c 0 2 := toNat_extractLsb'_cfgField ..
theorem VCfg.request_sew (c : Word) : (VCfg.request c).sew.toNat = cfgField c 2 7 := toNat_extractLsb'_cfgField ..

/-- Rows of a slot, by the code of NSLOT (R67, R69). -/
theorem VCfg.rps_eq (c : VCfg) : c.rps = 128 / 2 ^ c.nslot.toNat :=
  Nat.mul_div_mul_left 128 (2 ^ c.nslot.toNat) (by decide : 0 < 8)

/-- The width of the format of a code that names one or is 0 (R68). -/
theorem fmtWidth_eq {code : Nat} (h : code ≤ 7) : fmtWidth code = [0, 64, 32, 16, 16, 8, 8, 4].getD code 0 := by
  revert code
  decide

/-- The model refuses exactly the requests that R68 makes illegal in a vector-capable hart. -/
theorem illegalRequest_iff (w : Word) : illegalRequest w = true ↔ ¬requestLegal w := by
  have hfmt : ∀ x : BitVec 4, (x != 0) = decide (x.toNat ≠ 0) := by decide
  have hfrm : ∀ x : BitVec 3, (x == 5) = decide (x.toNat = 5) ∧ (x == 6) = decide (x.toNat = 6) := by decide
  have hsew : ∀ x : BitVec 7, (x == 0) = decide (x.toNat = 0) := by decide
  simp only [illegalRequest, requestLegal, VCfg.rps_eq, hfmt, hfrm, hsew, VCfg.request, toNat_extractLsb'_cfgField,
    Bool.or_eq_true, Bool.and_eq_true, decide_eq_true_eq, bne_iff_ne]
  have hlow : bitsOf w.toNat 11 9 = cfgField w 9 3 := rfl
  have hhigh : bitsOf w.toNat 62 22 = cfgField w 22 41 := rfl
  rw [hlow, hhigh]
  by_cases hcode : cfgField w 12 4 ≤ 7
  · rw [fmtWidth_eq hcode]
    omega
  · omega

end Sys2Proof.Machine
end

section
namespace Sys2Proof.Machine

/-! Registers and masks relayed into a geometry (R78). -/

open Sys2Proof.Claims

theorem Hart.vlmaxAt_eq (h : Hart) (w : Nat) : h.vlmaxAt w = geometry h.vs.qcount h.vs.cfg.nslot.toNat w := by
  rw [Hart.vlmaxAt, VCfg.rps_eq]
  rfl

/-- VLMAX of a legal configuration in a hart with lanes is that of its geometry (R72). -/
theorem Hart.vlmax_eq {h : Hart} (hill : h.vs.cfg.ill = false) (hq : h.vs.qcount ≠ 0) :
    h.vlmax = geometry h.vs.qcount h.vs.cfg.nslot.toNat h.vs.cfg.sew.toNat := by
  have hscalar : h.scalarOnly = false := by simpa [Hart.scalarOnly] using hq
  rw [Hart.vlmax, hill, hscalar, Hart.vlmaxAt_eq]
  rfl

/-- A relayed register keeps its shape and its elements below the new VLMAX(EW), or is gone where its EW exceeds the rows of a slot. -/
theorem VReg.relay_relayed (r : VReg) (q n : Nat) : relayedRegister r (r.relay (geometry q n r.ew) (128 / 2 ^ n)) q n := by
  obtain ⟨shape, ew, extent, used, bad, refilled⟩ := r
  have hbelow {cap i : Nat} (hi : i < min extent cap) : ¬min extent cap ≤ i ∧ ¬extent ≤ i ∧ i < cap := by omega
  cases shape with
  | u a =>
    refine ⟨rfl, rfl, fun i hi => ?_, rfl⟩
    simp [VReg.relay, VReg.own, hbelow hi]
  | a base step =>
    refine ⟨rfl, rfl, fun i hi => ?_, rfl, rfl⟩
    simp [VReg.relay, VReg.own, hbelow hi]
  | g es p =>
    by_cases hgone : 128 / 2 ^ n < ew
    · simp [relayedRegister, VReg.relay, hgone]
    · simp only [relayedRegister, VReg.relay, hgone, decide_false, Bool.false_eq_true, if_false]
      refine ⟨trivial, trivial, fun i hi => ?_, trivial⟩
      obtain ⟨hnew, hold, hcap⟩ := hbelow hi
      simp [VReg.own, hnew, hold, hcap]

/-- A relayed mask keeps its bits below the new VLMAX. -/
theorem Mask.bit_relay (k : Mask) (cap i : Nat) : (k.relay cap).bit i = (k.bit i && decide (i < cap)) := by
  by_cases hi : i < cap <;> simp [Mask.bit, Mask.relay, hi]

theorem Hart.getV_relayRegs (h : Hart) {k : Nat} (hk : k < 64) :
    h.relayRegs.getV k = (h.getV k).relay (h.vlmaxAt (h.getV k).ew) h.vs.cfg.rps := by
  simp [Hart.getV, Hart.relayRegs, Vector.getD, Array.getD, hk]

/-- Every register of a hart is relayed into its partition and configuration. -/
theorem Hart.relayRegs_relayed (h : Hart) {k : Nat} (hk : k < 64) :
    relayedRegister (h.getV k) (h.relayRegs.getV k) h.vs.qcount h.vs.cfg.nslot.toNat := by
  rw [h.getV_relayRegs hk, Hart.vlmaxAt_eq, VCfg.rps_eq]
  exact VReg.relay_relayed ..

/-- Every mask is cut at the VLMAX of its hart's partition and configuration. -/
theorem Hart.bit_relayRegs (h : Hart) {k : Nat} (hk : k < 8) (i : Nat) : (h.relayRegs.getM k).bit i
    = ((h.getM k).bit i && decide (i < geometry h.vs.qcount h.vs.cfg.nslot.toNat h.vs.cfg.sew.toNat)) := by
  have hget : h.relayRegs.getM k = (h.getM k).relay (h.vlmaxAt h.sew) := by
    simp [Hart.getM, Hart.relayRegs, Vector.getD, Array.getD, hk]
  rw [hget, Mask.bit_relay, Hart.vlmaxAt_eq]
  rfl

end Sys2Proof.Machine
end

section
namespace Sys2Proof.Machine

/-! The hart of a legal vsetvl: the partition a reclaim leaves, then the configuration (R77). -/

open Sys2Proof.Claims

/-- The hart after a pending reclaim, where one is served. -/
def Hart.afterReclaim (h : Hart) (serve : Bool) : Hart := if serve then h.served else h

theorem Hart.configure_eq (h : Hart) (req : VCfg) (avl : Nat) (serve : Bool) :
    h.configure req avl serve = { (h.afterReclaim serve).reslot req with
      vs := { ((h.afterReclaim serve).reslot req).vs with vl := min avl ((h.afterReclaim serve).reslot req).vlmax, vstart := 0 } } := rfl

theorem Hart.afterReclaim_eq (h : Hart) (serve : Bool) : h.afterReclaim serve = { h with
    v := (h.afterReclaim serve).v, m := (h.afterReclaim serve).m,
    vs := { h.vs with qcount := if serve then h.vs.rq else h.vs.qcount, rq := if serve then 0 else h.vs.rq },
    relay := serve || h.relay, reclaimAt := if serve then none else h.reclaimAt } := by
  cases serve <;> rfl

/-- A change of NSLOT alone relays the registers; the rest of the configuration is taken as it is. -/
theorem Hart.reslot_cases (h : Hart) (req : VCfg) :
    (req.nslot.toNat ≠ h.vs.cfg.nslot.toNat ∧ h.reslot req = ({ h with vs := { h.vs with cfg := req } } : Hart).relayRegs)
    ∨ (req.nslot.toNat = h.vs.cfg.nslot.toNat ∧ h.reslot req = { h with vs := { h.vs with cfg := req } }) := by
  by_cases hslot : req.nslot = h.vs.cfg.nslot
  · exact .inr ⟨congrArg _ hslot, by simp [Hart.reslot, hslot]⟩
  · exact .inl ⟨fun h' => hslot (BitVec.eq_of_toNat_eq h'), by simp [Hart.reslot, hslot]⟩

theorem Hart.reslot_eq (h : Hart) (req : VCfg) : h.reslot req = { h with
    v := (h.reslot req).v, m := (h.reslot req).m, vs := { h.vs with cfg := req },
    relay := decide (req.nslot.toNat ≠ h.vs.cfg.nslot.toNat) || h.relay } := by
  obtain ⟨hne, heq⟩ | ⟨hsame, heq⟩ := h.reslot_cases req
  · rw [heq, decide_eq_true hne]
    rfl
  · rw [heq, decide_eq_false (not_not.mpr hsame)]
    rfl

theorem Hart.afterReclaim_cfg (h : Hart) (serve : Bool) : (h.afterReclaim serve).vs.cfg = h.vs.cfg := by cases serve <;> rfl

theorem Hart.afterReclaim_qcount (h : Hart) (serve : Bool) :
    (h.afterReclaim serve).vs.qcount = if serve then h.vs.rq else h.vs.qcount := by cases serve <;> rfl

/-- Serving the reclaim relays the registers into the quartets that stay, under the configuration still in force. -/
theorem Hart.afterReclaim_registers (h : Hart) (serve : Bool) {k : Nat} (hk : k < 64) :
    if serve then relayedRegister (h.getV k) ((h.afterReclaim serve).getV k) (h.afterReclaim serve).vs.qcount h.vs.cfg.nslot.toNat
    else (h.afterReclaim serve).getV k = h.getV k := by
  cases serve with
  | true => exact Hart.relayRegs_relayed { h with vs := h.vs.shrink, reclaimAt := none } hk
  | false => rfl

theorem Hart.afterReclaim_masks (h : Hart) (serve : Bool) {k : Nat} (hk : k < 8) (i : Nat) :
    ((h.afterReclaim serve).getM k).bit i = ((h.getM k).bit i
      && (decide ¬serve = true || decide (i < geometry (h.afterReclaim serve).vs.qcount h.vs.cfg.nslot.toNat h.vs.cfg.sew.toNat))) := by
  cases serve with
  | true => exact Hart.bit_relayRegs { h with vs := h.vs.shrink, reclaimAt := none } hk i
  | false => exact (Bool.and_true _).symm

theorem Hart.reslot_registers (h : Hart) (req : VCfg) {k : Nat} (hk : k < 64) :
    if req.nslot.toNat ≠ h.vs.cfg.nslot.toNat then relayedRegister (h.getV k) ((h.reslot req).getV k) h.vs.qcount req.nslot.toNat
    else (h.reslot req).getV k = h.getV k := by
  obtain ⟨hne, heq⟩ | ⟨hsame, heq⟩ := h.reslot_cases req
  · rw [if_pos hne, heq]
    exact Hart.relayRegs_relayed { h with vs := { h.vs with cfg := req } } hk
  · rw [if_neg (not_not.mpr hsame), heq]
    rfl

theorem Hart.reslot_masks (h : Hart) (req : VCfg) {k : Nat} (hk : k < 8) (i : Nat) :
    ((h.reslot req).getM k).bit i = ((h.getM k).bit i && (decide (req.nslot.toNat = h.vs.cfg.nslot.toNat)
      || decide (i < geometry h.vs.qcount req.nslot.toNat req.sew.toNat))) := by
  obtain ⟨hne, heq⟩ | ⟨hsame, heq⟩ := h.reslot_cases req
  · rw [heq, decide_eq_false hne]
    exact Hart.bit_relayRegs { h with vs := { h.vs with cfg := req } } hk i
  · rw [heq, decide_eq_true hsame]
    exact (Bool.and_true _).symm

/-- The partition after a reclaim with the configuration of a request, but for VL and VSTART. -/
theorem Hart.reslot_afterReclaim_eq {h : Hart} (hrelay : h.relay = false) (c : Word) (serve : Bool) :
    (h.afterReclaim serve).reslot (VCfg.request c) = { h with
      v := ((h.afterReclaim serve).reslot (VCfg.request c)).v, m := ((h.afterReclaim serve).reslot (VCfg.request c)).m,
      vs := { h.vs with
        cfg := VCfg.request c, qcount := if serve then h.vs.rq else h.vs.qcount, rq := if serve then 0 else h.vs.rq },
      relay := decide (serve = true ∨ cfgField c 0 2 ≠ h.vs.cfg.nslot.toNat),
      reclaimAt := if serve then none else h.reclaimAt } := by
  have hrelays : decide (serve = true ∨ cfgField c 0 2 ≠ h.vs.cfg.nslot.toNat)
      = (decide ((VCfg.request c).nslot.toNat ≠ h.vs.cfg.nslot.toNat) || (serve || h.relay)) := by
    rw [VCfg.request_nslot, hrelay, Bool.or_false, Bool.decide_or, Bool.decide_eq_true, Bool.or_comm]
  rw [hrelays]
  exact (Hart.reslot_eq ..).trans (congrArg (fun x : Hart => { x with
    v := ((h.afterReclaim serve).reslot (VCfg.request c)).v, m := ((h.afterReclaim serve).reslot (VCfg.request c)).m,
    vs := { x.vs with cfg := VCfg.request c },
    relay := decide ((VCfg.request c).nslot.toNat ≠ x.vs.cfg.nslot.toNat) || x.relay }) (h.afterReclaim_eq serve))

/-- The hart of a legal request, field by field. -/
theorem Hart.configure_fields {h : Hart} (hrelay : h.relay = false) (c : Word) (avl : Nat) {serve : Bool} {q : Nat}
    (hq : (if serve then h.vs.rq else h.vs.qcount) = q) (hlanes : q ≠ 0) :
    let g := h.configure (VCfg.request c) avl serve
    g = { h with
      v := g.v, m := g.m,
      vs := { h.vs with
        cfg := { nslot := BitVec.ofNat 2 (cfgField c 0 2), sew := BitVec.ofNat 7 (cfgField c 2 7),
                 fmt := BitVec.ofNat 4 (cfgField c 12 4), frm := BitVec.ofNat 3 (cfgField c 16 3),
                 vxrm := BitVec.ofNat 2 (cfgField c 19 2), ill := false },
        vl := min avl (geometry q (cfgField c 0 2) (cfgField c 2 7)), vstart := 0, qcount := q,
        rq := if serve then 0 else h.vs.rq },
      relay := decide (serve = true ∨ cfgField c 0 2 ≠ h.vs.cfg.nslot.toNat),
      reclaimAt := if serve then none else h.reclaimAt } := by
  subst hq
  intro g
  have htaken := Hart.reslot_afterReclaim_eq hrelay c serve
  have hvlmax : ((h.afterReclaim serve).reslot (VCfg.request c)).vlmax
      = geometry (if serve then h.vs.rq else h.vs.qcount) (cfgField c 0 2) (cfgField c 2 7) := by
    rw [htaken, Hart.vlmax_eq rfl hlanes, VCfg.request_nslot, VCfg.request_sew]
  rw [← VCfg.request_eq, ← hvlmax]
  exact congrArg (fun x : Hart => { x with
    vs := { x.vs with vl := min avl ((h.afterReclaim serve).reslot (VCfg.request c)).vlmax, vstart := 0 } }) htaken

/-- Each register is relayed for the reclaim served, and then for a change of NSLOT (R77, R78). -/
theorem Hart.configure_registers (h : Hart) (c : Word) (avl : Nat) (serve : Bool) {q k : Nat}
    (hq : (if serve then h.vs.rq else h.vs.qcount) = q) (hk : k < 64) :
    ∃ r : VReg, (if serve then relayedRegister (h.getV k) r q h.vs.cfg.nslot.toNat else r = h.getV k)
      ∧ if cfgField c 0 2 ≠ h.vs.cfg.nslot.toNat then
          relayedRegister r ((h.configure (VCfg.request c) avl serve).getV k) q (cfgField c 0 2)
        else (h.configure (VCfg.request c) avl serve).getV k = r := by
  have hserved := h.afterReclaim_registers serve hk
  have hslot := (h.afterReclaim serve).reslot_registers (VCfg.request c) hk
  rw [h.afterReclaim_qcount, hq] at hserved hslot
  rw [VCfg.request_nslot, h.afterReclaim_cfg] at hslot
  exact ⟨_, hserved, hslot⟩

/-- Each mask is cut for the reclaim served, and then for a change of NSLOT (R77, R78). -/
theorem Hart.configure_masks (h : Hart) (c : Word) (avl : Nat) (serve : Bool) {q k : Nat}
    (hq : (if serve then h.vs.rq else h.vs.qcount) = q) (hk : k < 8) (i : Nat) :
    ((h.configure (VCfg.request c) avl serve).getM k).bit i = ((h.getM k).bit i
      && (decide ¬serve = true || decide (i < geometry q h.vs.cfg.nslot.toNat h.vs.cfg.sew.toNat))
      && (decide (cfgField c 0 2 = h.vs.cfg.nslot.toNat) || decide (i < geometry q (cfgField c 0 2) (cfgField c 2 7)))) := by
  have hslot := (h.afterReclaim serve).reslot_masks (VCfg.request c) hk i
  rw [h.afterReclaim_masks serve hk, VCfg.request_nslot, VCfg.request_sew, h.afterReclaim_cfg, h.afterReclaim_qcount, hq] at hslot
  exact hslot

end Sys2Proof.Machine
end

section
namespace Sys2Proof.Machine

/-! Copies that move between slots, ways and memory: what they leave of harts and of the state (R28, R89, R90, R92). -/

theorem VReg.sameImage_refl (r : VReg) : r.sameImage r := ⟨rfl, rfl, fun _ => rfl⟩

theorem VReg.sameImage_trans {p q r : VReg} (h : p.sameImage q) (h' : q.sameImage r) : p.sameImage r := by
  obtain ⟨hew, hextent, hown⟩ := h
  obtain ⟨hew', hextent', hown'⟩ := h'
  exact ⟨hew'.trans hew, hextent'.trans hextent, fun i => (hown' i).trans (hown i)⟩

/-- Where a register's elements are kept is no part of its image. -/
theorem VReg.move_sameImage (r : VReg) (p : Place) : r.sameImage (r.move p) := by
  unfold VReg.move
  split
  · next es _ hs => exact ⟨rfl, rfl, fun i => by simp [VReg.own, hs]⟩
  · exact r.sameImage_refl

/-- Hart `g` is hart `h` but for where its registers and strip buffers are kept. -/
structure Hart.Recopied (h g : Hart) : Prop where
  rest : g = { h with v := g.v, stm := g.stm }
  streams : ∀ st : Fin 16, g.stm[st] = { h.stm[st] with bufs := g.stm[st].bufs }
  images : ∀ k < 64, (h.getV k).sameImage (g.getV k)

namespace Hart.Recopied

theorem refl (h : Hart) : Recopied h h := ⟨rfl, fun _ => rfl, fun _ _ => VReg.sameImage_refl _⟩

theorem trans {f g h : Hart} (e : Recopied f g) (e' : Recopied g h) : Recopied f h where
  rest := e'.rest.trans (congrArg (fun x : Hart => { x with v := h.v, stm := h.stm }) e.rest)
  streams st := (e'.streams st).trans (congrArg (fun x : Stream => { x with bufs := h.stm[st].bufs }) (e.streams st))
  images k hk := VReg.sameImage_trans (e.images k hk) (e'.images k hk)

/-- One register moved. -/
theorem moved (h : Hart) (k : Nat) (p : Place) : Recopied h (h.setV k ((h.getV k).move p)) where
  rest := rfl
  streams _ := rfl
  images j hj := by
    by_cases hkj : k = j
    · subst hkj
      have hget : (h.setV k ((h.getV k).move p)).getV k = (h.getV k).move p := by
        simp [Hart.getV, Hart.setV, Vector.getD, Array.getD, hj]
      rw [hget]
      exact VReg.move_sameImage ..
    · have hget : (h.setV k ((h.getV k).move p)).getV j = h.getV j := by
        simp [Hart.getV, Hart.setV, Vector.getD, Array.getD, hj, hkj]
      rw [hget]
      exact VReg.sameImage_refl _

/-- Copies and strip buffers that leave the ways. -/
theorem leaveWays (h : Hart) (out : BitVec 8 → Bool) : Recopied h (h.leaveWays out) where
  rest := rfl
  streams st := by
    simp only [Hart.leaveWays, Fin.getElem_fin, Vector.getElem_map]
    split <;> rfl
  images k hk := by
    have hget : (h.leaveWays out).getV k = if (h.getV k).inWays.any out then (h.getV k).move .hbm else h.getV k := by
      simp [Hart.getV, Hart.leaveWays, Vector.getD, Array.getD, hk]
    rw [hget]
    split
    · exact VReg.move_sameImage ..
    · exact VReg.sameImage_refl _

end Hart.Recopied

/-- State `t` is state `s` but for where registers and strip buffers are kept, and the sectors that copies have made good; and each hart
of `t` is listed once. -/
structure State.Recopied (s t : State) : Prop where
  rest : t = { s with harts := t.harts, poison := t.poison, rewritten := t.rewritten }
  sectors : ∀ c ∈ t.poison, c ∈ s.poison
  harts : ∀ i, (s.hart i).Recopied (t.hart i)
  rises : Map.rises t.harts

theorem State.hart_copyOut (s : State) (x : Hart) (k : Nat) (i : HartId) : (s.copyOut x k).hart i = s.hart i := by
  unfold State.copyOut
  split <;> rfl

namespace State.Recopied
variable {r s : State}

theorem refl (h : Map.rises s.harts) : Recopied s s := ⟨rfl, fun _ h => h, fun _ => .refl _, h⟩

theorem setHart (h : Recopied r s) {i : HartId} {x : Hart} (hx : (s.hart i).Recopied x) : Recopied r (s.setHart i x) where
  rest := congrArg (fun s' : State => s'.setHart i x) h.rest
  sectors := h.sectors
  harts j := by
    refine (h.harts j).trans ?_
    by_cases hj : j = i
    · rw [hj, State.hart_setHart_same h.rises]
      exact hx
    · rw [State.hart_setHart_other h.rises x (mt hartKey_inj hj)]
      exact .refl _
  rises := Map.set_rises _ h.rises

theorem copyOut (h : Recopied r s) (x : Hart) (k : Nat) : Recopied r (s.copyOut x k) := by
  unfold State.copyOut
  split
  · exact h
  · exact ⟨congrArg (fun s' : State => s'.cure _) h.rest, fun c hc => h.sectors c (List.mem_of_mem_filter hc), h.harts, h.rises⟩

/-- A register of a hart moves, with or without its copy written to memory. -/
theorem spilled (h : Recopied r s) (i : HartId) (k : Nat) (p : Place) (toMemory : Prop) [Decidable toMemory] :
    Recopied r ((if toMemory then s.copyOut (s.hart i) k else s).setHart i
      ((s.hart i).setV k (((s.hart i).getV k).move p))) := by
  split
  · refine (h.copyOut _ k).setHart ?_
    rw [State.hart_copyOut]
    exact .moved ..
  · exact h.setHart (.moved ..)

theorem spillDown {i : HartId} {n : Nat} {s : State} (h : Recopied r s) : Recopied r (s.spillDown i n) := by
  induction n generalizing s with
  | zero => exact h
  | succ n ih =>
    unfold State.spillDown
    dsimp only
    split
    · exact h
    · split
      · exact h
      · exact ih (h.spilled ..)

theorem evictFrom {c : CoreId} {left : BitVec 8} {ks : List Nat} {s : State} (h : Recopied r s) : Recopied r (s.evictFrom c left ks) := by
  induction ks generalizing s with
  | nil => exact h
  | cons k ks ih =>
    unfold State.evictFrom
    dsimp only
    split
    · exact ih (List.foldlRecOn _ _ (h.setHart (.leaveWays ..)) fun _ h' _ _ => h'.copyOut ..)
    · exact ih h

theorem evictWays (h : Recopied r s) {c : CoreId} : Recopied r (s.evictWays c) := h.evictFrom

end State.Recopied

end Sys2Proof.Machine
end

section
namespace Sys2Proof.Machine

/-! Quartets reserved for an incoming hart when a reclaim is served (R340, R474, R498). -/

/-- Core numbers tell cores apart. -/
theorem coreKey_inj {c c' : CoreId} (h : coreKey c = coreKey c') : c = c' := by
  obtain ⟨⟨d, hd⟩, ⟨k, hk⟩⟩ := c
  obtain ⟨⟨d', hd'⟩, ⟨k', hk'⟩⟩ := c'
  simp only [coreKey] at h
  have hdie : d = d' := by omega
  have hcore : k = k' := by omega
  subst hdie hcore
  rfl

/-- The core of a hart is not that of its shadow (R498). -/
theorem coreOf_partner_ne (i : HartId) : coreOf (partner i) ≠ coreOf i := by
  intro h
  have hcore : (i.core.val + 1) % 192 = i.core.val := congrArg (fun c : CoreId => c.core.val) h
  omega

/-- A reservation adds one entry to what its core reserves (R340). -/
theorem State.core_reserve {s : State} (hm : Map.rises s.cores) (c core : CoreId) (bits : BitVec 8) :
    (s.reserve c bits).core core = { s.core core with
      reserved := (s.core core).reserved ++ if core = c then [(bits, s.cycle + 65536)] else [] } := by
  by_cases h : core = c
  · subst h
    rw [if_pos rfl]
    exact Map.get_set_same _ hm
  · rw [if_neg h, List.append_nil]
    exact Map.get_set_other _ hm (mt coreKey_inj h)

/-- Quartets `first` to `first + count - 1` as bits. -/
theorem getLsbD_quartetBits (first count : Nat) {k : Nat} (hk : k < 8) :
    (quartetBits first count).getLsbD k = decide (first ≤ k ∧ k < first + count) := by
  rw [quartetBits, BitVec.getLsbD_ofNat, ← Nat.shiftLeft_eq, Nat.testBit_shiftLeft, Nat.testBit_two_pow_sub_one]
  by_cases hf : first ≤ k <;> simp [hk, hf]
  omega

/-- The state after the freed quartets are reserved, where a served reclaim asks for it (R340). -/
def State.afterReserve (s : State) (serve : Bool) : State :=
  if serve && s.h.reclaimAt.any (·.resv) then
    let freed := quartetBits (s.h.vs.qfirst + s.h.vs.rq) (s.h.vs.qcount - s.h.vs.rq)
    let t := s.reserve (coreOf s.cur) freed
    if s.h.id.paired then t.reserve (coreOf (partner s.cur)) freed else t
  else s

theorem State.afterReserve_rest (s : State) (serve : Bool) :
    s.afterReserve serve = { s with cores := (s.afterReserve serve).cores } := by
  unfold State.afterReserve
  dsimp only
  split
  · split <;> rfl
  · rfl

theorem State.core_afterReserve {s : State} (hm : Map.rises s.cores) (serve : Bool) (core : CoreId) :
    (s.afterReserve serve).core core = { s.core core with
      reserved := (s.core core).reserved
        ++ if serve = true ∧ s.h.reclaimAt.any (·.resv) = true
              ∧ (core = coreOf s.cur ∨ s.h.id.paired = true ∧ core = coreOf (partner s.cur))
          then [(quartetBits (s.h.vs.qfirst + s.h.vs.rq) (s.h.vs.qcount - s.h.vs.rq), s.cycle + 65536)] else [] } := by
  have hreserved (bits : BitVec 8) : Map.rises (s.reserve (coreOf s.cur) bits).cores := Map.set_rises _ hm
  have hcycle (c : CoreId) (bits : BitVec 8) : (s.reserve c bits).cycle = s.cycle := rfl
  unfold State.afterReserve
  dsimp only
  by_cases hserve : (serve && s.h.reclaimAt.any (·.resv)) = true
  · obtain ⟨hs, hr⟩ := Bool.and_eq_true_iff.mp hserve
    rw [if_pos hserve]
    by_cases hp : s.h.id.paired = true
    · rw [if_pos hp, State.core_reserve (hreserved _), State.core_reserve hm, hcycle]
      by_cases hown : core = coreOf s.cur
      · simp [hs, hr, hown, (coreOf_partner_ne s.cur).symm]
      · simp [hs, hr, hown, hp]
    · rw [if_neg hp, State.core_reserve hm]
      simp [hs, hr, hp]
  · rw [if_neg hserve, if_neg fun ⟨hs, hr, _⟩ => hserve (Bool.and_eq_true_iff.mpr ⟨hs, hr⟩), List.append_nil]

/-- The entries that a legal vsetvl adds to what a core reserves (R77, R340, R498). -/
theorem VState.freed_entries (vs : VState) (now : Nat) (p : Prop) [Decidable p] :
    let freed := fun (k : Nat) => decide (vs.qfirst + vs.rq ≤ k ∧ k < vs.qfirst + vs.qcount)
    let rs := if p then [(quartetBits (vs.qfirst + vs.rq) (vs.qcount - vs.rq), now + 65536)] else []
    if p then ∃ e, rs = [e] ∧ e.2 = now + 65536 ∧ ∀ k < 8, e.1.getLsbD k = freed k else rs = [] := by
  intro freed rs
  by_cases hp : p
  · have hfreed (k : Nat) (hk : k < 8) : (quartetBits (vs.qfirst + vs.rq) (vs.qcount - vs.rq)).getLsbD k = freed k := by
      rw [getLsbD_quartetBits _ _ hk]
      exact decide_eq_decide.mpr (by omega)
    simpa only [rs, if_pos hp] using ⟨_, rfl, rfl, hfreed⟩
  · simp only [rs, if_neg hp]

end Sys2Proof.Machine
end

section
namespace Sys2Proof.Machine

/-! vsetvl, vsetvl.k and vrows (R77, R223-R225). -/

open Sys2Proof.Claims

/-- An instruction of `n` bytes that writes `v` to x`d` changes nothing else (R180). -/
theorem State.write_eq_wrote (s : State) (n : Nat) (d : Fin 32) (v : Word) : s.write n d v = s.wrote n d v := by
  unfold State.write Hart.setX State.wrote
  split <;> rfl

/-- A legal vsetvl with no relay outstanding: it reserves, configures, lets copies move as the new geometry needs, and writes VL. -/
theorem State.vsetvl_legal {s : State} {d a b : Fin 32} {keep serve : Bool} (hrelay : s.h.relay = false) (hq : s.h.vs.qcount ≠ 0)
    (hlegal : requestLegal (s.getX b)) (hserve : (s.h.vs.rq != 0 && !keep) = serve) :
    let h := s.h.configure (VCfg.request (s.getX b)) (s.getX a).toNat serve
    s.vsetvl d a b keep
      = ((((s.afterReserve serve).setH h).spillDown s.cur 64).evictWays (coreOf s.cur)).write 4 d (BitVec.ofNat 64 h.vs.vl) := by
  have hcur : (s.afterReserve serve).cur = s.cur := by rw [s.afterReserve_rest]
  have hgo : (s.h.scalarOnly || illegalRequest (s.getX b)) = false := by
    simpa [Hart.scalarOnly, hq] using (illegalRequest_iff (s.getX b)).not_left.mpr hlegal
  unfold State.vsetvl
  dsimp only
  rw [hrelay, hgo, hserve, if_neg Bool.false_ne_true, if_neg Bool.false_ne_true]
  conv_rhs => rw [← hcur]
  rfl

/-- A legal vsetvl ends with copies moved from the state that holds the configured hart, and with VL written. -/
theorem State.vsetvl_recopied {s : State} (hharts : Map.rises s.harts) {d a b : Fin 32} {keep serve : Bool} (hrelay : s.h.relay = false)
    (hq : s.h.vs.qcount ≠ 0) (hlegal : requestLegal (s.getX b)) (hserve : (s.h.vs.rq != 0 && !keep) = serve) :
    let g := s.h.configure (VCfg.request (s.getX b)) (s.getX a).toNat serve
    ∃ t, ((s.afterReserve serve).setHart s.cur g).Recopied t ∧ s.vsetvl d a b keep = t.wrote 4 d (BitVec.ofNat 64 g.vs.vl) := by
  intro g
  have hcur : (s.afterReserve serve).cur = s.cur := by rw [s.afterReserve_rest]
  have hrises : Map.rises ((s.afterReserve serve).setHart s.cur g).harts := by
    rw [s.afterReserve_rest]
    exact Map.set_rises _ hharts
  refine ⟨(((s.afterReserve serve).setHart s.cur g).spillDown s.cur 64).evictWays (coreOf s.cur),
    (State.Recopied.refl hrises).spillDown.evictWays, ?_⟩
  rw [State.vsetvl_legal hrelay hq hlegal hserve, State.write_eq_wrote, State.setH, hcur]

/-- The current hart once its copies have moved and xd is written, where `g` is the hart configured (R77). -/
theorem Hart.Recopied.wrote {g x : Hart} (e : g.Recopied x) (d : Fin 32) (v : Word) :
    (x.setX d v).retire 4 = { g with
      x := if d = 0 then g.x else g.x.set d v, v := x.v, stm := x.stm, pc := g.pc + 4,
      instret := if g.inf then g.instret else g.instret + 1 } := by
  rw [e.rest]
  unfold Hart.setX
  split <;> rfl

/-! A state `t` in which copies have moved since `s` took the hart `g` and the core records of `r`. -/

section
variable {s r t : State} {g : Hart} (hm : Map.rises s.harts) (hr : r = { s with cores := r.cores })
  (e : (r.setHart s.cur g).Recopied t)

include e in
theorem State.Recopied.setHart_cores : t.cores = r.cores := by rw [e.rest]; rfl

include e in
theorem State.Recopied.setHart_core (c : CoreId) : t.core c = r.core c := by rw [State.core, e.setHart_cores]; rfl

include hr e in
theorem State.Recopied.setHart_rest : t = { s with harts := t.harts, cores := t.cores, poison := t.poison, rewritten := t.rewritten } := by
  rw [e.setHart_cores]
  exact e.rest.trans (congrArg (fun x : State => { x with harts := t.harts, poison := t.poison, rewritten := t.rewritten }) hr)

include hm hr e in
theorem State.Recopied.setHart_hart (i : HartId) : (if i = s.cur then g else s.hart i).Recopied (t.hart i) := by
  have hrises : Map.rises r.harts := by
    rw [hr]
    exact hm
  have hi := e.harts i
  split
  · next h =>
    rwa [h, State.hart_setHart_same hrises, ← h] at hi
  · next h =>
    rw [State.hart_setHart_other hrises g (mt hartKey_inj h), hr] at hi
    exact hi

include hm hr e in
theorem State.Recopied.setHart_h : g.Recopied t.h := by
  have hcur : t.cur = s.cur := by rw [e.setHart_rest hr]
  have h := e.setHart_hart hm hr s.cur
  rwa [if_pos rfl, ← hcur] at h

include hm hr e in
/-- The current hart, when it has written xd too. -/
theorem State.Recopied.setHart_wrote (d : Fin 32) (v : Word) : (t.wrote 4 d v).h = { g with
    x := if d = 0 then g.x else g.x.set d v, v := t.h.v, stm := t.h.stm, pc := g.pc + 4,
    instret := if g.inf then g.instret else g.instret + 1 } := by
  rw [← State.write_eq_wrote, State.write, State.h_setH e.rises]
  exact (e.setHart_h hm hr).wrote d v

include hm hr e in
/-- Of other harts only where copies and buffers lie has changed, when the current hart has written xd too. -/
theorem State.Recopied.setHart_onlyCopies (hg : g.stm = s.h.stm) (d : Fin 32) (v : Word) : onlyCopies s (t.wrote 4 d v) := by
  have hcur : t.cur = s.cur := by rw [e.setHart_rest hr]
  rw [State.wrote, hcur]
  have hsectors : ∀ c ∈ t.poison, c ∈ s.poison := by
    rw [hr] at e
    exact e.sectors
  refine ⟨congrArg (fun x : State => x.setHart s.cur _) (e.setHart_rest hr), hsectors, fun i => ?_⟩
  have hi := e.setHart_hart hm hr i
  by_cases h : i = s.cur
  · subst h
    rw [if_pos rfl] at hi
    rw [State.hart_setHart_same e.rises, ← State.h, ← hg, State.h, hcur]
    exact ⟨hi.streams, fun hne => absurd rfl hne⟩
  · rw [if_neg h] at hi
    rw [State.hart_setHart_other e.rises _ (mt hartKey_inj h)]
    exact ⟨hi.streams, fun _ => ⟨hi.rest, hi.images⟩⟩

end

/-- A legal vsetvl grants what R77 says. -/
theorem State.vsetvl_grants {s : State} (hs : s.Sound) {d a b : Fin 32} {keep : Bool} (hrelay : s.h.relay = false)
    (hq : s.h.vs.qcount ≠ 0) (hlegal : requestLegal (s.getX b)) :
    grants s (s.vsetvl d a b keep) d (s.getX a).toNat (s.getX b) keep := by
  obtain ⟨⟨hharts, hcores, -⟩, -⟩ := hs
  obtain ⟨serve, hmodel⟩ : ∃ serve, (s.h.vs.rq != 0 && !keep) = serve := ⟨_, rfl⟩
  have hserve : (keep = false ∧ s.h.vs.rq ≠ 0) ↔ serve = true := by
    rw [← hmodel]
    simp [and_comm]
  have hlanes : (if serve then s.h.vs.rq else s.h.vs.qcount) ≠ 0 := by
    split
    · next h => exact (hserve.mpr h).2
    · exact hq
  obtain ⟨q, hkept⟩ : ∃ q, (if serve then s.h.vs.rq else s.h.vs.qcount) = q := ⟨_, rfl⟩
  rw [hkept] at hlanes
  have hfields := Hart.configure_fields hrelay (s.getX b) (s.getX a).toNat hkept hlanes
  have hregisters (k : Nat) (hk : k < 64) := s.h.configure_registers (s.getX b) (s.getX a).toNat serve hkept hk
  have hmasks (k : Nat) (hk : k < 8) := s.h.configure_masks (s.getX b) (s.getX a).toNat serve hkept hk
  obtain ⟨t, e, hexec⟩ := State.vsetvl_recopied (d := d) (a := a) hharts hrelay hq hlegal hmodel
  generalize s.h.configure (VCfg.request (s.getX b)) (s.getX a).toNat serve = g at hfields hregisters hmasks e hexec
  have hrest := s.afterReserve_rest serve
  unfold grants
  simp only [hserve, hkept]
  rw [hexec, e.setHart_wrote hharts hrest d]
  refine ⟨?_, e.setHart_onlyCopies hharts hrest (by rw [hfields]) d _, fun k hk => ?_, hmasks, fun core => ?_⟩
  · rw [hfields]
    rfl
  · obtain ⟨r, hr, hr'⟩ := hregisters k hk
    exact ⟨r, hr, _, hr', (e.setHart_h hharts hrest).images k hk⟩
  · refine ⟨_, ?_, VState.freed_entries s.h.vs s.cycle _⟩
    rw [← State.core_afterReserve hcores, ← e.setHart_core]
    rfl

/-- An illegal request, or any in a scalar-only hart, leaves no vector length (R68, R77). -/
theorem State.vsetvl_refused {s : State} {d a b : Fin 32} {keep : Bool} (hrelay : s.h.relay = false)
    (hbad : s.h.vs.qcount = 0 ∨ ¬requestLegal (s.getX b)) : s.vsetvl d a b keep = (s.setHart s.cur s.h.misconfigure).wrote 4 d 0 := by
  have hstop : (s.h.scalarOnly || illegalRequest (s.getX b)) = true := by
    rw [Bool.or_eq_true, illegalRequest_iff]
    exact hbad.imp_left fun h => by simp [Hart.scalarOnly, h]
  unfold State.vsetvl
  dsimp only
  rw [hrelay, hstop, if_neg Bool.false_ne_true, if_pos rfl, State.write_eq_wrote]
  rfl

/-- The tile height of a request (R224). -/
theorem rowsOf_spec (n : Nat) : rowsOf n ∈ [1, 2, 4, 8] ∧ rowsOf n ≤ max 1 n ∧ (rowsOf n = 8 ∨ n < 2 * rowsOf n) := by
  unfold rowsOf
  split
  · exact ⟨by decide, by omega, .inl rfl⟩
  · split
    · exact ⟨by decide, by omega, .inr (by omega)⟩
    · split
      · exact ⟨by decide, by omega, .inr (by omega)⟩
      · exact ⟨by decide, by omega, .inr (by omega)⟩

theorem execVrows_scalarOnly {s : State} (d a : Fin 32) (hrelay : s.h.relay = false) (hq : s.h.vs.qcount = 0) :
    execVrows d a s = .next (s.illegal (encode (.vrows d a))) := by
  simp [execVrows, hrelay, Hart.scalarOnly, hq]

theorem execVrows_sets {s : State} (d a : Fin 32) (hrelay : s.h.relay = false) (hq : s.h.vs.qcount ≠ 0) :
    execVrows d a s = .next ((s.setHart s.cur { s.h with vs := { s.h.vs with rows := rowsOf (s.getX a).toNat } }).wrote 4 d
      (BitVec.ofNat 64 (rowsOf (s.getX a).toNat))) := by
  simp [execVrows, hrelay, Hart.scalarOnly, hq, State.write_eq_wrote, State.setH]

/-- Settles O28: both forms are one function of KEEP, refused or granted by R68; vrows sets the tile height of its request. -/
theorem vectorLengthGrants : Obligations.VectorLengthGrants := by
  unfold Obligations.VectorLengthGrants
  intro s d a b hs hrelay c avl n
  have hforms (keep : Bool) :
      ((s.h.vs.qcount = 0 ∨ ¬requestLegal c) →
        (.next (s.vsetvl d a b keep) : Out) = .next ((s.setHart s.cur s.h.misconfigure).wrote 4 d 0))
      ∧ (s.h.vs.qcount ≠ 0 → requestLegal c → ∃ t, (.next (s.vsetvl d a b keep) : Out) = .next t ∧ grants s t d avl c keep) :=
    ⟨fun hbad => congrArg _ (State.vsetvl_refused hrelay hbad),
      fun hq hlegal => ⟨_, rfl, State.vsetvl_grants hs hrelay hq hlegal⟩⟩
  refine ⟨?_, fun hq => execVrows_scalarOnly d a hrelay hq, fun hq => ?_⟩
  · rw [List.forall_mem_cons, List.forall_mem_singleton]
    exact ⟨hforms false, hforms true⟩
  · obtain ⟨hmem, hmax, hnext⟩ := rowsOf_spec n
    exact ⟨_, hmem, hmax, hnext, execVrows_sets d a hrelay hq⟩

end Sys2Proof.Machine
end

section
namespace Sys2Proof.Machine

/-! Rounding among a rising sequence of magnitudes (R101). -/

open Sys2Proof.Claims

/-- The number of magnitude `V` with a sign. -/
def signedReal (s : Bool) (V : ℝ) : ℝ := if s then -V else V

@[simp] theorem signedReal_true (V : ℝ) : signedReal true V = -V := rfl
@[simp] theorem signedReal_false (V : ℝ) : signedReal false V = V := rfl

theorem abs_signedReal (s : Bool) {V : ℝ} (hV : 0 ≤ V) : |signedReal s V| = V := by
  cases s <;> simp [hV]

theorem signedReal_inj {s : Bool} {V W : ℝ} : signedReal s V = signedReal s W ↔ V = W := by
  cases s <;> simp

theorem signedReal_eq_zero {s : Bool} {V : ℝ} : signedReal s V = 0 ↔ V = 0 := by
  cases s <;> simp

theorem abs_signedReal_sub (s : Bool) (V W : ℝ) : |signedReal s V - signedReal s W| = |V - W| := by
  cases s
  · rfl
  · rw [signedReal_true, signedReal_true, neg_sub_neg, abs_sub_comm]

/-- Magnitudes are no farther apart than the numbers. -/
theorem abs_mag_sub_le (s : Bool) {V : ℝ} (hV : 0 ≤ V) (x : ℝ) : |V - (|x|)| ≤ |signedReal s V - x| := by
  have h := abs_abs_sub_abs_le_abs_sub (signedReal s V) x
  rwa [abs_signedReal s hV] at h

/-- Of the two numbers of one magnitude, that with the sign of a non-zero number is nearer to it. -/
theorem eq_signedReal_of_dist {s : Bool} {V x y : ℝ} (hV : 0 < V) (hx : |x| = y) (hd : |signedReal s V - x| = |V - y|) :
    x = signedReal s y := by
  have hy : 0 ≤ y := hx ▸ abs_nonneg x
  have hsum {z : ℝ} (h : |V + z| = |V - z|) : z = 0 := by
    rcases abs_eq_abs.mp h with h | h <;> linarith
  cases s <;> rcases (abs_eq hy).mp hx with rfl | rfl
  · rfl
  · rw [signedReal_false, sub_neg_eq_add] at hd
    simp [hsum hd]
  · rw [signedReal_true, ← neg_add', abs_neg] at hd
    simp [hsum hd]
  · rfl

theorem signedReal_mul (s t : Bool) (V W : ℝ) : signedReal s V * signedReal t W = signedReal (s != t) (V * W) := by
  cases s <;> cases t <;> simp

theorem signedReal_div (s t : Bool) (V W : ℝ) : signedReal s V / signedReal t W = signedReal (s != t) (V / W) := by
  cases s <;> cases t <;> simp [neg_div, div_neg]

theorem realOf_eq (s : Bool) (m : ℕ) (e : ℤ) : realOf s m e = signedReal s (m * 2 ^ e) := by
  cases s <;> simp [realOf, signedReal]

section
variable {r : Rnd} {s : Bool} {lo hi v : ℝ} {even : Prop}

/-- A magnitude at or above the upper of two neighbours rounds to it in every mode. -/
theorem goesUp_of_le (hlo : lo < hi) (h : hi ≤ v) : GoesUp r s lo hi even v := by
  cases r
  case rne => exact .inl (by linarith)
  case rmm => show _ ≤ _; linarith
  case rtz => exact h
  all_goals cases s <;> simp only [GoesUp] <;> simp only [Bool.false_eq_true, ↓reduceIte] <;> linarith

/-- A magnitude at or below the lower of two neighbours does not. -/
theorem not_goesUp_of_le (hlo : lo < hi) (h : v ≤ lo) : ¬GoesUp r s lo hi even v := by
  cases r
  case rne => rintro (h' | ⟨h', -⟩) <;> linarith
  case rmm => show ¬_ ≤ _; linarith
  case rtz => exact not_le.mpr (by linarith)
  all_goals cases s <;> simp only [GoesUp] <;> simp only [Bool.false_eq_true, ↓reduceIte] <;> linarith

/-- Rounding does not depend on the unit in which magnitudes are measured. -/
theorem goesUp_mul {c : ℝ} (hc : 0 < c) : GoesUp r s (lo * c) (hi * c) even (v * c) ↔ GoesUp r s lo hi even v := by
  have hmid : (lo * c + hi * c) / 2 = (lo + hi) / 2 * c := by ring
  unfold GoesUp
  simp only [hmid, mul_lt_mul_iff_left₀ hc, mul_le_mul_iff_left₀ hc, mul_left_inj' hc.ne']

end

/-- The mode rounds the magnitude `V` of a number with the sign `s`, at or above `f k` and below `f (k + 1)`, to `f n` (R101). -/
structure Chooses (r : Rnd) (s : Bool) (f : ℕ → ℝ) (V : ℝ) (k n : ℕ) : Prop where
  lower : f k ≤ V
  upper : V < f (k + 1)
  up : GoesUp r s (f k) (f (k + 1)) (k % 2 = 1) V → n = k + 1
  down : ¬GoesUp r s (f k) (f (k + 1)) (k % 2 = 1) V → n = k

namespace Chooses
variable {r : Rnd} {s : Bool} {f : ℕ → ℝ} {V : ℝ} {k n : ℕ}

/-- A magnitude of the sequence is kept in every mode. -/
theorem eq_of_mem (hf : StrictMono f) (h : Chooses r s f V k n) {j : ℕ} (hj : V = f j) : k = j ∧ n = j := by
  have hkj : k = j := by
    have h1 := hf.le_iff_le.mp (hj ▸ h.lower)
    have h2 := hf.lt_iff_lt.mp (hj ▸ h.upper)
    omega
  subst hkj
  exact ⟨rfl, h.down (not_goesUp_of_le (hf k.lt_succ_self) hj.le)⟩

theorem index_cases (h : Chooses r s f V k n) :
    (GoesUp r s (f k) (f (k + 1)) (k % 2 = 1) V ∧ n = k + 1) ∨ (¬GoesUp r s (f k) (f (k + 1)) (k % 2 = 1) V ∧ n = k) := by
  by_cases hup : GoesUp r s (f k) (f (k + 1)) (k % 2 = 1) V
  · exact .inl ⟨hup, h.up hup⟩
  · exact .inr ⟨hup, h.down hup⟩

/-- Every magnitude of the sequence lies at or below the lower neighbour or at or above the upper one. -/
theorem neighbours (hf : StrictMono f) (j k : ℕ) : f j ≤ f k ∨ f (k + 1) ≤ f j :=
  (le_or_gt j k).imp (fun h => hf.monotone h) fun h => hf.monotone h

/-- A mode that never rounds below the upper neighbour takes the greatest magnitude not above `V`. -/
theorem greatest (hf : StrictMono f) (h : Chooses r s f V k n)
    (hr : GoesUp r s (f k) (f (k + 1)) (k % 2 = 1) V → f (k + 1) ≤ V) : f n ≤ V ∧ ∀ j, f j ≤ V → f j ≤ f n := by
  obtain rfl := h.down fun hup => absurd (hr hup) (not_le.mpr h.upper)
  exact ⟨h.lower, fun j hj => (neighbours hf j n).resolve_right fun hn => absurd (hn.trans hj) (not_le.mpr h.upper)⟩

/-- A mode that rounds up all that lies above the lower neighbour takes the least magnitude not below `V`. -/
theorem least (hf : StrictMono f) (h : Chooses r s f V k n)
    (hr : f k < V → GoesUp r s (f k) (f (k + 1)) (k % 2 = 1) V) : V ≤ f n ∧ ∀ j, V ≤ f j → f n ≤ f j := by
  rcases h.lower.eq_or_lt with heq | hlt
  · obtain ⟨-, rfl⟩ := h.eq_of_mem hf heq.symm
    exact ⟨heq.ge, fun j hj => heq.le.trans hj⟩
  · obtain rfl := h.up (hr hlt)
    exact ⟨h.upper.le, fun j hj => (neighbours hf j k).resolve_left fun hk => absurd (hj.trans hk) (not_le.mpr hlt)⟩

/-- Where the mode rounds by the midpoint, no magnitude lies nearer than the chosen one, and another lies as near only where `V` is the
midpoint and the other neighbour is meant. -/
theorem nearest (hf : StrictMono f) (h : Chooses r s f V k n)
    (hup : GoesUp r s (f k) (f (k + 1)) (k % 2 = 1) V → (f k + f (k + 1)) / 2 ≤ V)
    (hdown : ¬GoesUp r s (f k) (f (k + 1)) (k % 2 = 1) V → V ≤ (f k + f (k + 1)) / 2) (j : ℕ) :
    |V - f n| ≤ |V - f j| ∧
      (|V - f n| = |V - f j| → j = n ∨ V = (f k + f (k + 1)) / 2 ∧ (n = k ∧ j = k + 1 ∨ n = k + 1 ∧ j = k)) := by
  have hbelow {i : ℕ} (hi : i ≤ k) : |V - f i| = V - f i := abs_of_nonneg (by linarith [h.lower, hf.monotone hi])
  have habove {i : ℕ} (hi : k < i) : |V - f i| = f i - V := by
    rw [abs_sub_comm]
    exact abs_of_nonneg (by linarith [h.upper, hf.monotone (Nat.succ_le_of_lt hi)])
  obtain ⟨hgo, rfl⟩ | ⟨hgo, rfl⟩ := h.index_cases
  · have hmid := hup hgo
    rw [habove k.lt_succ_self]
    obtain hj | rfl | hj := lt_trichotomy j k
    · have := hf hj
      exact ⟨by rw [hbelow hj.le]; linarith, by rw [hbelow hj.le]; intro; linarith⟩
    · rw [hbelow le_rfl]
      exact ⟨by linarith, fun heq => .inr ⟨by linarith, .inr ⟨rfl, rfl⟩⟩⟩
    · rw [habove hj]
      exact ⟨by linarith [hf.monotone (Nat.succ_le_of_lt hj)], fun heq => .inl (hf.injective (by linarith)).symm⟩
  · have hmid := hdown hgo
    rw [hbelow le_rfl]
    obtain hj | rfl | hj := lt_trichotomy j (n + 1)
    · have hj : j ≤ n := Nat.le_of_lt_succ hj
      rw [hbelow hj]
      exact ⟨by linarith [hf.monotone hj], fun heq => .inl (hf.injective (by linarith))⟩
    · rw [habove n.lt_succ_self]
      exact ⟨by linarith, fun heq => .inr ⟨by linarith, .inl ⟨rfl, rfl⟩⟩⟩
    · have := hf hj
      rw [habove (by omega)]
      exact ⟨by linarith, fun heq => by linarith⟩

section
variable (hf : StrictMono f) (h0 : 0 ≤ f 0)
include hf h0

theorem pos (j : ℕ) : 0 ≤ f j := h0.trans (hf.monotone j.zero_le)

theorem magnitude_nonneg (h : Chooses r s f V k n) : 0 ≤ V := (pos hf h0 k).trans h.lower

/-- No number at or below `V` lies above the greatest magnitude at or below `V`. -/
theorem le_of_greatest (hmax : ∀ j, f j ≤ V → f j ≤ f n) {x : ℝ} (hx : ∃ j, |x| = f j) (hxV : x ≤ V) : x ≤ f n := by
  obtain ⟨j, hj⟩ := hx
  rcases le_total 0 x with hx0 | hx0
  · rw [abs_of_nonneg hx0] at hj
    exact hj ▸ hmax j (hj ▸ hxV)
  · exact hx0.trans (pos hf h0 n)

/-- RNE picks the nearest number, and of two as near the one with the even pattern. -/
theorem nearest_even (h : Chooses .rne s f V k n) {x : ℝ} (hx : ∃ j, |x| = f j) :
    |signedReal s V - signedReal s (f n)| ≤ |signedReal s V - x|
      ∧ (x ≠ signedReal s (f n) → |signedReal s V - signedReal s (f n)| = |signedReal s V - x| → n % 2 = 0) := by
  obtain ⟨j, hj⟩ := hx
  have hV := h.magnitude_nonneg hf h0
  have hdist := abs_mag_sub_le s hV x
  obtain ⟨hle, htie⟩ := h.nearest hf (by rintro (hup | ⟨hup, -⟩) <;> linarith) (fun hdown => not_lt.mp fun hlt => hdown (.inl hlt)) j
  rw [abs_signedReal_sub]
  rw [hj] at hdist
  refine ⟨hle.trans hdist, fun hne heq => ?_⟩
  obtain rfl | ⟨hmid, -⟩ := htie (hle.antisymm (heq ▸ hdist))
  · rcases hV.eq_or_lt with rfl | hV
    · have hk : f k = 0 := le_antisymm h.lower (pos hf h0 k)
      obtain ⟨-, rfl⟩ := h.eq_of_mem hf hk.symm
      exact absurd (by simpa [hk, signedReal] using hj) hne
    · exact absurd (eq_signedReal_of_dist hV hj heq.symm) hne
  · obtain ⟨hgo, rfl⟩ | ⟨hgo, rfl⟩ := h.index_cases
    · have hodd := (hgo.resolve_left hmid.not_gt).2
      omega
    · have hnot : ¬n % 2 = 1 := fun hodd => hgo (.inr ⟨hmid, hodd⟩)
      omega

/-- RMM picks the nearest number, and of two as near the one of greater magnitude. -/
theorem nearest_away (h : Chooses .rmm s f V k n) {x : ℝ} (hx : ∃ j, |x| = f j) :
    |signedReal s V - signedReal s (f n)| ≤ |signedReal s V - x|
      ∧ (|signedReal s V - signedReal s (f n)| = |signedReal s V - x| → |x| ≤ |signedReal s (f n)|) := by
  obtain ⟨j, hj⟩ := hx
  have hdist := abs_mag_sub_le s (h.magnitude_nonneg hf h0) x
  obtain ⟨hle, htie⟩ := h.nearest hf id (fun hdown => (not_le.mp hdown).le) j
  rw [abs_signedReal_sub]
  rw [hj] at hdist
  refine ⟨hle.trans hdist, fun heq => ?_⟩
  rw [hj, abs_signedReal s (pos hf h0 n)]
  obtain rfl | ⟨hmid, hother⟩ := htie (hle.antisymm (heq ▸ hdist))
  · rfl
  · obtain rfl := h.up hmid.ge
    exact hf.monotone (by omega)

/-- The number chosen is the one that the mode picks, of numbers whose magnitudes are in the sequence (R101). -/
theorem picks (h : Chooses r s f V k n) {N : ℝ → Prop} {even : Prop} (hN : ∀ x, N x → ∃ j, |x| = f j)
    (hw : N (signedReal s (f n))) (heven : n % 2 = 0 → even) : Picks r N (signedReal s V) (signedReal s (f n)) even := by
  have hV := h.magnitude_nonneg hf h0
  have hneg {x : ℝ} (hx : N x) : ∃ j, |-x| = f j := (abs_neg x).symm ▸ hN x hx
  have hleast (hmin : ∀ j, V ≤ f j → f n ≤ f j) {x : ℝ} (hx : ∃ j, |x| = f j) (hxV : V ≤ x) : f n ≤ x := by
    obtain ⟨j, hj⟩ := hx
    rw [abs_of_nonneg (hV.trans hxV)] at hj
    exact hj ▸ hmin j (hj ▸ hxV)
  refine ⟨hw, ?_⟩
  cases r
  case rne => exact fun x hx => (h.nearest_even hf h0 (hN x hx)).imp_right fun htie hne heq => heven (htie hne heq)
  case rmm => exact fun x hx => h.nearest_away hf h0 (hN x hx)
  case rtz =>
    obtain ⟨hle, hmax⟩ := h.greatest hf id
    rw [abs_signedReal s (pos hf h0 n), abs_signedReal s hV, signedReal_mul, bne_self_eq_false]
    exact ⟨hle, mul_nonneg hV (pos hf h0 n), fun x hx _ hxV => le_of_greatest hf h0 hmax ((abs_abs x).symm ▸ hN x hx) hxV⟩
  case rdn =>
    cases s
    · obtain ⟨hle, hmax⟩ := h.greatest hf (by simp [GoesUp])
      exact ⟨hle, fun x hx hxV => le_of_greatest hf h0 hmax (hN x hx) hxV⟩
    · obtain ⟨hle, hmin⟩ := h.least hf (by simp [GoesUp])
      exact ⟨neg_le_neg hle, fun x hx hxV => le_neg.mp (hleast hmin (hneg hx) (le_neg.mp hxV))⟩
  case rup =>
    cases s
    · obtain ⟨hle, hmin⟩ := h.least hf (by simp [GoesUp])
      exact ⟨hle, fun x hx hxV => hleast hmin (hN x hx) hxV⟩
    · obtain ⟨hle, hmax⟩ := h.greatest hf (by simp [GoesUp])
      exact ⟨neg_le_neg hle, fun x hx hxV => neg_le.mp (le_of_greatest hf h0 hmax (hneg hx) (neg_le.mp hxV))⟩

end

end Chooses
end Sys2Proof.Machine
end

section
namespace Sys2Proof.Machine

/-! The rounding of a magnitude to a multiple of a power of two, of a number given exactly or to within less than its last place. -/

open Sys2Proof.Claims

/-- The integer `m` stands for the real `x`: it compares with every multiple of `2 ^ a` as `x` does. -/
def Tracks (a m : ℕ) (x : ℝ) : Prop := ∀ c : ℕ, 2 ^ a ∣ c → ((c : ℝ) < x ↔ c < m) ∧ (x < c ↔ m < c)

namespace Tracks
variable {a m : ℕ} {x : ℝ} {c : ℕ}

/-- An integer stands for itself. -/
theorem refl (m : ℕ) : Tracks 0 m m := fun _ _ => ⟨Nat.cast_lt, Nat.cast_lt⟩

/-- An odd integer stands for what lies between its two even neighbours. -/
theorem of_between {j : ℕ} (h1 : (j : ℝ) < x) (h2 : x < j + 1) : Tracks 1 (2 * j + 1) (2 * x) := by
  rintro c ⟨i, rfl⟩
  rcases le_or_gt i j with h | h
  · have hij : (i : ℝ) ≤ j := by exact_mod_cast h
    push_cast
    exact ⟨iff_of_true (by linarith) (by omega), iff_of_false (by linarith) (by omega)⟩
  · have hij : (j : ℝ) + 1 ≤ i := by exact_mod_cast h
    push_cast
    exact ⟨iff_of_false (by linarith) (by omega), iff_of_true (by linarith) (by omega)⟩

theorem lt_iff (h : Tracks a m x) (hc : 2 ^ a ∣ c) : (c : ℝ) < x ↔ c < m := (h c hc).1
theorem gt_iff (h : Tracks a m x) (hc : 2 ^ a ∣ c) : x < c ↔ m < c := (h c hc).2

theorem le_iff (h : Tracks a m x) (hc : 2 ^ a ∣ c) : (c : ℝ) ≤ x ↔ c ≤ m := by
  rw [← not_lt, h.gt_iff hc, not_lt]

theorem eq_iff (h : Tracks a m x) (hc : 2 ^ a ∣ c) : x = c ↔ m = c := by
  rw [le_antisymm_iff, le_antisymm_iff, h.le_iff hc, ← not_lt, h.lt_iff hc, not_lt]

theorem eq_of_exact (h : Tracks 0 m x) : x = m := (h.eq_iff (one_dvd m)).mpr rfl

/-- The highest bit of the integer bounds the real. -/
theorem log2_bounds (h : Tracks a m x) (hm : m ≠ 0) (ha : a ≤ m.log2) : 2 ^ m.log2 ≤ x ∧ x < 2 ^ (m.log2 + 1) := by
  have h1 := (h.le_iff (Nat.pow_dvd_pow 2 ha)).mpr (Nat.log2_self_le hm)
  have h2 := (h.gt_iff (Nat.pow_dvd_pow 2 (ha.trans m.log2.le_succ))).mpr Nat.lt_log2_self
  exact ⟨by exact_mod_cast h1, by exact_mod_cast h2⟩

end Tracks

/-- The comparison of a remainder with half the unit is that of the number with the midpoint (R101). -/
theorem Rnd.up_iff {r : Rnd} {s : Bool} {a m n : ℕ} {x : ℝ} (h : Tracks a m x) (hn : a + 1 ≤ n) :
    r.up s (m / 2 ^ n % 2 == 1) (m % 2 ^ n) (2 ^ (n - 1)) = true
      ↔ GoesUp r s ((m / 2 ^ n : ℕ) * 2 ^ n) (((m / 2 ^ n : ℕ) + 1) * 2 ^ n) (m / 2 ^ n % 2 = 1) x := by
  obtain ⟨N, rfl⟩ : ∃ N, n = N + 1 := ⟨n - 1, by omega⟩
  obtain ⟨k, hk⟩ : ∃ k, m / 2 ^ (N + 1) = k := ⟨_, rfl⟩
  have hdvd : 2 ^ a ∣ 2 ^ N := Nat.pow_dvd_pow 2 (by omega)
  have hdiv : m = k * 2 ^ (N + 1) + m % 2 ^ (N + 1) := by rw [← hk, Nat.div_add_mod']
  have hlt : m % 2 ^ (N + 1) < 2 ^ (N + 1) := Nat.mod_lt _ (by positivity)
  have hlo : (k : ℝ) * 2 ^ (N + 1) = (k * 2 ^ (N + 1) : ℕ) := by push_cast; rfl
  have hhi : ((k : ℝ) + 1) * 2 ^ (N + 1) = ((k + 1) * 2 ^ (N + 1) : ℕ) := by push_cast; rfl
  have hmid : ((k : ℝ) * 2 ^ (N + 1) + ((k : ℝ) + 1) * 2 ^ (N + 1)) / 2 = (k * 2 ^ (N + 1) + 2 ^ N : ℕ) := by push_cast; ring
  have hlo' : 2 ^ a ∣ k * 2 ^ (N + 1) := dvd_mul_of_dvd_right (hdvd.trans (Nat.pow_dvd_pow 2 (by omega))) _
  have hhi' : 2 ^ a ∣ (k + 1) * 2 ^ (N + 1) := dvd_mul_of_dvd_right (hdvd.trans (Nat.pow_dvd_pow 2 (by omega))) _
  have hmid' : 2 ^ a ∣ k * 2 ^ (N + 1) + 2 ^ N := dvd_add hlo' hdvd
  have hbelow : ¬(k + 1) * 2 ^ (N + 1) ≤ m := by rw [add_one_mul]; omega
  rw [hk, Nat.add_sub_cancel]
  cases r
  all_goals simp only [Rnd.up, GoesUp, hmid]
  case rne =>
    rw [h.lt_iff hmid', h.eq_iff hmid']
    simp only [Bool.or_eq_true, Bool.and_eq_true, decide_eq_true_eq, beq_iff_eq]
    exact or_congr (by omega) (and_congr_left' (by omega))
  case rmm =>
    rw [h.le_iff hmid', decide_eq_true_eq]
    omega
  case rtz =>
    rw [hhi, h.le_iff hhi']
    simp [hbelow]
  case rdn =>
    rw [hhi, hlo, h.le_iff hhi', h.lt_iff hlo']
    cases s
    · simp [hbelow]
    · simp only [Bool.true_and, decide_eq_true_eq, ↓reduceIte]
      omega
  case rup =>
    rw [hhi, hlo, h.le_iff hhi', h.lt_iff hlo']
    cases s
    · simp only [Bool.not_false, Bool.true_and, decide_eq_true_eq, Bool.false_eq_true, ↓reduceIte]
      omega
    · simp [hbelow]

/-- roundMag gives the multiple of the unit that the mode chooses, and whether that differs from the number (R101, R103). -/
theorem roundMag_chooses (r : Rnd) (s : Bool) {a m : ℕ} {x : ℝ} {e q : ℤ} (h : Tracks a m x) (ha : a = 0 ∨ e + a + 1 ≤ q) :
    ∃ k, Chooses r s (fun i => i * 2 ^ q) (x * 2 ^ e) k (roundMag r s m e q).1
      ∧ ((roundMag r s m e q).2 = false ↔ x * 2 ^ e = k * 2 ^ q) := by
  have h2 (i : ℤ) : (0 : ℝ) < 2 ^ i := by positivity
  unfold roundMag
  split_ifs with hq
  · obtain rfl : a = 0 := by omega
    obtain rfl := h.eq_of_exact
    have hx : (m : ℝ) * 2 ^ e = (m * 2 ^ (e - q).toNat : ℕ) * 2 ^ q := by
      push_cast
      rw [mul_assoc, ← zpow_natCast, ← zpow_add₀ two_ne_zero]
      congr 2
      omega
    have hlt : ((m * 2 ^ (e - q).toNat : ℕ) : ℝ) * 2 ^ q < ((m * 2 ^ (e - q).toNat + 1 : ℕ) : ℝ) * 2 ^ q := by
      gcongr
      omega
    exact ⟨_, ⟨hx.ge, hx ▸ hlt, fun hgo => absurd hgo (not_goesUp_of_le hlt hx.le), fun _ => rfl⟩, iff_of_true rfl hx⟩
  · obtain ⟨n, rfl⟩ : ∃ n : ℕ, q = e + n := ⟨(q - e).toNat, by omega⟩
    have hn : a + 1 ≤ n := by omega
    have hscale (i : ℕ) : (i : ℝ) * 2 ^ (e + n) = i * 2 ^ n * 2 ^ e := by
      rw [zpow_add₀ two_ne_zero, zpow_natCast]
      ring
    have hcast (i : ℕ) : (i : ℝ) * 2 ^ n = (i * 2 ^ n : ℕ) := by push_cast; rfl
    have hdvd (i : ℕ) : 2 ^ a ∣ i * 2 ^ n := dvd_mul_of_dvd_right (Nat.pow_dvd_pow 2 (by omega)) _
    have hgo : GoesUp r s ((m / 2 ^ n : ℕ) * 2 ^ (e + n)) ((m / 2 ^ n + 1 : ℕ) * 2 ^ (e + n)) (m / 2 ^ n % 2 = 1) (x * 2 ^ e)
        ↔ r.up s (m / 2 ^ n % 2 == 1) (m % 2 ^ n) (2 ^ (n - 1)) = true := by
      rw [hscale, hscale, goesUp_mul (h2 e), Rnd.up_iff h hn, Nat.cast_succ]
    simp only [add_sub_cancel_left, Int.toNat_natCast]
    refine ⟨m / 2 ^ n, ⟨?_, ?_, fun h' => if_pos (hgo.mp h'), fun h' => if_neg (mt hgo.mpr h')⟩, ?_⟩
    · rw [hscale, mul_le_mul_iff_left₀ (h2 e), hcast, h.le_iff (hdvd _)]
      exact Nat.div_mul_le_self m _
    · rw [hscale, mul_lt_mul_iff_left₀ (h2 e), hcast, h.gt_iff (hdvd _)]
      exact Nat.lt_mul_of_div_lt (Nat.lt_succ_self _) (by positivity)
    · rw [hscale, mul_left_inj' (h2 e).ne', hcast, h.eq_iff (hdvd _), bne_eq_false_iff_eq]
      have := Nat.div_add_mod' m (2 ^ n)
      omega

end Sys2Proof.Machine
end

section
namespace Sys2Proof.Machine

/-! The numbers of the formats (R97, R98). -/

open Sys2Proof.Claims

/-- The sign, the exponent field and the fraction of a pattern. -/
theorem Fmt.fields_of_pattern (g : Fmt) (S : Bool) {E F : ℕ} (hE : E < 2 ^ g.expBits) (hF : F < 2 ^ g.fracBits) :
    let x := (if S then 2 ^ (g.expBits + g.fracBits) else 0) + E * 2 ^ g.fracBits + F
    g.signOf x = S ∧ bitsOf x (g.width - 2) g.fracBits = E ∧ trunc g.fracBits x = F := by
  intro x
  have hx : x = (S.toNat * 2 ^ g.expBits + E) * 2 ^ g.fracBits + F := by
    cases S <;> simp [x, pow_add, add_mul]
  have hquot : x / 2 ^ g.fracBits = S.toNat * 2 ^ g.expBits + E := by
    rw [hx, Nat.add_div_of_dvd_right (dvd_mul_left _ _), Nat.mul_div_cancel _ (by positivity), Nat.div_eq_of_lt hF, add_zero]
  have hfield : g.width - 2 + 1 - g.fracBits = g.expBits := by cases g <;> rfl
  have hsign : g.width - 1 = g.fracBits + g.expBits := by cases g <;> rfl
  refine ⟨?_, ?_, ?_⟩
  · rw [Fmt.signOf, bitAt, hsign, pow_add, ← Nat.div_div_eq_div_mul, hquot, Nat.add_div_of_dvd_right (dvd_mul_left _ _),
      Nat.mul_div_cancel _ (by positivity), Nat.div_eq_of_lt hE]
    cases S <;> rfl
  · rw [bitsOf, hfield, hquot, Nat.mul_add_mod', Nat.mod_eq_of_lt hE]
  · rw [trunc, hx, Nat.mul_add_mod', Nat.mod_eq_of_lt hF]

/-- The top bit of a fraction is 0 in its lower half. -/
theorem not_bitAt_top {F fb : ℕ} (hF : F < 2 ^ (fb + 1)) : (!bitAt F fb) = decide (F < 2 ^ fb) := by
  have hlt : F / 2 ^ fb < 2 := Nat.div_lt_of_lt_mul (by rwa [pow_succ] at hF)
  have hzero : F / 2 ^ fb = 0 ↔ F < 2 ^ fb := Nat.div_eq_zero_iff_lt (by positivity)
  obtain h | h : F / 2 ^ fb = 0 ∨ F / 2 ^ fb = 1 := Nat.le_one_iff_eq_zero_or_eq_one.mp (Nat.le_of_lt_succ hlt)
  all_goals simp [bitAt, ← hzero, h]

/-- What a pattern means, from its three fields (R97, R98). -/
theorem Fmt.value_pattern (g : Fmt) (S : Bool) {E F : ℕ} (hE : E < 2 ^ g.expBits) (hF : F < 2 ^ g.fracBits) :
    g.value ((if S then 2 ^ (g.expBits + g.fracBits) else 0) + E * 2 ^ g.fracBits + F)
      = meaning g g.expBits g.fracBits g.bias S E F := by
  obtain ⟨hsign, hexp, hfrac⟩ := g.fields_of_pattern S hE hF
  unfold Fmt.value meaning
  simp only [hsign, hexp, hfrac]
  obtain ⟨fb, hfb⟩ : ∃ fb, g.fracBits = fb + 1 := ⟨g.fracBits - 1, by cases g <;> rfl⟩
  rw [hfb] at hF
  have hquiet := not_bitAt_top hF
  have hsub : g.fracBits - 1 = fb := by omega
  rw [hsub, hquiet]
  cases g
  case e4m3 =>
    simp only [Bool.and_eq_true, beq_iff_eq, ne_eq, reduceCtorEq, not_false_eq_true, forall_const, true_and, decide_true,
      not_true_eq_false, decide_false, Bool.and_false, Bool.false_and]
    exact ite_congr rfl (by rintro ⟨-, rfl⟩; rfl) fun _ => rfl
  all_goals simp

/-! The magnitudes of the formats in order. -/

/-- The magnitude of the pattern `p` with sign bit 0, in units of the smallest subnormal of a format with `fb` fraction bits (R97). -/
def magUnits (fb p : ℕ) : ℕ := if p < 2 ^ fb then p else (2 ^ fb + p % 2 ^ fb) * 2 ^ (p / 2 ^ fb - 1)

/-- A significand of up to `fb + 1` bits at the `d`-th place is the magnitude of one pattern. -/
theorem magUnits_place {fb d k : ℕ} (hd : d = 0 ∨ 2 ^ fb ≤ k) (hk : k ≤ 2 ^ (fb + 1)) : magUnits fb (d * 2 ^ fb + k) = k * 2 ^ d := by
  have hpos : 0 < 2 ^ fb := by positivity
  unfold magUnits
  rcases lt_or_ge k (2 ^ fb) with hlt | hge
  · obtain rfl : d = 0 := hd.resolve_right (not_le.mpr hlt)
    simp [hlt]
  · obtain ⟨j, rfl⟩ := Nat.exists_eq_add_of_le hge
    have hp : d * 2 ^ fb + (2 ^ fb + j) = j + (d + 1) * 2 ^ fb := by ring
    rw [if_neg (by omega), hp, Nat.add_mul_mod_self_right, Nat.add_mul_div_right _ _ hpos]
    rcases (show j ≤ 2 ^ fb by rw [pow_succ] at hk; omega).eq_or_lt with rfl | hj
    · rw [Nat.mod_self, Nat.div_self hpos, add_zero, add_comm 1, Nat.add_sub_cancel, pow_succ]
      ring
    · rw [Nat.mod_eq_of_lt hj, Nat.div_eq_of_lt hj, zero_add, Nat.add_sub_cancel]

/-- Every pattern is a significand at a place. -/
theorem exists_place (fb p : ℕ) : ∃ d k, p = d * 2 ^ fb + k ∧ (d = 0 ∨ 2 ^ fb ≤ k) ∧ k < 2 ^ (fb + 1) := by
  have hmod := Nat.mod_lt p (show 0 < 2 ^ fb by positivity)
  have hdiv := Nat.div_add_mod' p (2 ^ fb)
  rcases h : p / 2 ^ fb with _ | d
  · rw [h] at hdiv
    exact ⟨0, p, by simp, .inl rfl, by rw [pow_succ]; omega⟩
  · rw [h, add_one_mul] at hdiv
    exact ⟨d, 2 ^ fb + p % 2 ^ fb, by omega, .inr (by omega), by rw [pow_succ]; omega⟩

theorem magUnits_strictMono (fb : ℕ) : StrictMono (magUnits fb) := by
  refine strictMono_nat_of_lt_succ fun p => ?_
  obtain ⟨d, k, rfl, hd, hk⟩ := exists_place fb p
  rw [add_assoc, magUnits_place hd hk.le, magUnits_place (hd.imp_right Nat.le_succ_of_le) hk]
  exact Nat.mul_lt_mul_of_pos_right k.lt_succ_self (by positivity)

/-- The magnitude of a pattern with sign bit 0, as a real. -/
noncomputable def Fmt.mag (g : Fmt) (p : ℕ) : ℝ := magUnits g.fracBits p * 2 ^ g.qmin

theorem Fmt.mag_strictMono (g : Fmt) : StrictMono g.mag := fun _ _ h =>
  mul_lt_mul_of_pos_right (Nat.cast_lt.mpr (magUnits_strictMono _ h)) (by positivity)

theorem Fmt.mag_nonneg (g : Fmt) (p : ℕ) : 0 ≤ g.mag p := by unfold Fmt.mag; positivity

@[simp] theorem Fmt.mag_zero (g : Fmt) : g.mag 0 = 0 := by simp [Fmt.mag, magUnits]

theorem Fmt.mag_place (g : Fmt) {d k : ℕ} (hd : d = 0 ∨ 2 ^ g.fracBits ≤ k) (hk : k ≤ 2 ^ (g.fracBits + 1)) :
    g.mag (d * 2 ^ g.fracBits + k) = k * 2 ^ (g.qmin + d) := by
  rw [Fmt.mag, magUnits_place hd hk, zpow_add₀ two_ne_zero, zpow_natCast]
  push_cast
  ring

/-- The largest finite pattern has a neighbour on either side at the same place. -/
theorem Fmt.exists_maxFinite_place (g : Fmt) :
    ∃ d k, g.maxFinite = d * 2 ^ g.fracBits + (k + 1) ∧ (d = 0 ∨ 2 ^ g.fracBits ≤ k) ∧ k + 2 ≤ 2 ^ (g.fracBits + 1) := by
  refine ⟨g.maxFinite / 2 ^ g.fracBits - 1, g.maxFinite % 2 ^ g.fracBits + 2 ^ g.fracBits - 1, ?_⟩
  cases g <;> norm_num [Fmt.maxFinite, Fmt.fracBits, Fmt.expBits]

/-- What follows the largest finite magnitude lies as far above it as the one before lies below (R101). -/
theorem Fmt.mag_maxFinite_succ (g : Fmt) : g.mag (g.maxFinite + 1) = 2 * g.mag g.maxFinite - g.mag (g.maxFinite - 1) := by
  obtain ⟨d, k, hmax, hd, hk⟩ := g.exists_maxFinite_place
  have hpred : d * 2 ^ g.fracBits + (k + 1) - 1 = d * 2 ^ g.fracBits + k := rfl
  rw [hmax, hpred, add_assoc, g.mag_place hd (by omega), g.mag_place (by omega) (by omega), g.mag_place (by omega) (by omega)]
  push_cast
  ring

theorem Fmt.maxFinite_lt (g : Fmt) : g.maxFinite < 2 ^ (g.expBits + g.fracBits) := by
  cases g <;> norm_num [Fmt.maxFinite, Fmt.fracBits, Fmt.expBits]

theorem Fmt.width_pred (g : Fmt) : g.width - 1 = g.expBits + g.fracBits := by rw [Fmt.width]; omega

theorem Fmt.two_pow_width (g : Fmt) : 2 ^ g.width = 2 ^ (g.expBits + g.fracBits) + 2 ^ (g.expBits + g.fracBits) := by
  rw [Fmt.width, add_assoc, pow_add]
  ring

theorem Fmt.signed_eq (g : Fmt) (s : Bool) (p : ℕ) : g.signed s p = (if s then 2 ^ (g.expBits + g.fracBits) else 0) + p := by
  cases s <;> simp [Fmt.signed, g.width_pred]

theorem Fmt.signed_lt (g : Fmt) (s : Bool) {p : ℕ} (hp : p < 2 ^ (g.expBits + g.fracBits)) : g.signed s p < 2 ^ g.width := by
  rw [g.signed_eq, g.two_pow_width]
  cases s <;> simp <;> omega

/-- Every pattern is a sign on a pattern with sign bit 0. -/
theorem Fmt.exists_signed (g : Fmt) {x : ℕ} (hx : x < 2 ^ g.width) : ∃ s p, p < 2 ^ (g.expBits + g.fracBits) ∧ x = g.signed s p := by
  rw [g.two_pow_width] at hx
  rcases lt_or_ge x (2 ^ (g.expBits + g.fracBits)) with h | h
  · exact ⟨false, x, h, rfl⟩
  · exact ⟨true, x - 2 ^ (g.expBits + g.fracBits), by omega, by simp [g.signed_eq]; omega⟩

theorem Fmt.value_signed_eq_meaning (g : Fmt) (s : Bool) {p : ℕ} (hp : p < 2 ^ (g.expBits + g.fracBits)) :
    g.value (g.signed s p) = meaning g g.expBits g.fracBits g.bias s (p / 2 ^ g.fracBits) (p % 2 ^ g.fracBits) := by
  have hE : p / 2 ^ g.fracBits < 2 ^ g.expBits := Nat.div_lt_of_lt_mul (by rwa [pow_add, mul_comm] at hp)
  rw [← g.value_pattern s hE (Nat.mod_lt _ (by positivity)), g.signed_eq, add_assoc, Nat.div_add_mod']

/-- The patterns above the largest finite one are the infinity and the NaNs (R98). -/
theorem Fmt.maxFinite_lt_iff (g : Fmt) {p : ℕ} (hp : p < 2 ^ (g.expBits + g.fracBits)) : g.maxFinite < p
    ↔ p / 2 ^ g.fracBits = 2 ^ g.expBits - 1 ∧ g ≠ .e2m1 ∧ (g = .e4m3 → p % 2 ^ g.fracBits = 7) := by
  cases g <;> simp [Fmt.maxFinite, Fmt.fracBits, Fmt.expBits] at hp ⊢ <;> omega

/-- Up to the largest finite pattern a pattern stands for its magnitude with its sign (R97). -/
theorem Fmt.value_signed (g : Fmt) (s : Bool) {p : ℕ} (hp : p ≤ g.maxFinite) :
    ∃ m e, g.value (g.signed s p) = .fin s m e ∧ (m : ℝ) * 2 ^ e = g.mag p := by
  have hlt := hp.trans_lt g.maxFinite_lt
  rw [g.value_signed_eq_meaning s hlt, meaning, if_neg (mt (g.maxFinite_lt_iff hlt).mpr (not_lt.mpr hp))]
  have hdiv := Nat.div_add_mod' p (2 ^ g.fracBits)
  have hmod := Nat.mod_lt p (show 0 < 2 ^ g.fracBits by positivity)
  obtain ⟨F, hF⟩ : ∃ F, p % 2 ^ g.fracBits = F := ⟨_, rfl⟩
  rw [hF] at hdiv hmod ⊢
  rcases h : p / 2 ^ g.fracBits with _ | d
  · refine ⟨_, _, if_pos rfl, ?_⟩
    have hp : p = 0 * 2 ^ g.fracBits + F := by rw [← hdiv, h]
    rw [hp, g.mag_place (.inl rfl) (by rw [pow_succ]; omega), Nat.cast_zero, add_zero, Fmt.qmin]
  · refine ⟨_, _, if_neg d.succ_ne_zero, ?_⟩
    have hp : p = d * 2 ^ g.fracBits + (2 ^ g.fracBits + F) := by rw [← hdiv, h]; ring
    rw [hp, g.mag_place (.inr (by omega)) (by rw [pow_succ]; omega), Fmt.qmin]
    congr 2
    push_cast
    ring

/-- No other pattern stands for a finite number (R98). -/
theorem Fmt.le_maxFinite_of_value (g : Fmt) {s t : Bool} {p m : ℕ} {e : ℤ} (hp : p < 2 ^ (g.expBits + g.fracBits))
    (h : g.value (g.signed s p) = .fin t m e) : p ≤ g.maxFinite := by
  by_contra hgt
  rw [g.value_signed_eq_meaning s hp, meaning, if_pos ((g.maxFinite_lt_iff hp).mp (not_le.mp hgt))] at h
  split_ifs at h

end Sys2Proof.Machine
end

section
namespace Sys2Proof.Machine

/-! The rounding of a number to a format, with its flags (R99, R101, R103, R104). -/

open Sys2Proof.Claims

section
variable {g : Fmt} {s : Bool} {p x : ℕ} {w : ℝ}

theorem stands_signed (s : Bool) (hp : p ≤ g.maxFinite) : Stands g (g.signed s p) (signedReal s (g.mag p)) := by
  obtain ⟨m, e, hvalue, hmag⟩ := g.value_signed s hp
  exact ⟨g.signed_lt s (hp.trans_lt g.maxFinite_lt), s, m, e, hvalue, by rw [realOf_eq, hmag]⟩

theorem stands_unique {v : ℝ} (h : Stands g x v) (h' : Stands g x w) : v = w := by
  obtain ⟨-, s, m, e, hv, rfl⟩ := h
  obtain ⟨-, s', m', e', hv', rfl⟩ := h'
  obtain ⟨rfl, rfl, rfl⟩ := FVal.fin.inj (hv.symm.trans hv')
  rfl

theorem exists_mag_of_stands (h : Stands g x w) : ∃ s p, p ≤ g.maxFinite ∧ x = g.signed s p ∧ w = signedReal s (g.mag p) := by
  obtain ⟨hx, t, m, e, hv, -⟩ := id h
  obtain ⟨s, p, hp, rfl⟩ := g.exists_signed hx
  have hle := g.le_maxFinite_of_value hp hv
  exact ⟨s, p, hle, rfl, stands_unique h (stands_signed s hle)⟩

theorem stands_eq_mag (h : Stands g p w) (hp : p ≤ g.maxFinite) : w = g.mag p := stands_unique h (stands_signed false hp)

theorem Fmt.signOf_signed (hp : p < 2 ^ (g.expBits + g.fracBits)) : g.signOf (g.signed s p) = s := by
  have hE : p / 2 ^ g.fracBits < 2 ^ g.expBits := Nat.div_lt_of_lt_mul (by rwa [pow_add, mul_comm] at hp)
  have h := (g.fields_of_pattern s hE (Nat.mod_lt p (by positivity))).1
  rwa [add_assoc, Nat.div_add_mod', ← g.signed_eq] at h

end

theorem Fmt.signed_mod_two (g : Fmt) (s : Bool) (p : ℕ) : g.signed s p % 2 = p % 2 := by
  rw [g.signed_eq]
  cases s
  · simp
  · cases g <;> simp [Fmt.expBits, Fmt.fracBits] <;> omega

theorem Fmt.infinity_eq (g : Fmt) (h : g.saturates = false) : g.infinity = g.maxFinite + 1 := by
  cases g <;> revert h <;> decide

theorem Fmt.overflow_eq (g : Fmt) (r : Rnd) (s : Bool) : g.overflow r s = (if s then 2 ^ (g.width - 1) else 0)
    + if g.saturates = true ∨ r = .rtz ∨ r = (if s then .rup else .rdn) then g.maxFinite else g.maxFinite + 1 := by
  rw [g.width_pred, ← g.signed_eq]
  unfold Fmt.overflow
  by_cases h : g.saturates = true
  · rw [if_pos h, if_pos (.inl h)]
  · rw [if_neg h, g.infinity_eq (Bool.eq_false_iff.mpr h)]
    cases r <;> cases s <;> simp [h]

theorem Fmt.maxFinite_succ_lt (g : Fmt) (h : g.saturates = false) : g.maxFinite + 1 < 2 ^ (g.expBits + g.fracBits) := by
  cases g <;> revert h <;> decide

theorem Fmt.overflow_lt (g : Fmt) (r : Rnd) (s : Bool) : g.overflow r s < 2 ^ g.width := by
  rw [g.overflow_eq, g.width_pred, ← g.signed_eq]
  refine g.signed_lt s ?_
  by_cases h : g.saturates = true
  · rw [if_pos (.inl h)]
    exact g.maxFinite_lt
  · have := g.maxFinite_succ_lt (Bool.eq_false_iff.mpr h)
    split_ifs <;> omega

/-- The place of the last bit that a format keeps of a number whose highest bit is at the place `top`. -/
def Fmt.place (g : Fmt) (top : ℤ) : ℤ := max (top - g.fracBits) g.qmin

section
variable {r : Rnd} {s : Bool} {V : ℝ} {top q : ℤ} {k n : ℕ}

/-- A multiple of the unit at most that many bits below the highest bit fits in one bit more. -/
theorem Chooses.lt_of_place {fb : ℕ} (h : Chooses r s (fun i => i * 2 ^ q) V k n) (htop : V < 2 ^ (top + 1)) (hq : top - fb ≤ q) :
    k < 2 ^ (fb + 1) := by
  have h1 : (k : ℝ) * 2 ^ q < 2 ^ (fb + 1) * 2 ^ q := calc
    (k : ℝ) * 2 ^ q ≤ V := h.lower
    _ < 2 ^ (top + 1) := htop
    _ ≤ 2 ^ ((fb + 1 : ℕ) + q) := zpow_le_zpow_right₀ one_le_two (by push_cast; omega)
    _ = 2 ^ (fb + 1) * 2 ^ q := by rw [zpow_add₀ two_ne_zero, zpow_natCast]
  exact_mod_cast lt_of_mul_lt_mul_right h1 (by positivity)

/-- A multiple of the unit just that many bits below the highest bit needs them all. -/
theorem Chooses.le_of_place {fb : ℕ} (h : Chooses r s (fun i => i * 2 ^ q) V k n) (htop : 2 ^ top ≤ V) (hq : q = top - fb) :
    2 ^ fb ≤ k := by
  have h1 : (2 : ℝ) ^ fb * 2 ^ q < (k + 1 : ℕ) * 2 ^ q := calc
    (2 : ℝ) ^ fb * 2 ^ q = 2 ^ top := by rw [← zpow_natCast, ← zpow_add₀ two_ne_zero, hq]; congr 1; ring
    _ ≤ V := htop
    _ < _ := h.upper
  have h2 : (2 : ℝ) ^ fb < (k + 1 : ℕ) := lt_of_mul_lt_mul_right h1 (by positivity)
  exact Nat.lt_succ_iff.mp (by exact_mod_cast h2)

/-- Rounding to a multiple of the last place kept is rounding among the magnitudes of the format. -/
theorem Chooses.mag {g : Fmt} (h : Chooses r s (fun i => i * 2 ^ g.place top) V k n) (hlo : 2 ^ top ≤ V) (hhi : V < 2 ^ (top + 1)) :
    let d := (g.place top - g.qmin).toNat * 2 ^ g.fracBits
    Chooses r s g.mag V (d + k) (d + n) ∧ g.mag (d + k) = k * 2 ^ g.place top := by
  intro d
  have hplace : g.qmin + (g.place top - g.qmin).toNat = g.place top := by unfold Fmt.place; omega
  have hd : (g.place top - g.qmin).toNat = 0 ∨ 2 ^ g.fracBits ≤ k := by
    rcases le_or_gt (g.place top) g.qmin with h' | h'
    · exact .inl (by omega)
    · exact .inr (h.le_of_place hlo (by unfold Fmt.place at h' ⊢; omega))
  have hk := h.lt_of_place hhi (le_max_left _ _)
  have hfloor := g.mag_place hd hk.le
  have hceil := g.mag_place (k := k + 1) (hd.imp_right Nat.le_succ_of_le) hk
  rw [hplace] at hfloor hceil
  have hdvd : d % 2 = 0 := by
    have : 2 ∣ 2 ^ g.fracBits := dvd_pow_self 2 (by cases g <;> decide)
    exact Nat.mod_eq_zero_of_dvd (this.mul_left _)
  have heven : (d + k) % 2 = 1 ↔ k % 2 = 1 := by omega
  refine ⟨⟨hfloor.trans_le h.lower, h.upper.trans_eq hceil.symm, ?_, ?_⟩, hfloor⟩
  all_goals
    rw [add_assoc d, hfloor, hceil, propext heven]
  · exact fun hgo => by rw [h.up hgo]
  · exact fun hgo => by rw [h.down hgo]

/-- Rounded with unbounded range, a magnitude stays below the smallest normal one (R99). -/
theorem Chooses.tiny_iff {fb : ℕ} {norm : ℤ} (h : Chooses r s (fun i => i * 2 ^ (top - fb)) V k n) (hlo : 2 ^ top ≤ V)
    (hhi : V < 2 ^ (top + 1)) :
    (top < norm ∧ ¬(top = norm - 1 ∧ n = 2 ^ (fb + 1)))
      ↔ ¬GoesUp r s ((2 : ℝ) ^ norm - 2 ^ norm / 2 ^ (fb + 1)) (2 ^ norm) True V := by
  have hmono {i j : ℤ} (hij : i ≤ j) : (2 : ℝ) ^ i ≤ 2 ^ j := zpow_le_zpow_right₀ one_le_two hij
  obtain ⟨q, hq⟩ : ∃ q, norm - 1 - fb = q := ⟨_, rfl⟩
  have hunit : (0 : ℝ) < 2 ^ q := by positivity
  have hnorm : (2 : ℝ) ^ norm = 2 ^ (fb + 1) * 2 ^ q := by
    rw [← zpow_natCast, ← zpow_add₀ two_ne_zero, ← hq]
    congr 1
    push_cast
    ring
  have hbelow : (2 : ℝ) ^ norm - 2 ^ norm / 2 ^ (fb + 1) = (2 ^ (fb + 1) - 1) * 2 ^ q := by
    rw [hnorm]
    field_simp
  have hstep : ((2 : ℝ) ^ (fb + 1) - 1) * 2 ^ q < 2 ^ (fb + 1) * 2 ^ q := by linarith
  rw [hbelow, hnorm]
  rcases lt_trichotomy top (norm - 1) with htop | htop | htop
  · have hhalf : (2 : ℝ) ^ (norm - 1) = 2 ^ fb * 2 ^ q := by
      rw [zpow_sub_one₀ two_ne_zero, hnorm]
      ring
    have hone : (1 : ℝ) * 2 ^ q ≤ 2 ^ fb * 2 ^ q := mul_le_mul_of_nonneg_right (one_le_pow₀ one_le_two) hunit.le
    refine iff_of_true ⟨by omega, by omega⟩ (not_goesUp_of_le hstep ?_)
    calc
      V ≤ 2 ^ (norm - 1) := hhi.le.trans (hmono (by omega))
      _ ≤ (2 ^ (fb + 1) - 1) * 2 ^ q := by rw [hhalf, pow_succ]; linarith
  · have hk := h.lt_of_place hhi le_rfl
    subst htop
    rw [hq] at h
    rcases (Nat.succ_le_of_lt hk).eq_or_lt with heq | hlt
    · have hodd : k % 2 = 1 := by rw [pow_succ] at heq; omega
      have hceil : ((k + 1 : ℕ) : ℝ) = 2 ^ (fb + 1) := by exact_mod_cast heq
      have hfloor : (k : ℝ) = 2 ^ (fb + 1) - 1 := by rw [← hceil]; push_cast; ring
      have hcases := h.index_cases
      simp only [hodd, hceil, hfloor] at hcases
      rcases hcases with ⟨hgo, rfl⟩ | ⟨hgo, rfl⟩
      · exact iff_of_false (fun hn => hn.2 ⟨rfl, heq⟩) (not_not.mpr hgo)
      · exact iff_of_true ⟨by omega, fun hn => by omega⟩ hgo
    · have hlast : ((k + 1 : ℕ) : ℝ) ≤ 2 ^ (fb + 1) - 1 := le_sub_iff_add_le.mpr (by exact_mod_cast hlt)
      have hn : n ≤ k + 1 := by rcases h.index_cases with ⟨-, rfl⟩ | ⟨-, rfl⟩ <;> omega
      refine iff_of_true ⟨by omega, by omega⟩ (not_goesUp_of_le hstep ?_)
      exact h.upper.le.trans (mul_le_mul_of_nonneg_right hlast hunit.le)
  · exact iff_of_false (by omega) (not_not.mpr (goesUp_of_le hstep (hnorm ▸ (hmono (by omega)).trans hlo)))

/-- The highest bit of the integer that stands for a number is that of the number. -/
theorem Tracks.top_bounds {a m : ℕ} {x : ℝ} (h : Tracks a m x) (hm : m ≠ 0) (ha : a ≤ m.log2) (e : ℤ) :
    2 ^ ((m.log2 : ℤ) + e) ≤ x * 2 ^ e ∧ x * 2 ^ e < 2 ^ ((m.log2 : ℤ) + e + 1) := by
  have hscale (i : ℕ) : (2 : ℝ) ^ ((i : ℤ) + e) = 2 ^ i * 2 ^ e := by rw [zpow_add₀ two_ne_zero, zpow_natCast]
  have hsucc : (m.log2 : ℤ) + e + 1 = (m.log2 + 1 : ℕ) + e := by push_cast; ring
  have hunit : (0 : ℝ) < 2 ^ e := by positivity
  obtain ⟨hlo, hhi⟩ := h.log2_bounds hm ha
  rw [hsucc, hscale, hscale]
  exact ⟨mul_le_mul_of_nonneg_right hlo hunit.le, mul_lt_mul_of_pos_right hhi hunit⟩

/-- The flags of a rounding that does not overflow: none where it is exact, else NX, with UF where the number is tiny (R99, R103). -/
theorem inexact_flags {inexact tiny : Bool} :
    (inexact = false → Flags.nxIf inexact ||| (if tiny && inexact then Flags.uf else 0) = 0)
      ∧ (inexact = true → (¬tiny = true → Flags.nxIf inexact ||| (if tiny && inexact then Flags.uf else 0) = 1)
        ∧ (tiny = true → Flags.nxIf inexact ||| (if tiny && inexact then Flags.uf else 0) = 3)) := by
  revert inexact tiny
  decide

/-- What the model's rounding does with a non-zero number of magnitude `x * 2 ^ e`, for which `m * 2 ^ e` stands. -/
theorem Fmt.round_chooses (g : Fmt) (r : Rnd) (s : Bool) {a m : ℕ} {x : ℝ} {e : ℤ} (hm : m ≠ 0) (h : Tracks a m x)
    (hprec : a = 0 ∨ a + g.fracBits + 1 ≤ m.log2) :
    let V := x * 2 ^ e
    let normal : ℝ := 2 ^ (1 - (g.bias : ℤ))
    let normalUp := GoesUp r s (normal - normal / 2 ^ (g.fracBits + 1)) normal True V
    ∃ k n, Chooses r s g.mag V k n ∧ (g.maxFinite < n → g.round r s m e = (g.overflow r s, 5))
      ∧ (n ≤ g.maxFinite → ∃ fl, g.round r s m e = (g.signed s n, fl) ∧ (V = g.mag k → fl = 0)
          ∧ (V ≠ g.mag k → (normalUp → fl = 1) ∧ (¬normalUp → fl = 3))) := by
  intro V normal normalUp
  obtain ⟨hlo, hhi⟩ := h.top_bounds hm (by omega) e
  obtain ⟨top, htop⟩ : ∃ top, (m.log2 : ℤ) + e = top := ⟨_, rfl⟩
  rw [htop] at hlo hhi
  have hplace : top - g.fracBits ≤ g.place top := le_max_left _ _
  obtain ⟨k, hk, hexact⟩ := roundMag_chooses r s (e := e) (q := g.place top) h (by omega)
  obtain ⟨k', hk', -⟩ := roundMag_chooses r s (e := e) (q := top - g.fracBits) h (by omega)
  have htiny := hk'.tiny_iff (norm := 1 - (g.bias : ℤ)) hlo hhi
  obtain ⟨hmag, hfloor⟩ := hk.mag hlo hhi
  unfold Fmt.round
  simp only [if_neg hm, htop]
  rw [← Fmt.place]
  obtain ⟨⟨n, inexact⟩, hn⟩ : ∃ p, roundMag r s m e (g.place top) = p := ⟨_, rfl⟩
  obtain ⟨⟨n', b⟩, hn'⟩ : ∃ p, roundMag r s m e (top - g.fracBits) = p := ⟨_, rfl⟩
  rw [hn] at hexact hmag ⊢
  rw [hn'] at htiny ⊢
  refine ⟨_, _, hmag, fun hgt => if_pos hgt, fun hle => ⟨_, if_neg (not_lt.mpr hle), ?_⟩⟩
  obtain ⟨tiny, ht⟩ : ∃ t, (decide (top < 1 - (g.bias : ℤ)) && !(decide (top = 1 - (g.bias : ℤ) - 1) && n' == 2 ^ (g.fracBits + 1))) = t :=
    ⟨_, rfl⟩
  have hnormal : tiny = true ↔ ¬normalUp := by
    rw [← htiny, ← ht]
    simp only [Bool.and_eq_true, Bool.not_eq_true', ← Bool.not_eq_true, beq_iff_eq, decide_eq_true_eq]
  rw [hfloor, ht]
  have hflags := inexact_flags (inexact := inexact) (tiny := tiny)
  rw [hnormal, not_not] at hflags
  exact ⟨fun heq => hflags.1 (hexact.mpr heq), fun hne => hflags.2 (Bool.eq_true_of_not_eq_false (mt hexact.mp hne))⟩

/-- Rounding a number goes up from a magnitude of the sequence where it ends above it. -/
theorem Chooses.goesUp_iff {f : ℕ → ℝ} (hf : StrictMono f) (h : Chooses r s f V k n) (j : ℕ) :
    GoesUp r s (f j) (f (j + 1)) (j % 2 = 1) V ↔ j < n := by
  have hn : k ≤ n ∧ n ≤ k + 1 := by rcases h.index_cases with ⟨-, rfl⟩ | ⟨-, rfl⟩ <;> omega
  rcases lt_trichotomy j k with hj | rfl | hj
  · exact iff_of_true (goesUp_of_le (hf j.lt_succ_self) ((hf.monotone (Nat.succ_le_of_lt hj)).trans h.lower)) (by omega)
  · rcases h.index_cases with ⟨hgo, rfl⟩ | ⟨hgo, rfl⟩
    · exact iff_of_true hgo (by omega)
    · exact iff_of_false hgo (by omega)
  · exact iff_of_false (not_goesUp_of_le (hf j.lt_succ_self) (h.upper.le.trans (hf.monotone (Nat.succ_le_of_lt hj)))) (by omega)

/-- A number is exact in a rounding where the chosen magnitude is its own. -/
theorem Chooses.exact_iff {f : ℕ → ℝ} (hf : StrictMono f) (h : Chooses r s f V k n) : V = f n ↔ V = f k := by
  refine ⟨fun heq => ?_, fun heq => ?_⟩
  · rw [(h.eq_of_mem hf heq).1, heq]
  · rw [(h.eq_of_mem hf heq).2, heq]

end

/-- The model's rounding of a non-zero number of magnitude `x * 2 ^ e`, for which `m * 2 ^ e` stands (R99, R101, R103, R104). -/
theorem Fmt.round_rounds (g : Fmt) (r : Rnd) (s : Bool) {a m : ℕ} {x : ℝ} {e : ℤ} (hm : m ≠ 0) (h : Tracks a m x)
    (hprec : a = 0 ∨ a + g.fracBits + 1 ≤ m.log2) : Rounds g r s (signedReal s (x * 2 ^ e)) (g.round r s m e) := by
  obtain ⟨k, n, hch, hover, hkeep⟩ := g.round_chooses r s (e := e) hm h hprec
  have hV : 0 ≤ x * 2 ^ e := (g.mag_nonneg k).trans hch.lower
  intro top below htop hbelow
  obtain rfl := stands_eq_mag htop le_rfl
  obtain rfl := stands_eq_mag hbelow (Nat.sub_le _ _)
  rw [← g.mag_maxFinite_succ, abs_signedReal s hV, hch.goesUp_iff g.mag_strictMono]
  refine ⟨fun hgt => ?_, fun hngt => ?_⟩
  · rw [hover hgt]
    exact ⟨rfl, g.overflow_eq r s⟩
  · have hle := not_lt.mp hngt
    obtain ⟨fl, hround, hexact, hinexact⟩ := hkeep hle
    rw [hround]
    refine ⟨signedReal s (g.mag n), stands_signed s hle, Fmt.signOf_signed (hle.trans_lt g.maxFinite_lt), ?_, ?_, ?_⟩
    · refine hch.picks g.mag_strictMono (g.mag_nonneg 0) ?_ ⟨_, stands_signed s hle⟩ (g.signed_mod_two s n).trans
      rintro w ⟨p, hp⟩
      obtain ⟨t, j, -, -, rfl⟩ := exists_mag_of_stands hp
      exact ⟨j, abs_signedReal t (g.mag_nonneg j)⟩
    · exact fun heq => hexact ((hch.exact_iff g.mag_strictMono).mp (signedReal_inj.mp heq).symm)
    · exact fun hne => hinexact fun heq => hne (signedReal_inj.mpr ((hch.exact_iff g.mag_strictMono).mpr heq)).symm

/-- The rounding of a number given exactly. -/
theorem Fmt.round_exact_rounds (g : Fmt) (r : Rnd) (s : Bool) {m : ℕ} (e : ℤ) (hm : m ≠ 0) :
    Rounds g r s (realOf s m e) (g.round r s m e) := by
  rw [realOf_eq]
  exact g.round_rounds r s hm (Tracks.refl m) (.inl rfl)

theorem Fmt.round_zero (g : Fmt) (r : Rnd) (s : Bool) (e : ℤ) : g.round r s 0 e = zeroOf g s := by
  simp [Fmt.round, Fmt.signed, zeroOf]

/-- A rounded result is a pattern of the format. -/
theorem Fmt.round_lt (g : Fmt) (r : Rnd) (s : Bool) (m : ℕ) (e : ℤ) : (g.round r s m e).1 < 2 ^ g.width := by
  rcases eq_or_ne m 0 with rfl | hm
  · rw [g.round_zero, zeroOf, g.width_pred, ← add_zero (ite _ _ _), ← g.signed_eq]
    exact g.signed_lt s (by positivity)
  · obtain ⟨k, n, -, hover, hkeep⟩ := g.round_chooses r s (e := e) hm (Tracks.refl m) (.inl rfl)
    rcases lt_or_ge g.maxFinite n with hn | hn
    · rw [hover hn]
      exact g.overflow_lt r s
    · obtain ⟨fl, hround, -⟩ := hkeep hn
      rw [hround]
      exact g.signed_lt s (hn.trans_lt g.maxFinite_lt)

/-- A pattern that stands for a finite number is kept, with no flag. -/
theorem Fmt.round_value (g : Fmt) (r : Rnd) {p : ℕ} (hp : p < 2 ^ g.width) {s : Bool} {m : ℕ} {e : ℤ} (h : g.value p = .fin s m e) :
    g.round r s m e = (p, 0) := by
  obtain ⟨t, j, hj, rfl⟩ := g.exists_signed hp
  have hle := g.le_maxFinite_of_value hj h
  obtain ⟨m', e', h', hmag⟩ := g.value_signed t hle
  obtain ⟨rfl, rfl, rfl⟩ := FVal.fin.inj (h.symm.trans h')
  rcases eq_or_ne m 0 with rfl | hm
  · have hj0 : j = 0 := g.mag_strictMono.injective (by rw [← hmag, g.mag_zero]; simp)
    rw [g.round_zero, hj0, g.signed_eq, zeroOf, g.width_pred, add_zero]
  · obtain ⟨k, n, hch, -, hkeep⟩ := g.round_chooses r s (e := e) hm (Tracks.refl m) (.inl rfl)
    obtain ⟨rfl, rfl⟩ := hch.eq_of_mem g.mag_strictMono hmag
    obtain ⟨fl, hround, hexact, -⟩ := hkeep hle
    rw [hround, hexact hmag]

end Sys2Proof.Machine
end

section
namespace Sys2Proof.Machine

/-! Sums, products, quotients, roots and orders of values in real numbers (R101, R197, R198). -/

open Sys2Proof.Claims

theorem realOf_eq_zero {s : Bool} {m : ℕ} {e : ℤ} : realOf s m e = 0 ↔ m = 0 := by
  have h : (2 : ℝ) ^ e ≠ 0 := by positivity
  rw [realOf_eq, signedReal_eq_zero, mul_eq_zero, or_iff_left h, Nat.cast_eq_zero]

theorem realOf_mul (s t : Bool) (m n : ℕ) (e f : ℤ) : realOf s m e * realOf t n f = realOf (s != t) (m * n) (e + f) := by
  rw [realOf_eq, realOf_eq, realOf_eq, signedReal_mul, zpow_add₀ two_ne_zero]
  congr 1
  push_cast
  ring

theorem cast_sgn (s : Bool) (m : ℕ) : ((sgn s m : ℤ) : ℝ) = signedReal s m := by
  cases s <;> simp [sgn]

/-- A value as a multiple of a power of two not above its own. -/
theorem sgn_align {s : Bool} {m : ℕ} {e q : ℤ} (hq : q ≤ e) : ((sgn s (m * 2 ^ (e - q).toNat) : ℤ) : ℝ) * 2 ^ q = realOf s m e := by
  obtain ⟨n, rfl⟩ : ∃ n : ℕ, e = q + n := ⟨(e - q).toNat, by omega⟩
  rw [cast_sgn, realOf_eq, zpow_add₀ two_ne_zero, zpow_natCast, add_sub_cancel_left, Int.toNat_natCast]
  cases s <;> push_cast [signedReal_true, signedReal_false] <;> ring

/-- The rounding of an integer is that of the sign and the magnitude it has. -/
theorem realOf_natAbs (i e : ℤ) : realOf (decide (i < 0)) i.natAbs e = i * 2 ^ e := by
  rw [realOf_eq]
  rcases lt_or_ge i 0 with hi | hi
  · rw [decide_eq_true hi, signedReal_true, Nat.cast_natAbs, abs_of_neg hi]
    push_cast
    ring
  · rw [decide_eq_false (not_lt.mpr hi), signedReal_false, Nat.cast_natAbs, abs_of_nonneg hi]

@[simp] theorem Fmt.signed_zero (g : Fmt) (s : Bool) : (g.signed s 0, (0 : Flags)) = zeroOf g s := by
  cases s <;> rfl

@[simp] theorem Fmt.nan_eq (g : Fmt) (b : Bool) : g.nan b = nanOf g b := by
  cases b <;> rfl

section
variable (g : Fmt) (r : Rnd) (s t : Bool) (m n : ℕ) (e f : ℤ)

/-- The exact sum of two values as a multiple of the lower of their powers of two. -/
theorem add_align : ((sgn s (m * 2 ^ (e - min e f).toNat) + sgn t (n * 2 ^ (f - min e f).toNat) : ℤ) : ℝ) * 2 ^ min e f
    = realOf s m e + realOf t n f := by
  rw [Int.cast_add, add_mul, sgn_align (min_le_left e f), sgn_align (min_le_right e f)]

theorem Fmt.sumFin_zero (h : realOf s m e + realOf t n f = 0) :
    g.sumFin r s m e t n f = zeroOf g (if s = t then s else decide (r = .rdn)) := by
  have hunit : (2 : ℝ) ^ min e f ≠ 0 := by positivity
  rw [← add_align, mul_eq_zero, or_iff_left hunit, Int.cast_eq_zero] at h
  unfold Fmt.sumFin
  simp only [if_pos h, Fmt.signed_zero]

theorem Fmt.sumFin_rounds {v : Bool} (h : realOf s m e + realOf t n f ≠ 0) (hv : v = true ↔ realOf s m e + realOf t n f < 0) :
    Rounds g r v (realOf s m e + realOf t n f) (g.sumFin r s m e t n f) := by
  have hunit : (0 : ℝ) < 2 ^ min e f := by positivity
  obtain ⟨i, hi⟩ : ∃ i, sgn s (m * 2 ^ (e - min e f).toNat) + sgn t (n * 2 ^ (f - min e f).toNat) = i := ⟨_, rfl⟩
  rw [← add_align, hi] at h hv ⊢
  have hi0 : i ≠ 0 := by
    rintro rfl
    simp at h
  have hsign : decide (i < 0) = v := by
    rw [Bool.eq_iff_iff, hv, decide_eq_true_eq]
    simp [mul_neg_iff, hunit, hunit.not_gt]
  unfold Fmt.sumFin
  simp only [hi, if_neg hi0]
  rw [Fmt.roundInt, ← realOf_natAbs, hsign]
  exact g.round_exact_rounds r v _ (Int.natAbs_ne_zero.mpr hi0)

/-- Less is that of the reals. -/
theorem FVal.lt_fin : (FVal.fin s m e).lt (.fin t n f) = true ↔ realOf s m e < realOf t n f := by
  have hunit : (0 : ℝ) < 2 ^ min e f := by positivity
  rw [← sgn_align (min_le_left e f), ← sgn_align (min_le_right e f), mul_lt_mul_iff_left₀ hunit, Int.cast_lt]
  exact decide_eq_true_iff

/-- Equal is that of the reals. -/
theorem FVal.eq_fin : (FVal.fin s m e).eq (.fin t n f) = true ↔ realOf s m e = realOf t n f := by
  have h1 := FVal.lt_fin s t m n e f
  have h2 := FVal.lt_fin t s n m f e
  rw [le_antisymm_iff (a := realOf s m e), ← not_lt (b := realOf s m e), ← not_lt (a := realOf s m e), ← h1, ← h2]
  simp [FVal.eq, FVal.isNaN, and_comm]

end

/-! Quotients and roots. -/

/-- A number between two neighbouring integers is replaced by one that stands for it. -/
theorem jam_tracks {y : ℝ} {j rem : ℕ} (hexact : rem = 0 → y = j) (hbetween : rem ≠ 0 → (j : ℝ) < y ∧ y < j + 1) (e : ℤ) :
    ∃ a x, Tracks a (jam j rem e).1 x ∧ x * 2 ^ (jam j rem e).2 = y * 2 ^ e ∧ (a = 0 ∨ a = 1 ∧ (jam j rem e).1 = 2 * j + 1)
      ∧ j ≤ (jam j rem e).1 := by
  unfold jam
  split_ifs with hrem
  · exact ⟨0, j, Tracks.refl j, by rw [hexact hrem], .inl rfl, le_rfl⟩
  · obtain ⟨hlo, hhi⟩ := hbetween hrem
    refine ⟨1, 2 * y, Tracks.of_between hlo hhi, ?_, .inr ⟨rfl, rfl⟩, by omega⟩
    rw [zpow_sub_one₀ two_ne_zero]
    ring

theorem Fmt.fracBits_le (g : Fmt) : g.fracBits ≤ 52 := by cases g <;> decide

/-- A number between two neighbouring integers of enough bits is rounded as the integers that replace it (R101). -/
theorem Fmt.round_jam_rounds (g : Fmt) (r : Rnd) (s : Bool) {y : ℝ} {j rem : ℕ} (hj : 2 ^ 53 ≤ j) (hexact : rem = 0 → y = j)
    (hbetween : rem ≠ 0 → (j : ℝ) < y ∧ y < j + 1) (e : ℤ) :
    Rounds g r s (signedReal s (y * 2 ^ e)) (g.round r s (jam j rem e).1 (jam j rem e).2) := by
  obtain ⟨a, x, htracks, hx, ha, hle⟩ := jam_tracks hexact hbetween e
  have hne : (jam j rem e).1 ≠ 0 := by omega
  rw [← hx]
  refine g.round_rounds r s hne htracks (ha.imp_right ?_)
  rintro ⟨rfl, hodd⟩
  rw [Nat.le_log2 hne, hodd]
  calc 2 ^ (1 + g.fracBits + 1) ≤ 2 ^ 54 := Nat.pow_le_pow_right two_pos (by linarith [g.fracBits_le])
    _ ≤ 2 * j + 1 := by omega

/-- The integer quotient and its remainder bound the real quotient. -/
theorem div_bounds {A n : ℕ} (hn : n ≠ 0) : (A % n = 0 → (A : ℝ) / n = (A / n : ℕ))
    ∧ (A % n ≠ 0 → ((A / n : ℕ) : ℝ) < A / n ∧ (A : ℝ) / n < (A / n : ℕ) + 1) := by
  have hpos : (0 : ℝ) < n := by positivity
  refine ⟨fun h => (Nat.cast_div (Nat.dvd_of_mod_eq_zero h) hpos.ne').symm, fun h => ⟨?_, ?_⟩⟩
  · rw [lt_div_iff₀ hpos]
    exact_mod_cast lt_of_le_of_ne (Nat.div_mul_le_self A n) fun heq => h (Nat.mod_eq_zero_of_dvd ⟨A / n, by rw [mul_comm, heq]⟩)
  · rw [div_lt_iff₀ hpos]
    exact_mod_cast Nat.lt_mul_of_div_lt (Nat.lt_succ_self _) (Nat.pos_of_ne_zero hn)

/-- The quotient of two values other than zero is rounded once (R101, R197). -/
theorem Fmt.quotient_rounds (g : Fmt) (r : Rnd) (s t : Bool) {m n : ℕ} (hm : m ≠ 0) (hn : n ≠ 0) (e f : ℤ) :
    Rounds g r (s != t) (realOf s m e / realOf t n f) (g.quotient r (.fin s m e) (.fin t n f)) := by
  obtain ⟨k, hk⟩ : ∃ k, n.log2 + 128 = k := ⟨_, rfl⟩
  obtain ⟨hexact, hbetween⟩ := div_bounds (A := m * 2 ^ k) hn
  have hprec : 2 ^ 53 ≤ m * 2 ^ k / n := by
    rw [Nat.le_div_iff_mul_le (Nat.pos_of_ne_zero hn)]
    calc 2 ^ 53 * n ≤ 2 ^ 53 * 2 ^ (n.log2 + 1) := Nat.mul_le_mul_left _ Nat.lt_log2_self.le
      _ = 2 ^ (n.log2 + 54) := by rw [← pow_add]; congr 1; omega
      _ ≤ 2 ^ k := Nat.pow_le_pow_right two_pos (by omega)
      _ ≤ m * 2 ^ k := Nat.le_mul_of_pos_left _ (Nat.pos_of_ne_zero hm)
  have hvalue : realOf s m e / realOf t n f = signedReal (s != t) (((m * 2 ^ k : ℕ) : ℝ) / n * 2 ^ (e - f - k)) := by
    have hn' : (n : ℝ) ≠ 0 := Nat.cast_ne_zero.mpr hn
    rw [realOf_eq, realOf_eq, signedReal_div, zpow_sub₀ two_ne_zero, zpow_sub₀ two_ne_zero, zpow_natCast]
    congr 1
    push_cast
    field_simp
  rw [hvalue]
  unfold Fmt.quotient
  simp only [if_neg hn, hk]
  exact g.round_jam_rounds r _ hprec hexact hbetween _

/-- The search finds the integer square root from bounds `2 ^ b` apart. -/
theorem isqrt_spec {n b k : ℕ} (hlo : k * k ≤ n) (hhi : n < (k + 2 ^ b) * (k + 2 ^ b)) :
    isqrt n b k * isqrt n b k ≤ n ∧ n < (isqrt n b k + 1) * (isqrt n b k + 1) := by
  induction b generalizing k with
  | zero => exact ⟨hlo, hhi⟩
  | succ b ih =>
    unfold isqrt
    split_ifs with h
    · exact ih h (by rwa [add_assoc, ← two_mul, ← pow_succ'])
    · exact ih hlo (not_le.mp h)

/-- The integer square root and its remainder bound the real root. -/
theorem sqrt_bounds {n k : ℕ} (hlo : k * k ≤ n) (hhi : n < (k + 1) * (k + 1)) :
    (n - k * k = 0 → √(n : ℝ) = k) ∧ (n - k * k ≠ 0 → (k : ℝ) < √n ∧ √(n : ℝ) < k + 1) := by
  refine ⟨fun h => ?_, fun h => ⟨?_, ?_⟩⟩
  · obtain rfl : n = k * k := by omega
    rw [Nat.cast_mul, Real.sqrt_mul_self k.cast_nonneg]
  · rw [Real.lt_sqrt k.cast_nonneg, sq]
    exact_mod_cast (show k * k < n by omega)
  · rw [Real.sqrt_lt' (by positivity), sq]
    exact_mod_cast hhi

/-- The steps of a root of a positive value. The match on the result of `jam` stays closed until its arguments are variables: the kernel
would compute the search for the square root otherwise. -/
theorem Fmt.root_pos (g : Fmt) (r : Rnd) {m m' n k : ℕ} {e e' : ℤ} (hm : m ≠ 0) (hm' : (if e % 2 = 0 then m else 2 * m) = m')
    (he' : (if e % 2 = 0 then e else e - 1) / 2 = e') (hn : m' * 2 ^ 128 = n) (hk : isqrt n (n.log2 / 2 + 1) 0 = k) :
    g.root r (.fin false m e) = g.round r false (jam k (n - k * k) (e' - 64)).1 (jam k (n - k * k) (e' - 64)).2 := by
  refine (if_neg hm).trans ((if_neg Bool.false_ne_true).trans ?_)
  simp -iota only [hm', he', hn, hk]
  rfl

/-- The root of a positive value is rounded once (R101, R197). -/
theorem Fmt.root_rounds (g : Fmt) (r : Rnd) {m : ℕ} (hm : m ≠ 0) (e : ℤ) :
    Rounds g r false (√(realOf false m e)) (g.root r (.fin false m e)) := by
  obtain ⟨m', hm'⟩ : ∃ m', (if e % 2 = 0 then m else 2 * m) = m' := ⟨_, rfl⟩
  obtain ⟨e', he'⟩ : ∃ e', (if e % 2 = 0 then e else e - 1) / 2 = e' := ⟨_, rfl⟩
  obtain ⟨n, hn⟩ : ∃ n, m' * 2 ^ 128 = n := ⟨_, rfl⟩
  obtain ⟨k, hk⟩ : ∃ k, isqrt n (n.log2 / 2 + 1) 0 = k := ⟨_, rfl⟩
  have hpos : 1 ≤ m' := by split_ifs at hm' <;> omega
  have hvalue : realOf false m e = m' * (2 ^ e' * 2 ^ e') := by
    rw [← zpow_add₀ two_ne_zero, realOf_eq, signedReal_false]
    split_ifs at hm' he' with hparity
    · rw [← hm', show e' + e' = e by omega]
    · rw [← hm', show e = 1 + (e' + e') by omega, zpow_add₀ two_ne_zero]
      push_cast
      ring
  have hroot : √(realOf false m e) = √n * 2 ^ (e' - 64) := by
    have hpow : (2 : ℝ) ^ e' = 2 ^ 64 * 2 ^ (e' - 64) := by
      rw [← zpow_natCast, ← zpow_add₀ two_ne_zero]
      congr 1
      push_cast
      ring
    have hsquare : realOf false m e = n * (2 ^ (e' - 64) * 2 ^ (e' - 64)) := by
      rw [hvalue, hpow, ← hn]
      push_cast
      ring
    rw [hsquare, Real.sqrt_mul n.cast_nonneg, Real.sqrt_mul_self (by positivity)]
  obtain ⟨hlo, hhi⟩ : k * k ≤ n ∧ n < (k + 1) * (k + 1) := by
    rw [← hk]
    refine isqrt_spec (Nat.zero_le _) (Nat.lt_log2_self.trans_le ?_)
    rw [zero_add, ← pow_add]
    exact Nat.pow_le_pow_right two_pos (by omega)
  have hprec : 2 ^ 53 ≤ k := by
    by_contra hlt
    have hle : k + 1 ≤ 2 ^ 53 := not_le.mp hlt
    have hsq := hhi.trans_le (Nat.mul_le_mul hle hle)
    omega
  obtain ⟨hexact, hbetween⟩ := sqrt_bounds hlo hhi
  rw [hroot, g.root_pos r hm hm' he' hn hk]
  exact g.round_jam_rounds r false hprec hexact hbetween _

end Sys2Proof.Machine
end

section
namespace Sys2Proof.Machine

open Sys2Proof.Claims

/-! Infinities, zeros and NaNs of the operations (R100, R101, R197), and conversion to an integer (R105). -/

/-- The list of the statement gives the fields of each format (R97). -/
theorem formats_fields :
    ∀ q ∈ formats, q = (q.1, q.1.expBits, q.1.fracBits, q.1.bias, q.1.maxFinite, q.1.canonicalNaN) := by
  decide

section
variable {g : Fmt} (hg : g ∈ ieee)
include hg

theorem not_saturates_of_ieee : g.saturates = false ∧ g ≠ .e4m3 ∧ g ≠ .e2m1 := by
  revert g
  decide

theorem Fmt.inf_of_ieee (s : Bool) : g.inf s = (if s then 2 ^ (g.width - 1) else 0) + g.maxFinite + 1 := by
  obtain ⟨hsat, h1, h2⟩ := not_saturates_of_ieee hg
  rw [Fmt.inf, decide_eq_false h1, decide_eq_false h2, Bool.or_self, if_neg Bool.false_ne_true, g.infinity_eq hsat, g.signed_eq,
    g.width_pred, add_assoc]

theorem Fmt.convert_inf_of_ieee (r : Rnd) (s : Bool) : g.convert r (.inf s) = (g.inf s, 0) := by
  obtain ⟨-, h1, h2⟩ := not_saturates_of_ieee hg
  simp [Fmt.convert, Flags.nvIf, h1, h2]

/-- Infinity times a finite number is infinity, but invalid where that is zero (R101, R103). -/
theorem Fmt.inf_product (r : Rnd) (s t : Bool) (n : ℕ) (f : ℤ) :
    g.product r (.inf s) (.fin t n f) = if n = 0 then nanOf g true else (g.inf (s != t), 0) := by
  unfold Fmt.product FVal.mul
  by_cases hn : n = 0
  · simp only [if_pos hn, g.nan_eq]
  · simp only [if_neg hn, Fmt.convert_inf_of_ieee hg]

theorem Fmt.convert_nan_of_ieee (r : Rnd) (b : Bool) : g.convert r (.nan b) = nanOf g b := by
  obtain ⟨-, -, h2⟩ := not_saturates_of_ieee hg
  simp [Fmt.convert, h2]

end

section
variable (g : Fmt) (r : Rnd) (s t u : Bool) (m n k : ℕ) (e f i : ℤ)

theorem Fmt.product_fin : g.product r (.fin s m e) (.fin t n f) = g.round r (s != t) (m * n) (e + f) := rfl

theorem Fmt.product_zero (h : realOf s m e * realOf t n f = 0) : g.product r (.fin s m e) (.fin t n f) = zeroOf g (s != t) := by
  rw [realOf_mul, realOf_eq_zero] at h
  rw [g.product_fin, h, g.round_zero]

theorem Fmt.product_rounds (h : realOf s m e * realOf t n f ≠ 0) :
    Rounds g r (s != t) (realOf s m e * realOf t n f) (g.product r (.fin s m e) (.fin t n f)) := by
  rw [realOf_mul] at h ⊢
  exact g.round_exact_rounds r _ _ (mt realOf_eq_zero.mpr h)

theorem Fmt.fused_fin : g.fused r (.fin s m e) (.fin t n f) (.fin u k i) = g.sumFin r (s != t) (m * n) (e + f) u k i := rfl

theorem Fmt.fused_zero (h : realOf s m e * realOf t n f + realOf u k i = 0) :
    g.fused r (.fin s m e) (.fin t n f) (.fin u k i) = zeroOf g (if (s != t) = u then u else decide (r = .rdn)) := by
  rw [realOf_mul] at h
  rw [g.fused_fin, g.sumFin_zero r _ _ _ _ _ _ h]
  congr 1
  split_ifs with hsign
  · exact hsign
  · rfl

theorem Fmt.fused_rounds {v : Bool} (h : realOf s m e * realOf t n f + realOf u k i ≠ 0)
    (hv : v = true ↔ realOf s m e * realOf t n f + realOf u k i < 0) :
    Rounds g r v (realOf s m e * realOf t n f + realOf u k i) (g.fused r (.fin s m e) (.fin t n f) (.fin u k i)) := by
  rw [realOf_mul] at h hv ⊢
  exact g.sumFin_rounds r _ _ _ _ _ _ h hv

theorem Fmt.quotient_zero (ha : realOf s m e = 0) (hb : realOf t n f ≠ 0) :
    g.quotient r (.fin s m e) (.fin t n f) = zeroOf g (s != t) := by
  obtain rfl := realOf_eq_zero.mp ha
  have hn := mt realOf_eq_zero.mpr hb
  simp [Fmt.quotient, hn, jam, g.round_zero]

theorem Fmt.quotient_by_zero (hg : g ∈ ieee) (hb : realOf t n f = 0) : g.quotient r (.fin s m e) (.fin t n f)
    = if m = 0 then nanOf g true else ((if s = t then 0 else 2 ^ (g.width - 1)) + g.maxFinite + 1, 8) := by
  have hinf : g.inf (s != t) = (if s = t then 0 else 2 ^ (g.width - 1)) + g.maxFinite + 1 := by
    rw [Fmt.inf_of_ieee hg]
    cases s <;> cases t <;> rfl
  unfold Fmt.quotient
  simp only [if_pos (realOf_eq_zero.mp hb), hinf, g.nan_eq]
  rfl

theorem Fmt.root_zero (ha : realOf s m e = 0) : g.root r (.fin s m e) = zeroOf g s :=
  (if_pos (realOf_eq_zero.mp ha)).trans (g.signed_zero s)

theorem realOf_neg_iff : realOf s m e < 0 ↔ s = true ∧ m ≠ 0 := by
  have hunit : (0 : ℝ) < 2 ^ e := by positivity
  rw [realOf_eq]
  cases s
  · simp [mul_nonneg m.cast_nonneg hunit.le]
  · simp [hunit, Nat.pos_iff_ne_zero]

theorem realOf_pos_iff : 0 < realOf s m e ↔ s = false ∧ m ≠ 0 := by
  have hunit : (0 : ℝ) < 2 ^ e := by positivity
  rw [realOf_eq]
  cases s
  · simp [hunit, Nat.pos_iff_ne_zero]
  · simp [mul_nonneg m.cast_nonneg hunit.le]

theorem Fmt.root_neg (ha : realOf s m e < 0) : g.root r (.fin s m e) = nanOf g true := by
  obtain ⟨rfl, hm⟩ := (realOf_neg_iff s m e).mp ha
  exact (if_neg hm).trans ((if_pos rfl).trans (g.nan_eq true))

theorem Fmt.root_of_pos (ha : 0 < realOf s m e) : Rounds g r false (√(realOf s m e)) (g.root r (.fin s m e)) := by
  obtain ⟨rfl, hm⟩ := (realOf_pos_iff s m e).mp ha
  exact g.root_rounds r hm e

theorem FVal.fin_mul_inf : (FVal.fin t n f).mul (.inf s) = (FVal.inf s).mul (.fin t n f) := by
  simp [FVal.mul, bne_comm (a := t)]

end

section
variable {g : Fmt} (hg : g ∈ ieee) (r : Rnd) (q : Bool) (y : FVal)

theorem FVal.mul_nan : y.mul (.nan q) = some (.nan (q || y.signals)) := by
  cases y <;> simp [FVal.mul, FVal.signals, Bool.or_comm]

theorem Fmt.sum_nan (g : Fmt) : g.sum r y (.nan q) = nanOf g (q || y.signals) := by
  cases y <;> simp [Fmt.sum, FVal.signals, Bool.or_comm]

theorem Fmt.quotient_nan (g : Fmt) : g.quotient r y (.nan q) = nanOf g (q || y.signals) := by
  cases y <;> simp [Fmt.quotient, FVal.signals, Bool.or_comm]

theorem FVal.lt_nan : y.lt (.nan q) = false := by cases y <;> rfl

theorem FVal.eq_nan : y.eq (.nan q) = false := by simp [FVal.eq, FVal.isNaN]

include hg

theorem Fmt.product_nan : g.product r y (.nan q) = nanOf g (q || y.signals) := by
  rw [Fmt.product, FVal.mul_nan]
  exact Fmt.convert_nan_of_ieee hg r _

theorem Fmt.nan_product : g.product r (.nan q) y = nanOf g (q || y.signals) := Fmt.convert_nan_of_ieee hg r _

end

/-- The integer that the mode picks for a number, and whether it differs from the number (R101, R105). -/
theorem roundMag_integer (r : Rnd) (s : Bool) (m : ℕ) (e : ℤ) : let i := sgn s (roundMag r s m e 0).1
    Picks r (fun x => ∃ k : ℤ, x = k) (realOf s m e) i (i % 2 = 0)
      ∧ ((roundMag r s m e 0).2 = false ↔ (i : ℝ) = realOf s m e) := by
  obtain ⟨k, hch, hexact⟩ := roundMag_chooses r s (e := e) (q := 0) (Tracks.refl m) (.inl rfl)
  obtain ⟨n, hn⟩ : ∃ n, (roundMag r s m e 0).1 = n := ⟨_, rfl⟩
  have hf : StrictMono fun i : ℕ => (i : ℝ) * 2 ^ (0 : ℤ) := fun _ _ h => by simpa using h
  have heven : n % 2 = 0 → sgn s n % 2 = 0 := by cases s <;> simp only [sgn] <;> omega
  have hcast : signedReal s ((n : ℝ) * 2 ^ (0 : ℤ)) = (sgn s n : ℤ) := by rw [cast_sgn, zpow_zero, mul_one]
  rw [hn] at hch ⊢
  have hpicks := hch.picks (N := fun x => ∃ k : ℤ, x = k) hf (by simp) (by
    rintro _ ⟨i, rfl⟩
    exact ⟨i.natAbs, by simp [Nat.cast_natAbs]⟩) ⟨_, hcast⟩ heven
  rw [hcast, ← realOf_eq] at hpicks
  refine ⟨hpicks, ?_⟩
  rw [hexact, ← hch.exact_iff hf, ← hcast, realOf_eq, signedReal_inj, eq_comm]

theorem pat_eq (w : ℕ) (i : ℤ) : pat w i = (i % 2 ^ w).toNat := by rw [pat, Nat.cast_pow, Nat.cast_ofNat]

/-- A finite number converts to the pattern of the integer that the mode picks, or of the limit it passes (R105). -/
theorem toInteger_fin {signed : Bool} {w : ℕ} {lo hi : ℤ} (hlo : (if signed then -(2 ^ (w - 1)) else 0) = lo)
    (hhi : (if signed then 2 ^ (w - 1) - 1 else 2 ^ w - 1) = hi) (r : Rnd) (s : Bool) (m : ℕ) (e : ℤ) :
    let i := sgn s (roundMag r s m e 0).1
    toInteger r signed w (.fin s m e) = if i < lo then ((lo % 2 ^ w).toNat, 16) else if hi < i then ((hi % 2 ^ w).toNat, 16)
      else ((i % 2 ^ w).toNat, if (roundMag r s m e 0).2 then 1 else 0) := by
  subst hlo hhi
  simp only [toInteger, pat_eq, Nat.cast_pow, Nat.cast_ofNat]
  rfl

theorem toInteger_inf {signed : Bool} {w : ℕ} {lo hi : ℤ} (hlo : (if signed then -(2 ^ (w - 1)) else 0) = lo)
    (hhi : (if signed then 2 ^ (w - 1) - 1 else 2 ^ w - 1) = hi) (r : Rnd) (s : Bool) :
    toInteger r signed w (.inf s) = (((if s then lo else hi) % 2 ^ w).toNat, 16) := by
  subst hlo hhi
  simp only [toInteger, pat_eq, Nat.cast_pow, Nat.cast_ofNat]
  rfl

/-- Settles O12: each operation is one rounding of an exact real, or of an integer that stands for it, and one rounding picks its pattern
among the magnitudes of the format in order. -/
theorem roundingKeepsValues : Obligations.RoundingKeepsValues := by
  unfold Obligations.RoundingKeepsValues
  refine ⟨?_, ?_, ?_, ?_, ?_, ?_⟩
  · intro q hq
    rw [formats_fields q hq]
    exact ⟨rfl, rfl, rfl, rfl, rfl, fun S E F hE hF => q.1.value_pattern S hE hF⟩
  · exact fun g r p hp s m e h => g.round_value r hp h
  · exact fun g r s m e => ⟨g.round_lt r s m e, fun h => h ▸ g.round_zero r s e, fun h => g.round_exact_rounds r s e h⟩
  · intro g r s t u m n k e f i x y z a b c
    refine ⟨g.sumFin_zero r s t m n e f, fun v => g.sumFin_rounds r s t m n e f, g.product_zero r s t m n e f,
      g.product_rounds r s t m n e f, g.fused_zero r s t u m n k e f i, fun v => g.fused_rounds r s t u m n k e f i,
      fun hb => ⟨fun ha => g.quotient_zero r s t m n e f ha hb, fun ha => g.quotient_rounds r s t
        (mt realOf_eq_zero.mpr ha) (mt realOf_eq_zero.mpr hb) e f⟩,
      fun hg => g.quotient_by_zero r s t m n e f hg, g.root_zero r s m e, g.root_neg r s m e, g.root_of_pos r s m e, rfl, rfl, rfl,
      FVal.fin_mul_inf s t n f, rfl, FVal.lt_fin s t m n e f, FVal.eq_fin s t m n e f, rfl, rfl, rfl, fun hg => ?_⟩
    intro infinite
    have hinf (v : Bool) : infinite v = (g.inf v, 0) := by rw [Fmt.inf_of_ieee hg]
    simp only [hinf]
    exact ⟨rfl, rfl, by rw [← g.nan_eq]; rfl, Fmt.inf_product hg r s t n f, Fmt.convert_inf_of_ieee hg r _, rfl, g.signed_zero _,
      g.nan_eq true⟩
  · intro g hg r q y x bad
    exact ⟨g.nan_eq _, g.sum_nan r q y, Fmt.nan_product hg r q y, Fmt.product_nan hg r q y, g.nan_eq _, g.quotient_nan r q y, g.nan_eq _,
      rfl, FVal.mul_nan q y, rfl, FVal.lt_nan q y, rfl, FVal.eq_nan q y⟩
  · intro r signed w s m e hw lo hi pattern
    obtain ⟨hpicks, hexact⟩ := roundMag_integer r s m e
    have hfin := toInteger_fin (w := w) (lo := lo) (hi := hi) rfl rfl r s m e
    refine ⟨rfl, toInteger_inf rfl rfl r s, sgn s (roundMag r s m e 0).1, hpicks, ?_, fun h1 h2 => ?_⟩
    · rw [hfin]
      split_ifs <;> rfl
    · rw [hfin, if_neg (not_lt.mpr h1), if_neg (not_lt.mpr h2)]
      exact ⟨fun heq => if_neg (Bool.not_eq_true _ ▸ hexact.mpr heq),
        fun hne => if_pos (Bool.eq_true_of_not_eq_false (mt hexact.mp hne))⟩

end Sys2Proof.Machine
end

section
namespace Sys2Proof.Machine

open Sys2Proof.Claims

/-! What a write to memory and what follows it leave alone: all but memory, its watchers, the granules its launch has written, the TLB of
the core and the scratchpad banks (R32, R58, R61, R434, R454). -/

/-- The launch's record of written granules is all that noting a write changes (R434). -/
theorem State.noteWrite_rest (s : State) (i : HartId) (va : Nat) :
    s.noteWrite i va = { s with dies := (s.noteWrite i va).dies } := by
  unfold State.noteWrite
  split
  · rfl
  · dsimp only
    split <;> rfl

/-- The core TLB is all that a translation changes (R454). -/
theorem State.touched_rest (s : State) (i : HartId) (va : Nat) : s.touched i va = { s with cores := (s.touched i va).cores } := by
  unfold State.touched
  split
  · rfl
  · dsimp only
    split <;> rfl

/-- The banks are all that reaching them changes (R32). -/
theorem State.atBanks_rest (s : State) (i : HartId) (loc n : Nat) (who : Option Nat) :
    s.atBanks i loc n who = { s with scratch := (s.atBanks i loc n who).scratch } := by
  unfold State.atBanks
  split <;> rfl

theorem State.reachBanks_rest (i : HartId) : ∀ (ps : List (Target × Nat)) (s : State),
    s.reachBanks i ps = { s with scratch := (s.reachBanks i ps).scratch }
  | [], _ => rfl
  | (.mem loc _, n) :: ps, s =>
    (State.reachBanks_rest i ps (s.atBanks i loc n none)).trans (congrArg
      (fun u : State => { u with scratch := ((s.atBanks i loc n none).reachBanks i ps).scratch }) (s.atBanks_rest i loc n none))
  | (.peer _ _, _) :: ps, s => State.reachBanks_rest i ps s
  | (.sealed _ _ _, _) :: ps, s => State.reachBanks_rest i ps s

/-- An access that no LATCNT counts changes the core TLB as its translation does, and the banks it reaches (R32, R454). -/
theorem State.reached_rest (s : State) (i : HartId) (va : Nat) (ps : List (Target × Nat)) :
    s.reached i va ps = { s with cores := (s.touched i va).cores, scratch := (s.reached i va ps).scratch } :=
  (State.reachBanks_rest i ps (s.touched i va)).trans
    (congrArg (fun u : State => { u with scratch := (s.reached i va ps).scratch }) (s.touched_rest i va))

@[simp] theorem State.noteWrite_hart (s : State) (i j : HartId) (va : Nat) : (s.noteWrite i va).hart j = s.hart j := by
  rw [State.noteWrite_rest]; rfl
@[simp] theorem State.noteWrite_cur (s : State) (i : HartId) (va : Nat) : (s.noteWrite i va).cur = s.cur := by
  rw [State.noteWrite_rest]
@[simp] theorem State.noteWrite_peek (s : State) (i : HartId) (va loc : Nat) : (s.noteWrite i va).peek loc = s.peek loc := by
  rw [State.noteWrite_rest]; rfl
@[simp] theorem State.reached_hart (s : State) (i j : HartId) (va : Nat) (ps : List (Target × Nat)) :
    (s.reached i va ps).hart j = s.hart j := by
  rw [State.reached_rest]; rfl
@[simp] theorem State.reached_cur (s : State) (i : HartId) (va : Nat) (ps : List (Target × Nat)) : (s.reached i va ps).cur = s.cur := by
  rw [State.reached_rest]
@[simp] theorem State.reached_peek (s : State) (i : HartId) (va loc : Nat) (ps : List (Target × Nat)) :
    (s.reached i va ps).peek loc = s.peek loc := by
  rw [State.reached_rest]; rfl

/-- A byte after a write: the byte written, or the byte that stood there. -/
theorem State.peek_perform {s : State} (hs : s.Sound) (loc : Nat) (bs : List Byte) (c : Nat) :
    (s.perform loc bs).peek c = if loc ≤ c ∧ c < loc + bs.length then bs.getD (c - loc) 0 else s.peek c := by
  split
  · next h =>
    obtain ⟨k, rfl⟩ := Nat.exists_eq_add_of_le h.1
    have hk : k < bs.length := by omega
    rw [State.peek_perform_inside hs.2.1 loc bs hk, Nat.add_sub_cancel_left, List.getD_eq_getElem _ _ hk]
  · exact State.peek_perform_outside hs.2.1 loc bs (by omega)

/-- A translation changes the TLB of the hart's core alone (R454). -/
theorem State.touched_onlyTlb {s : State} (hs : s.Sound) (va : Nat) : s.onlyTlb (s.touched s.cur va) := by
  obtain ⟨⟨-, hcores, -⟩, -⟩ := hs
  unfold State.touched
  split
  · exact fun _ => ⟨rfl, fun _ => rfl⟩
  · dsimp only
    split
    · exact fun _ => ⟨rfl, fun _ => rfl⟩
    · intro c
      by_cases hc : c = coreOf s.cur
      · subst hc
        rw [show (s.setCore (coreOf s.cur) _).core (coreOf s.cur) = _ from Map.get_set_same _ hcores]
        exact ⟨rfl, fun h => absurd rfl h⟩
      · rw [show (s.setCore (coreOf s.cur) _).core c = s.core c from Map.get_set_other _ hcores (mt coreKey_inj hc)]
        exact ⟨rfl, fun _ => rfl⟩

namespace State.onlyMemory
variable {s t u : State}

theorem refl (s : State) : s.onlyMemory s := ⟨⟨rfl, fun _ _ => rfl, fun _ => ⟨rfl, rfl⟩⟩, fun _ => ⟨rfl, fun _ => rfl⟩⟩

theorem cur (h : s.onlyMemory t) : t.cur = s.cur := by
  obtain ⟨⟨hrest, -⟩, -⟩ := h
  rw [hrest]

theorem trans (h : s.onlyMemory t) (h' : t.onlyMemory u) : s.onlyMemory u := by
  have hcur := h.cur
  obtain ⟨⟨hrest, hharts, hdies⟩, hcores⟩ := h
  obtain ⟨⟨hrest', hharts', hdies'⟩, hcores'⟩ := h'
  rw [hcur] at hharts'
  have hwhole := congrArg (fun v : State =>
    { v with harts := u.harts, mem := u.mem, pairs := u.pairs, dies := u.dies, cores := u.cores, scratch := u.scratch }) hrest
  refine ⟨⟨hrest'.trans hwhole, fun i hi => ?_, fun d => ⟨?_, (hdies' d).2.trans (hdies d).2⟩⟩,
    fun c => ⟨?_, fun hc => ((hcores' c).2 (hcur ▸ hc)).trans ((hcores c).2 hc)⟩⟩
  · rw [hharts' i hi, hharts i hi]
  · rw [(hdies' d).1, (hdies d).1]
  · rw [(hcores' c).1, (hcores c).1]

/-- The current hart is not of those that `onlyMemory` speaks of. -/
theorem setHart_cur (hs : s.Sound) (x : Hart) : s.onlyMemory (s.setHart s.cur x) :=
  ⟨⟨rfl, fun i hi => by rw [State.hart_setHart_other hs.1.1 x (mt hartKey_inj hi)], fun _ => ⟨rfl, rfl⟩⟩,
    fun _ => ⟨rfl, fun _ => rfl⟩⟩

theorem perform (s : State) (loc : Nat) (bs : List Byte) : s.onlyMemory (s.perform loc bs) :=
  ⟨⟨rfl, fun i _ => by rw [State.hart_perform, ← Hart.observe_eq], fun _ => ⟨rfl, rfl⟩⟩, fun _ => ⟨rfl, fun _ => rfl⟩⟩

theorem setDie_mapLaunch (hs : s.Sound) (i : Fin 8) (seq g : Nat) :
    s.onlyMemory (s.setDie i ((s.die i).mapLaunch seq fun l => { l with written := l.written ++ [g] })) := by
  obtain ⟨⟨-, -, hdies, -⟩, -⟩ := hs
  refine ⟨⟨rfl, fun _ _ => rfl, fun d => ?_⟩, fun _ => ⟨rfl, fun _ => rfl⟩⟩
  by_cases hd : d = i
  · subst hd
    rw [show (s.setDie d _).die d = _ from Map.get_set_same _ hdies]
    refine ⟨rfl, ?_⟩
    simp only [Die.mapLaunch, List.map_map]
    refine List.map_congr_left fun l _ => ?_
    dsimp only [Function.comp]
    split <;> rfl
  · rw [show (s.setDie i _).die d = s.die d from Map.get_set_other _ hdies (mt Fin.ext hd)]
    exact ⟨rfl, rfl⟩

theorem noteWrite (hs : s.Sound) (i : HartId) (va : Nat) : s.onlyMemory (s.noteWrite i va) := by
  unfold State.noteWrite
  split
  · exact refl s
  · dsimp only
    split
    · exact refl s
    · exact setDie_mapLaunch hs _ _ _

theorem reached (hs : s.Sound) (va : Nat) (ps : List (Target × Nat)) : s.onlyMemory (s.reached s.cur va ps) := by
  rw [State.reached_rest]
  exact ⟨⟨rfl, fun _ _ => rfl, fun _ => ⟨rfl, rfl⟩⟩, State.touched_onlyTlb hs va⟩

end State.onlyMemory

end Sys2Proof.Machine
end

section
namespace Sys2Proof.Machine

open Sys2Proof.Claims

/-! Accesses of a hart with nothing in flight to memory of this module (R125, R137, R190, R271, R476). -/

section
variable {s : State} (hq : s.Quiet)
include hq

theorem State.Quiet.stream_err {t : Stream} (ht : t ∈ s.h.stm.toList) : t.err = none := by
  obtain ⟨k, hk, rfl⟩ := List.mem_iff_getElem.mp ht
  exact hq.errors ⟨k, by simpa using hk⟩

/-- Nothing holds an access, and no error of a transfer is reported at it (R137, R271). -/
theorem State.Quiet.guard {α : Type} (acc : Acc) (lo len : Nat) (r : Reply α) : s.h.guard acc lo len r = r := by
  have herr : s.h.errorOver acc lo len = none := List.findSome?_eq_none_iff.mpr fun t ht => by rw [hq.stream_err ht]
  simp [Hart.guard, herr, hq.transfers]

/-- No error of a stream is left to report (R271, R319). -/
theorem State.Quiet.firstError : s.h.firstError = none :=
  List.findSome?_eq_none_iff.mpr fun t ht => by rw [hq.stream_err ht, ite_self]

/-- A release has nothing to wait for (R126, R129). -/
theorem State.Quiet.releaseWaits (sc : BitVec 3) : s.releaseWaits s.cur sc = false := by
  have hi : (s.hart s.cur).ilock = [] := hq.transfers
  have hp : (s.hart s.cur).posted = [] := hq.writes
  simp [State.releaseWaits, State.holdsWrite, hi, hp]

/-- A read of memory of this module has the bytes that stand there (R123). -/
theorem State.Quiet.readPiece {loc : Nat} {ty : MemTy} (hty : ty ≠ .pool) (va : Nat) (acc : Acc) (n : Nat) :
    s.readPiece s.cur va acc (.mem loc ty, n) = .ok (s.peekN loc n) := by
  have hown : s.ownWrites s.cur = [] := by
    unfold State.ownWrites
    split
    · rfl
    · simp [hq.journal]
  simp [State.readPiece, State.awaits_none hq.writes, State.badByte, hq.sectors, State.overlay, hown, hty]

end

/-- Above the words that the device guards a write performs as it is (R428, R465, R480, R497). -/
theorem State.putBytes_ordinary {s : State} {loc : Nat} (h : 0xB8000 ≤ loc) (who : Writer) (bs : List Byte) :
    s.putBytes who loc bs = s.perform loc bs := if_neg (by omega)

/-- The state in which the current hart's atomic at `va` has written `bs` at `loc`, before it writes xd. -/
def State.swapped (s : State) (va loc : Nat) (ty : MemTy) (bs : List Byte) : State :=
  ((s.perform loc bs).noteWrite s.cur (va % 2 ^ 56)).reached s.cur va [(.mem loc ty, bs.length)]

section
variable {s : State} (hs : s.Sound) (va loc : Nat) (ty : MemTy) (bs : List Byte)

theorem State.swapped_cur : (s.swapped va loc ty bs).cur = s.cur := by
  rw [State.swapped, State.reached_cur, State.noteWrite_cur]
  rfl

theorem State.swapped_h : (s.swapped va loc ty bs).h = s.h.observe (pokeBytes s.mem loc bs) loc bs.length := by
  rw [State.h, State.swapped_cur, State.swapped, State.reached_hart, State.noteWrite_hart, State.hart_perform]
  rfl

include hs

theorem State.swapped_sound : (s.swapped va loc ty bs).Sound := State.Evolves.refl.perform.noteWrite.reached.sound hs

theorem State.swapped_peek (c : Nat) :
    (s.swapped va loc ty bs).peek c = if loc ≤ c ∧ c < loc + bs.length then bs.getD (c - loc) 0 else s.peek c := by
  rw [State.swapped, State.reached_peek, State.noteWrite_peek, State.peek_perform hs]

theorem State.swapped_onlyMemory : s.onlyMemory (s.swapped va loc ty bs) := by
  have hperform : (s.perform loc bs).Sound := State.Evolves.refl.perform.sound hs
  have hnote := State.onlyMemory.noteWrite hperform s.cur (va % 2 ^ 56)
  have hnoted : ((s.perform loc bs).noteWrite s.cur (va % 2 ^ 56)).Sound := State.Evolves.refl.noteWrite.sound hperform
  have hreach := State.onlyMemory.reached hnoted va [(.mem loc ty, bs.length)]
  rw [hnote.cur] at hreach
  exact (State.onlyMemory.perform s loc bs).trans (hnote.trans hreach)

end

/-- An acquire and the write of xd end an atomic that has made its write (R130, R191). -/
theorem State.exchangedOnly_of_onlyMemory {s u : State} (hu : u.Sound) (h : s.onlyMemory u)
    (hh : ∃ m w, u.h = { s.h with mon := m, wait := w }) (yes : Bool) (d : Fin 32) (v : Word) :
    s.exchangedOnly ((u.acquire yes).write 4 d v) d v yes := by
  have hacq : (u.acquire yes).Sound := State.Evolves.refl.acquire.sound hu
  have honly : u.onlyMemory (u.acquire yes) := by
    cases yes
    · exact .refl u
    · exact .setHart_cur hu _
  refine ⟨?_, h.trans (honly.trans (.setHart_cur hacq _))⟩
  have hacqh : (u.acquire yes).h = if yes then u.h.discardAhead else u.h := by
    cases yes
    · rfl
    · exact State.h_setH hu.1.1 _
  rw [State.write, State.h_setH hacq.1.1, hacqh, State.counted]
  obtain ⟨m, w, hh⟩ := hh
  rw [hh]
  unfold Hart.setX
  cases yes <;> dsimp only [Bool.false_eq_true, if_true, if_false] <;> split <;> rfl

end Sys2Proof.Machine
end

section
namespace Sys2Proof.Machine

open Sys2Proof.Claims

/-! The atomics of scalar instructions (R131, R190-R193) and bar.arrive (R60). -/

section
variable {s : State} (hq : s.Quiet) {f : AmoOp} {d a : Fin 32} {x c loc : Nat}
include hq

/-- An atomic on memory of this module is one read-modify-write, or a read alone where the compare fails (R131, R191). -/
theorem State.Quiet.atomic {ty : MemTy} (hty : ty ≠ .pool) {n : Nat} (hcell : f.cell 8 = n) {va : Word}
    (hps : s.pieces s.cur va.toNat n .rmw = .ok [(.mem loc ty, n)]) (hloc : 0xB8000 ≤ loc) (used : Bool) :
    s.atomic s.cur f va 8 x c used = .ok ((f.apply 8 (s.peekNat loc n) x c).elim (s, s.peekNat loc n, s.peekNat loc n)
      fun new => (s.swapped va.toNat loc ty (leBytes n new), s.peekNat loc n, new)) := by
  subst hcell
  have hread : s.readPieces s.cur va.toNat .rmw [(.mem loc ty, f.cell 8)] = .ok (s.peekN loc (f.cell 8)) := by
    simp [State.readPieces, hq.readPiece hty]
  have hold : leNat (s.peekN loc (f.cell 8)) = s.peekNat loc (f.cell 8) := rfl
  cases ty
  case pool => exact absurd rfl hty
  all_goals
    cases hf : f.apply 8 (s.peekNat loc (f.cell 8)) x c <;>
      simp [State.atomic, hps, AmoOp.accepted, State.journals, State.awaits_none hq.writes, hread, hold, hf, State.swapped,
        leBytes_length, State.putBytes_ordinary hloc]

variable (halign : (s.getX a).toNat % f.cell 8 = 0) {sc : BitVec 3} {ord : BitVec 2} {result : Nat → Nat → Word}
include halign

/-- An aligned AMO waits for nothing: it takes what its operation answers, then its acquire and the write of xd follow (R190). -/
theorem State.Quiet.amo {u : State} {old new : Nat} (h : s.atomic s.cur f (s.getX a) 8 x c (d != 0) = .ok (u, old, new)) :
    s.amo f d a x c sc ord result = (u.acquire (isAcquire ord)).write 4 d (result old new) := by
  simp [State.amo, halign, hq.guard, h, hq.failed, hq.releaseWaits]

/-- An AMO with a new value replaces its operand, and nothing else changes (R131, R191, R192). -/
theorem State.Quiet.amo_exchanged (hs : s.Sound) {ty : MemTy} (hty : ty ≠ .pool) {n : Nat} (hcell : f.cell 8 = n)
    (hps : s.pieces s.cur (s.getX a).toNat n .rmw = .ok [(.mem loc ty, n)]) (hloc : 0xB8000 ≤ loc) {new : Nat}
    (hf : f.apply 8 (s.peekNat loc n) x c = some new) : let t := s.amo f d a x c sc ord result
    (∀ k, t.peek k = if loc ≤ k ∧ k < loc + n then (leBytes n new).getD (k - loc) 0 else s.peek k)
      ∧ s.exchangedOnly t d (result (s.peekNat loc n) new) (isAcquire ord) := by
  intro t
  have hatomic := hq.atomic hty hcell (x := x) (c := c) hps hloc (d != 0)
  rw [hf] at hatomic
  have ht : t = _ := hq.amo halign hatomic
  rw [ht]
  refine ⟨fun k => ?_, State.exchangedOnly_of_onlyMemory (State.swapped_sound hs _ _ _ _) (State.swapped_onlyMemory hs _ _ _ _)
    ⟨_, _, (State.swapped_h _ _ _ _).trans (Hart.observe_eq _ _ _ _)⟩ _ d _⟩
  have hpeek := State.swapped_peek hs (s.getX a).toNat loc ty (leBytes n new) k
  rw [leBytes_length] at hpeek
  rw [← hpeek]
  cases isAcquire ord <;> rfl

end

/-- An instruction that is an AMO on a doubleword exchanges it (R191). -/
theorem State.Quiet.exchanges_of_amo {s : State} (hq : s.Quiet) (hs : s.Sound) {f : AmoOp} (hcell : f.cell 8 = 8) {d a : Fin 32}
    {x c loc : Nat} {ty : MemTy} (hty : ty ≠ .pool) (halign : (s.getX a).toNat % 8 = 0)
    (hps : s.pieces s.cur (s.getX a).toNat 8 .rmw = .ok [(.mem loc ty, 8)]) (hloc : 0xB8000 ≤ loc) {sc : BitVec 3} {ord : BitVec 2}
    {result : Nat → Nat → Word} {i : Instr} {new : Word} (hi : exec i s = .next (s.amo f d a x c sc ord result))
    (hf : f.apply 8 (s.peekNat loc 8) x c = some new.toNat) :
    exchanges i s loc new d (result (s.peekNat loc 8) new.toNat) (isAcquire ord) :=
  ⟨_, hi, hq.amo_exchanged (by rwa [hcell]) hs hty hcell hps hloc hf⟩

/-- The signed reading of a word (R191). -/
theorem sext_toNat (x : Word) : sext x.toNat 64 = x.toInt := by
  rw [sext, Nat.mod_eq_of_lt x.isLt, BitVec.toInt_eq_toNat_cond]

theorem trunc_toNat (x : Word) : trunc 64 x.toNat = x.toNat := Nat.mod_eq_of_lt x.isLt

/-- Each atomic of R191 is an operation on a doubleword that gives the new value of its row. -/
theorem atomics_apply : ∀ p ∈ atomics, ∃ f : AmoOp, f.cell 8 = 8
    ∧ (∀ d a b sc ord s, exec (p.1 d a b sc ord) s = .next (s.amoOld f d a b sc ord))
    ∧ ∀ (o x : Word) c, f.apply 8 o.toNat x.toNat c = some (p.2 o x).toNat := by
  simp only [atomics, List.forall_mem_cons, List.not_mem_nil, false_implies, implies_true, and_true]
  refine ⟨⟨.swap, rfl, fun _ _ _ _ _ _ => rfl, fun o x c => ?_⟩, ⟨.add, rfl, fun _ _ _ _ _ _ => rfl, fun o x c => ?add⟩,
    ⟨.and, rfl, fun _ _ _ _ _ _ => rfl, fun o x c => ?_⟩, ⟨.or, rfl, fun _ _ _ _ _ _ => rfl, fun o x c => ?_⟩,
    ⟨.xor, rfl, fun _ _ _ _ _ _ => rfl, fun o x c => ?_⟩, ⟨.min, rfl, fun _ _ _ _ _ _ => rfl, fun o x c => ?_⟩,
    ⟨.max, rfl, fun _ _ _ _ _ _ => rfl, fun o x c => ?_⟩, ⟨.minu, rfl, fun _ _ _ _ _ _ => rfl, fun o x c => ?_⟩,
    ⟨.maxu, rfl, fun _ _ _ _ _ _ => rfl, fun o x c => ?_⟩⟩
  case add => simp [AmoOp.apply, trunc]
  all_goals simp [AmoOp.apply, trunc_toNat, sext_toNat, apply_ite BitVec.toNat]

/-- An arrival counts in the low half of the barrier word, and the last one begins the next generation (R60). -/
theorem arrive_apply (o : Word) : AmoOp.arrive.apply 8 o.toNat 0 0 = some (arrived o).toNat := by
  have ho := o.isLt
  simp only [AmoOp.apply, arrived, bitsOf, Option.some.injEq, Nat.reduceAdd, Nat.reduceSub, pow_zero, Nat.div_one]
  split
  · rw [BitVec.toNat_ofNat]
    omega
  · rw [BitVec.toNat_ofNat]
    omega

/-- Settles O8: each instruction is one AMO, whose operation gives the new value, or none where the compare of amocas fails. -/
theorem atomicsExchange : Obligations.AtomicsExchange := by
  intro s hq hs d a b sc loc ty hloc halign ⟨hps, hhere⟩ old
  have hty : ty ≠ .pool := by
    obtain ⟨_, _, heq, hty⟩ := hhere _ (List.mem_singleton.mpr rfl)
    cases heq
    exact hty
  have hold : old.toNat = s.peekNat loc 8 := BitVec.toNat_ofNat .. ▸ Nat.mod_eq_of_lt (s.peekNat_lt loc)
  refine ⟨fun p hp ord => ?_, fun ord heq => ?_, fun ord hne => ?_, fun o => ?_⟩
  · obtain ⟨f, hcell, hexec, happly⟩ := atomics_apply p hp
    have hnew := happly old (s.getX b) (s.getX d).toNat
    rw [hold] at hnew
    exact hq.exchanges_of_amo hs hcell hty halign hps hloc (hexec d a b sc ord s) hnew
  · have hnew : AmoOp.cas.apply 8 (s.peekNat loc 8) (s.getX b).toNat (s.getX d).toNat = some (s.getX b).toNat := by
      rw [← hold, heq]
      simp [AmoOp.apply, trunc_toNat]
    exact hq.exchanges_of_amo hs rfl hty halign hps hloc (i := .amocas d a b sc ord) rfl hnew
  · have hnone : AmoOp.cas.apply 8 (s.peekNat loc 8) (s.getX b).toNat (s.getX d).toNat = none := by
      rw [← hold]
      simpa [AmoOp.apply, trunc_toNat, BitVec.toNat_inj] using hne
    have hatomic := hq.atomic hty (f := .cas) (n := 8) rfl (x := (s.getX b).toNat) (c := (s.getX d).toNat) hps hloc (d != 0)
    rw [hnone] at hatomic
    have h := hq.amo halign (sc := sc) (ord := ord) (result := fun old _ => BitVec.ofNat 64 old) hatomic
    exact congrArg Host.Outcome.next (h.trans (State.write_eq_wrote _ _ _ _))
  · have hacq : isAcquire (2 + o.setWidth 2) = (o == 1) := by revert o; decide
    have hnew := arrive_apply old
    rw [hold] at hnew
    have h := hq.exchanges_of_amo hs rfl hty halign hps hloc (i := .barArrive d a sc o) rfl hnew
    rwa [hacq, ← hold] at h

end Sys2Proof.Machine
end

section
namespace Sys2Proof.Machine

open Sys2Proof.Claims

/-! Fences and yield (R53, R129, R130, R200, R201, R205). -/

/-- An instruction that writes no register retires as one that writes x0 (R180). -/
theorem State.retire_eq_wrote (s : State) (n : Nat) : s.retire n = s.wrote n 0 0 := s.write_eq_wrote n 0 0

/-- A fence with nothing in flight and nothing to report retires at once (R129, R201). -/
theorem State.Quiet.execFence {s : State} (hq : s.Quiet) (sc : BitVec 3) (ord : BitVec 2) : Machine.execFence sc ord s
    = .next (((s.setHart s.cur { s.h with fence := none }).acquire (ord.getLsbD 0)).wrote 4 0 0) := by
  have hwaits : s.fenceWaits s.cur ord sc = false := State.fenceWaits_none hq.transfers hq.writes ord sc
  simp [Machine.execFence, hwaits, State.fenceDone, hq.failed, hq.firstError, State.setH, isAcquire, State.retire_eq_wrote]

/-- A fence other than an acquire alone behind a transfer in flight records that it waits (R129, R201). -/
theorem execFence_waits {s : State} (hi : s.h.ilock ≠ []) (hclean : spotless s.h) {ord : BitVec 2} (ho : ord ≠ 1) (sc : BitVec 3) :
    execFence sc ord s = .next (s.setHart s.cur { s.h with fence := some (ord, sc) }) := by
  simp [execFence, Hart.fails_of_spotless hclean, State.fenceWaits_inFlight (i := s.cur) hi ho, State.setH]

/-- An acquire puts what each load stream has fetched back to what has been consumed (R130). -/
theorem Hart.discardAhead_stm (h : Hart) (st : Fin 16) :
    h.discardAhead.stm[st] = if h.stm[st].mode = 0 then { h.stm[st] with fetched := h.stm[st].pos } else h.stm[st] := by
  simp [Hart.discardAhead]

/-- Settles O13: a fence retires or waits by whether anything is in flight; yield is its own effect on the hart. -/
theorem fencesAndYield : Obligations.FencesAndYield := fun s sc ord =>
  ⟨fun hq => hq.execFence sc ord, fun hi hw he ho => execFence_waits hi ⟨hw, he⟩ ho sc,
    congrArg Host.Outcome.next (State.retire_eq_wrote _ 4), fun st => ⟨rfl, s.h.discardAhead_stm st⟩⟩

end Sys2Proof.Machine
end
